-- ==== Sys2Proof/Word.lean ====
section
/-! DEFINITION. The word types of the OVX-5120 and the form its keyed tables take. -/

namespace Sys2Proof

/-- A byte of a message, a record or a register window. -/
abbrev Byte := BitVec 8

/-- A unit handle: GEN in bits 15:10, INDEX in bits 9:0 (R23, Table 02-2). -/
abbrev Handle := BitVec 16

/-- An IEEE 754 binary32 pattern, as the loop engine holds its values (R266). -/
abbrev F32 := BitVec 32

/-- A table keyed by a number, held as pairs with keys strictly rising; an absent key reads as the default that
the reader names. -/
abbrev KV (α : Type) := List (Nat × α)

/-- The byte `b` as a number. -/
abbrev Byte.nat (b : Byte) : Nat := b.toNat

end Sys2Proof
end

