-- ==== Sys2Proof/Machine/Parts.lean ====
section
/-! DEFINITION. The parts of the state that a mirror frame carries as well (R345), and the enumerations. -/

namespace Sys2Proof.Machine

/-- BOOT_STATUS.STAGE (R395 Table 20-7) -/
inductive Stage where
  | rom | accepted | running | limp | none
  deriving DecidableEq, Repr

/-- press mode, exactly one of three (R17) -/
inductive PressMode where
  | speed | fine | thread
  deriving DecidableEq, Repr

/-- unit states in rank order (R27 Table 02-4) -/
inductive UnitState where
  | ready | disabled | degraded | faulted | retired
  deriving DecidableEq, Repr

/-- header state of a configuration set slot (R35) -/
inductive SlotState where
  | empty | pending | active
  deriving DecidableEq, Repr

/-- job states (R403) -/
inductive JobState where
  | queued | active | held | done | cancelled
  deriving DecidableEq, Repr

/-- the decoder's state at one station (R9, R100) -/
inductive Decode where
  | idle | waiting | decoding
  deriving DecidableEq, Repr

/-- what words a beam lane carries (R169, R179, Table 08-12) -/
inductive LaneMode where
  | off | training | idle | swept | dark
  deriving DecidableEq, Repr

/-- emitter STATE field (R189 Table 09-5) -/
inductive EmState where
  | mapped | spare | suspect | retired | unmeasured
  deriving DecidableEq, Repr

/-- gear state of a follower (R214) -/
inductive GearState where
  | geared | held | free
  deriving DecidableEq, Repr

/-- six-step start phases (R228, R229) -/
inductive StepPhase where
  | rest | catching | align | ramp | handover | running | coast
  deriving DecidableEq, Repr

/-- homing sequence (R222) -/
inductive HomeStep where
  | none | fast | backoff | slow | retry
  deriving DecidableEq, Repr

/-- loop modes (R274 Table 13-5) -/
inductive LoopMode where
  | manual | auto | cascade | track
  deriving DecidableEq, Repr

/-- rail states (R303 Table 15-3) -/
inductive RailState where
  | off | rising | good | failed | held | falling
  deriving DecidableEq, Repr

/-- fault record states (R328 Table 17-4) -/
inductive RecState where
  | testing | reacting | active | closedTransient | closedRetired | closedCleared
  deriving DecidableEq, Repr

/-- pair states (R341 Table 18-3) -/
inductive PairSt where
  | alone | active | syncing | synced | unsynced | locked
  deriving DecidableEq, Repr

/-- spool states (R128 Table 06-5) -/
inductive SpoolSt where
  | mounted | absent | foreign | lost
  deriving DecidableEq, Repr

/-- ledger region state (R410 Table 21-15) -/
inductive RegionSt where
  | available | full | unavailable
  deriving DecidableEq, Repr

/-- ledger states (R368 Table 19-4) -/
inductive LedgerSt where
  | open | gap | printed | degraded | spoiled | interrupted
  deriving DecidableEq, Repr

/-- maintenance activity states (R409) -/
inductive ActSt where
  | idle | due | urgent | running | stopped
  deriving DecidableEq, Repr

/-- steps of the run sequence (R453) -/
inductive RunStep where
  | none | ramp | regear | commit | dwell
  deriving DecidableEq, Repr

/-- rail sequence in progress (R304, R306) -/
inductive PowerSeq where
  | none | up | down
  deriving DecidableEq, Repr

/-- what is bringing the web to rest (R324, R404, R240) -/
inductive HoldSrc where
  | none | stop | threadCmd | lockout | controlled
  deriving DecidableEq, Repr

/-- unit descriptor (R25 Table 02-3) -/
structure UnitDesc where
  /-- type code of Table 02-1; 0 free (R21,R25) -/
  utype : Nat := 0
  /-- generation 0-63 (R23,R24) -/
  gen : Nat := 0
  /-- flag [1] (R30) -/
  retireAsOne : Bool := false
  /-- parent handle (R21) -/
  parent : Handle := 0xFFFF#16
  /-- fan-out position 0-255 (R28) -/
  order : Nat := 255
  /-- ms, 0-10000 (R28) -/
  stepDelay : Nat := 0
  /-- ms, 1-60000, default 2000 (R28 Table 02-3) -/
  stepTimeout : Nat := 2000
  /-- 16 bytes NUL padded (Table 02-3) -/
  name : List Byte := []
  /-- loop slots held, 1 for LOOP, 1-64 for LOOP_BANK (R266) -/
  bankSlots : Nat := 0
  /-- first loop slot held (R266) -/
  firstSlot : Nat := 0
  deriving DecidableEq, Repr

/-- a configuration set (R31): the block bytes (sparse, R402) and the unit descriptors -/
structure CfgSet where
  /-- block bytes, canonical; unlisted bytes read their default (R31,R36,R402) -/
  bytes : List Host.Cell := []
  /-- descriptors by INDEX; the fixed units are implicit (R25,R36) -/
  units : KV UnitDesc := []
  /-- generations that its free entries take at their next use, those that are not 0 (R24, Table 02-3) -/
  gens : KV Nat := []
  deriving DecidableEq, Repr

/-- an accepted commit or revert not yet in effect (R33, R37) -/
structure Pend where
  /-- the accepted set (R33) -/
  set : CfgSet := {}
  /-- the set it replaces (R33) -/
  base : CfgSet := {}
  /-- its version (R34) -/
  version : Nat := 0
  /-- version it replaces (R39) -/
  oldVersion : Nat := 0
  /-- a revert (R37) (R37) -/
  revert : Bool := false
  /-- highest class changed, CONFIG record byte 9 (R39) -/
  cls : Nat := 0xFF
  /-- ticket role, CONFIG record byte 10 (R39) -/
  role : Nat := 0xFF
  /-- serial of the bound frame (R33) -/
  bound : Option Nat := none
  /-- its landing, lines (R33) -/
  landing : Int := 0
  /-- the slot write has completed (R33,R35) -/
  slotDone : Bool := false
  /-- press-wide parameters are in effect (R33) -/
  pressDone : Bool := false
  /-- stations at which it is in effect (R33) -/
  stations : List Nat := []
  deriving DecidableEq, Repr

/-- a frame in flight (R44, R48) and its growing ledger record -/
structure Flight where
  /-- frame serial (R44) -/
  serial : Nat := 0
  /-- job_id (R368) -/
  job : Nat := 0
  /-- frame_index (R368) -/
  frame : Nat := 0
  /-- L(f), lines (R42) -/
  landing : Int := 0
  /-- frame_bands (R41) -/
  bands : Nat := 0
  /-- inter-frame gap in bands (R41) -/
  gapBands : Nat := 2
  /-- lines per band (R41) -/
  h : Nat := 32
  /-- admission version (R34) -/
  version : Nat := 0
  /-- speed ceiling, in/s (R53) -/
  ceiling : Rat := 0
  /-- (station, layer) pairs bound at admission (R112) -/
  use : List (Nat × Nat) := []
  /-- stations whose station landing has passed (R15) -/
  landed : List Nat := []
  /-- stations the last band has left (R44) -/
  left : List Nat := []
  /-- station to number of bands consumed (R9) -/
  consumed : KV Nat := []
  /-- station to number of bands exposed (R9) -/
  exposed : KV Nat := []
  /-- station to sweep count of its last exposure sweep (R199) -/
  lastExp : KV Nat := []
  /-- layers failed (R62) -/
  failed : BitVec 16 := 0#16
  /-- station to the band from which its layer prints nothing (R62) -/
  failFrom : KV Nat := []
  /-- stations that exposed a band (Table 19-3) -/
  used : BitVec 16 := 0#16
  /-- marked under R199 (Table 19-3) -/
  degraded : BitVec 16 := 0#16
  /-- spoil mark printed on engine e (R63) -/
  mark : BitVec 4 := 0#4
  /-- stations printing the spoil mark for this frame (R63) -/
  marking : List Nat := []
  /-- station to the protected_crc fields so far, band order (R84) -/
  crcs : KV (List Nat) := []
  /-- first spoil cause code, 0 none (Table 19-4) -/
  cause : Nat := 0
  /-- SPOILED (R64) -/
  spoiled : Bool := false
  /-- SECURE (R368) -/
  secure : Bool := false
  /-- operating seconds at admission (R368) -/
  admittedAt : Nat := 0
  /-- (station, band) already fetched (R50) -/
  fetched : List (Nat × Nat) := []
  /-- (station, band) fetch issued (R49) -/
  asked : List (Nat × Nat) := []
  deriving DecidableEq, Repr

/-- a segment of the newel profile (R210, R456) -/
structure Seg where
  /-- start speed, in/s (R210) -/
  v0 : Rat := 0
  /-- end speed, in/s (R210) -/
  v1 : Rat := 0
  /-- start time, s (R210) -/
  t0 : Rat := 0
  /-- duration, s; 0 for a hold (R210) -/
  dur : Rat := 0
  /-- corner time T_j, s (R210) -/
  tj : Rat := 0
  /-- signed peak acceleration a_pk (R210) -/
  apk : Rat := 0
  /-- a closing corner (R456) -/
  closing : Bool := false
  /-- a hold at a post-divider threshold, at most `dur` long (R61) -/
  dwell : Bool := false
  deriving DecidableEq, Repr

/-- a ledger record (R368 Table 19-3; 19_gallery_and_ledger.md) -/
structure LedgerRec where
  /-- serial (Table 19-3) -/
  serial : Nat := 0
  /-- job_id (Table 19-3) -/
  job : Nat := 0
  /-- frame_index (Table 19-3) -/
  frame : Nat := 0
  /-- landing (Table 19-3) -/
  landing : Int := 0
  /-- state (Table 19-4) -/
  state : LedgerSt := .open
  /-- cause (Table 19-4) -/
  cause : Nat := 0
  /-- mark (Table 19-3) -/
  mark : BitVec 4 := 0#4
  /-- flags SECURE (Table 19-3) -/
  secure : Bool := false
  /-- flags PAIR_SLOT (Table 19-3) -/
  pairSlot : Nat := 0
  /-- version (Table 19-3) -/
  version : Nat := 0
  /-- used (Table 19-3) -/
  used : BitVec 16 := 0#16
  /-- failed (Table 19-3) -/
  failed : BitVec 16 := 0#16
  /-- complete (Table 19-3) -/
  complete : BitVec 16 := 0#16
  /-- degraded (Table 19-3) -/
  degraded : BitVec 16 := 0#16
  /-- admitted, operating seconds (Table 19-3) -/
  admitted : Nat := 0
  /-- closed, operating seconds (Table 19-3) -/
  closed : Nat := 0
  /-- power_cycle (Table 19-3) -/
  cycle : Nat := 0
  /-- frame_bands (Table 19-3) -/
  bands : Nat := 0
  /-- protected check value by station (R84 Table 19-3) -/
  check : KV Nat := []
  deriving DecidableEq, Repr

/-- stream history, live or save slot (R90, R93) -/
structure Hist where
  /-- VALID, cleared at reset (R90,R93) -/
  valid : Bool := false
  /-- W_h (R90) -/
  width : Nat := 0
  /-- tag job_id (R90) -/
  job : Nat := 0
  /-- tag layer (R90) -/
  layer : Nat := 0
  /-- decoded cells, 64 levels each (R90) -/
  cells : List (List Nat) := []
  deriving DecidableEq, Repr

/-- emitter state word and measurement (R189) -/
structure Emitter where
  /-- STATE, field reset value 0 (Table 09-5) -/
  st : EmState := .mapped
  /-- SLOT (Table 09-5) -/
  slot : Nat := 0
  /-- MAP_VALID (Table 09-5) -/
  mapValid : Bool := false
  /-- GOOD (Table 09-5) -/
  good : Bool := false
  /-- sweep count of the last good measurement (R196) -/
  lastGood : Nat := 0
  /-- COVERED: retired, and a spare has its slot, or it held none (R27) -/
  covered : Bool := false
  deriving DecidableEq, Repr

/-- a pending ratio change (R215) -/
structure RatioChg where
  /-- R1 numerator (R215) -/
  num : Int := 0
  /-- R1 denominator (R215) -/
  den : Nat := 1
  /-- x_s, ln (R215) -/
  xs : Int := 0
  /-- blend distance, ln (R215) -/
  d : Nat := 0
  deriving DecidableEq, Repr

/-- electronic gearing of a follower (10) -/
structure Gear where
  /-- gear state: starts FREE (R214,R218) -/
  st : GearState := .free
  /-- ratio numerator (R213) -/
  num : Int := 0
  /-- ratio denominator (R213) -/
  den : Nat := 1
  /-- remainder accumulator, 96 bits signed (R213) -/
  acc : Int := 0
  /-- follower command, 1/65536 count (R213) -/
  cmd : Int := 0
  /-- follower speed feed-forward, units/s (R213) -/
  ff : Rat := 0
  /-- pending changes, ascending x_s, at most 4 (R216) -/
  queue : List RatioChg := []
  /-- blend in progress and f(x_s) (R215) -/
  blend : Option (RatioChg × Int) := none
  /-- phase offset at the start of the phase blend, 1/256 ln (R217) -/
  phi0 : Rat := 0
  /-- phase offset aimed at (R217) -/
  phi1 : Rat := 0
  /-- x_p, ln (R217) -/
  phX : Int := 0
  /-- d_p, ln; 0 no blend (R217) -/
  phD : Nat := 0
  /-- offsets that wait for their x_p: offset, x_p, d_p (R217) -/
  phQ : List (Rat × Int × Nat) := []
  /-- phase term included in cmd (R213,R217) -/
  phTerm : Rat := 0
  /-- facet phase loop output added to cmd, 1/65536 sweep (R218,R271) -/
  trim : Int := 0
  /-- REGEAR waiting: num, den, x_g (R214) -/
  regear : Option (Int × Nat × Int) := none
  deriving DecidableEq, Repr

/-- a motor axis (10, 11) -/
structure Axis where
  /-- gearing (R213) -/
  gear : Gear := {}
  /-- measured position, counts (R231) -/
  pos : Int := 0
  /-- last encoder count (Table 12-6) -/
  enc : Nat := 0
  /-- measured speed, rev/s (R231) -/
  speed : Rat := 0
  /-- HOMED (R222) -/
  homed : Bool := false
  /-- homing step (R222) -/
  home : HomeStep := .none
  /-- speed divisor of the chatter retry (R223) -/
  homeDiv : Nat := 1
  /-- counts travelled in steps 1 and 3 (R222) -/
  homeTravel : Nat := 0
  /-- position at the end of back-off's inactive edge (R222) -/
  homeEdge : Int := 0
  /-- profile move: target counts, speed (R404) -/
  move : Option (Int × Nat) := none
  /-- power stage enabled (R240) -/
  enabled : Bool := false
  /-- a class 2 or 3 axis fault stands (R241) -/
  fault : Bool := false
  /-- six-step start phase (R228) -/
  phase : StepPhase := .rest
  /-- failed starts (R228) -/
  starts : Nat := 0
  /-- inconclusive catches (R229) -/
  catches : Nat := 0
  /-- consecutive missed crossings (R227) -/
  misses : Nat := 0
  /-- six-step half mean of the last six intervals, 10 ns (R227) -/
  theta : Rat := 0
  /-- last zero-crossing timestamps, newest first, 10 ns (R227) -/
  zcs : List Nat := []
  /-- sector (R227) -/
  sector : Nat := 0
  /-- next commutation instant, 10 ns (R227) -/
  comm : Rat := 0
  /-- learned sector offsets, 10 ns (R230) -/
  off : KV Rat := []
  /-- offsets in the calibration store (R230) -/
  offSaved : KV Rat := []
  /-- chop duty (R227) -/
  duty : Rat := 0
  /-- current PI integrator q (R231) -/
  iq : Rat := 0
  /-- current PI integrator d (R231) -/
  id : Rat := 0
  /-- speed PI integrator (R231) -/
  iw : Rat := 0
  /-- phase high times for period k+2, 10 ns (R232) -/
  duties : List Rat := []
  /-- edge shifts to undo in the next period, by phase, 10 ns (R233) -/
  shifts : List (Nat × Rat) := []
  /-- high time carried to the next period (R234) -/
  carry : Rat := 0
  /-- ring cycles of the samples skipped in the last second (R234) -/
  skips : List Nat := []
  /-- the next period's sample is skipped (R234) -/
  dropNext : Bool := false
  /-- phase whose pulse is shifted or carried (R233,R234) -/
  shiftPh : Nat := 0
  /-- voltage saturated (R231) -/
  sat : Bool := false
  /-- consecutive samples above the trip level (Table 11-7) -/
  overN : Nat := 0
  /-- consecutive cycles with the DC link outside its window (Table 11-7) -/
  vdcOut : Nat := 0
  /-- self-test running: code, ring cycle of its start (Table 11-7) -/
  test : Option (Nat × Nat) := none
  /-- cycles of the cross-check window so far (R238) -/
  winN : Nat := 0
  /-- sum of the speeds in it (R238) -/
  winSum : Rat := 0
  /-- sum of the resistance error over its last second (R238) -/
  drSum : Rat := 0
  /-- vectors committed, newest first, three at most (R226,R235) -/
  vecs : List Nat := []
  /-- an encoder count has arrived (Table 12-6) -/
  encSeen : Bool := false
  /-- torque the speed loop asks, mN m (R231) -/
  trq : Rat := 0
  /-- model prediction of the phase currents (R233) -/
  pred : List Rat := []
  /-- DTC flux alpha (R235) -/
  psiA : Rat := 0
  /-- DTC flux beta (R235) -/
  psiB : Rat := 0
  /-- DTC torque estimate (R235) -/
  torque : Rat := 0
  /-- torque reference, mN m (R236) -/
  tRef : Rat := 0
  /-- flux comparator (R236) -/
  dPsi : Bool := false
  /-- torque comparator -1, 0, 1 (R236) -/
  dT : Int := 0
  /-- vector in force, abc bits (R236) -/
  vec : Nat := 0
  /-- correction factor (R238) -/
  kappa : Rat := 1
  /-- saved in the calibration store (R238) -/
  kappaSaved : Rat := 1
  /-- operating seconds of the last cross-check (R239) -/
  lastCross : Nat := 0
  /-- winding rise, C (R237) -/
  rise : Rat := 0
  /-- winding temperature, C (R237) -/
  tw : Rat := 20
  /-- tracked resistance, ohm (R237) -/
  rs : Rat := 0
  /-- last phase currents, A (R231) -/
  cur : List Rat := []
  /-- DC link, V (R225) -/
  vdc : Rat := 0
  /-- offset learning allowed (R230) -/
  offLearn : Bool := true
  /-- above t_warn (R237) -/
  warn : Bool := false
  deriving DecidableEq, Repr

/-- a loop slot (13) -/
structure LoopSlot where
  /-- enabled (R275) -/
  on : Bool := false
  /-- MODE field reset 0 (Table 13-6b) -/
  mode : LoopMode := .manual
  /-- FORCED_TRACK (Table 13-6b) -/
  forced : Bool := false
  /-- RAMPING (Table 13-6b) -/
  ramping : Bool := false
  /-- SAT_HI (Table 13-6b) -/
  satHi : Bool := false
  /-- SAT_LO (Table 13-6b) -/
  satLo : Bool := false
  /-- INPUT_OK (Table 13-6b) -/
  inputOk : Bool := false
  /-- FE_RUN (Table 13-6b) -/
  feRun : Bool := false
  /-- SAT_COUNT (Table 13-6b) -/
  satCount : Nat := 0
  /-- working set-point, binary32 (R272) -/
  w : F32 := 0#32
  /-- integral term (R272) -/
  integ : F32 := 0#32
  /-- derivative term (R272) -/
  d : F32 := 0#32
  /-- previous measurement (R272) -/
  yPrev : F32 := 0#32
  /-- last output: 0 after reset (R275) -/
  uSat : F32 := 0#32
  /-- manual value (R274) -/
  manual : F32 := 0#32
  /-- live target, Q16.16 as 32 bits; none is the set's (R117,R277) -/
  target : Option Nat := none
  /-- the next sample presets integ (R274) -/
  preset : Bool := true
  /-- no sample since the slot was enabled (R275) -/
  fresh : Bool := true
  /-- samples in a row with SAT_HI or SAT_LO (R281) -/
  satSince : Nat := 0
  /-- live ownership; none is the set's flag (R276) -/
  owner : Option Bool := none
  /-- phase assigned (R268) -/
  phase : Nat := 0
  /-- retired by a fault (R281) -/
  retired : Bool := false
  deriving DecidableEq, Repr

/-- a gallery record (R360 Table 19-1) -/
structure GalRec where
  /-- seq (Table 19-1) -/
  seq : Nat := 0
  /-- seconds at the first occurrence (Table 19-1) -/
  sec : Nat := 0
  /-- second of the latest occurrence (R362) -/
  last : Nat := 0
  /-- flags (Table 19-1) -/
  flags : Nat := 0
  /-- power_cycle (Table 19-1) -/
  cycle : Nat := 0
  /-- type (Table 19-2) -/
  type : Nat := 0
  /-- unit (Table 19-1) -/
  handle : Handle := 0#16
  /-- selector (Table 19-1) -/
  sel : Nat := 0
  /-- repeat (R362) -/
  rep : Nat := 0
  /-- aux (Table 19-2) -/
  aux : Nat := 0
  /-- the 32 payload bytes (Table 19-2) -/
  payload : List Byte := []
  deriving DecidableEq, Repr

/-- per-station calibration (R412) -/
structure CalSt where
  /-- stagger table (R108) -/
  stagger : KV (BitVec 16) := []
  /-- scan_start (R109) -/
  scanStart : Nat := 0
  /-- SOS offset, 1/64 pixel period (R178) -/
  sosOff : Int := 0
  /-- chirp profile bytes (R151) -/
  chirp : List Byte := []
  /-- FULL widths (R174) -/
  full : List Nat := []
  /-- HALF widths (R174) -/
  half : List Nat := []
  /-- justification (R174) -/
  just : BitVec 64 := 0#64
  /-- calibrated band table (R148) -/
  table : List (Nat × Nat) := []
  deriving DecidableEq, Repr

/-- the payload of a calibration slot (R379) -/
structure CalStore where
  /-- calibration by station (R379) -/
  inst : KV CalSt := []
  /-- head retirement lists (R205,R379) -/
  lists : List (Nat × BitVec 36) := []
  /-- saved correction factors by axis (R238,R379) -/
  kappa : KV Rat := []
  /-- saved polygon sector offsets by axis (R230,R379) -/
  off : KV (KV Rat) := []
  deriving DecidableEq, Repr

end Sys2Proof.Machine
end

