-- ==== Sys2Proof/Machine/Forms.lean ====
section
/-! DEFINITION. The operands of the commands of the opcode table: mailbox messages and commands, and what buses,
drives, nodes and the peer report. -/

namespace Sys2Proof

/-- The path a command arrived on; its response returns on it (R389). `host a` is UDP from source address and
port `a`. -/
inductive Path where
  | spi | host (src : Nat)
  deriving DecidableEq, Repr

/-- A 64-byte mailbox message (R383, Table 20-1). -/
structure Msg where
  /-- offset 0 -/
  opcode : BitVec 16 := 0#16
  /-- offset 2 -/
  tag : BitVec 8 := 0#8
  /-- offset 3, Table 20-2: 0 RESP, 1 EVENT, 2 MORE -/
  flags : BitVec 8 := 0#8
  /-- offset 4 -/
  handle : Handle := 0xFFFF#16
  /-- offset 6, Table 20-3 -/
  status : BitVec 16 := 0#16
  /-- offset 8 -/
  version : BitVec 32 := 0#32
  /-- offset 12 -/
  seq : BitVec 32 := 0#32
  /-- 48 bytes from offset 16 -/
  payload : List Byte := []
  deriving DecidableEq, Repr

/-- A mailbox command with its parts put together (R384): the first part's header without its opcode, which the
constructor of `Instr` says, and the payload bytes of all parts. -/
structure Cmd where
  /-- the path it arrived on (R389) -/
  path : Path := .spi
  /-- tag of every part -/
  tag : BitVec 8 := 0#8
  /-- flags of the last part -/
  flags : BitVec 8 := 0#8
  /-- flag bits but MORE that stand in a part before the last; 0 in a command of one part -/
  early : BitVec 8 := 0#8
  /-- unit addressed, 0xFFFF for none -/
  handle : Handle := 0xFFFF#16
  /-- status field, 0 in a command -/
  status : BitVec 16 := 0#16
  /-- expected configuration version, 0 for no check (R40) -/
  version : BitVec 32 := 0#32
  /-- seq of the first part -/
  seq : BitVec 32 := 0#32
  /-- payload of all parts, 48 bytes each -/
  payload : List Byte := []
  deriving DecidableEq, Repr

/-- Where an SRAM read found an error (R103). -/
inductive SramPlace where
  /-- the band buffer of a station, in the band that stands at a place in its buffer -/
  | band (station place : Nat)
  /-- the sweep buffer half in exposure at a station: line and 64-bit word of the line -/
  | sweep (station line word : Nat)
  /-- any other region -/
  | other
  deriving DecidableEq, Repr


/-- What an NVMe command is for (Table 06-2, R129, R137). -/
inductive NvmeOp where
  /-- a Write of a band's extent (R132) -/
  | write
  /-- a flight read (R49) -/
  | read
  /-- a targeted re-read (R89, R138) -/
  | reread
  /-- a Flush before a directory batch (R132) -/
  | flush
  /-- a Write of directory pages, FUA (R132) -/
  | dirWrite
  /-- a Write of free map pages, FUA (R132) -/
  | mapWrite
  /-- a Write of a ledger region page, FUA (R140) -/
  | ledgerWrite
  /-- a Write of a superblock copy (R128) -/
  | superWrite
  /-- a Write of pseudo-random data to the bench region (R129) -/
  | benchWrite
  /-- Dataset Management, deallocate (R129, R134) -/
  | trim
  /-- a scrub Read (R139) -/
  | scrub
  /-- a bench Read (R136) -/
  | bench
  /-- Identify, namespace (R122) -/
  | identifyNs
  /-- Identify, controller (R122) -/
  | identifyCtrl
  /-- Create I/O Completion Queue 1 (R122) -/
  | createCq
  /-- Create I/O Submission Queue 1 (R122) -/
  | createSq
  /-- Delete I/O Submission Queue 1 (R122) -/
  | deleteSq
  /-- Delete I/O Completion Queue 1 (R122) -/
  | deleteCq
  /-- Get Log Page, SMART / Health (R122) -/
  | smart
  /-- no command: a controller reset, CC.EN to 0, then 1 (R138) -/
  | ccReset
  /-- no command: a secondary bus reset above the controller (R138) -/
  | busReset
  deriving DecidableEq, Repr

/-- What enumeration finds of an NVMe controller (R122, R123). -/
structure NvmeInfo where
  /-- namespace 1 is active, without metadata and without protection -/
  nsOk : Bool := true
  /-- LBA data size -/
  lba : Nat := 4096
  /-- I/O queue pair 1 is accepted -/
  queueOk : Bool := true
  /-- MDTS in bytes, 0 for none -/
  mdts : Nat := 0
  /-- local 4 KiB pages of the namespace -/
  pages : Nat := 0
  /-- CAP.MQES (R124) -/
  mqes : Nat := 1023
  deriving DecidableEq, Repr

/-- A superblock copy as read at mount (R127, Table 06-4). -/
structure SuperCopy where
  /-- magic, version and CRC are correct -/
  valid : Bool := false
  /-- generation -/
  generation : Nat := 0
  /-- spool_id -/
  spoolId : Nat := 0
  /-- member index -/
  member : Nat := 0
  /-- width K -/
  width : Nat := 0
  /-- MOUNTED flag -/
  mounted : Bool := false
  /-- ledger_share -/
  ledgerShare : Nat := 10
  /-- 0 for copy A, 1 for B -/
  copy : Nat := 0
  /-- member_pages -/
  memberPages : Nat := 0
  /-- spool_pages, dir_pages, ledger_pages, map_pages, extent_pages -/
  sizes : List Nat := []
  /-- key_check -/
  keyCheck : Nat := 0
  /-- bad_pages -/
  bad : List Nat := []
  deriving DecidableEq, Repr

/-- A transition of the newel or backup encoder (R207, R208). -/
inductive NewelEdge where
  /-- a count in the positive direction of the inputs -/
  | up
  /-- a count in the negative direction of the inputs -/
  | down
  /-- A and B changed in the same accepted sample -/
  | illegal
  /-- the count rate is above 25 × 10^6 counts/s -/
  | overspeed
  deriving DecidableEq, Repr

/-- A motor channel's up record (Table 12-6). -/
structure AxisUp where
  /-- motor axis -/
  axis : Nat := 0
  /-- the three current samples in the node's current scale, none for 0x8000 -/
  currents : List (Option Int) := []
  /-- DC link, 10 mV -/
  vdc : Nat := 0
  /-- encoder count -/
  enc : Nat := 0
  /-- a valid zero crossing: 10 ns from the previous cycle's boundary, phase, polarity -/
  zc : Option (Nat × Nat × Bool) := none
  /-- new samples since the last record -/
  fresh : Bool := false
  /-- peak-current trip -/
  trip : Bool := false
  /-- encoder error -/
  encErr : Bool := false
  /-- stage enabled -/
  stage : Bool := false
  deriving DecidableEq, Repr

/-- A node's valid up record as it returns in a cycle frame (Tables 12-4, 12-5). -/
structure NodeUp where
  /-- node index -/
  node : Nat := 0
  /-- slot head CODE -/
  code : Nat := 0
  /-- LINK_A -/
  linkA : Bool := true
  /-- LINK_B -/
  linkB : Bool := true
  /-- SAFE -/
  safe : Bool := false
  /-- HOLD -/
  hold : Bool := false
  /-- READY -/
  ready : Bool := true
  /-- motor records -/
  axes : List AxisUp := []
  /-- stepper records: stepper, flags -/
  steppers : List (Nat × Nat) := []
  /-- solenoid records: solenoid, state -/
  sols : List (Nat × Nat) := []
  /-- heater zone records: INDEX of the zone, up byte 0 -/
  heaters : List (Nat × Nat) := []
  /-- HV module records: INDEX of the module, DC output V, output current 0.1 uA, AC output V peak, up byte 6 -/
  hvs : List (Nat × Int × Int × Int × Nat) := []
  /-- analog inputs of I/O records: INDEX of the sensor, value -/
  sensors : List (Nat × Int) := []
  deriving DecidableEq, Repr

/-- What enumeration finds at a ring position (R252 to R255, Table 12-8). -/
structure RingPos where
  /-- vendor -/
  vendor : Nat := 0
  /-- kind is CONTROLLER -/
  controller : Bool := false
  /-- serial -/
  serial : Nat := 0
  /-- channels of the six types -/
  channels : List Nat := []
  /-- t_CW less t_CCW, 1/8 ns, for each delay number latched on both lanes -/
  diffs : List Int := []
  deriving DecidableEq, Repr

/-- What a catch observes (Table 11-3). -/
inductive CatchSeen where
  /-- no phase exceeds v_detect -/
  | rest
  /-- six or more crossings in sequence: half the mean interval in 10 ns, and the sector -/
  | forward (theta sector : Nat)
  /-- crossings in the reverse sequence -/
  | reverse
  /-- anything else -/
  | unclear
  deriving DecidableEq, Repr

/-- A section of the peer's mirror frame, its content taken as data (Table 18-6). -/
inductive MirrorSec where
  /-- NEWEL: the counter, the profile segment in force and the segments planned after it -/
  | newel (pos : Int) (seg : Machine.Seg) (plan : List Machine.Seg)
  /-- LANDING: next landing position and next frame serial -/
  | landing (next : Option Int) (serial : Nat)
  /-- FLIGHT: flight plans admitted and serials closed -/
  | flights (admitted : List Machine.Flight) (closed : List Nat)
  /-- STATION: predicted rate, facet table entry, sweep count, emitter words changed, live lane, live rider trim -/
  | station (n : Nat) (sPred : Rat) (facet : Option (Nat × Rat)) (sweep : Nat) (ems : KV Machine.Emitter)
      (lane : Option Nat) (trim : Int)
  /-- AXIS: the state of an axis (R243) -/
  | axis (a : Nat) (x : Machine.Axis)
  /-- LOOP: the state of a loop slot (R283) -/
  | loop (k : Nat) (x : Machine.LoopSlot)
  /-- LEDGER: records closed and the acknowledged position -/
  | ledger (closed : List Machine.LedgerRec) (acked : Nat)
  /-- GALLERY: records the sender wrote -/
  | gallery (recs : List Machine.GalRec)
  /-- CONFIG: a commit or revert accepted -/
  | configAccepted (p : Machine.Pend)
  /-- CONFIG: the pending set takes effect -/
  | configEffect (version : Nat)
  /-- BULK: current and previous configuration sets -/
  | bulkSets (cur : Machine.CfgSet) (ver : Nat) (prev : Option (Nat × Machine.CfgSet))
  /-- BULK: press calibration -/
  | bulkCal (c : Machine.CalStore)
  /-- BULK: a stream history save slot, complete (R94) -/
  | bulkSave (n : Nat) (h : Machine.Hist)
  /-- BULK: the ledger queue -/
  | bulkLedger (q : List Machine.LedgerRec)
  /-- BULK: the last chunk of the snapshot -/
  | snapshotEnd
  /-- STATUS: unit state changes -/
  | status (units : List (Handle × Machine.UnitState × Nat))
  deriving DecidableEq, Repr

end Sys2Proof
end

