-- ==== Sys2Proof/Syntax.lean ====
section
/-! DEFINITION. What the outside can send to the block: every command of the opcode table. -/

namespace Sys2Proof

/-- The commands of the block: one constructor per row of the opcode table, in its order. -/
inductive Instr where
  /-- UNIT_CREATE (R25): Reserves a unit table entry and stages a new unit descriptor. -/
  | unitCreate (m : Cmd)
  /-- UNIT_DELETE (R25): Stages the deletion of a unit that has no children or references. -/
  | unitDelete (m : Cmd)
  /-- UNIT_MOVE (R21): Stages a new parent for a unit, subject to type and nesting limits. -/
  | unitMove (m : Cmd)
  /-- UNIT_SET (R400): Stages new order, flags, step times and name for a unit. -/
  | unitSet (m : Cmd)
  /-- UNIT_ENABLE (R28): Enables a unit, fanning out over a group's children in order, and responds at the end. -/
  | unitEnable (m : Cmd)
  /-- UNIT_DISABLE (R28): Disables a unit, fanning out in reverse order without stopping early. -/
  | unitDisable (m : Cmd)
  /-- UNIT_READ (R400): Returns a unit descriptor from the current or staged set. -/
  | unitRead (m : Cmd)
  /-- UNIT_LOOKUP (R400): Returns the handle of a named child of a parent. -/
  | unitLookup (m : Cmd)
  /-- UNIT_CHILDREN (R400): Returns the handles of a unit's children from a given position. -/
  | unitChildren (m : Cmd)
  /-- CFG_STAGE_BEGIN (R32): Copies the latest accepted configuration set into a staged copy. -/
  | cfgStageBegin (m : Cmd)
  /-- CFG_WRITE (R401): Replaces bytes of a configuration block in the staged set. -/
  | cfgWrite (m : Cmd)
  /-- CFG_READ (R401): Returns bytes of a configuration block from the current, staged or previous set. -/
  | cfgRead (m : Cmd)
  /-- CFG_STAGE_ABORT (R32): Discards the staged set and frees entries reserved by it. -/
  | cfgStageAbort (m : Cmd)
  /-- CFG_COMMIT (R33): Accepts the staged set under a new version, writes its MRAM slot and binds it to the next admitted frame. -/
  | cfgCommit (m : Cmd)
  /-- CFG_REVERT (R37): Makes the previous set current again under a new version, bound as a commit. -/
  | cfgRevert (m : Cmd)
  /-- CFG_STATUS (R401): Returns current, previous and pending versions and the staged set's digest. -/
  | cfgStatus (m : Cmd)
  /-- JOB_SUBMIT (R403): Allocates frame directory entries for a new job and queues it. -/
  | jobSubmit (m : Cmd)
  /-- JOB_CANCEL (R403): Cancels a job, freeing its waiting frames while frames in flight complete. -/
  | jobCancel (m : Cmd)
  /-- JOB_HOLD (R403): Puts a queued or active job into HELD. -/
  | jobHold (m : Cmd)
  /-- JOB_RELEASE (R403): Returns a held job to service and restarts its GAP count. -/
  | jobRelease (m : Cmd)
  /-- JOB_STATUS (R403): Returns the state and frame counts of a job. -/
  | jobStatus (m : Cmd)
  /-- MOT_PRESS_STOP (R404): Runs the orderly stop without a fault, bringing the web to rest in THREAD. -/
  | motPressStop (m : Cmd)
  /-- MOT_PRESS_THREAD (R404): With no frame in flight, plans the newel down to jog speed and enters THREAD. -/
  | motPressThread (m : Cmd)
  /-- MOT_PRESS_RUN (R453): Starts the run sequence that brings the newel to 25 in/s and leaves THREAD. -/
  | motPressRun (m : Cmd)
  /-- MOT_JOG (R404): Plans a jog newel profile in THREAD or on a FREE axis. -/
  | motJog (m : Cmd)
  /-- MOT_HOME (R222): Runs the homing sequence on a FREE axis and responds at the end. -/
  | motHome (m : Cmd)
  /-- MOT_GEAR_HOLD (R214): Sets a geared follower HELD. -/
  | motGearHold (m : Cmd)
  /-- MOT_GEAR_FREE (R214): Sets a follower FREE. -/
  | motGearFree (m : Cmd)
  /-- MOT_GEAR_REGEAR (R214): Regears a HELD or FREE follower at a named ratio and newel position. -/
  | motGearRegear (m : Cmd)
  /-- MOT_RATIO (R216): Queues a blended ratio change on an axis. -/
  | motRatio (m : Cmd)
  /-- MOT_RATIO_CANCEL (R216): Removes a pending ratio change before its blend begins. -/
  | motRatioCancel (m : Cmd)
  /-- MOT_PHASE (R217): Sets a new blended phase offset on a follower. -/
  | motPhase (m : Cmd)
  /-- MOT_MOVE (R404): Runs a profile move on a FREE axis and responds at the end. -/
  | motMove (m : Cmd)
  /-- MOT_LOOP_MODE (R274): Changes a loop slot's mode bumplessly, with a manual value for MANUAL. -/
  | motLoopMode (m : Cmd)
  /-- MOT_LOOP_TARGET (R277): Sets a loop slot's target, stored while the slot is in CASCADE. -/
  | motLoopTarget (m : Cmd)
  /-- MOT_LOOP_SWITCH (R276): Moves ownership of an output group to another slot without a step. -/
  | motLoopSwitch (m : Cmd)
  /-- MOT_SOL_FIRE (R263): Schedules a solenoid fire or release against its partner's schedule. -/
  | motSolFire (m : Cmd)
  /-- MNT_START (R406): Starts a maintenance activity when its quiet condition occurs. -/
  | mntStart (m : Cmd)
  /-- MNT_STOP (R409): Stops a running maintenance activity. -/
  | mntStop (m : Cmd)
  /-- MNT_STATUS (R409): Returns the state and count of a maintenance activity. -/
  | mntStatus (m : Cmd)
  /-- MNT_FAULT_ACK (R324): Acknowledges a class 3 fault record so that it can close once its cause is gone. -/
  | mntFaultAck (m : Cmd)
  /-- MNT_RETURN (R334): Reruns a retired channel's self-test and returns it to service on a pass. -/
  | mntReturn (m : Cmd)
  /-- MNT_INTLK_RELEASE (R184): Releases latched interlock inputs. -/
  | mntIntlkRelease (m : Cmd)
  /-- MNT_SPOOL_FORMAT (R129): Formats the spool with a new identifier and XTS key. -/
  | mntSpoolFormat (m : Cmd)
  /-- GAL_READ (R410): Returns gallery records from a given sequence number. -/
  | galRead (m : Cmd)
  /-- GAL_STATUS (R410): Returns gallery counts and fill flags. -/
  | galStatus (m : Cmd)
  /-- GAL_EXPORT (R366): Returns a signed export of a range of gallery records. -/
  | galExport (m : Cmd)
  /-- GAL_CLEAR (R365): Clears gallery records up to a named sequence number, under a regulator ticket. -/
  | galClear (m : Cmd)
  /-- LDG_READ (R410): Returns ledger records from a given serial. -/
  | ldgRead (m : Cmd)
  /-- LDG_ACK (R370): Acknowledges ledger records and sets the upstream window. -/
  | ldgAck (m : Cmd)
  /-- LDG_STATUS (R410): Returns ledger serials, occupancy and region state. -/
  | ldgStatus (m : Cmd)
  /-- AUTH_CHALLENGE (R374): Issues a fresh 32-byte challenge. -/
  | authChallenge (m : Cmd)
  /-- AUTH_TICKET (R375): Verifies a ticket signature and creates a grant or a denial. -/
  | authTicket (m : Cmd)
  /-- AUTH_KEY_INSTALL (R372): Installs a role public key. -/
  | authKeyInstall (m : Cmd)
  /-- AUTH_KEY_REMOVE (R372): Removes a role public key. -/
  | authKeyRemove (m : Cmd)
  /-- AUTH_DIGEST_ADD (R378): Adds a digest to the approved firmware list. -/
  | authDigestAdd (m : Cmd)
  /-- AUTH_DIGEST_REMOVE (R378): Removes a digest from the approved firmware list. -/
  | authDigestRemove (m : Cmd)
  /-- AUTH_DIGEST_CLEAR (R373): Empties the approved digest list so the device boots into COMMISSIONING. -/
  | authDigestClear (m : Cmd)
  /-- AUTH_STATUS (R411): Returns commissioning state, key counts, grant and backoff. -/
  | authStatus (m : Cmd)
  /-- AUTH_TOKEN_SIGN (R432): Passes a ticket message to the panel token for signing. -/
  | authTokenSign (m : Cmd)
  /-- TOKEN_SIGNATURE_RESPONSE (R432): The token's APDU reply arrives and its signature is applied as a ticket. -/
  | tokenSignatureResponse (r : Nat) (t : Nat) (sw : Nat)
  /-- CAL_WRITE (R412): Writes a per-station calibration staging copy. -/
  | calWrite (m : Cmd)
  /-- CAL_COMMIT (R412): Checks and installs staged calibration at the next mark and writes the calibration store. -/
  | calCommit (m : Cmd)
  /-- CAL_READ (R412): Returns installed calibration bytes. -/
  | calRead (m : Cmd)
  /-- CAL_ABORT (R412): Discards a station's calibration staging. -/
  | calAbort (m : Cmd)
  /-- CAL_HEAD_CLEAR (R205): Clears emitters from a head's retirement list. -/
  | calHeadClear (m : Cmd)
  /-- PWR_STATUS (R413): Returns a rail's state, voltage and status word. -/
  | pwrStatus (m : Cmd)
  /-- PWR_RAIL_RESTART (R305): Restarts a FAILED rail and its held dependants. -/
  | pwrRailRestart (m : Cmd)
  /-- PWR_DOWN (R306): Runs the down sequence of the rails. -/
  | pwrDown (m : Cmd)
  /-- PWR_UP (R304): Runs the up sequence for every OFF rail. -/
  | pwrUp (m : Cmd)
  /-- PWR_LOG_READ (R311): Returns a power log entry. -/
  | pwrLogRead (m : Cmd)
  /-- PWR_RESET (R413): Responds, then resets the device 1 ms later as for PORST_N. -/
  | pwrReset (m : Cmd)
  /-- DIAG_STATE (R413): Returns a unit's or member's state and status word. -/
  | diagState (m : Cmd)
  /-- DIAG_FAULTS (R413): Returns entries of the fault table. -/
  | diagFaults (m : Cmd)
  /-- DIAG_NOTES (R330): Reads, and optionally clears, note counters. -/
  | diagNotes (m : Cmd)
  /-- DIAG_METER (R295): Starts a measurement on clock meter 1 and responds at the end. -/
  | diagMeter (m : Cmd)
  /-- DIAG_SPOOL (R413): Returns spool state, width, bandwidths and scrub position. -/
  | diagSpool (m : Cmd)
  /-- DIAG_BOOT (R413): Returns boot status, firmware version and image digest. -/
  | diagBoot (m : Cmd)
  /-- PAIR_STATUS (R413): Returns the pair status word and the peer's version. -/
  | pairStatus (m : Cmd)
  /-- PAIR_HANDOVER (R357): Drains and hands the claim to a SYNCED standby. -/
  | pairHandover (m : Cmd)
  /-- PAIR_RESYNC (R343): Makes the standby restart pair formation from HELLO. -/
  | pairResync (m : Cmd)
  /-- PNL_LED (R429): Updates LED brightness and blinking on the LED chain. -/
  | pnlLed (m : Cmd)
  /-- PNL_BUZZER (R429): Drives the buzzer at a frequency for a duration. -/
  | pnlBuzzer (m : Cmd)
  /-- PNL_STATUS (R413): Returns key matrix, token and VBUS status. -/
  | pnlStatus (m : Cmd)
  /-- MAILBOX_DATAGRAM (R425): A UDP datagram of 1 to 16 messages arrives on port 47,101. -/
  | mailboxDatagram (lane : Nat) (src : Nat) (bytes : List Byte)
  /-- IN_PROD (R396): A write of the inbound producer index rings the SPI doorbell and enters covered slots into the ring. -/
  | inProd (v : BitVec 16)
  /-- OUT_CONS (R396): A write of the outbound consumer index frees response slots if within range. -/
  | outCons (v : BitVec 16)
  /-- EVT_CONS (R396): A write of the event consumer index frees event slots if within range. -/
  | evtCons (v : BitVec 16)
  /-- SPI_REGISTER_WRITE (R395): A management SPI write to a register or ring slot with no behaviour of its own. -/
  | spiRegisterWrite (addr : Nat) (bytes : List Byte)
  /-- RESPONSE_RELEASE (R387): A waiting response enters the outbound ring when a slot frees. -/
  | responseRelease
  /-- EVENT_OVERFLOW_POST (R388): When an event slot frees after losses, an OVERFLOW event with the count enters the ring. -/
  | eventOverflowPost
  /-- RESPONSE_DATAGRAM_FLUSH (R425): Held responses are sent in a datagram when the 10 µs hold expires. -/
  | responseDatagramFlush
  /-- BAND_DATAGRAM (R421): A band datagram arrives and its fragment is reassembled in staging. -/
  | bandDatagram (lane : Nat) (bytes : List Byte)
  /-- BAND_REASSEMBLY_TIMEOUT (R421): A band without a new fragment for 250 ms is rejected INCOMPLETE. -/
  | bandReassemblyTimeout (job : Nat) (layer : Nat) (frame : Nat) (band : Nat)
  /-- CREDIT_DATAGRAM (R424): A credit datagram is sent after an increase or every 10 ms. -/
  | creditDatagram
  /-- LEDGER_ACKNOWLEDGEMENT (R370): An ACK datagram on port 47,102 advances the acknowledged serial and window. -/
  | ledgerAcknowledgement (a : Nat) (w : Nat)
  /-- LEDGER_RESEND_TIMEOUT (R370): After 500 ms without advance, records are sent again from A + 1. -/
  | ledgerResendTimeout
  /-- ARP_REQUEST (R417): An ARP request for a lane address is answered on that lane. -/
  | arpRequest (lane : Nat) (ip : Nat)
  /-- BAD_DATAGRAM (R417): A packet outside the accepted subset is discarded and counted. -/
  | badDatagram (lane : Nat)
  /-- HOST_LINK_DOWN (R416): A host lane loses block lock and a LINK_DOWN note is counted. -/
  | hostLinkDown (lane : Nat)
  /-- HOST_LINK_UP (R416): A host lane regains block lock and is reported. -/
  | hostLinkUp (lane : Nat)
  /-- SPOOL_PERST_RELEASE (R121): SPOOL_PERST_N is deasserted 100 ms after the reference and spool rails are good. -/
  | spoolPerstRelease
  /-- SPOOL_LINK_RETRY (R121): A spool port not trained within 100 ms is retried, and after 3 retries left down. -/
  | spoolLinkRetry (port : Nat)
  /-- SPOOL_LINK_UP (R120): A spool port link trains. -/
  | spoolLinkUp (port : Nat) (found : List NvmeInfo)
  /-- SPOOL_MOUNT (R128): Superblocks are read and the spool mounts or takes another state. -/
  | spoolMount (copies : List (List Byte × List Byte))
  /-- BANDWIDTH_MOUNT_MEASURE (R136): The 2 s bench read at mount completes and sets each member's bandwidth. -/
  | bandwidthMountMeasure
  /-- SPOOL_WAKE (R121): An assertion of SPOOL_WAKE_N is noted and controller status checked. -/
  | spoolWake
  /-- NVME_COMPLETION (R120): An NVMe command completes, signalled by MSI-X or found by polling. -/
  | nvmeCompletion (member : Nat) (op : NvmeOp) (job : Nat) (layer : Nat) (frame : Nat) (band : Nat) (page : Nat) (ok : Bool) (diff : List (Nat × Nat))
  /-- SPOOL_READ_TIMEOUT (R138): A read not completed within 20 ms is re-read as the page's self-test. -/
  | spoolReadTimeout (member : Nat) (job : Nat) (layer : Nat) (frame : Nat) (band : Nat) (page : Nat)
  /-- DIRECTORY_BATCH (R132): Dirty directory and free map pages are flushed and written at most 250 ms apart. -/
  | directoryBatch
  /-- BAND_ALLOCATE (R133): A staged band receives extent pages once a long enough free run exists. -/
  | bandAllocate
  /-- FETCH_RELEASE (R49): At a band's release position the spool engine issues its fetch. -/
  | fetchRelease (station : Nat) (serial : Nat) (band : Nat)
  /-- SMART_POLL (R122): The SMART log of each controller is read every 10 s. -/
  | smartPoll (member : Nat) (warning : Nat)
  /-- SATURATED_WINDOW (R136): A 100 ms saturated window ends and may lower a member's measurement. -/
  | saturatedWindow (member : Nat)
  /-- BANDWIDTH_PROBE (R136): A 250 ms probe every 10 s may raise a lowered measurement. -/
  | bandwidthProbe (ends : Bool)
  /-- SPOOL_MEMBER_LOSS (R138): A spool member is lost and its bands are treated as not on the spool. -/
  | spoolMemberLoss (member : Nat)
  /-- SPOOL_MEMBER_RECOVERY (R138): A recovery attempt on a lost member, repeated 1 s apart up to 3 times. -/
  | spoolMemberRecovery (member : Nat) (found : Option (List Byte × List Byte))
  /-- LEDGER_PAGE_WRITE (R140): The open ledger region page is written every 100 ms or when full. -/
  | ledgerPageWrite
  /-- ADMISSION_ATTEMPT (R48): At an admission position the flight plan is evaluated and the frame admitted or recorded GAP. -/
  | admissionAttempt
  /-- PLAN_PREPARE (R57): Core 1 prepares a flight plan up to two landings ahead. -/
  | planPrepare
  /-- STATION_LANDING (R15): At a station landing the staged set, route swap and riders are applied in order. -/
  | stationLanding (station : Nat) (serial : Nat)
  /-- FRAME_LEAVES_FLIGHT (R64): A frame's last band leaves its last station and its ledger record closes. -/
  | frameLeavesFlight (serial : Nat)
  /-- GOVERNOR_EVALUATE (R58): Every 16 ms the governor evaluates its predictions and plans ramps. -/
  | governorEvaluate (rates : List (Nat × Nat)) (drain : Nat)
  /-- SOS_MARK (R156): A station's start-of-scan mark restarts the sweep and places the next mark. -/
  | sosMark (station : Nat) (m : Nat)
  /-- OFFSET_COMPUTE_COMPLETE (R100): A late band's cell offsets complete and the decoder starts it. -/
  | offsetComputeComplete (station : Nat)
  /-- DECODE_COMPLETE (R83): A band's decode completes and its protected CRC is compared. -/
  | decodeComplete (station : Nat)
  /-- SAVE_SLOT_COPY_COMPLETE (R94): The mirrored copy of a save slot to the partner completes. -/
  | saveSlotCopyComplete (station : Nat)
  /-- SRAM_ERROR (R103): An SRAM read finds a single-bit or uncorrectable error. -/
  | sramError (bank : Nat) (corrected : Bool) (place : SramPlace)
  /-- SRAM_BANK_TEST_COMPLETE (R327): A bank's March test completes and the bank takes back its accesses or is retired. -/
  | sramBankTestComplete (bank : Nat) (pass : Bool)
  /-- SYNTH_LOCK (R146): Lock is declared after LOCK_N in-window reference cycles. -/
  | synthLock (station : Nat)
  /-- SYNTH_LOSS_OF_LOCK (R147): Loss of lock is declared after 8 out-of-window reference cycles. -/
  | synthLossOfLock (station : Nat)
  /-- BAND_SWITCH (R154): A scheduled coarse band switch takes place after its word. -/
  | bandSwitch (station : Nat)
  /-- BAND_TABLE_CALIBRATION_COMPLETE (R149): A station's band table calibration completes and is installed at the next mark. -/
  | bandTableCalibrationComplete (station : Nat) (table : List (Nat × Nat))
  /-- BAND_TABLE_TRACK (R150): Each second the integral term's mean is folded into the band table. -/
  | bandTableTrack (station : Nat)
  /-- FACET_PHASE_FAULT (R159): The facet phase error beyond its limit for the timer raises a fault. -/
  | facetPhaseFault (station : Nat)
  /-- LINK_UP (R179): The driver's LINK_UP message arrives and the module is checked against the lane map. -/
  | linkUp (lane : Nat) (module : Nat) (serial : Nat) (tables : Bool)
  /-- SOS_TS (R178): A driver's SOS timestamp arrives and gives the sweep's residual. -/
  | sosTs (lane : Nat) (sweep : Nat) (tc : Nat) (valid : Bool)
  /-- MEAS_RESULT (R193): An emitter measurement result arrives and is judged against the windows. -/
  | measResult (lane : Nat) (sweep : Nat) (emitter : Nat) (tag : Nat) (v1 : Nat) (v2 : Nat) (m1 : Nat) (m2 : Nat)
  /-- HEAD_DATA (R186): A head identity read reply arrives. -/
  | headData (lane : Nat) (addr : Nat) (data : List Nat) (status : Nat)
  /-- LANE_STAT (R181): A driver's per-sweep lane status arrives and lane errors are judged. -/
  | laneStat (lane : Nat) (sweep : Nat) (failed : Nat) (flags : Nat) (ber : Nat)
  /-- STATUS (R177): A driver STATUS message arrives. -/
  | statusMsg (lane : Nat) (locked : Bool) (laser : BitVec 2) (temp : Int)
  /-- ACK (R175): A driver acknowledgement of a forward sideband message arrives. -/
  | ackMsg (lane : Nat) (tag : Nat) (status : Nat)
  /-- SIDEBAND_ACK_TIMEOUT (R175): A forward message without ACK in 50 µs is resent, up to 3 times. -/
  | sidebandAckTimeout (lane : Nat) (tag : Nat)
  /-- BACK_CHANNEL_LOSS (R177): No valid back-channel character for 256 character times. -/
  | backChannelLoss (lane : Nat)
  /-- LANE_TRAINING_COMPLETE (R179): Training produces its first IDLE word and the lane enters service. -/
  | laneTrainingComplete (lane : Nat)
  /-- LANE_TRAINING_TIMEOUT (R181): A training without its first IDLE word within its limit fails. -/
  | laneTrainingTimeout (lane : Nat)
  /-- LANE_TRAINING_RETRY (R179): A failed initial training is attempted again every 100 ms. -/
  | laneTrainingRetry (lane : Nat)
  /-- BER_TEST_COMPLETE (R182): The BER test reaches its compared bits and passes, extends or fails. -/
  | berTestComplete (lane : Nat) (errors : Nat)
  /-- BER_NO_WORD_TIMEOUT (R182): A swept lane supplies no compared word for 1 s and the BER test fails. -/
  | berNoWordTimeout (lane : Nat)
  /-- INTERLOCK_ASSERT (R183): An INTLK_N assertion closes its lanes and LASER_EN outputs. -/
  | interlockAssert (low : BitVec 8)
  /-- INTERLOCK_GATE_OPEN (R184): The gate opens after every mapped input is high for 10 ms and latches are released. -/
  | interlockGateOpen
  /-- INTERLOCK_PATH_MISMATCH (R183): The two LASER_EN gate paths disagree for over 2 µs and LOCKOUT is raised. -/
  | interlockPathMismatch
  /-- EMITTER_RESULT_STALE (R194): A mapped emitter without a valid result for 1 s raises a note. -/
  | emitterResultStale (station : Nat) (emitter : Nat)
  /-- HEAD_PRESENCE_CHECK (R203): Each second every accepted head's serial is read. -/
  | headPresenceCheck (station : Nat)
  /-- RING_CYCLE (R246): At each 16 µs ring boundary the cycle frame is launched and the cycle's records processed. -/
  | ringCycle (ups : List NodeUp)
  /-- FOC_PWM_PERIOD (R231): Each 32 µs FOC period computes currents and SVM duties. -/
  | focPwmPeriod
  /-- COMMUTATION_MISS (R227): No crossing by 1.5 × 2Θ commutates at the prediction and counts a miss. -/
  | commutationMiss (axis : Nat)
  /-- SIX_STEP_START (R228): A start's alignment, open-loop ramp or handover phase ends. -/
  | sixStepStart (axis : Nat) (ok : Bool)
  /-- CATCH (R229): The catch observation window ends and selects the start action. -/
  | catchWindow (axis : Nat) (seen : CatchSeen)
  /-- OFFSET_LEARN_UPDATE (R230): Once per revolution the polygon sector offsets are updated. -/
  | offsetLearnUpdate (axis : Nat) (resid : List Int)
  /-- WINDING_MODEL_UPDATE (R237): Every 1 ms the winding temperature model and resistance are updated. -/
  | windingModelUpdate
  /-- ESTIMATOR_CROSS_CHECK (R238): A 2 s steady window completes and corrects κ. -/
  | estimatorCrossCheck (axis : Nat)
  /-- KAPPA_SAVE (R238): κ is saved to the calibration store every hour. -/
  | kappaSave
  /-- ESTIMATOR_STALE (R239): 72 h without a cross-check raises a note, repeated every 24 h. -/
  | estimatorStale (axis : Nat)
  /-- VOLTAGE_LIMIT (R231): Voltage saturation for 100 ms raises a note. -/
  | voltageLimit (axis : Nat)
  /-- STAGE_DISABLE (R240): An axis below 0.5% of rated speed for 100 ms has its stage disabled. -/
  | stageDisable (axis : Nat)
  /-- AXIS_FOLLOWING_TIMEOUT (R241): An axis following error beyond its limit for its timer raises FOLLOWING. -/
  | axisFollowingTimeout (axis : Nat)
  /-- NEWEL_COUNT (R207): An accepted quadrature count moves the newel counter by its scale. -/
  | newelCount (aux : Bool) (edge : NewelEdge)
  /-- NEWEL_INDEX (R208): An index pulse checks the counts since the last one. -/
  | newelIndex
  /-- NEWEL_LOSS_OF_SIGNAL (R208): Low differential amplitude for 2 µs is an encoder loss. -/
  | newelLossOfSignal (aux : Bool)
  /-- NEWEL_BACKUP_CHECK (R209): Every second the newel and backup advances are compared. -/
  | newelBackupCheck
  /-- WEB_FOLLOWING_TIMEOUT (R212): Web following error beyond its limit for its timer raises a class 3 fault. -/
  | webFollowingTimeout
  /-- LIMIT_INPUT_ACCEPTED (R221): A debounced limit or home transition is accepted and captured. -/
  | limitInputAccepted (input : Handle) (level : Bool) (capture : Int)
  /-- RING_PORT_DOWN (R244): A ring port goes down and the ring turns at the break. -/
  | ringPortDown (port : Nat)
  /-- RING_PORT_UP (R244): A ring port comes up after 1,024 valid characters. -/
  | ringPortUp (port : Nat)
  /-- RING_ENUMERATION (R252): The ring is enumerated, delays measured and nodes assigned. -/
  | ringEnumeration (cw : Nat) (ccw : Nat) (found : List RingPos)
  /-- NODE_MAILBOX_REPLY (R254): A node's mailbox window reply arrives. -/
  | nodeMailboxReply (node : Nat) (tag : Nat) (status : Nat) (value : Nat)
  /-- LOOP_TEST_READ (R258): After 1,024 cycles the loop test counts are read and judged. -/
  | loopTestRead (target : Option Nat) (ends : List (Nat × Nat))
  /-- LOOP_FOLLOWING_TIMEOUT (R279): A loop's following error timer reaches fe_timer. -/
  | loopFollowingTimeout (slot : Nat)
  /-- LOOP_INPUT_HOLD_TIMEOUT (R280): An input invalid beyond input_hold raises INPUT_LOST. -/
  | loopInputHoldTimeout (slot : Nat)
  /-- LOOP_SATURATED (R281): Saturation held for 10 s raises a note. -/
  | loopSaturated (slot : Nat)
  /-- PORST_N_ASSERT (R438): PORST_N held low resets the device. -/
  | porstNAssert
  /-- PORST_N_RELEASE (R289): Release of PORST_N starts the boot ROM on FOSC. -/
  | porstNRelease (pairSlot : Nat) (bootMode : Nat) (testEn : Bool)
  /-- FOSC_CHECK (R289): Every 1 ms FOSC is measured against SOSC. -/
  | foscCheck (khz : Nat)
  /-- XTAL0_GATE (R290): A meter 0 gate counts XTAL0 and may declare it oscillating. -/
  | xtal0Gate (count : Nat)
  /-- XTAL0_START_TIMEOUT (R290): XTAL0 not oscillating within 20 ms enters the limp state. -/
  | xtal0StartTimeout
  /-- ROOT_LOCK (R291): The root ADPLL locks and domains move to their root dividers. -/
  | rootLock
  /-- ROOT_ATTEMPT_TIMEOUT (R291): A lock attempt exceeding 2 ms fails and is retried or enters limp. -/
  | rootAttemptTimeout
  /-- DIVIDER_STEP (R288): One staircase step of a domain divider at the 1 µs pace. -/
  | dividerStep
  /-- XTAL0_LOST (R293): XTAL0 stops in service; the root holds over and LOCKOUT is raised. -/
  | xtal0Lost
  /-- ROOT_UNLOCK (R293): The root loses lock in service; hold-over and LOCKOUT. -/
  | rootUnlock
  /-- XTAL1_CHECK (R294): Every second XTAL1 is checked against SLOW. -/
  | xtal1Check (ok : Bool)
  /-- CLOCK_METER_DONE (R295): A clock meter gate completes and sets DONE and COUNT. -/
  | clockMeterDone (count : Nat)
  /-- RAIL_JUDGEMENT (R299): Every 50 µs local rails are judged on their mean conversions. -/
  | railJudgement (pins : List (Nat × Rat))
  /-- PMBUS_POLL (R300): A PMBus page is polled for voltage and status. -/
  | pmbusPoll (device : Nat) (page : Nat) (answer : Option (Nat × Nat))
  /-- PMB_ALERT (R300): PMB_ALERT_N causes every configured page's status to be read. -/
  | pmbAlert (reads : List (Nat × Nat × Option Nat))
  /-- RAIL_ENABLE (R304): A startable rail is enabled after its parents' on_delay. -/
  | railEnable (ready : List Nat)
  /-- RISE_TIMEOUT (R305): A rail still RISING at its rise_timeout fails. -/
  | riseTimeout (rail : Nat)
  /-- FALL_TIMEOUT (R306): A rail not fallen within fall_timeout is counted OFF with a fault. -/
  | fallTimeout (rail : Nat)
  /-- OFF_DELAY_EXPIRY (R307): A fall-back rail counts as OFF off_delay after its disable. -/
  | offDelayExpiry (rail : Nat)
  /-- RESET_OUTPUT_RELEASE (R308): A reset output is released after its rails are GOOD for STRETCH. -/
  | resetOutputRelease (output : Nat)
  /-- PFW_N (R309): A recognised power-fail warning runs the irrevocable power-fail sequence. -/
  | pfwN
  /-- POWER_FAIL_RESET (R310): A device still powered resets after PFW_N has been high for 100 ms. -/
  | powerFailReset
  /-- ADC_REFERENCE_CHECK (R312): The internal reference channel outside ±2% for 1 s raises an ADC fault. -/
  | adcReferenceCheck
  /-- THERMAL_EVALUATE (R315): Every 1 ms every thermal source is evaluated against its stages. -/
  | thermalEvaluate (die : List Int) (td : List (Option Int))
  /-- THERMAL_STAGE_EXIT (R315): A source's resume timer runs out and it leaves a stage. -/
  | thermalStageExit (source : Nat) (stage : Nat)
  /-- SLOW_STEP (R317): Every 30 s in the slow stage the named speed is reduced by 0.8. -/
  | slowStep (source : Nat)
  /-- DIE_TRIP_COMPARATOR (R319): An on-die comparator at 108 °C darkens lanes and drops LASER_EN. -/
  | dieTripComparator (sensor : Nat) (reading : Int)
  /-- SENSOR_STUCK (R316): A raw reading unchanged for 10 s makes the sensor broken. -/
  | sensorStuck (source : Nat)
  /-- FAULT_RECORD_CLOSE (R329): A record with no merge for 1 s after its test and reaction closes. -/
  | faultRecordClose (entry : Nat)
  /-- SELF_TEST_TIMEOUT (R326): A targeted self-test exceeding its limit fails. -/
  | selfTestTimeout (entry : Nat)
  /-- CORE_WATCHDOG_EXPIRY (R336): A core watchdog expires; a CORE_STALL record opens and the core restarts. -/
  | coreWatchdogExpiry (core : Nat)
  /-- CORE_STALL_ESCALATION (R336): A core not servicing its watchdog within 1 s raises CORE_STALL to class 4. -/
  | coreStallEscalation (core : Nat)
  /-- ALIVE_TOGGLE (R335): Every 500 µs ALIVE toggles while no class 3 or 4 record is active. -/
  | aliveToggle (serviced : List Nat)
  /-- MIRROR_FRAME (R345): A valid mirror frame from the peer is applied. -/
  | mirrorFrame (flags : BitVec 8) (cyc : Nat) (seq : Nat) (claimIn : Bool) (alive : Bool) (secs : List MirrorSec)
  /-- HELLO (R343): A HELLO exchange on ML forms the pair and starts the snapshot. -/
  | hello (slot : Nat) (digest : Nat) (version : Nat) (claimIn : Bool)
  /-- SYNC_TIMEOUT (R343): SYNCED not reached within SYNC_LIMIT restarts from HELLO. -/
  | syncTimeout
  /-- BOOT_CLAIM (R342): After the ring is ready, a pair member claims if unopposed, slot 1 after BOOT_WAIT. -/
  | bootClaim (claimIn : Bool)
  /-- CLAIM (R347): Three missing mirror frames with CLAIM_IN deasserted make the standby claim. -/
  | claim (claimIn : Bool) (alive : Bool)
  /-- CLAIM_CONFLICT (R348): Both claims asserted; slot 1 deasserts and returns to standby. -/
  | claimConflict
  /-- GALLERY_FLUSH (R363): The gallery buffer is flushed to MRAM each second or on a trigger. -/
  | galleryFlush
  /-- CHALLENGE_EXPIRY (R374): A challenge expires after 60 s. -/
  | challengeExpiry
  /-- GRANT_EXPIRY (R375): An unused grant expires after 10 s. -/
  | grantExpiry
  /-- AUTH_BACKOFF_END (R375): The 60 s ticket backoff ends. -/
  | authBackoffEnd
  /-- CAL_STORE_WRITE_COMPLETE (R379): A calibration slot write completes and coalesced updates follow. -/
  | calStoreWriteComplete
  /-- CONFIG_SLOT_WRITE_COMPLETE (R33): A configuration slot write completes and an unbound set takes effect at once. -/
  | configSlotWriteComplete
  /-- BOOT_IMAGE_CHECK (R377): The boot ROM reads, verifies and measures the QSPI images. -/
  | bootImageCheck (slots : List (Option (Nat × Bool)))
  /-- FIRMWARE_START (R450): Firmware starts the mailbox and fault collector and loads configuration, calibration and ledger tail. -/
  | firmwareStart (keysOk : Bool) (claimIn : Bool)
  /-- RUN_DWELL_END (R453): The 25 in/s dwell ends on locks or after 2 s. -/
  | runDwellEnd
  /-- KEY_SCAN (R428): Each 1 ms matrix scan debounces keys and posts changes. -/
  | keyScan (down : BitVec 64)
  /-- TOUCH_INTERRUPT (R430): A PNL_INT_N falling edge reads the touch report. -/
  | touchInterrupt (report : Option (List Byte))
  /-- TOUCH_STUCK (R430): PNL_INT_N low for 100 ms after a read raises TOUCH_STUCK. -/
  | touchStuck
  /-- LED_PWM_STEP (R429): One PWM step of 19.53 µs shifts the LED chain. -/
  | ledPwmStep
  /-- USB_ATTACH (R431): A device attaches at the token port and is enumerated. -/
  | usbAttach (vendor : Nat) (product : Nat) (ccid : Bool)
  /-- USB_DETACH (R431): A device detaches from the token port. -/
  | usbDetach
  /-- USB_OVER_CURRENT (R431): USB_OC_N low for 1 ms removes VBUS. -/
  | usbOverCurrent
  /-- VBUS_RESTORE (R431): VBUS is restored 1 s after USB_OC_N rises. -/
  | vbusRestore
  /-- MAINTENANCE_START (R407): The scheduler starts a due activity at a quiet window. -/
  | maintenanceStart (activity : Nat) (scope : Handle)
  /-- MAINTENANCE_COMPLETE (R407): A maintenance activity completes and its count resets. -/
  | maintenanceComplete (activity : Nat) (scope : Handle) (pass : Bool) (stagger : List Nat) (scanStart : Nat) (sosOff : Int)
  /-- FAN_OUT_STEP_DELAY (R28): After a child reaches READY or DEGRADED in a group fan-out, the child's step_delay runs out and the next child is started. -/
  | fanOutStepDelay (root : Handle) (child : Handle)
  /-- FAN_OUT_STEP_TIMEOUT (R28): A child that has not reached READY or DEGRADED, or reported off, within its step_timeout stops the enable fan-out with TIMEOUT or is marked FAULTED on disable. -/
  | fanOutStepTimeout (root : Handle) (child : Handle)
  /-- LANE_PLL_LOCK_TIMEOUT (R287): A lane PLL not locked 1 ms after enable is reset and re-enabled, up to 3 times, then left down with a class 2 or 3 fault. -/
  | lanePllLockTimeout (pll : Nat)
  /-- SYNTH_REFERENCE_CYCLE (R145): Every 10 ns reference cycle each pixel synthesiser updates its accumulator, phase error, integrator, fine code and sweep phase. -/
  | synthReferenceCycle (station : Nat) (dco : Rat)
  /-- AER_ERROR (R120): A PCIe AER error message arrives at a spool root port and is logged as a class 0 note against the port. -/
  | aerError (port : Nat)
  /-- MAINTENANCE_COUNT_TICK (R407): An activity counted in seconds or hours advances its count and may become due or urgent, for example SPOOL_SCRUB 24 h after its last pass. -/
  | maintenanceCountTick (activity : Nat) (scope : Handle)
  /-- QUIET_WINDOW_TIMEOUT (R409): MNT_START returns TIMEOUT when no quiet window has occurred within 10 s. -/
  | quietWindowTimeout (activity : Nat) (scope : Handle)
  /-- TOKEN_SIGN_TIMEOUT (R411): AUTH_TOKEN_SIGN returns TIMEOUT when no token is present or no signature has arrived within 30 s. -/
  | tokenSignTimeout
  /-- DEVICE_RESET (R413): 1 ms after PWR_RESET has sent its response, the device resets as for PORST_N. -/
  | deviceReset
  /-- BUZZER_DURATION_END (R413): The buzzer started by PNL_BUZZER is driven low when its duration runs out. -/
  | buzzerDurationEnd
  /-- TOUCH_INTERRUPT_RELEASE (R430): PNL_INT_N rises after TOUCH_STUCK and the line is watched again. -/
  | touchInterruptRelease
  deriving DecidableEq, Repr

end Sys2Proof
end

