-- ==== Sys2Proof/Decode.lean ====
section
/-! DEFINITION. The commands that a word spells by the opcode table's bits. -/

namespace Sys2Proof

/-- The opcode table gives none of its rows any bits (every row's `fields` is empty), so no word spells a command:
mailbox messages and events reach the block as constructors of `Instr` (log entry 5). -/
def decodeTableWord (_nbits _w : Nat) : Option Instr := none

end Sys2Proof
end

