-- ==== Sys2Proof/Machine/Float.lean ====
section
/-! DEFINITION. IEEE 754 binary32 values as exact rationals, and rounding to nearest, ties to even (13). -/

namespace Sys2Proof.Machine

open Sys2Proof

/-- Two to an integer power. -/
def pow2 (e : Int) : Rat := if 0 ≤ e then ((2 ^ e.toNat : Nat) : Rat) else 1 / ((2 ^ (-e).toNat : Nat) : Rat)

/-- The value is a number, not an infinity and not a NaN. -/
def f32Finite (x : F32) : Bool := (x.toNat / 2 ^ 23) % 256 != 255

/-- The value of a finite pattern. -/
def f32Rat (x : F32) : Rat :=
  let n : Nat := x.toNat
  let e : Nat := (n / 2 ^ 23) % 256
  let m : Nat := n % 2 ^ 23
  let a : Rat := if e = 0 then (m : Rat) * pow2 (-149) else ((m + 2 ^ 23 : Nat) : Rat) * pow2 ((e : Int) - 150)
  if n / 2 ^ 31 = 1 then -a else a

/-- Nearest integer to a non-negative fraction, ties to even. -/
def roundEven (q : Rat) : Nat :=
  let n : Nat := q.num.toNat / q.den
  let r := q - (n : Rat)
  if r < 1 / 2 then n else if 1 / 2 < r then n + 1 else if n % 2 = 0 then n else n + 1

/-- The pattern nearest a rational, ties to even; beyond the range, an infinity. -/
def f32OfRat (q : Rat) : F32 :=
  if q = 0 then 0#32
  else
    let a := if q < 0 then -q else q
    let e0 : Int := (Nat.log2 a.num.toNat : Int) - (Nat.log2 a.den : Int)
    let e1 := if a < pow2 e0 then e0 - 1 else e0
    let e := if e1 < -126 then -126 else e1
    let m : Nat := roundEven (a / pow2 (e - 23))
    let bits : Nat := (e + 126).toNat * 2 ^ 23 + m
    let bits : Nat := if 0x7F800000 ≤ bits then 0x7F800000 else bits
    BitVec.ofNat 32 (if q < 0 then 2 ^ 31 + bits else bits)

/-- A signed Q16.16 pattern as a rational. -/
def q16 (n : Nat) : Rat := ((BitVec.ofNat 32 n).toInt : Rat) / 65536

/-- Nearest integer, halves away from zero. -/
def roundHalf (q : Rat) : Int := if q < 0 then -((-q + 1 / 2).floor) else (q + 1 / 2).floor

/-- Limits a value to a range. -/
def clampRat (lo hi x : Rat) : Rat := if x < lo then lo else if hi < x then hi else x

end Sys2Proof.Machine
end

