-- ==== Sys2Proof/Config.lean ====
section
/-! DEFINITION. What the spec leaves to the implementation or to an external standard: constants without a body, so
that nothing can be proved of their values. -/

namespace Sys2Proof

/-- The `n`-th free value of a run: whatever the spec leaves open when it is drawn (log entry 3). -/
opaque Config.free : Nat → Nat

/-- SHA-256 of a byte string (an external standard, log entry 7). -/
opaque Config.sha256 : List Byte → BitVec 256

/-- SHA-256 of a configuration set, given its listed block bytes and its unit descriptors; the spec does not lay out
the serialised set (R401, log entry 7). -/
opaque Config.setSha : List (Nat × Byte) → List Byte → BitVec 256

/-- ECDSA P-256 verification: public key, digest, r, s (R374, log entry 7). -/
opaque Config.ecdsaVerify : Nat → Nat → Nat → Nat → Bool

/-- The attestation signature of a digest under the device identity key, r then s (R366, log entry 7). -/
opaque Config.ecdsaSign : Nat → Nat × Nat

/-- The job key unwrapped from the 32-byte key field with a public key (R423, log entry 7). -/
opaque Config.unwrapKey : Nat → List Byte → Nat

/-- AES-256-GCM: key, IV, additional data, ciphertext, tag; the plaintext when the tag holds (R422, log entry 7). -/
opaque Config.gcmOpen : Nat → List Byte → List Byte → List Byte → List Byte → Option (List Byte)

/-- The device serial in the device identity (R417). -/
opaque Config.deviceSerial : BitVec 64

/-- The firmware version that DIAG_BOOT reports (R413). -/
opaque Config.firmwareVersion : BitVec 32

/-- The cosine of an angle in radians, exact (log entry 8). -/
opaque Config.cos : Rat → Rat

/-- The sine of an angle in radians, exact (log entry 8). -/
opaque Config.sin : Rat → Rat

/-- The angle of a vector, x then y, in radians (log entry 8). -/
opaque Config.atan2 : Rat → Rat → Rat

/-- The square root, exact (log entry 8). -/
opaque Config.sqrt : Rat → Rat

/-- The cycloidal shape s(τ) of R210, and its first and second integrals from 0 to τ, exact (log entry 8). -/
opaque Config.cycloid : Rat → Rat × Rat × Rat

/-- A constant of a motor axis that no configuration block carries (log entry 9): axis, then which constant. -/
opaque Config.axisGain : Nat → Nat → Rat

/-- The motor model's prediction of the phase currents of the next period, A, from an axis's phase currents, the
voltage vector applied and the electrical speed; the spec names the model without laying it out (R233, log entry 9). -/
opaque Config.currentModel : Nat → List Rat → Rat × Rat → Rat → List Rat

/-- The emitter that lights the SOS crossing of a station; the spec names the header field and no rule for it
(Table 08-6, log entry 154). -/
opaque Config.sosEmitter : Nat → Fin 36

/-- AES-256-XTS of IEEE 1619 on one data unit: key, tweak, plain bytes (R135). The spec names the standard and does not
restate it. -/
opaque Config.xts : BitVec 512 → BitVec 128 → List Byte → List Byte

end Sys2Proof
end

