-- ==== Sys2Proof/Machine/State.lean ====
section
/-! DEFINITION. The state of the block: every register, table, record, counter, mode and pin the spec gives it, as
plain data, and the queue of waiting commands. -/

namespace Sys2Proof.Machine

/-- Status codes of a response (R385, Table 20-3). -/
inductive Status where
  | ok | busy | conflict | noUnit | staleHandle | badVersion | notAuthorised | noPrevious | refusedFull
  | overlapDenied | timeout | range | notInGap
  deriving DecidableEq, Repr


/-- one root clock domain (R286, R288; 14_clocks.md) -/
structure Domain where
  /-- source is the root (else FOSC) (R286,R288 Table 14-4) -/
  onRoot : Bool := false
  /-- divider on the ladder; 0 while the domain is stopped (R288) -/
  div : Nat := 0
  /-- divider the staircase is moving toward (R288) -/
  target : Nat := 0
  deriving DecidableEq, Repr

/-- a lane PLL: host, mirror, spool, ring (R287) -/
structure Pll where
  /-- re-enables so far, at most 3 (R287) -/
  tries : Nat := 0
  /-- left down after 3 retries (R287) -/
  down : Bool := false
  deriving DecidableEq, Repr

/-- clocks and the two running counters (14_clocks.md) -/
structure Clk where
  /-- consecutive failed FOSC checks (R289) -/
  foscFails : Nat := 0
  /-- FOSC within 20% of 200 MHz (R289) -/
  foscGood : Bool := false
  /-- XTAL0 enabled (R290) -/
  xtalOn : Bool := false
  /-- consecutive meter 0 gates from 115 to 141 (R290) -/
  xtalGates : Nat := 0
  /-- XTAL0 declared oscillating (R290) -/
  xtalGood : Bool := false
  /-- failed root lock attempts (R291) -/
  rootTries : Nat := 0
  /-- root ADPLL locked (R285,R291) -/
  rootLocked : Bool := false
  /-- root holds over after a failure in service (R293) -/
  holdOver : Bool := false
  /-- the seven domains by number 0 SLOW 1 PERI 2 CTRL 3 FABRIC 4 CORE 5 RING 6 CODEC, stopped at reset (R286,R288) -/
  domains : KV Domain := []
  /-- boot staircase finished, Table 14-2 in force (R291) -/
  stairDone : Bool := false
  /-- XTAL1 failed, operating seconds on SLOW (R294) -/
  xtal1Fail : Bool := false
  /-- operating seconds, 40 bits, MRAM (R5,R294) -/
  opSec : Nat := 0
  /-- power-cycle count, 32 bits saturating, MRAM (R5,R310) -/
  powerCycle : Nat := 0
  /-- lane PLLs 0 host 1 mirror 2 spool 3 ring (R287) -/
  plls : KV Pll := []
  /-- clock meter 1 control word (R295 Table 14-6) -/
  meterWord : BitVec 32 := 0x0A020000#32
  /-- meter 1 COUNT (R295) -/
  meterCount : BitVec 32 := 0#32
  /-- a meter 1 measurement runs (R295) -/
  meterBusy : Bool := false
  deriving DecidableEq, Repr

/-- reset, straps, boot ROM outcome, output pins driven by reset logic (20, 23, 24) -/
structure Boot where
  /-- PORST_N asserted: the state right after reset (R435,R438) -/
  porst : Bool := true
  /-- BOOT_STATUS STAGE (R395 Table 20-7) -/
  stage : Stage := .rom
  /-- BOOT_STATUS CAUSE (Table 20-7) -/
  cause : BitVec 4 := 0#4
  /-- BOOT_STATUS SLOT, 0 or 1 (Table 20-7) -/
  imageSlot : Nat := 0
  /-- BOOT_STATUS REFUSED (Table 20-7) -/
  refused : BitVec 16 := 0#16
  /-- sampled PAIR_SLOT strap (R436) -/
  pairSlot : Nat := 0
  /-- sampled BOOT_MODE strap, 0-3 (R436) -/
  bootMode : Nat := 0
  /-- SHA-256 of the image accepted or running (R377,R413) -/
  imageDigest : Nat := 0
  /-- PWR_RESET accepted, DEVICE_RESET comes 1 ms later (R413) -/
  resetDue : Bool := false
  /-- power-fail sequence recognised and not revocable (R309) -/
  pfail : Bool := false
  /-- fault collector started: ALIVE and FAULT_N are driven (R335) -/
  aliveOn : Bool := false
  /-- ALIVE pin level (R335,R435) -/
  alive : Bool := false
  /-- FAULT_N pin level, low after reset (R335,R435) -/
  faultN : Bool := false
  /-- LASER_EN0 pin (R183,R435) -/
  laserEn0 : Bool := false
  /-- LASER_EN1 pin (R183,R435) -/
  laserEn1 : Bool := false
  deriving DecidableEq, Repr

/-- an outstanding tag (R391) -/
structure Outst where
  /-- tag (R391) -/
  tag : Nat := 0
  /-- the command's parts as received (R391) -/
  parts : List Msg := []
  deriving DecidableEq, Repr

/-- a command answered within the last second (R391) -/
structure Answered where
  /-- the command's parts (R391) -/
  parts : List Msg := []
  /-- its response (R391) -/
  resp : List Msg := []
  /-- path it arrived on (R389) -/
  path : Path := .spi
  /-- operating second of the answer (R391) -/
  sec : Nat := 0
  deriving DecidableEq, Repr

/-- a started command whose response waits for its end (R392, R399) -/
structure Waiter where
  /-- opcode (R392) -/
  op : Nat := 0
  /-- the command (R392) -/
  cmd : Cmd := {}
  deriving DecidableEq, Repr

/-- mailbox rings, indices and management SPI registers (20) -/
structure Mbx where
  /-- firmware has started its mailbox (R395,R396) -/
  live : Bool := false
  /-- inbound ring entries waiting to start, at most 64 (R386,R387) -/
  inRing : List (Path × Msg) := []
  /-- IN_PROD (R396 Table 20-10) -/
  inProd : BitVec 16 := 0#16
  /-- IN_CONS (R396) -/
  inCons : BitVec 16 := 0#16
  /-- outbound ring, at most 64 (R386) -/
  outRing : List Msg := []
  /-- OUT_PROD (R396) -/
  outProd : BitVec 16 := 0#16
  /-- OUT_CONS (R396) -/
  outCons : BitVec 16 := 0#16
  /-- event ring, at most 128 (R386,R388) -/
  evtRing : List Msg := []
  /-- EVT_PROD (R396) -/
  evtProd : BitVec 16 := 0#16
  /-- EVT_CONS (R396) -/
  evtCons : BitVec 16 := 0#16
  /-- bytes of the inbound ring window 0x1000-0x1FFF (R395) -/
  inWin : List Host.Cell := []
  /-- MBX_CTRL (Table 20-8) -/
  ctrl : BitVec 32 := 0#32
  /-- MBX_STATUS SPI_ERR (Table 20-9) -/
  spiErr : Bool := false
  /-- outstanding tags (R391) -/
  outstanding : List Outst := []
  /-- answered commands kept for 1 s (R391) -/
  answered : List Answered := []
  /-- per-tag store of responses waiting for an outbound slot, parts in completion order (R387) -/
  waiting : List Msg := []
  /-- host-link responses held to fill a datagram, with their destination (R425) -/
  held : List (Nat × Msg) := []
  /-- seq of the previous command message (R391) -/
  lastSeq : Option Nat := none
  /-- events not stored since the last OVERFLOW (R388) -/
  evtLost : Nat := 0
  /-- the device's running event count (R383) -/
  evtCount : Nat := 0
  /-- commands that respond at end (R392,R399) -/
  waiters : List Waiter := []
  deriving DecidableEq, Repr

/-- an MRAM set slot (R35) -/
structure SetSlot where
  /-- header version (R35) -/
  version : Nat := 0
  /-- header state (R35) -/
  state : SlotState := .empty
  /-- CRC-32C of the payload; that of the empty payload is 0 (R35) -/
  crc : Nat := 0
  /-- payload (R35) -/
  set : CfgSet := {}
  deriving DecidableEq, Repr

/-- configuration sets (02) -/
structure Cfg where
  /-- current set: the default set on a new device (R36) -/
  cur : CfgSet := {}
  /-- current version (R36) -/
  curVer : Nat := 0
  /-- previous version and set (R36) -/
  prev : Option (Nat × CfgSet) := none
  /-- pending commit or revert (R33) -/
  pend : Option Pend := none
  /-- staged set (R32) -/
  staged : Option CfgSet := none
  /-- highest version ever consumed, MRAM (R34,R36) -/
  highVer : Nat := 0
  /-- MRAM slot A (R35) -/
  slotA : SetSlot := {}
  /-- MRAM slot B (R35) -/
  slotB : SetSlot := {}
  /-- the current set stands in slot B (R35) -/
  slotIsB : Bool := false
  /-- a slot write is in progress (R33,R35) -/
  writing : Bool := false
  /-- ACTIVE copy: live lane of a station when it differs from the current set (forced removal or switched early) (R112,R114) -/
  routeLane : KV (Option Nat) := []
  /-- PENDING copy held: stations that have already switched (R112) -/
  routePend : Option (List Nat) := none
  deriving DecidableEq, Repr

/-- live values of a unit (R27, Table 02-3) -/
structure LiveUnit where
  /-- state (R27) -/
  st : UnitState := .disabled
  /-- highest active fault class (Table 02-3) -/
  cls : Nat := 0
  /-- COVERED flag (R27) -/
  covered : Bool := false
  deriving DecidableEq, Repr

/-- a running fan-out (R28) -/
structure FanOut where
  /-- unit addressed (R28) -/
  root : Handle := 0#16
  /-- reverse fan-out (R28) -/
  disable : Bool := false
  /-- units still to step, in order (R28) -/
  todo : List Handle := []
  /-- units stepped, latest first (R28) -/
  done : List Handle := []
  /-- unit whose step is open (R28) -/
  cur : Option Handle := none
  /-- the enable failed and is being undone (R28) -/
  undo : Bool := false
  deriving DecidableEq, Repr

/-- live unit table (02) -/
structure Units where
  /-- live values by INDEX (R27) -/
  live : KV LiveUnit := []
  /-- generation an INDEX takes at its next use (R24) -/
  gens : KV Nat := []
  /-- entries freed since boot, least recently freed first (R24) -/
  freed : List Nat := []
  /-- lowest INDEX of the boot queue not yet taken (R24,R36) -/
  fresh : Nat := 32
  /-- running fan-outs (R28,R29) -/
  fans : List FanOut := []
  deriving DecidableEq, Repr

/-- a submitted job (R403) -/
structure Job where
  /-- job_id (Table 21-7) -/
  id : Nat := 0
  /-- frame_count (Table 21-7) -/
  count : Nat := 0
  /-- layers used (Table 21-7) -/
  layers : BitVec 16 := 0#16
  /-- gap_bands (R41) -/
  gapBands : Nat := 2
  /-- policy SLOW, else GAP (R55) -/
  slow : Bool := false
  /-- emitter policy SPOILED, else DEGRADED (R199) -/
  spoilPolicy : Bool := false
  /-- SECURE (R17) -/
  secure : Bool := false
  /-- ENCRYPTED (R422) -/
  encrypted : Bool := false
  /-- 0.5 in/s units, 0 none (Table 21-7) -/
  maxSpeed : Nat := 0
  /-- gap_limit (R56) -/
  gapLimit : Nat := 16
  /-- the unwrapped job key, SRAM only (R423) -/
  key : Nat := 0
  /-- state (R403) -/
  state : JobState := .queued
  /-- next frame_index to attempt (R403) -/
  next : Nat := 0
  /-- consecutive GAP records of the next frame (R56) -/
  gapRun : Nat := 0
  /-- GAP records (Table 21-8) -/
  gaps : Nat := 0
  /-- frames admitted (Table 21-8) -/
  admitted : Nat := 0
  /-- frames closed (Table 21-8) -/
  closed : Nat := 0
  /-- first frame entry of its directory run (R130) -/
  base : Nat := 0
  deriving DecidableEq, Repr

/-- A prepared flight plan (R57). -/
structure FlightPlan where
  /-- job_id -/
  job : Nat := 0
  /-- frame_index -/
  frame : Nat := 0
  /-- the landing it is prepared for -/
  landing : Int := 0
  /-- the profile it is prepared against -/
  profile : List Seg := []
  deriving DecidableEq, Repr

/-- landing machine and press state (01, 03) -/
structure Land where
  /-- the press comes up in THREAD (R17,R452) -/
  mode : PressMode := .thread
  /-- REDUCED overlay (R19) -/
  reduced : Bool := false
  /-- REDUCED transition requested (R19,R200) -/
  reducedReq : Bool := false
  /-- next landing position, none before a landing sequence runs (R43) -/
  next : Option Int := none
  /-- next frame serial, MRAM (R44) -/
  nextSerial : Nat := 1
  /-- frames in flight, oldest first (R44) -/
  flights : List Flight := []
  /-- prepared flight plans, up to two landings ahead (R57) -/
  plans : List FlightPlan := []
  /-- mode-change or handover drain: no frame admitted (R18,R357) -/
  drain : Bool := false
  /-- mode that a drained commit brings (R18) -/
  modeNext : Option PressMode := none
  /-- the mode has changed and its ramp is not planned yet (R18) -/
  rampWait : Bool := false
  /-- what is stopping the press (R324,R404) -/
  stopReq : HoldSrc := .none
  /-- run sequence (R453) -/
  run : RunStep := .none
  /-- no unacknowledged LEDGER_LOST of this boot (R371) -/
  ledgerLostAck : Bool := true
  deriving DecidableEq, Repr

/-- throughput governor (01, 03, 10) -/
structure Gov where
  /-- segment in force (R210) -/
  seg : Seg := {}
  /-- segments planned after it (R210) -/
  after : List Seg := []
  /-- planned speed now, in/s: at rest (R452) -/
  speed : Rat := 0
  /-- planned acceleration now, in/s2 (R210) -/
  accel : Rat := 0
  /-- planned target, in/s (R58) -/
  target : Rat := 0
  /-- slow requests by source (thermal source n, 1000 job, 1001 reduced, 1002 maintenance) and named speed (R16,R317) -/
  reqs : List (Nat × Rat) := []
  /-- a planned descent to rest or jog runs (R20,R324) -/
  stopping : Bool := false
  /-- the speed that descent ends at: 0 or the jog speed (R404) -/
  restAt : Rat := 0
  /-- jog speed, in/s (R404) -/
  jog : Rat := 0
  /-- jog distance left, 1/256 ln (R404) -/
  jogLeft : Option Int := none
  /-- web following error beyond its limit (R212) -/
  webOver : Bool := false
  /-- profile position, ln (R212) -/
  profPos : Rat := 0
  deriving DecidableEq, Repr

/-- band identity (R98) -/
structure BandId where
  /-- job_id (R98) -/
  job : Nat := 0
  /-- layer (R98) -/
  layer : Nat := 0
  /-- frame_index (R98) -/
  frame : Nat := 0
  /-- band_index (R98) -/
  band : Nat := 0
  deriving DecidableEq, Repr

/-- a band in host ingest staging (R97, R421) -/
structure Staged where
  /-- identity (R98) -/
  id : BandId := {}
  /-- band_length of its first fragment (R421) -/
  length : Nat := 0
  /-- seq (R420) -/
  seq : Nat := 0
  /-- accepted fragments by offset (R421) -/
  frags : List (Nat × List Byte) := []
  /-- passed the ingest checks and awaits its extent (R88,R133) -/
  checked : Bool := false
  /-- the host lane its last byte arrived on (R98) -/
  lane : Nat := 0
  /-- first spool page once allocated (R133) -/
  first : Option Nat := none
  deriving DecidableEq, Repr

/-- host ingest (05, 22) -/
structure Ingest where
  /-- bands in staging, arrival order (R97) -/
  bands : List Staged := []
  /-- credit returned since the epoch began (R424) -/
  returned : Nat := 0
  /-- reservations started in the epoch (R424) -/
  used : Nat := 0
  /-- ring cycle at which a lane last carried band data (R424) -/
  lanes : KV Nat := []
  /-- SPOOL_FULL posted for this episode (R133) -/
  fullEpisode : Bool := false
  /-- second of the last JOB_MISMATCH report per identity (R421) -/
  rejSec : List (BandId × Nat) := []
  deriving DecidableEq, Repr

/-- host link (22) -/
structure HostL where
  /-- block lock per lane; not reported lost counts as up once enabled (R416) -/
  up : KV Bool := []
  /-- upstream datagram count (R426) -/
  dseq : Nat := 0
  deriving DecidableEq, Repr

/-- frame directory entry (R130 Table 06-6) -/
structure FrameEnt where
  /-- job_id (Table 06-6) -/
  job : Nat := 0
  /-- frame_index (Table 06-6) -/
  frame : Nat := 0
  /-- its place in the directory: the job's base plus frame_index (R130) -/
  index : Nat := 0
  /-- frame_bands, 0 until the first band passes ingest (Table 06-6) -/
  bands : Nat := 0
  /-- gap_bands (Table 06-6) -/
  gapBands : Nat := 2
  /-- layers (Table 06-6) -/
  layers : BitVec 16 := 0#16
  /-- flags SECURE (Table 06-6) -/
  secure : Bool := false
  /-- desc_page: spool page of its first descriptor page, none until the run is allocated (R131) -/
  descPage : Option Nat := none
  /-- frame CLOSED: its bands are freed (R134) -/
  closed : Bool := false
  deriving DecidableEq, Repr

/-- band descriptor (R131 Table 06-7) and the extent's contents -/
structure BandDesc where
  /-- identity (Table 06-7) -/
  id : BandId := {}
  /-- first spool page (Table 06-7) -/
  first : Nat := 0
  /-- the band's bytes on the spool (R132) -/
  data : List Byte := []
  /-- seq (Table 06-7) -/
  seq : Nat := 0
  /-- PRESENT (R132) -/
  present : Bool := false
  /-- LOST (R138) -/
  lost : Bool := false
  deriving DecidableEq, Repr

/-- An NVMe command of a member: waiting, a run of pages of any length; outstanding, one command (R124, R125). -/
structure NvmeCmd where
  /-- what it is for -/
  op : NvmeOp := .read
  /-- the band concerned -/
  id : BandId := {}
  /-- first local page -/
  page : Nat := 0
  /-- local pages -/
  pages : Nat := 1
  /-- deadline of a flight read, newel position (R137) -/
  key : Int := 0
  /-- the plain bytes of a page written, but for bands -/
  data : List Byte := []
  deriving DecidableEq, Repr

/-- a spool member: an NVMe controller in use (R122, R136, R138) -/
structure Member where
  /-- root port (R122) -/
  port : Nat := 0
  /-- measured bandwidth, MB/s (R136) -/
  bw : Nat := 0
  /-- value measured at mount, MB/s (R136) -/
  mountBw : Nat := 0
  /-- last saturated windows' rates, newest first, at most 3 (R136) -/
  windows : List Nat := []
  /-- lost, recovery running (R138) -/
  lost : Bool := false
  /-- recovery attempts made (R138) -/
  tries : Nat := 0
  /-- retired (R138) -/
  gone : Bool := false
  /-- SMART read-only media (R138) -/
  readOnly : Bool := false
  /-- consecutive command timeouts (R138) -/
  timeouts : Nat := 0
  /-- usable local pages (R126) -/
  usable : Nat := 0
  /-- LBA data size (R123) -/
  lba : Nat := 4096
  /-- I/O queue pair 1: its entries (R124) -/
  entries : Nat := 1024
  /-- commands that wait, in the order they were asked for (R137) -/
  queue : List NvmeCmd := []
  /-- commands outstanding, at most 64 (R124) -/
  out : List NvmeCmd := []
  /-- bytes of the Reads completed in the window or bench read under way (R136) -/
  readBytes : Nat := 0
  /-- at least 16 reads outstanding since the window began (R136) -/
  sat : Bool := false
  /-- the recovery attempt under way has come to its secondary bus reset (R138) -/
  busReset : Bool := false
  deriving DecidableEq, Repr

/-- superblock fields (R127 Table 06-4) -/
structure Superblock where
  /-- generation (R128) -/
  generation : Nat := 0
  /-- spool_id (R127) -/
  spoolId : Nat := 0
  /-- member index (R127) -/
  member : Nat := 0
  /-- K (R127) -/
  width : Nat := 0
  /-- MOUNTED flag (R132) -/
  mounted : Bool := false
  /-- 0.1 % units, default 1 % (R126) -/
  ledgerShare : Nat := 10
  /-- striped local pages per member (R126) -/
  memberPages : Nat := 0
  /-- key_check (R127) -/
  keyCheck : Nat := 0
  /-- bad_pages (R127) -/
  bad : List Nat := []
  deriving DecidableEq, Repr

/-- What the scrub reads now: a band, a directory page or a ledger page (R139). -/
structure Scrub where
  /-- first spool page -/
  first : Nat := 0
  /-- spool pages -/
  pages : Nat := 1
  /-- the band, none for a directory or ledger page -/
  id : Option BandId := none
  /-- a Read has ended with an error -/
  bad : Bool := false
  /-- bytes that read otherwise than written -/
  diff : List (Nat × Nat) := []
  /-- read once more already -/
  again : Bool := false
  deriving DecidableEq, Repr

/-- spool engine (06) -/
structure Spool where
  /-- SPOOL_PERST_N asserted (R121) -/
  perst : Bool := true
  /-- port setting in force since boot, default X8 (R119) -/
  setting : Nat := 0
  /-- port up, retries made (R121) -/
  ports : KV (Bool × Nat) := []
  /-- members in order (R122) -/
  members : List Member := []
  /-- spool state (R128) -/
  state : SpoolSt := .absent
  /-- superblock in force (R127) -/
  sb : Superblock := {}
  /-- XTS key, MRAM (R135) -/
  xtsKey : BitVec 512 := 0#512
  /-- frame entries in use (R130) -/
  dir : List FrameEnt := []
  /-- band descriptors (R131) -/
  descs : List BandDesc := []
  /-- extent runs in use: first page, count (R133) -/
  usedRuns : List (Nat × Nat) := []
  /-- allocation cursor, page in the extent area (R133) -/
  cursor : Nat := 0
  /-- the directory as it stands on the spool: frame entries (R132) -/
  storedDir : List FrameEnt := []
  /-- the directory as it stands on the spool: PRESENT descriptors (R132) -/
  stored : List BandDesc := []
  /-- the free map as it stands on the spool (R132) -/
  storedRuns : List (Nat × Nat) := []
  /-- the batch under way: 0 none, 1 Flush, 2 directory pages, 3 free map pages (R132) -/
  batch : Nat := 0
  /-- what the batch under way writes (R132) -/
  batchDir : List FrameEnt := []
  /-- what the batch under way writes (R132) -/
  batchDescs : List BandDesc := []
  /-- what the batch under way writes (R132) -/
  batchRuns : List (Nat × Nat) := []
  /-- generations of superblock copies A and B (R128) -/
  sbGen : Nat × Nat := (0, 0)
  /-- the copy a superblock update writes now, and whether it is the second (R128) -/
  sbOut : Option (Nat × Bool) := none
  /-- the superblock that update writes (R128) -/
  sbWrote : Superblock := {}
  /-- a further superblock update waits (R128) -/
  sbMore : Bool := false
  /-- an orderly unmount is under way (R132) -/
  unmounting : Bool := false
  /-- bench read of the mount outstanding (R136) -/
  mounting : Bool := false
  /-- a bandwidth probe runs (R136) -/
  probing : Bool := false
  /-- a format runs: 0 none, 1 bench region, 2 directory and free map, 3 deallocation, 4 superblocks (R129) -/
  fmt : Nat := 0
  /-- scrub page position (R139,R413) -/
  scrubPos : Nat := 0
  /-- targeted re-reads outstanding (R138,R89) -/
  rereads : List BandId := []
  /-- ledger region write position (serial), MRAM (R140) -/
  regionWrite : Nat := 0
  /-- records in the ledger region (R140) -/
  regionRecs : List LedgerRec := []
  /-- the records of a ledger page whose Write is outstanding (R140) -/
  ledgerOut : List LedgerRec := []
  /-- the scrub's unit under way (R139) -/
  scrub : Option Scrub := none
  /-- a scrub pass has read every page in use (R139) -/
  scrubDone : Bool := false
  deriving DecidableEq, Repr

/-- a cell offset table of the decoder (R78, R100) -/
structure OffTab where
  /-- flight serial of its band (R100) -/
  serial : Nat := 0
  /-- its band (R100) -/
  id : BandId := {}
  /-- first payload bit of each cell, at most 12,288 entries (R78, R100) -/
  offs : List Nat := []
  deriving DecidableEq, Repr

/-- a band resident in a station's band buffer (R99, R100) -/
structure RBand where
  /-- flight serial (R99) -/
  serial : Nat := 0
  /-- identity expected by the plan (R100) -/
  id : BandId := {}
  /-- bytes as loaded (R99) -/
  data : List Byte := []
  /-- ring offset (R99) -/
  off : Nat := 0
  /-- load checks passed (R100) -/
  ok : Bool := false
  /-- decoded, failed or cancelled: its space is free once the bands before it are (R99) -/
  gone : Bool := false
  deriving DecidableEq, Repr

/-- one sweep buffer half (R9, R104) -/
structure Half where
  /-- flight whose band it holds, 0 none (R9) -/
  serial : Nat := 0
  /-- band index (R9) -/
  band : Nat := 0
  /-- W of the band written (R104) -/
  width : Nat := 0
  /-- written under TILE (R92) -/
  tile : Bool := false
  /-- decoded cells; [] is level 0 everywhere (R10,R104) -/
  cells : List (List Nat) := []
  /-- 64-bit words that read as level 0 after an uncorrectable error (R103) -/
  blank : List Nat := []
  deriving DecidableEq, Repr

/-- a latched rider command (R70, R115) -/
structure RiderL where
  /-- opcode (Table 04-6) -/
  op : Nat := 0
  /-- selector (Table 04-6) -/
  sel : Nat := 0
  /-- target handle (Table 04-6) -/
  target : Handle := 0#16
  /-- 64-bit argument (Table 04-6) -/
  arg : Nat := 0
  deriving DecidableEq, Repr

/-- identity entry of one emitter (R186) -/
structure HeadEm where
  /-- 10 uA (Table 09-1) -/
  iNom : Nat := 0
  /-- 1 mOhm (Table 09-1) -/
  rNom : Nat := 0
  /-- home slot or 0xFF (Table 09-1) -/
  home : Nat := 255
  /-- slot_mask (Table 09-1) -/
  mask : BitVec 32 := 0#32
  deriving DecidableEq, Repr

/-- an accepted head (R187) -/
structure Head where
  /-- serial (Table 09-1) -/
  serial : Nat := 0
  /-- vendor_id (Table 09-1) -/
  vendor : Nat := 0
  /-- model, 16 bytes (Table 09-1) -/
  model : List Byte := []
  /-- power bin (Table 09-1) -/
  power : Nat := 0
  /-- wavelength bin (Table 09-1) -/
  wave : Nat := 0
  /-- 36 entries (Table 09-1) -/
  ems : List HeadEm := []
  deriving DecidableEq, Repr

/-- a requested measurement (R192) -/
structure MeasReq where
  /-- emitter (R192) -/
  emitter : Nat := 0
  /-- governed sweep number (R192) -/
  sweep : BitVec 16 := 0#16
  /-- meas_tag (R192) -/
  tag : Nat := 0
  /-- first test current (R192) -/
  i1 : Nat := 0
  /-- second test current (R192) -/
  i2 : Nat := 0
  deriving DecidableEq, Repr

/-- what the emitter map and the stagger table give one beam slot (R108, R109, Table 08-6) -/
structure SlotUse where
  /-- emitter 0-35 (Table 08-6) -/
  emitter : Nat := 0
  /-- COARSE, whole pixel periods (Table 05-3) -/
  coarse : Nat := 0
  /-- FINE, 1/64 pixel period (Table 05-3) -/
  fine : Nat := 0
  deriving DecidableEq, Repr

/-- a sweep header (R171 Table 08-6); COARSE is the word former's own copy and is not sent -/
structure SweepHdr where
  /-- sweep_no of the sweep governed (Table 08-6) -/
  sweepNo : Nat := 0
  /-- m of the mark that opens it (R156 Table 08-6) -/
  m : Nat := 0
  /-- HALF (Table 08-6) -/
  half : Bool := false
  /-- MEAS with its emitter, currents and tag (R192 Table 08-6) -/
  meas : Option MeasReq := none
  /-- sos_emitter (Table 08-6) -/
  sosEm : Nat := 0
  /-- pixel_words, W_s + D (Table 08-6) -/
  pixels : Nat := 0
  /-- beam slots b0-b31; none is VALID clear (Table 08-6) -/
  map : List (Option SlotUse) := []
  deriving DecidableEq, Repr

/-- emitter supervisor of one station (09) -/
structure Ems where
  /-- state words (R189) -/
  em : KV Emitter := []
  /-- accepted head (R187) -/
  head : Option Head := none
  /-- serial of the head before (R204) -/
  prevSerial : Option Nat := none
  /-- identity bytes read so far (R186) -/
  mem : KV Byte := []
  /-- address of the identity read outstanding (R186) -/
  readAt : Option Nat := none
  /-- consecutive read errors (R187,R203) -/
  readErr : Nat := 0
  /-- a presence read is outstanding (R203) -/
  presence : Bool := false
  /-- head not accepted (R187) -/
  rejected : Bool := false
  /-- EMITTER_SURVEY runs: standing from boot (R195,R405) -/
  survey : Bool := true
  /-- emitter whose turn it is (R195) -/
  turn : Nat := 0
  /-- the survey cycle after acceptance is complete (R190) -/
  cycleDone : Bool := false
  /-- request outstanding (R192) -/
  req : Option MeasReq := none
  /-- request in the header already sent for the next sweep (R171,R192) -/
  nextReq : Option MeasReq := none
  /-- consecutive missing results (R194) -/
  missing : Nat := 0
  /-- meas_tag count (R192) -/
  tag : Nat := 0
  /-- self-test: emitter, results so far, all within the windows (R197) -/
  test : Option (Nat × Nat × Bool) := none
  /-- double interlace (R200) -/
  dbl : Bool := false
  /-- double interlace entered at the drain (R200) -/
  dblPend : Bool := false
  /-- its polygon is held for a change of interlace and not geared again yet (R200) -/
  turning : Bool := false
  /-- sweep count up to which exposures are marked (R199) -/
  markUntil : Nat := 0
  /-- new head: SOS_CALIBRATE and width tables needed (R204) -/
  calNeeded : Bool := false
  deriving DecidableEq, Repr

/-- scan timing and synthesiser of one station (07) -/
structure Rise where
  /-- LOCK (Table 07-5) -/
  lock : Bool := false
  /-- FACET_LOCK (Table 07-5) -/
  facetLock : Bool := false
  /-- SOS_OK (Table 07-5) -/
  sosOk : Bool := false
  /-- P, POSTDIV field reset 0 means 1 (Table 07-5) -/
  postdiv : Nat := 1
  /-- BAND (Table 07-5) -/
  band : Nat := 0
  /-- LOSS_COUNT (Table 07-5) -/
  lossCount : BitVec 16 := 0#16
  /-- consecutive in-window reference cycles (R146) -/
  inWin : Nat := 0
  /-- consecutive out-of-window reference cycles (R146) -/
  outWin : Nat := 0
  /-- phase accumulator, DCO cycles (R145) -/
  acc : Rat := 0
  /-- integral term i (R145) -/
  integ : Rat := 0
  /-- fine code 16 bits (R145) -/
  fine : Nat := 0
  /-- sweep phase (R145,R153) -/
  phi : Rat := 0
  /-- installed band table: 128 entries f_lo, f_hi in 4 Hz (R148) -/
  table : List (Nat × Nat) := []
  /-- calibrated table waiting for the next mark (R149,R155) -/
  tableNew : Option (List (Nat × Nat)) := none
  /-- the fine code is frozen: the lane carries IDLE words after a loss of lock (R147) -/
  frozen : Bool := false
  /-- the band table has been calibrated since boot (R149) -/
  calibrated : Bool := false
  /-- coarse bands used in this second (R150) -/
  bands : List Nat := []
  /-- sum of the integral term over this second (R150) -/
  iSum : Rat := 0
  /-- reference cycles in iSum (R150) -/
  iN : Nat := 0
  /-- seconds the integral term has been beyond 25% of a span (R150) -/
  iBeyond : Nat := 0
  /-- switch schedule: word, band, fine (R154) -/
  sched : List (Nat × Nat × Nat) := []
  /-- the next sweep's first band and switch schedule, computed in this sweep (R154) -/
  schedNext : Option (Nat × List (Nat × Nat × Nat)) := none
  /-- N_sw in force since the last mark, none before the first (R142,R155) -/
  nsw : Option Nat := none
  /-- DCO cycles counted at the last reference cycle (R145) -/
  dco : Rat := 0
  /-- index of the next word of the sweep, from the mark (R109,R169) -/
  word : Nat := 0
  /-- this sweep carries PIXEL words (R107) -/
  pixel : Bool := false
  /-- header sent in this sweep's tail (R171) -/
  hdr : Option SweepHdr := none
  /-- header that governs this sweep (R171) -/
  gov : Option SweepHdr := none
  /-- seconds from the last mark to the next (R156) -/
  period : Rat := 0
  /-- m of the next mark (R156) -/
  nextM : Nat := 0
  /-- predicted sweep rate (R156) -/
  sPred : Rat := 0
  /-- coming facet number (R156) -/
  facet : Nat := 0
  /-- facet table, 1/64 pixel period (R156) -/
  facets : KV Rat := []
  /-- newel position of the last mark, 1/256 ln units (R158) -/
  mark : Rat := 0
  /-- sweep phase m of the mark, 0-63 (R156) -/
  phase : Nat := 0
  /-- a timestamp arrived since the last mark (R157) -/
  tsSeen : Bool := true
  /-- consecutive sweeps without a good timestamp (R157) -/
  badSos : Nat := 0
  /-- consecutive sweeps with r within 1 pixel period (R157) -/
  goodSos : Nat := 0
  /-- acquisition of R160 in progress (R160) -/
  acquiring : Bool := false
  /-- the lane sends IDLE sweeps until reacquisition completes (R157,R159) -/
  reacq : Bool := false
  /-- SOS residuals of the last revolution, newest first (R156) -/
  resids : List Rat := []
  /-- consecutive sweeps within the lock window while acquiring (R160) -/
  goodFacet : Nat := 0
  /-- facet phase error, sweeps (R158) -/
  ef : Rat := 0
  /-- ef beyond the following-error limit (R159) -/
  overLim : Bool := false
  /-- registration loop trim, 1/256 ln (R161) -/
  tReg : Int := 0
  /-- rider trim, 0 after reset (R161) -/
  tRider : Int := 0
  /-- slewed total trim in force (R161) -/
  tNow : Int := 0
  /-- sweep count; its low 16 bits are sweep_no (R171) -/
  sweeps : Nat := 0
  /-- loss-of-lock self-test running (R147) -/
  testing : Bool := false
  deriving DecidableEq, Repr

/-- one station pipeline (01, 05, 07, 09) -/
structure Station where
  /-- sequence anchor job, layer, seq; empty after reset (R101) -/
  anchor : Option (Nat × Nat × Nat) := none
  /-- resident bands in consumption order (R99) -/
  buf : List RBand := []
  /-- ring offset after the last reserved band (R99) -/
  bufEnd : Nat := 0
  /-- decoder state (R100) -/
  dec : Decode := .idle
  /-- band being decoded (R9) -/
  cur : Option RBand := none
  /-- the decode reads the spoil mark band (R63) -/
  curMark : Bool := false
  /-- half being written (R9) -/
  wHalf : Half := {}
  /-- half being exposed (R9) -/
  xHalf : Half := {}
  /-- half of the band before, still read in the second sweep of double interlace (R106) -/
  pHalf : Half := {}
  /-- this is the second sweep of a band in double interlace (R105) -/
  odd : Bool := false
  /-- flight serial and band exposed in this sweep (R62,R181) -/
  expo : List (Nat × Nat) := []
  /-- cell offset tables, at most two (R100) -/
  tabs : List OffTab := []
  /-- live history (R90) -/
  hist : Hist := {}
  /-- save slot, cleared at reset (R93) -/
  save : Hist := {}
  /-- mirror copy of the save slot in progress (R94) -/
  saveCopying : Bool := false
  /-- last completed copy held by the partner (R94) -/
  peerSave : Hist := {}
  /-- latched riders (R115) -/
  riders : List RiderL := []
  /-- serial the latched riders belong to (R115) -/
  ridersFor : Nat := 0
  /-- stagger table, reset 0 (R108 Table 05-3) -/
  stagger : KV (BitVec 16) := []
  /-- scan timing (07) -/
  scan : Rise := {}
  /-- emitters (09) -/
  ems : Ems := {}
  deriving DecidableEq, Repr

/-- a forward sideband message awaiting ACK (R175) -/
structure SideMsg where
  /-- tag (R175) -/
  tag : Nat := 0
  /-- type, Table 08-8 (R175) -/
  kind : Nat := 0
  /-- payload bytes (R175) -/
  data : List Nat := []
  /-- resends made (R175) -/
  tries : Nat := 0
  deriving DecidableEq, Repr

/-- a BER test (R182) -/
structure Ber where
  /-- the one extension runs (R182) -/
  extended : Bool := false
  /-- errors reported (R182) -/
  errs : Nat := 0
  /-- errors at the extension's start (R182) -/
  base : Nat := 0
  /-- run on demand by LANE_BERT (R182) -/
  cmd : Bool := false
  /-- bits sent for comparison since the test or its extension began (R182) -/
  bits : Nat := 0
  deriving DecidableEq, Repr

/-- a beam lane (08) -/
structure Lane where
  /-- words carried; transmitters off after reset (R435) -/
  mode : LaneMode := .off
  /-- initial training complete, in service (R179) -/
  trained : Bool := false
  /-- retired (R114) -/
  retired : Bool := false
  /-- training in progress (R179) -/
  training : Bool := false
  /-- the training in progress is initial (R179) -/
  initial : Bool := true
  /-- LINK_UP received in this training (R179) -/
  linkUp : Bool := false
  /-- NO_LINK counted this episode (R179) -/
  noLinkEp : Bool := false
  /-- module number reported (R111) -/
  module : Nat := 255
  /-- module serial reported (Table 08-8) -/
  serial : Nat := 0
  /-- the driver holds committed width tables (R179) -/
  tables : Bool := false
  /-- width tables being restored (R179) -/
  restore : Bool := false
  /-- unacknowledged forward messages, at most 8 (R175) -/
  out : List SideMsg := []
  /-- forward messages waiting for a place (R175) -/
  queue : List SideMsg := []
  /-- next forward tag (R175) -/
  tag : Nat := 0
  /-- FULL width table installed, 16 entries (R174) -/
  full : List Nat := []
  /-- HALF width table installed (R174) -/
  half : List Nat := []
  /-- justification installed (R174) -/
  just : BitVec 64 := 0#64
  /-- shadow tables and justification written since the last COMMIT (R174) -/
  shadow : Option (List Nat × List Nat × BitVec 64) := none
  /-- a COMMIT has been acknowledged: the shadows become active at the next mark (R174) -/
  commitDue : Bool := false
  /-- scrambler, latest bit in bit 0 (R166) -/
  scr : BitVec 58 := 0#58
  /-- BER pattern register, latest bit in bit 0 (R182) -/
  prbs : BitVec 31 := 0x7FFFFFFF#31
  /-- training sequence count (Table 08-3) -/
  train : BitVec 8 := 0#8
  /-- sideband bytes to send, each with its SOM (R176) -/
  tx : List (Bool × Byte) := []
  /-- LASER_EN levels the driver sees (Table 08-8) -/
  laser : BitVec 2 := 0#2
  /-- consecutive swept sweeps without LANE_STAT (R181) -/
  noStat : Nat := 0
  /-- LANE_STAT arrived for the last sweep (R181) -/
  statSeen : Bool := true
  /-- BER test running (R182) -/
  ber : Option Ber := none
  /-- marks left before swept operation after DARK (R184) -/
  leave : Nat := 0
  /-- post-divider to change to at the next gap mark (R162) -/
  postNext : Option Nat := none
  /-- module temperature, 1/16 C (Table 08-8) -/
  temp : Int := 0
  /-- driver clock recovery locked (Table 08-8) -/
  cdrLock : Bool := false
  deriving DecidableEq, Repr

/-- interlock gate (08) -/
structure Intlk where
  /-- inputs asserted (R183) -/
  low : BitVec 8 := 0#8
  /-- inputs asserted since the gate was last open (R184) -/
  closedBy : BitVec 8 := 0#8
  /-- lanes in bits 15-0 and LASER_EN outputs in 17-16 that the gate keeps closed: the union of the masks of those
  inputs as each was asserted (R184) -/
  shut : BitVec 18 := 0#18
  /-- latched inputs not yet released by command (R184) -/
  latched : BitVec 8 := 0#8
  /-- loaded map words; [] is the reset map 0x0003FFFF (R183 Table 08-13) -/
  map : List Nat := []
  deriving DecidableEq, Repr

/-- newel counter and inputs (10) -/
structure Newel where
  /-- position with 8-bit fraction and 24-bit residue, unit 2^-32 ln; 0 at power-on (R207) -/
  pos : Int := 0
  /-- counts since the last index (R208) -/
  idx : Int := 0
  /-- an index has been seen (R208) -/
  idxSeen : Bool := false
  /-- the next index interval is the self-test (R208) -/
  idxTest : Bool := false
  /-- backup position, same unit (R209) -/
  backup : Int := 0
  /-- newel at the last cross-check (R209) -/
  secPos : Int := 0
  /-- backup at the last cross-check (R209) -/
  secBack : Int := 0
  /-- backup usable at the last cross-check (R209) -/
  usable : Bool := false
  /-- encoder loss: NEWEL out of service (R209) -/
  lost : Bool := false
  /-- the counter runs from the backup (R209) -/
  onBackup : Bool := false
  /-- highest position while frames fly, for the reversal test (R45) -/
  high : Int := 0
  /-- advance in the last ring cycle, 1/256 ln (R213) -/
  dn : Int := 0
  /-- position at the previous ring cycle, 1/256 ln (R213) -/
  prevCyc : Int := 0
  /-- ring cycles of recent illegal transitions (R208) -/
  illegal : List Nat := []
  /-- position 16 ms ago, for the web speed of R45 (R45) -/
  webPos : Int := 0
  deriving DecidableEq, Repr

/-- a stepper axis (10) -/
structure Stepper where
  /-- gearing (R213) -/
  gear : Gear := {}
  /-- target t_k, half-steps (R219) -/
  t : Int := 0
  /-- t_(k-1) (R219) -/
  tPrev : Int := 0
  /-- microstep position sent (R219) -/
  mu : Int := 0
  /-- resolution band 0-3 (R220) -/
  grid : Nat := 0
  /-- last 16 step differences (R220) -/
  filt : List Nat := []
  deriving DecidableEq, Repr

/-- a solenoid and its committed schedule (12) -/
structure Solenoid where
  /-- pulse start, us (R263) -/
  start : Nat := 0
  /-- end of the hold, us; 0 none (R263) -/
  holdEnd : Nat := 0
  /-- rider fires waiting: newel line, hold ms (R116) -/
  due : List (Int × Nat) := []
  /-- command tag (Table 12-5) -/
  tag : Nat := 0
  deriving DecidableEq, Repr

/-- a ring node (12) -/
structure Node where
  /-- position (R252) -/
  pos : Nat := 0
  /-- has a slot (R253) -/
  slot : Bool := false
  /-- READY in its up record (R256) -/
  ready : Bool := false
  /-- ENABLE sent (R257) -/
  enable : Bool := false
  /-- consecutive cycles without a valid up record (R260) -/
  missing : Nat := 0
  /-- lost (R260) -/
  lost : Bool := false
  /-- mailbox request outstanding: opcode, tag (R254) -/
  req : Option (Nat × Nat) := none
  /-- turns since the request (R254) -/
  turns : Nat := 0
  /-- parameters written since ASSIGN: record, number, value (R257) -/
  params : List (Nat × Nat × Nat) := []
  /-- record, number, value of the parameter request outstanding (R257) -/
  reqArg : Nat × Nat × Nat := (0, 0, 0)
  /-- channels found (Table 12-8) -/
  kind : List Nat := []
  /-- RO parameters read (R257) -/
  read : KV Nat := []
  /-- d_CW(n), 1/8 ns (R252) -/
  delay : Nat := 0
  /-- last valid up record (R260) -/
  last : NodeUp := {}
  /-- HOLD reported (R261) -/
  hold : Bool := false
  /-- SAFE reported (R250) -/
  safe : Bool := false
  /-- node fault code (R250) -/
  code : Nat := 0
  deriving DecidableEq, Repr

/-- node ring engine (12) -/
structure Ring where
  /-- ring cycle number j (32 bits on the wire); the model's 16 us clock (R246) -/
  cyc : Nat := 0
  /-- ports NRE 0 and NRW 1 up (R244) -/
  up : KV Bool := []
  /-- CYCLIC frames are launched (R252) -/
  cyclic : Bool := false
  /-- measured L, ns (R251) -/
  loopNs : Nat := 0
  /-- nodes by index (R252) -/
  nodes : KV Node := []
  /-- the ring runs as a line (R259) -/
  broken : Bool := false
  /-- mailbox turn (R254) -/
  turn : Nat := 0
  /-- SAFE in every slot head (R309) -/
  safe : Bool := false
  /-- last value of each sensor in its counts, by INDEX (R266,R314 Table 12-6) -/
  sensors : KV Int := []
  /-- last DC volts, output current 0.1 uA and AC volts peak of each HV module, by INDEX (Table 12-6) -/
  hv : KV (Int × Int × Int) := []
  /-- accepted level of each limit and home input, by INDEX (R221) -/
  inputs : KV Bool := []
  /-- ring cycles of an input's recent accepted transitions, newest first (R221) -/
  edges : KV (List Nat) := []
  /-- out of service after R251 or R252 failed (R251) -/
  outService : Bool := false
  /-- HV modules under self-test by INDEX: ring cycle of its start (R265) -/
  hvTest : KV Nat := []
  deriving DecidableEq, Repr

/-- a rail (15) -/
structure Rail where
  /-- state (R303) -/
  st : RailState := .off
  /-- last voltage judged, 0xFFFF none (R311) -/
  mv : Nat := 0xFFFF
  /-- last STATUS_WORD (R311) -/
  word : Nat := 0
  /-- consecutive judgements outside the window (R305) -/
  badJudge : Nat := 0
  /-- the PMBus page has no answer (R300) -/
  noAns : Bool := false
  /-- part of the up sequence or restart in progress (R304,R305) -/
  wanted : Bool := false
  /-- on its way down because an ancestor failed: it ends HELD (R305) -/
  toHeld : Bool := false
  deriving DecidableEq, Repr

/-- a power log entry (R311 Table 15-6) -/
structure PLog where
  /-- power_cycle (Table 15-6) -/
  cycle : Nat := 0
  /-- seconds (Table 15-6) -/
  sec : Nat := 0
  /-- first failing rail (Table 15-6) -/
  rail : Nat := 0xFF
  /-- cause (Table 15-6) -/
  cause : Nat := 0
  /-- phase (Table 15-6) -/
  phase : Nat := 0
  /-- reading mV (Table 15-6) -/
  reading : Nat := 0xFFFF
  /-- STATUS_WORD (Table 15-6) -/
  status : Nat := 0
  deriving DecidableEq, Repr

/-- power sequencing (15) -/
structure Power where
  /-- rails 0-47 (R303) -/
  rails : KV Rail := []
  /-- sequence in progress (R304,R306) -/
  seq : PowerSeq := .none
  /-- RST_OUT_N released (true); asserted after reset (R308,R435) -/
  rst : KV Bool := []
  /-- power log, newest first, 64 entries, MRAM (R311) -/
  log : List PLog := []
  /-- ADC self-test failed (R312) -/
  adcBad : Bool := false
  deriving DecidableEq, Repr

/-- a thermal source (16) -/
structure TSrc where
  /-- last reading, 1/16 C, none when open, shorted or not yet read (R314) -/
  raw : Option Int := none
  /-- throttle stage in force, 0 to 2 (R315) -/
  thr : Nat := 0
  /-- slow stage in force (R315) -/
  slow : Bool := false
  /-- 4 stop, 5 trip, 0 neither (R315 Table 16-4) -/
  hot : Nat := 0
  /-- below the resume threshold for 60 s (R320) -/
  cool : Bool := false
  /-- broken (R316 Table 16-4) -/
  broken : Bool := false
  /-- failed its plausibility check (R316) -/
  retired : Bool := false
  /-- evaluations in a row that were plausible (R316) -/
  okN : Nat := 0
  deriving DecidableEq, Repr

/-- thermal manager (16) -/
structure Therm where
  /-- sources: 0-7 die sensors, 8-11 TD, 12-139 node sensors, 140 the die as a whole (T_j) (R314) -/
  src : KV TSrc := []
  /-- an on-die comparator holds the gate (R319) -/
  dieTrip : Bool := false
  deriving DecidableEq, Repr

/-- an open fault record (R328 Table 17-4) -/
structure FRec where
  /-- code, class raised (Table 17-4) -/
  code : Nat := 0
  /-- unit of the first error (Table 17-4) -/
  handle : Handle := 0#16
  /-- selector (Table 17-4) -/
  sel : Nat := 0
  /-- state (Table 17-4) -/
  st : RecState := .testing
  /-- merge_count (Table 17-4) -/
  merges : Nat := 0
  /-- first_seconds (Table 17-4) -/
  firstSec : Nat := 0
  /-- last_seconds (Table 17-4) -/
  lastSec : Nat := 0
  /-- ring cycle (Table 17-4) -/
  cycle : Nat := 0
  /-- raise_code (Table 17-4) -/
  raise : Nat := 0
  /-- detail (Table 17-4) -/
  detail : Nat := 0
  /-- gal_seq (Table 17-4) -/
  galSeq : Nat := 0
  /-- acknowledgement kept (R324) -/
  acked : Bool := false
  /-- cause gone (R324) -/
  causeGone : Bool := false
  /-- units merged (R331) -/
  merged : List Handle := []
  deriving DecidableEq, Repr

/-- fault collector (17) -/
structure Faults where
  /-- fault table, 256 entries (R328) -/
  recs : KV FRec := []
  /-- note counters: channel handle, code, count (R330) -/
  notes : List (Nat × Nat × Nat) := []
  /-- channel, code, second of the last NOTE record, count since (R330) -/
  noteSec : List (Nat × Nat × Nat × Nat) := []
  /-- transient history: channel, selector, seconds newest first (R326) -/
  trans : List (Nat × Nat × List Nat) := []
  /-- class 4 LOCKOUT in force (R325) -/
  lockout : Bool := false
  /-- cores whose watchdog has expired and not been serviced (R336) -/
  stalled : List Nat := []
  /-- seconds of the stalls (R336) -/
  stallSec : List Nat := []
  /-- SRAM banks: 1 testing on a spare, 2 retired (R327) -/
  banks : KV Nat := []
  /-- spare banks free (R327) -/
  spares : Nat := 2
  /-- corrected errors per bank (R103) -/
  corrected : KV Nat := []
  deriving DecidableEq, Repr

/-- redundant pair (18) -/
structure Pair where
  /-- STATE (R341 Table 18-4) -/
  st : PairSt := .alone
  /-- CLAIM_OUT (Table 18-4,R435) -/
  claimOut : Bool := false
  /-- CLAIM_IN level read (Table 18-4) -/
  claimIn : Bool := false
  /-- PEER_ALIVE (Table 18-4) -/
  peerAlive : Bool := false
  /-- MIRROR_UP (Table 18-4) -/
  mirrorUp : Bool := false
  /-- PEER_ACTIVE (Table 18-4) -/
  peerActive : Bool := false
  /-- MISSED (Table 18-4) -/
  missed : BitVec 16 := 0#16
  /-- consecutive cycles without a valid mirror frame (R347) -/
  missRun : Nat := 0
  /-- consecutive disagreements (R350) -/
  disagree : Nat := 0
  /-- HELLO exchanged (R343) -/
  helloDone : Bool := false
  /-- peer configuration version (R413) -/
  peerVer : Nat := 0
  /-- peer slot (R343) -/
  peerSlot : Option Nat := none
  /-- SYNCED flag of the peer (Table 18-5) -/
  peerSynced : Bool := false
  /-- a valid mirror frame has arrived since boot (R342) -/
  seenPeer : Bool := false
  /-- CLAIM_OUT dropped: claims again only after a power cycle (R349) -/
  dropped : Bool := false
  /-- consecutive cycles without a master frame launched (R349) -/
  noMaster : Nat := 0
  /-- planned handover draining (R357) -/
  handover : Bool := false
  /-- mirror frame count (R345) -/
  txSeq : Nat := 0
  /-- last seq received (R345) -/
  rxSeq : Nat := 0
  /-- snapshot complete (R343) -/
  snapDone : Bool := false
  /-- SLOT_CLASH: the device does not claim (R343) -/
  clash : Bool := false
  /-- a valid mirror frame has arrived since the last cycle boundary (R345) -/
  got : Bool := false
  /-- last valid peer cycle (R353) -/
  lastCyc : Nat := 0
  deriving DecidableEq, Repr

/-- gallery (19) -/
structure Gallery where
  /-- records in MRAM by gallery index (R360) -/
  recs : List GalRec := []
  /-- records buffered in SRAM, at most 256 (R363) -/
  buf : List GalRec := []
  /-- next seq (R360,R363) -/
  nextSeq : Nat := 1
  /-- persistent lost counter (R364) -/
  lost : Nat := 0
  /-- events that found the buffer full (R363) -/
  missed : Nat := 0
  /-- seq of the last record before them (R361) -/
  missedAt : Nat := 0
  /-- near-full crossing posted (R364) -/
  near : Bool := false
  /-- full crossing posted (R364) -/
  full : Bool := false
  deriving DecidableEq, Repr

/-- ledger (19) -/
structure Ledger where
  /-- entries from the oldest not released, serial order (R369) -/
  queue : List LedgerRec := []
  /-- acknowledged serial A, MRAM (R370) -/
  acked : Nat := 0
  /-- window W (R370) -/
  window : Nat := 0
  /-- highest serial sent (R370) -/
  sent : Nat := 0
  /-- resend timer running (R370) -/
  timer : Bool := false
  /-- MRAM ledger tail (R371) -/
  tail : List LedgerRec := []
  /-- power cycle of the tail header (R371) -/
  tailCycle : Nat := 0
  /-- the tail header was written (R371) -/
  tailValid : Bool := false
  /-- OPEN entries of the tail of a device that boots as standby (R353) -/
  cands : List LedgerRec := []
  /-- LEDGER_HIGH_WATER noted (R381) -/
  highWater : Bool := false
  deriving DecidableEq, Repr

/-- a role key (R372) -/
structure Key where
  /-- role 1-3 (R372) -/
  role : Nat := 0
  /-- index (R372) -/
  index : Nat := 0
  /-- 64-bit key identifier (R372) -/
  ident : Nat := 0
  /-- public key, 64 bytes (R372) -/
  pub : Nat := 0
  deriving DecidableEq, Repr

/-- a grant (R375) -/
structure Grant where
  /-- role (R375) -/
  role : Nat := 0
  /-- opcode (R375) -/
  op : Nat := 0
  /-- first 8 bytes of the payload's SHA-256 (R375) -/
  args : Nat := 0
  deriving DecidableEq, Repr

/-- authority (19) -/
structure Auth where
  /-- installed role keys, MRAM: none on a new device (R373) -/
  keys : List Key := []
  /-- approved digest list, MRAM: empty on a new device (R373) -/
  digests : List Nat := []
  /-- the list in force since boot (R378) -/
  digestsBoot : List Nat := []
  /-- COMMISSIONING since boot (R373) -/
  commissioning : Bool := false
  /-- current challenge (R374) -/
  challenge : Option Nat := none
  /-- grant (R375) -/
  grant : Option Grant := none
  /-- seconds of recent denials (R375) -/
  denials : List Nat := []
  /-- second the backoff began (R375) -/
  backoff : Option Nat := none
  /-- digests of the images in the QSPI slots as read at boot (R377) -/
  qspi : List (Option Nat) := []
  /-- AUTH_TOKEN_SIGN waiting for the token (R411) -/
  signing : Option Cmd := none
  deriving DecidableEq, Repr

/-- calibration store (19) -/
structure Cal where
  /-- installed calibration by station (R412) -/
  inst : KV CalSt := []
  /-- chirp profiles waiting for their mark (R155) -/
  chirpNew : KV (List Byte) := []
  /-- staged objects by station and object code (R412) -/
  staging : KV (KV (List Byte)) := []
  /-- committed objects by station waiting for their mark (R155,R412) -/
  committed : KV (KV (List Byte)) := []
  /-- head retirement lists, oldest accepted first, at most 64 (R205) -/
  lists : List (Nat × BitVec 36) := []
  /-- sequence of the current valid slot (R379) -/
  seqNo : Nat := 0
  /-- the valid copy stands in slot B (R379) -/
  slotIsB : Bool := false
  /-- slot A valid (R380) -/
  aValid : Bool := false
  /-- slot B valid (R380) -/
  bValid : Bool := false
  /-- slot A (R379) -/
  slotA : CalStore := {}
  /-- slot B (R379) -/
  slotB : CalStore := {}
  /-- a store write runs (R379) -/
  writing : Bool := false
  /-- updates coalesced behind it (R379) -/
  again : Bool := false
  deriving DecidableEq, Repr

/-- an activity on one scope (R405-R409) -/
structure Act where
  /-- running (R406) -/
  running : Bool := false
  /-- standing activity stopped (R409) -/
  stopped : Bool := false
  /-- count since its last completion (R407) -/
  count : Nat := 0
  /-- seconds at last completion (R409) -/
  doneSec : Nat := 0
  /-- MNT_START waits for its quiet condition (R409) -/
  wanted : Bool := false
  /-- made urgent on demand (R150) -/
  urgentAsked : Bool := false
  /-- highest level told since the last completion: 0 none, 1 due, 2 urgent (R414) -/
  said : Nat := 0
  /-- landings before the next repeated gap (R407) -/
  gapLeft : Nat := 0
  deriving DecidableEq, Repr

/-- maintenance scheduler (21) -/
structure Maint where
  /-- activity code, scope unit, its state (R405) -/
  acts : List (Nat × Handle × Act) := []
  /-- gap inserted at the next admission position, ms (R407) -/
  gapNext : Nat := 0
  /-- activity and scope it is inserted for (R407,R414) -/
  gapFor : Option (Nat × Handle) := none
  deriving DecidableEq, Repr

/-- operator panel and token port (22) -/
structure Panel where
  /-- debounced key matrix, bit 8 row + col (R428) -/
  keys : BitVec 64 := 0#64
  /-- consecutive scans a key has been at its new level (R428) -/
  scan : KV Nat := []
  /-- LED brightness 0-15; zeros at first (R429) -/
  bright : List Nat := []
  /-- blink mask (R413) -/
  blink : BitVec 16 := 0#16
  /-- blink period, 10 ms (R413) -/
  period : Nat := 0
  /-- PWM step 0-255 (R429) -/
  step : Nat := 0
  /-- PWM steps counted, for blinking (R429) -/
  tick : Nat := 0
  /-- bits shifted into the LED chain; zeros first (R429) -/
  chain : BitVec 16 := 0#16
  /-- buzzer frequency, 0 low (R429) -/
  buzz : Nat := 0
  /-- touch pressed (R430) -/
  pressed : Bool := false
  /-- touch x (R430) -/
  tx : Nat := 0
  /-- touch y (R430) -/
  ty : Nat := 0
  /-- ring cycle of the last PNL_TOUCH (R430) -/
  touchCyc : Nat := 0
  /-- TOUCH_STUCK, line ignored (R430) -/
  stuck : Bool := false
  /-- USB_VBUS_EN (R431,R435) -/
  vbus : Bool := false
  /-- a configured CCID token is present (R431) -/
  token : Bool := false
  /-- attached device vendor and product (R431) -/
  plugged : Option (Nat × Nat) := none
  /-- VBUS over-current (R413) -/
  vbusOver : Bool := false
  /-- VBUS stays off until the next power cycle (R431) -/
  vbusDead : Bool := false
  /-- seconds of VBUS restores (R431) -/
  restores : List Nat := []
  deriving DecidableEq, Repr


/-- What the block sends to the outside (the model's own record of its outputs, log entry 4). -/
inductive OutMsg where
  /-- a UDP payload sent from a port to a destination, or to the configured host address when `dst` is 0 -/
  | datagram (port dst : Nat) (bytes : List Byte)
  /-- mailbox messages sent in one datagram -/
  | messages (port dst : Nat) (msgs : List Msg)
  /-- ledger records sent upstream (R370) -/
  | ledger (recs : List LedgerRec)
  /-- a credit datagram (R424) -/
  | credit (lane returned : Nat)
  /-- an ARP reply on a host lane (R417) -/
  | arpReply (lane : Nat)
  /-- a forward word of a beam lane, 160 bits, into input A (0) or B (1) of its driver module (R111, R165) -/
  | word (lane input : Nat) (w : BitVec 160)
  /-- a beam lane's driver is reset or the lane retrains (R179) -/
  | train (lane : Nat)
  /-- an NVMe command issued to a member, with the bytes it writes as they go to the member (Table 06-2, R135) -/
  | nvme (member : Nat) (c : NvmeCmd) (data : List Byte)
  /-- a write or poll of a rail's PMBus page or enable: 0 disable, 1 enable, 2 ON_OFF_CONFIG write, 3 status read -/
  | rail (rail op : Nat)
  /-- a node mailbox request (R254) -/
  | nodeReq (node op tag : Nat) (data : List Nat)
  /-- the cycle frame of the node ring (R248): cycle, safe, commands by node -/
  | cycleFrame (cyc : Nat) (safe : Bool)
  /-- an axis command in its node's record: 0 coast, 1 brake, 2 apply duties, 3 switch vector, 4 commutate -/
  | axis (axis op : Nat) (data : List Rat)
  /-- a stepper record (Table 12-5) -/
  | stepper (axis : Nat) (mu : Int) (amplitude : Nat)
  /-- a solenoid pulse (R263) -/
  | solenoid (sol start stop : Nat)
  /-- a loop's output word (R273) -/
  | loopOut (slot : Nat) (u : F32)
  /-- the mirror frame of a cycle: kind 1 HELLO (R343) or 2 CYCLIC (R345), cycle, seq, ack, flags (Table 18-5) -/
  | mirror (kind cyc seq ack : Nat) (flags : BitVec 8)
  /-- an APDU to the token (R432) -/
  | apdu (bytes : List Byte)
  /-- the LED chain shifted and latched (R429) -/
  | leds (bits : BitVec 16)
  /-- a touch report read over I2C (R430) -/
  | touchRead
  deriving DecidableEq, Repr

/-- the whole machine -/
structure State where
  /-- MODEL: queue of waiting commands, first in first out (block model) -/
  pending : List Instr := []
  /-- clocks (14_clocks.md) -/
  clk : Clk := {}
  /-- reset, straps and boot (24_bringup.md) -/
  boot : Boot := {}
  /-- mailbox (20_mailbox_protocol.md) -/
  mbx : Mbx := {}
  /-- configuration sets (02_units_and_configuration.md) -/
  cfg : Cfg := {}
  /-- live unit table (02_units_and_configuration.md) -/
  units : Units := {}
  /-- jobs in submission order (R403) -/
  jobs : List Job := []
  /-- landing machine and press state (03_frames_and_landings.md) -/
  land : Land := {}
  /-- throughput governor (03_frames_and_landings.md) -/
  gov : Gov := {}
  /-- host ingest (22_host_link_and_panel.md) -/
  ingest : Ingest := {}
  /-- host link (22_host_link_and_panel.md) -/
  host : HostL := {}
  /-- spool engine (06_spool.md) -/
  spool : Spool := {}
  /-- station pipelines by number; unlisted is the reset pipeline (01_architecture.md) -/
  stations : KV Station := []
  /-- beam lanes 0-15; unlisted is the reset lane (08_beam_link.md) -/
  lanes : KV Lane := []
  /-- interlock gate (08_beam_link.md) -/
  intlk : Intlk := {}
  /-- newel (10_motion_and_gearing.md) -/
  newel : Newel := {}
  /-- axes 0-63 (11_motor_drive.md) -/
  axes : KV Axis := []
  /-- steppers 0-31 (10_motion_and_gearing.md) -/
  steppers : KV Stepper := []
  /-- solenoids 0-63 (12_node_ring.md) -/
  sols : KV Solenoid := []
  /-- node ring (12_node_ring.md) -/
  ring : Ring := {}
  /-- loop slots 0-1023 (13_loop_engine.md) -/
  loops : KV LoopSlot := []
  /-- power (15_power_supervision.md) -/
  power : Power := {}
  /-- thermal (16_thermal.md) -/
  therm : Therm := {}
  /-- faults (17_faults.md) -/
  faults : Faults := {}
  /-- pair (18_redundant_pair.md) -/
  pair : Pair := {}
  /-- gallery (19_gallery_and_ledger.md) -/
  gal : Gallery := {}
  /-- ledger (19_gallery_and_ledger.md) -/
  ledger : Ledger := {}
  /-- authority (19_gallery_and_ledger.md) -/
  auth : Auth := {}
  /-- calibration store (19_gallery_and_ledger.md) -/
  cal : Cal := {}
  /-- maintenance (21_command_reference.md) -/
  maint : Maint := {}
  /-- panel and token port (22_host_link_and_panel.md) -/
  panel : Panel := {}
  /-- MODEL: what the block has sent to the outside, oldest first (block model) -/
  outbox : List OutMsg := []
  /-- MODEL: counter of free values drawn (block model) -/
  free : Nat := 0
  deriving DecidableEq, Repr

/-- Why the machine stops. -/
inductive Fault where
  /-- PORST_N is released with TEST_EN high: the device enters its factory test, and the spec says that nothing in
  the manual then applies (R436). Raised by PORST_N_RELEASE only. Safe: nothing is claimed of that device. -/
  | factoryTest
  deriving DecidableEq, Repr

/-- Why a command has no meaning in the model. -/
inductive Refusal where
  /-- a command of the table without a meaning yet; raised by `exec`'s arms only. Safe: it stops the run. -/
  | notModelled (mnemonic : String)
  deriving DecidableEq, Repr

/-- The block right after reset: PORST_N asserted on a new device (R36, R373, R435), every field at the value the
spec gives for reset and, where it gives none, at the value log entry 1 names. -/
def State.reset : State := {}

end Sys2Proof.Machine
end

