-- ==== Sys2Proof/Machine/Update.lean ====
section
/-! DEFINITION. One updater per component of `State`: the model changes the machine only through these. -/

namespace Sys2Proof.Machine

/-- `s` with `f` applied to its `pending`. -/
def State.modPending (f : List Instr → List Instr) (s : State) : State := { s with pending := f s.pending }

/-- `s` with `f` applied to its `clk`. -/
def State.modClk (f : Clk → Clk) (s : State) : State := { s with clk := f s.clk }

/-- `s` with `f` applied to its `boot`. -/
def State.modBoot (f : Boot → Boot) (s : State) : State := { s with boot := f s.boot }

/-- `s` with `f` applied to its `mbx`. -/
def State.modMbx (f : Mbx → Mbx) (s : State) : State := { s with mbx := f s.mbx }

/-- `s` with `f` applied to its `cfg`. -/
def State.modCfg (f : Cfg → Cfg) (s : State) : State := { s with cfg := f s.cfg }

/-- `s` with `f` applied to its `units`. -/
def State.modUnits (f : Units → Units) (s : State) : State := { s with units := f s.units }

/-- `s` with `f` applied to its `jobs`. -/
def State.modJobs (f : List Job → List Job) (s : State) : State := { s with jobs := f s.jobs }

/-- `s` with `f` applied to its `land`. -/
def State.modLand (f : Land → Land) (s : State) : State := { s with land := f s.land }

/-- `s` with `f` applied to its `gov`. -/
def State.modGov (f : Gov → Gov) (s : State) : State := { s with gov := f s.gov }

/-- `s` with `f` applied to its `ingest`. -/
def State.modIngest (f : Ingest → Ingest) (s : State) : State := { s with ingest := f s.ingest }

/-- `s` with `f` applied to its `host`. -/
def State.modHost (f : HostL → HostL) (s : State) : State := { s with host := f s.host }

/-- `s` with `f` applied to its `spool`. -/
def State.modSpool (f : Spool → Spool) (s : State) : State := { s with spool := f s.spool }

/-- `s` with `f` applied to its `stations`. -/
def State.modStations (f : KV Station → KV Station) (s : State) : State := { s with stations := f s.stations }

/-- `s` with `f` applied to its `lanes`. -/
def State.modLanes (f : KV Lane → KV Lane) (s : State) : State := { s with lanes := f s.lanes }

/-- `s` with `f` applied to its `intlk`. -/
def State.modIntlk (f : Intlk → Intlk) (s : State) : State := { s with intlk := f s.intlk }

/-- `s` with `f` applied to its `newel`. -/
def State.modNewel (f : Newel → Newel) (s : State) : State := { s with newel := f s.newel }

/-- `s` with `f` applied to its `axes`. -/
def State.modAxes (f : KV Axis → KV Axis) (s : State) : State := { s with axes := f s.axes }

/-- `s` with `f` applied to its `steppers`. -/
def State.modSteppers (f : KV Stepper → KV Stepper) (s : State) : State := { s with steppers := f s.steppers }

/-- `s` with `f` applied to its `sols`. -/
def State.modSols (f : KV Solenoid → KV Solenoid) (s : State) : State := { s with sols := f s.sols }

/-- `s` with `f` applied to its `ring`. -/
def State.modRing (f : Ring → Ring) (s : State) : State := { s with ring := f s.ring }

/-- `s` with `f` applied to its `loops`. -/
def State.modLoops (f : KV LoopSlot → KV LoopSlot) (s : State) : State := { s with loops := f s.loops }

/-- `s` with `f` applied to its `power`. -/
def State.modPower (f : Power → Power) (s : State) : State := { s with power := f s.power }

/-- `s` with `f` applied to its `therm`. -/
def State.modTherm (f : Therm → Therm) (s : State) : State := { s with therm := f s.therm }

/-- `s` with `f` applied to its `faults`. -/
def State.modFaults (f : Faults → Faults) (s : State) : State := { s with faults := f s.faults }

/-- `s` with `f` applied to its `pair`. -/
def State.modPair (f : Pair → Pair) (s : State) : State := { s with pair := f s.pair }

/-- `s` with `f` applied to its `gal`. -/
def State.modGal (f : Gallery → Gallery) (s : State) : State := { s with gal := f s.gal }

/-- `s` with `f` applied to its `ledger`. -/
def State.modLedger (f : Ledger → Ledger) (s : State) : State := { s with ledger := f s.ledger }

/-- `s` with `f` applied to its `auth`. -/
def State.modAuth (f : Auth → Auth) (s : State) : State := { s with auth := f s.auth }

/-- `s` with `f` applied to its `cal`. -/
def State.modCal (f : Cal → Cal) (s : State) : State := { s with cal := f s.cal }

/-- `s` with `f` applied to its `maint`. -/
def State.modMaint (f : Maint → Maint) (s : State) : State := { s with maint := f s.maint }

/-- `s` with `f` applied to its `panel`. -/
def State.modPanel (f : Panel → Panel) (s : State) : State := { s with panel := f s.panel }

/-- `s` with `f` applied to its `outbox`. -/
def State.modOutbox (f : List OutMsg → List OutMsg) (s : State) : State := { s with outbox := f s.outbox }

/-- `s` with `f` applied to its `free`. -/
def State.modFree (f : Nat → Nat) (s : State) : State := { s with free := f s.free }

end Sys2Proof.Machine
end

