-- ==== Sys2Proof/Machine/Ops.lean ====
section
/-! DEFINITION. Operations shared by every family: keyed tables, byte strings, CRC-32C, the bytes of a configuration
set, and the small arithmetic of handles and bits. -/

namespace Sys2Proof.Machine

/-! ### Keyed tables -/

/-- What a table holds under key `n`. -/
def kvFind {α : Type} : KV α → Nat → Option α
  | [], _ => none
  | (k, v) :: r, n => if k = n then some v else kvFind r n

/-- What a table holds under key `n`, `d` where it lists nothing. -/
def kvGet {α : Type} (d : α) (l : KV α) (n : Nat) : α := (kvFind l n).getD d

/-- The table with `v` under key `n`, keys kept rising. -/
def kvSet {α : Type} : KV α → Nat → α → KV α
  | [], n, v => [(n, v)]
  | (k, w) :: r, n, v =>
    if n = k then (n, v) :: r else if n < k then (n, v) :: (k, w) :: r else (k, w) :: kvSet r n v

/-- The table without key `n`. -/
def kvDel {α : Type} (l : KV α) (n : Nat) : KV α := l.filter fun p => p.1 != n

/-- The table with `f` applied under key `n`. -/
def kvMod {α : Type} (d : α) (l : KV α) (n : Nat) (f : α → α) : KV α := kvSet l n (f (kvGet d l n))

/-! ### Sorting -/

/-- Puts `x` before the first element it may precede. -/
def insertBy {α : Type} (le : α → α → Bool) (x : α) : List α → List α
  | [] => [x]
  | y :: r => if le x y then x :: y :: r else y :: insertBy le x r

/-- The list in the order `le`; elements that may stand either way keep their order. -/
def sortBy {α : Type} (l : List α) (le : α → α → Bool) : List α := l.foldr (insertBy le) []

/-! ### Byte strings, little-endian (R6) -/

/-- `n` as `k` bytes, least significant first. -/
def leBytes : Nat → Nat → List Byte
  | 0, _ => []
  | k + 1, n => BitVec.ofNat 8 n :: leBytes k (n / 256)

/-- The number little-endian bytes spell. -/
def leNat : List Byte → Nat
  | [] => 0
  | b :: r => b.toNat + 256 * leNat r

/-- The number big-endian bytes spell. -/
def beNat (bs : List Byte) : Nat := leNat bs.reverse

/-- `k` bytes from offset `o`, bytes beyond the end reading 0. -/
def bytesAt (bs : List Byte) (o k : Nat) : List Byte :=
  let t := (bs.drop o).take k
  t ++ List.replicate (k - t.length) 0#8

/-- The unsigned little-endian field of `k` bytes at offset `o`. -/
def fieldAt (bs : List Byte) (o k : Nat) : Nat := leNat (bytesAt bs o k)

/-- The number `n` read as a two's complement number of `w` bits. -/
def signed (w n : Nat) : Int := (BitVec.ofNat w n).toInt

/-- An integer as its two's complement pattern of `8 * k` bits, in bytes. -/
def leInt (k : Nat) (i : Int) : List Byte := leBytes k (i % (256 ^ k : Nat)).toNat

/-- `bs` cut or padded with zeros to `k` bytes. -/
def padTo (k : Nat) (bs : List Byte) : List Byte := bytesAt bs 0 k

/-- Bit `i` of a number. -/
def bitOf (n i : Nat) : Bool := n.testBit i

/-- Bits `hi` to `lo` of a number. -/
def bitsOf (n hi lo : Nat) : Nat := (n >>> lo) % 2 ^ (hi + 1 - lo)

/-- 1 for true. -/
def bnat (b : Bool) : Nat := if b then 1 else 0

/-- A 256-bit digest as its 32 bytes, first byte most significant. -/
def digestBytes (d : Nat) : List Byte := (leBytes 32 d).reverse

/-! ### CRC-32C (R73) -/

/-- One bit of the reflected polynomial 0x82F63B78. -/
def crcBit (c : BitVec 32) : BitVec 32 :=
  if c.getLsbD 0 then (c >>> 1) ^^^ 0x82F63B78#32 else c >>> 1

/-- One byte into the register. -/
def crcByte (c : BitVec 32) (b : Byte) : BitVec 32 :=
  crcBit (crcBit (crcBit (crcBit (crcBit (crcBit (crcBit (crcBit (c ^^^ b.zeroExtend 32))))))))

/-- CRC-32C of a byte string: initial value and final XOR all ones (R73). -/
def crc32c (bs : List Byte) : BitVec 32 := bs.foldl crcByte 0xFFFFFFFF#32 ^^^ 0xFFFFFFFF#32

/-! ### Sparse byte memory in canonical form -/

/-- The byte at address `a`: listed, or what an unlisted address reads as. -/
def memRead (d : Nat → Byte) : List Host.Cell → Nat → Byte
  | [], a => d a
  | (k, b) :: r, a => if k = a then b else memRead d r a

/-- Puts a listed byte in its place, addresses strictly rising. -/
def memInsert : List Host.Cell → Nat → Byte → List Host.Cell
  | [], a, b => [(a, b)]
  | (k, c) :: r, a, b =>
    if a < k then (a, b) :: (k, c) :: r else if a = k then (a, b) :: r else (k, c) :: memInsert r a b

/-- Takes an address out of the list. -/
def memErase : List Host.Cell → Nat → List Host.Cell
  | [], _ => []
  | (k, c) :: r, a => if k = a then memErase r a else (k, c) :: memErase r a

/-- Writes a byte; the value an unlisted address reads as removes the entry. -/
def memWrite (d : Nat → Byte) (m : List Host.Cell) (a : Nat) (b : Byte) : List Host.Cell :=
  if b = d a then memErase m a else memInsert m a b

/-- Writes a byte string from address `a` up. -/
def memWrites (d : Nat → Byte) : List Host.Cell → Nat → List Byte → List Host.Cell
  | m, _, [] => m
  | m, a, b :: r => memWrites d (memWrite d m a b) (a + 1) r

/-- `k` bytes from address `a` up. -/
def memReads (d : Nat → Byte) (m : List Host.Cell) : Nat → Nat → List Byte
  | _, 0 => []
  | a, k + 1 => memRead d m a :: memReads d m (a + 1) k

/-- The list is canonical: addresses strictly rise from `lo`, and no entry says what an unlisted address reads as. -/
def memWfFrom (d : Nat → Byte) : Nat → List Host.Cell → Bool
  | _, [] => true
  | lo, (k, b) :: r => decide (lo ≤ k) && decide (b ≠ d k) && memWfFrom d (k + 1) r

/-- The canonical form of a sparse byte memory. -/
def memWf (d : Nat → Byte) (m : List Host.Cell) : Bool := memWfFrom d 0 m

/-! ### Configuration blocks (R402, Table 21-4) -/

/-- Entries and entry size of a block; none for a number no block has. -/
def blockShape : Nat → Option (Nat × Nat)
  | 0x01 => some (16, 16)
  | 0x02 => some (1, 64)
  | 0x03 => some (1, 16)
  | 0x04 => some (4, 65536)
  | 0x05 => some (1, 32)
  | 0x06 => some (16, 12)
  | 0x07 => some (16, 72)
  | 0x08 => some (8, 4)
  | 0x09 => some (64, 128)
  | 0x0A => some (32, 16)
  | 0x0B => some (1024, 160)
  | 0x0C => some (64, 32)
  | 0x0D => some (64, 16)
  | 0x0E => some (512, 8)
  | 0x0F => some (84, 32)
  | 0x10 => some (132, 12)
  | 0x11 => some (1, 4)
  | 0x12 => some (9, 16)
  | 0x13 => some (1, 4)
  | 0x14 => some (1, 4)
  | 0x15 => some (2, 256)
  | _ => none

/-- Size of entry `i` of a block, none where the block has no such entry; block 0x0F holds rails at 0 to 47, PMBus
devices at 64 to 71 and reset outputs at 80 to 83 (Table 21-4). -/
def entrySize (blk i : Nat) : Option Nat :=
  match blockShape blk with
  | none => none
  | some (n, sz) =>
    if blk = 0x0F then
      if i < 48 then some 32 else if 64 ≤ i ∧ i < 72 then some 8 else if 80 ≤ i ∧ i < 84 then some 8 else none
    else if i < n then some sz else none

/-- Address of a byte of a configuration set: block, entry, offset (the model's own numbering, log entry 6). -/
def cfgAddr (blk i off : Nat) : Nat :=
  blk * 2 ^ 24 + i * (match blockShape blk with | some (_, sz) => sz | none => 0) + off

/-- The block, entry and offset of an address. -/
def cfgLoc (a : Nat) : Nat × Nat × Nat :=
  let blk := a / 2 ^ 24
  let r := a % 2 ^ 24
  match blockShape blk with
  | some (_, sz) => (blk, r / sz, r % sz)
  | none => (blk, 0, r)

end Sys2Proof.Machine
end

