-- ==== Sys2Proof/Machine/Sets.lean ====
section
/-! DEFINITION. Reading and writing configuration sets, and the unit tree they hold (02). -/

namespace Sys2Proof.Machine

open Sys2Proof

/-! ### Block bytes -/

/-- The fields of an entry whose default is not 0: offset, length, value (R36; where no table states a default see
log entry 10). -/
def entryDefault (blk i : Nat) : List (Nat × Nat × Nat) :=
  match blk with
  | 0x01 => [(11, 2, 0xFFFF)]
  | 0x03 => [(0, 2, 50), (2, 2, 50), (4, 1, 80), (5, 1, 20), (6, 4, 0xFFFFFFFF)]
  | 0x05 => [(16, 1, 10), (20, 4, 2000 * 2 ^ 16 + 7111), (24, 2, 2000), (26, 2, 500)]
  | 0x06 => [(0, 4, 200 * 2 ^ 18 + 200 * 2 ^ 8 + 40), (4, 4, 1024), (8, 1, 8), (9, 1, 50)]
  | 0x07 => [(64, 4, 15 * 2 ^ 24 + 20 * 2 ^ 16 + 20 * 2 ^ 8 + 20), (68, 4, 0xFFFF * 2 ^ 16 + 40 * 2 ^ 8 + 70)]
  | 0x08 => [(0, 4, 0x0003FFFF)]
  | 0x09 => [(0, 4, 2 * 2 ^ 24 + 120 * 2 ^ 16 + 50 * 2 ^ 8), (6, 2, 200), (22, 1, 64), (44, 2, 3930), (50, 2, 0xFFFF),
      (60, 2, 0xFFFF), (62, 2, 0xFFFF), (64, 2, 0xFFFF), (92, 2, 0xFFFF), (112, 2, 50)]
  | 0x0A => [(0, 2, 0xFFFF), (10, 1, 50), (12, 2, 1000)]
  | 0x0B => [(74, 2, 100)]
  | 0x0D => [(0, 2, 0xFFFF), (3, 1, 0xFF), (12, 1, 5)]
  | 0x0E => [(0, 2, 0xFFFF), (2, 2, 0xFFFF)]
  | 0x0F => if i < 48 then [(2, 4, 0xFFFFFFFF), (16, 2, 50), (20, 2, 100), (22, 2, 10)]
            else if 80 ≤ i then [(6, 1, 20)] else []
  | 0x10 => [(0, 2, 0xFFFF)]
  | 0x11 => [(0, 2, 10 * 2 ^ 8 + 10)]
  | 0x12 =>
    [(12, 2, 0xFFFF)] ++
      (if i = 1 then [(2, 2, 200)]
       else if i = 2 then [(2, 2, 50), (4, 4, 5000), (8, 4, 6000)]
       else if i = 3 then [(2, 2, 100), (4, 4, 20000), (8, 4, 25000)]
       else if i = 7 then [(1, 1, 4), (2, 2, 120), (8, 4, 24)]
       else if i = 8 then [(2, 2, 2000)] else [])
  | 0x13 => [(1, 1, 10)]
  | 0x15 => if i = 0 then [(2, 2, 1518), (34, 2, 1518), (66, 2, 1518), (98, 2, 1518)] else []
  | _ => []

/-- What a configuration byte reads as when a set does not list it: its default. -/
def cfgDefault (a : Nat) : Byte :=
  let (blk, i, o) := cfgLoc a
  match (entryDefault blk i).find? fun f => f.1 ≤ o && o < f.1 + f.2.1 with
  | some (fo, _, v) => BitVec.ofNat 8 (v / 256 ^ (o - fo))
  | none => 0#8

/-- `k` bytes of an entry. -/
def CfgSet.read (c : CfgSet) (blk i off k : Nat) : List Byte := memReads cfgDefault c.bytes (cfgAddr blk i off) k

/-- The unsigned field of `k` bytes of an entry. -/
def CfgSet.get (c : CfgSet) (blk i off k : Nat) : Nat := leNat (c.read blk i off k)

/-- Replaces bytes of an entry. -/
def CfgSet.write (c : CfgSet) (blk i off : Nat) (bs : List Byte) : CfgSet :=
  { c with bytes := memWrites cfgDefault c.bytes (cfgAddr blk i off) bs }

/-- Bytes of spoil band `e` that the set holds: up to its highest listed byte. -/
def CfgSet.spoilLen (c : CfgSet) (e : Nat) : Nat :=
  c.bytes.foldl (fun m p => let (b, i, o) := cfgLoc p.1; if b = 0x04 ∧ i = e then max m (o + 1) else m) 0

/-- Size of a set: descriptors, the fixed blocks and the spoil band bytes held (R25, R31; log entry 6). -/
def CfgSet.size (c : CfgSet) : Nat :=
  32768 + 185340 + c.spoilLen 0 + c.spoilLen 1 + c.spoilLen 2 + c.spoilLen 3

/-- A field of the current set. -/
def State.cfgGet (s : State) (blk i off k : Nat) : Nat := s.cfg.cur.get blk i off k

/-- The latest accepted set: the pending one while one is pending (R32, R34). -/
def State.latestSet (s : State) : CfgSet :=
  match s.cfg.pend with
  | some p => p.set
  | none => s.cfg.cur

/-- The latest accepted version (R34). -/
def State.latestVersion (s : State) : Nat :=
  match s.cfg.pend with
  | some p => p.version
  | none => s.cfg.curVer

/-! ### The unit tree -/

/-- The name of a unit as its 16 bytes: ASCII, NUL-padded (Table 02-3). -/
def nameBytes (n : List Nat) : List Byte := padTo 16 (n.map fun c => BitVec.ofNat 8 c)

/-- A number below 100 in ASCII decimal digits. -/
def digits (n : Nat) : List Nat := if n < 10 then [48 + n] else [48 + n / 10, 48 + n % 10]

/-- The names of the fixed units by INDEX, in ASCII: press, BL0 to BL15, HL0 to HL3, SL0 to SL7, ML, NRE and NRW (R21,
Table 02-1). -/
def fixedName (i : Nat) : List Nat :=
  if i = 0 then [112, 114, 101, 115, 115]
  else if i < 17 then [66, 76] ++ digits (i - 1)
  else if i < 21 then [72, 76] ++ digits (i - 17)
  else if i < 29 then [83, 76] ++ digits (i - 21)
  else if i = 29 then [77, 76] else if i = 30 then [78, 82, 69] else [78, 82, 87]

/-- The descriptor of a fixed unit as it stands until UNIT_SET changes it (R21, R36). -/
def fixedUnit (i : Nat) : UnitDesc :=
  { utype := if i = 0 then 1 else 4, parent := if i = 0 then 0xFFFF#16 else 0#16, name := nameBytes (fixedName i) }

/-- The descriptor a set holds at INDEX `i`. -/
def CfgSet.unit (c : CfgSet) (i : Nat) : Option UnitDesc :=
  match kvFind c.units i with
  | some u => some u
  | none => if i < 32 then some (fixedUnit i) else none

/-- INDEX of a handle (Table 02-2). -/
def hIndex (h : Handle) : Nat := h.toNat % 1024

/-- GEN of a handle (Table 02-2). -/
def hGen (h : Handle) : Nat := h.toNat / 1024

/-- The handle of generation `g` at INDEX `i`. -/
def mkHandle (g i : Nat) : Handle := BitVec.ofNat 16 (g * 1024 + i)

/-- The handle of the unit a set holds at INDEX `i`. -/
def CfgSet.handle (c : CfgSet) (i : Nat) : Handle :=
  match c.unit i with
  | some u => mkHandle u.gen i
  | none => 0xFFFF#16

/-- Every INDEX a set holds, rising. -/
def CfgSet.indices (c : CfgSet) : List Nat := (List.range 1024).filter fun i => (c.unit i).isSome

/-- The sets that keep an entry in use (R25). -/
def State.sets (s : State) : List CfgSet :=
  [s.cfg.cur] ++ (match s.cfg.prev with | some p => [p.2] | none => []) ++
    (match s.cfg.pend with | some p => [p.set, p.base] | none => []) ++
    (match s.cfg.staged with | some c => [c] | none => [])

/-- The descriptor that keeps entry `i` in use in any set (R25). -/
def State.entryUnit (s : State) (i : Nat) : Option UnitDesc := s.sets.findSome? fun c => c.unit i

/-- Check 4 of Table 20-4 against the set a command acts on (R24). -/
def checkHandle (s : State) (c : CfgSet) (h : Handle) : Option Status :=
  match s.entryUnit (hIndex h) with
  | none => some .noUnit
  | some u =>
    if u.gen ≠ hGen h then some .staleHandle
    else if (c.unit (hIndex h)).isNone then some .noUnit
    else none

/-- The type code of the unit a set holds under a handle, 0 for none. -/
def CfgSet.typeOf (c : CfgSet) (h : Handle) : Nat :=
  match c.unit (hIndex h) with
  | some u => if u.gen = hGen h then u.utype else 0
  | none => 0

/-- Parents of INDEX `i` up to the root, nearest first; at most `n` steps. -/
def CfgSet.ancestors (c : CfgSet) : Nat → Nat → List Nat
  | 0, _ => []
  | n + 1, i =>
    match c.unit i with
    | none => []
    | some u => if u.parent = 0xFFFF#16 then [] else hIndex u.parent :: c.ancestors n (hIndex u.parent)

/-- `j` is `i` or a descendant of `i`. -/
def CfgSet.under (c : CfgSet) (i j : Nat) : Bool := i == j || (c.ancestors 16 j).contains i

/-- Children of INDEX `i`, rising by order position, ties by INDEX (R28). -/
def CfgSet.children (c : CfgSet) (i : Nat) : List Nat :=
  let cs := c.indices.filter fun j => match c.unit j with
    | some u => u.parent != 0xFFFF#16 && hIndex u.parent == i
    | none => false
  let ord := fun j => match c.unit j with | some u => u.order | none => 255
  sortBy cs fun a b => ord a < ord b || (ord a == ord b && a ≤ b)

/-- Depth of a group: 1 above its deepest child group, 0 for a unit of another type (R26). -/
def CfgSet.depth (c : CfgSet) : Nat → Nat → Nat
  | 0, _ => 0
  | n + 1, i =>
    match c.unit i with
    | some u => if u.utype = 0x0F then 1 + ((c.children i).map (c.depth n)).foldl max 0 else 0
    | none => 0

/-- The allowed parents of each type (R21, Table 02-1). -/
def parentAllowed (t p : Nat) : Bool :=
  match t with
  | 0x02 => p == 0x01
  | 0x03 => p == 0x02
  | 0x05 => [0x01, 0x02].contains p
  | 0x06 | 0x07 | 0x08 | 0x09 | 0x0C | 0x0F => [0x01, 0x02, 0x03, 0x0F].contains p
  | 0x0A => [0x01, 0x0F].contains p
  | 0x0B => p != 0x04 && p != 0x09 && 1 ≤ p && p ≤ 0x0F
  | 0x0D => [0x02, 0x0F].contains p
  | 0x0E => [0x03, 0x0F].contains p
  | _ => false

/-- Station number of a STATION unit (R457): the station entry that names it. -/
def CfgSet.stationOf (c : CfgSet) (h : Handle) : Option Nat :=
  (List.range 16).find? fun n => c.get 0x01 n 11 2 == h.toNat && h != 0xFFFF#16

/-- The handle of station `n`, 0xFFFF for none. -/
def CfgSet.stationHandle (c : CfgSet) (n : Nat) : Handle := BitVec.ofNat 16 (c.get 0x01 n 11 2)

/-- Station `n` exists in the set (R457). -/
def CfgSet.hasStation (c : CfgSet) (n : Nat) : Bool := n < 16 && c.stationHandle n != 0xFFFF#16

/-- The stations of a set. -/
def CfgSet.stationList (c : CfgSet) : List Nat := (List.range 16).filter c.hasStation

/-- Engine number of station `n` (Table 21-5). -/
def CfgSet.engineOf (c : CfgSet) (n : Nat) : Nat := c.get 0x01 n 13 1

/-- The station whose subtree holds INDEX `i`. -/
def CfgSet.stationAbove (c : CfgSet) (i : Nat) : Option Nat :=
  (i :: c.ancestors 16 i).findSome? fun j => c.stationOf (c.handle j)

/-- The outermost RETIRE_AS_ONE group that holds INDEX `i` (R30). -/
def CfgSet.flagged (c : CfgSet) (i : Nat) : Option Nat :=
  (i :: c.ancestors 16 i).reverse.find? fun j => match c.unit j with
    | some u => u.utype == 0x0F && u.retireAsOne
    | none => false

/-- Handles of the fixed lanes: BL0 is INDEX 1. -/
def laneHandle (l : Nat) : Handle := BitVec.ofNat 16 (1 + l)

/-- The set's mode is FINE: the mode field, the same on every station (Table 21-5). -/
def CfgSet.fine (c : CfgSet) : Bool :=
  match c.stationList with
  | n :: _ => c.get 0x01 n 10 1 == 1
  | [] => false

/-- The line advance of one sweep: 32 lines, 16 in FINE (R41). -/
def CfgSet.lineStep (c : CfgSet) : Nat := if c.fine then 16 else 32

/-! ### Which table index a unit has

The INDEX a unit takes within the AXIS, STEPPER, LOOP, SOLENOID, CHANNEL and RAIL blocks is the rank of the unit among
the units of its type in INDEX order: the spec gives the blocks no unit field (log entry 11). -/

/-- Units of a type, rising by INDEX. -/
def CfgSet.ofType (c : CfgSet) (t : Nat) : List Nat :=
  c.indices.filter fun i => match c.unit i with | some u => u.utype == t | none => false

/-- The block index of a unit among the units of its type. -/
def CfgSet.rank (c : CfgSet) (t : Nat) (h : Handle) : Option Nat :=
  (c.ofType t).findIdx? fun i => i == hIndex h

/-- The handle of the unit with block index `n` among the units of type `t`. -/
def CfgSet.ranked (c : CfgSet) (t n : Nat) : Handle :=
  match (c.ofType t)[n]? with
  | some i => c.handle i
  | none => 0xFFFF#16

end Sys2Proof.Machine
end

