-- ==== Sys2Proof/Machine/Record.lean ====
section
/-! DEFINITION. Events, the gallery and class 0 notes (R330, R360 to R364, R388, R414). -/

namespace Sys2Proof.Machine

open Sys2Proof

/-! ### Free values -/

/-- The next free value of the run, and the state with its counter advanced (log entry 3). -/
def State.draw (s : State) : Nat × State := (Config.free s.free, s.modFree (· + 1))

/-- Appends to what the block has sent. -/
def State.send (s : State) (m : OutMsg) : State := s.modOutbox (· ++ [m])

/-! ### Events -/

/-- The lane that carries EVENTS, if one is enabled (R418). -/
def eventLane (s : State) : Option Nat :=
  (List.range 4).find? fun n => let f := s.cfgGet 0x15 0 (32 * n) 1; bitOf f 0 && bitOf f 3

/-- The message of an event (R383, Table 20-1). -/
def eventMsg (s : State) (code : Nat) (h : Handle) (payload : List Byte) : Msg :=
  { opcode := BitVec.ofNat 16 code, flags := 2#8, handle := h, version := BitVec.ofNat 32 s.latestVersion,
    seq := BitVec.ofNat 32 s.mbx.evtCount, payload := padTo 48 payload }

/-- Puts a message into the event ring and advances EVT_PROD; it must not be full. -/
def evtPush (m : Msg) (s : State) : State :=
  s.modMbx fun b => { b with evtRing := b.evtRing ++ [m], evtProd := b.evtProd + 1#16 }

/-- Posts an event (R388, R389): into the event ring, or counted when the ring is full or earlier losses have not yet
been told by OVERFLOW; on the host link too while a host address is configured. -/
def post (code : Nat) (h : Handle) (payload : List Byte) (s : State) : State :=
  let m := eventMsg s code h payload
  let s := s.modMbx fun b => { b with evtCount := b.evtCount + 1 }
  let s := match eventLane s with
    | some _ => s.send (.messages 47102 0 [m])
    | none => s
  if s.mbx.evtLost = 0 ∧ s.mbx.evtRing.length < 128 then evtPush m s
  else s.modMbx fun b => { b with evtLost := b.evtLost + 1 }

/-! ### The gallery -/

/-- Records held, buffered ones included (R363). -/
def galHeld (g : Gallery) : Nat := g.recs.length + g.buf.length

/-- The gallery is near full (R364). -/
def galNear (g : Gallery) : Bool := decide (31744 ≤ galHeld g)

/-- The gallery is full (R364). -/
def galFull (g : Gallery) : Bool := decide (32768 ≤ galHeld g)

/-- Core `n` is stalled: its watchdog has expired and it has not serviced it since (R14, R336). -/
def coreStalled (s : State) (n : Nat) : Bool := s.faults.stalled.contains n

/-- The 64 bytes of a gallery record (Table 19-1). -/
def galBytes (r : GalRec) : List Byte :=
  let b := leBytes 4 r.seq ++ leBytes 5 r.sec ++ leBytes 1 r.flags ++ leBytes 4 r.cycle ++ leBytes 2 r.type ++
    leBytes 2 r.handle.toNat ++ leBytes 1 r.sel ++ leBytes 1 0 ++ leBytes 2 r.rep ++
    leBytes 2 (min 65535 (r.last - r.sec)) ++ leBytes 4 r.aux ++ padTo 32 r.payload
  b ++ leBytes 4 (crc32c b).toNat

/-- The event repeats record `r` (R362). -/
def galRepeats (now : Nat) (n r : GalRec) : Bool :=
  r.type == n.type && r.handle == n.handle && r.sel == n.sel && r.payload == n.payload &&
    decide (now ≤ r.last + 10) && decide (r.rep < 65535) && !bitOf r.flags 0 && !bitOf n.flags 0 && r.type != 0x40

/-- Rewrites the first record of the list that satisfies `p`. -/
def updFirst {α : Type} (p : α → Bool) (f : α → α) : List α → List α
  | [] => []
  | a :: r => if p a then f a :: r else a :: updFirst p f r

/-- The most recent record of a type, handle and selector (R362). -/
def galLatest (g : Gallery) (n : GalRec) : Option GalRec :=
  (g.buf.reverse ++ g.recs.reverse).find? fun r => r.type == n.type && r.handle == n.handle && r.sel == n.sel &&
    !bitOf r.flags 0

/-- Flushes the buffer to MRAM; the first flush after space returns writes the LOST record of events that found the
buffer full (R363). Core 3 does it. -/
def galFlush (s : State) : State :=
  if coreStalled s 3 then s else
  s.modGal fun g =>
    let g := { g with recs := g.recs ++ g.buf, buf := [] }
    if g.missed = 0 then g
    else if galFull g then { g with lost := min 0xFFFFFFFF (g.lost + g.missed), missed := 0 }
    else
      let r : GalRec :=
        { seq := g.nextSeq, sec := s.clk.opSec, last := s.clk.opSec, cycle := s.clk.powerCycle,
          type := 0x41, aux := g.missed, payload := padTo 32 (leBytes 4 g.missedAt) }
      { g with recs := g.recs ++ [r], nextSeq := g.nextSeq + 1, missed := 0 }

/-- Writes a record without the level test: a repeat updates its record, a full gallery counts it lost, a full buffer
counts it missed (R362 to R364). -/
def galPut (n : GalRec) (s : State) : State :=
  let now := s.clk.opSec
  let peer := bitOf n.flags 0
  let n := { n with
    sec := if peer then n.sec else now, last := if peer then n.last else now,
    cycle := if peer then n.cycle else s.clk.powerCycle, payload := padTo 32 n.payload }
  let g := s.gal
  match galLatest g n with
  | some r =>
    if galRepeats now n r then
      let f := fun (x : GalRec) => { x with rep := x.rep + 1, last := now }
      s.modGal fun g => { g with
        buf := updFirst (fun x => x.seq == r.seq) f g.buf, recs := updFirst (fun x => x.seq == r.seq) f g.recs }
    else galNew n s
  | none => galNew n s
where
  /-- A new record takes the next seq and enters the buffer. -/
  galNew (n : GalRec) (s : State) : State :=
    let g := s.gal
    if galFull g then s.modGal fun g => { g with lost := min 0xFFFFFFFF (g.lost + 1) }
    else if 256 ≤ g.buf.length then
      s.modGal fun g => { g with missed := g.missed + 1, missedAt := if g.missed = 0 then g.nextSeq - 1 else g.missedAt }
    else
      let s := s.modGal fun g => { g with buf := g.buf ++ [{ n with seq := g.nextSeq }], nextSeq := g.nextSeq + 1 }
      if 192 ≤ s.gal.buf.length then galFlush s else s

/-! ### Class 0 notes -/

/-- The channel key of a note counter: handle and selector. -/
def noteKey (h : Handle) (sel : Nat) : Nat := h.toNat * 256 + sel

/-- Adds one occurrence to a note counter, saturating at 16 bits (R330). -/
def noteCount : List (Nat × Nat × Nat) → Nat → Nat → List (Nat × Nat × Nat)
  | [], k, c => [(k, c, 1)]
  | (k', c', n) :: r, k, c => if k' = k ∧ c' = c then (k, c, min 65535 (n + 1)) :: r else (k', c', n) :: noteCount r k c

/-- The value of a note counter. -/
def noteVal (l : List (Nat × Nat × Nat)) (k c : Nat) : Nat :=
  match l.find? fun p => p.1 == k && p.2.1 == c with
  | some p => p.2.2
  | none => 0

/-- A class 0 note without the gallery's level test: its counter, a NOTE event, and a NOTE record at its first
occurrence and then at most once per 60 s per channel and code (R330). `code` is area and code. -/
def noteBase (code : Nat) (h : Handle) (sel : Nat) (s : State) : State :=
  let k := noteKey h sel
  let s := s.modFaults fun f => { f with notes := noteCount f.notes k code }
  let s := post 0x8002 h (leBytes 2 code ++ leBytes 2 (noteVal s.faults.notes k code)) s
  let old := s.faults.noteSec.find? fun p => p.1 == k && p.2.1 == code
  let rest := s.faults.noteSec.filter fun p => !(p.1 == k && p.2.1 == code)
  let now := s.clk.opSec
  match old with
  | some (_, _, sec, n) =>
    if now < sec + 60 then s.modFaults fun f => { f with noteSec := rest ++ [(k, code, sec, n + 1)] }
    else galPut { type := 0x13, handle := h, sel := sel, aux := n + 1, payload := leBytes 2 code }
      (s.modFaults fun f => { f with noteSec := rest ++ [(k, code, now, 0)] })
  | none => galPut { type := 0x13, handle := h, sel := sel, aux := 1, payload := leBytes 2 code }
      (s.modFaults fun f => { f with noteSec := rest ++ [(k, code, now, 0)] })

/-- Posts GALLERY_LEVEL and raises the note at the first crossing of each level (R364, Table 19-11). -/
def galLevel (s : State) : State :=
  let s := if galNear s.gal && !s.gal.near then
      noteBase 0x1801 0#16 0 (post 0x8601 0xFFFF#16 [0#8] (s.modGal fun g => { g with near := true }))
    else s
  if galFull s.gal && !s.gal.full then
    noteBase 0x1802 0#16 0 (post 0x8601 0xFFFF#16 [1#8] (s.modGal fun g => { g with full := true }))
  else s

/-- Writes a gallery record of type `t` against a unit. -/
def galWrite (t : Nat) (h : Handle) (sel aux : Nat) (payload : List Byte) (s : State) : State :=
  galLevel (galPut { type := t, handle := h, sel := sel, aux := aux, payload := payload } s)

/-- A class 0 note against a channel (R330). -/
def note (code : Nat) (h : Handle) (sel : Nat) (s : State) : State := galLevel (noteBase code h sel s)

/-- A unit's live state, posted as UNIT_STATE when it changes (R27, R414). -/
def setUnitState (h : Handle) (st : UnitState) (cls : Nat) (s : State) : State :=
  let old := kvGet ({} : LiveUnit) s.units.live (hIndex h)
  if old.st = st ∧ old.cls = cls then s
  else
    let code := match st with | .ready => 0 | .disabled => 1 | .degraded => 2 | .faulted => 3 | .retired => 4
    post 0x8101 h (leBytes 1 code ++ leBytes 1 cls)
      (s.modUnits fun u => { u with live := kvSet u.live (hIndex h) { old with st := st, cls := cls } })

/-- The live state of the unit at INDEX `i`, its own part. -/
def liveOf (s : State) (i : Nat) : LiveUnit := kvGet {} s.units.live i

/-- The code of a unit state, which is its rank (Table 02-4). -/
def UnitState.rank : UnitState → Nat
  | .ready => 0
  | .disabled => 1
  | .degraded => 2
  | .faulted => 3
  | .retired => 4

/-- The unit state of a rank. -/
def UnitState.ofRank : Nat → UnitState
  | 0 => .ready
  | 1 => .disabled
  | 2 => .degraded
  | 3 => .faulted
  | _ => .retired

end Sys2Proof.Machine
end

