-- ==== Sys2Proof/Machine/Operands.lean ====
section
/-! DEFINITION. The operands of a mailbox command: payload fields, selectors, and the checks of Table 20-4 that every
command shares. -/

namespace Sys2Proof

open Sys2Proof.Machine

/-- The payload field of `k` bytes at offset `o`. -/
def Cmd.u (m : Cmd) (o k : Nat) : Nat := fieldAt m.payload o k

/-- The payload bytes at offset `o`. -/
def Cmd.bytes (m : Cmd) (o k : Nat) : List Byte := bytesAt m.payload o k

/-- A signed payload field. -/
def Cmd.i (m : Cmd) (o k : Nat) : Int := signed (8 * k) (m.u o k)

/-- A handle in the payload. -/
def Cmd.h (m : Cmd) (o : Nat) : Handle := BitVec.ofNat 16 (m.u o 2)

/-- The member selector of a command that addresses a unit (R22, R399). -/
def Cmd.sel (m : Cmd) : Nat := m.u 0 1

end Sys2Proof

namespace Sys2Proof.Machine

open Sys2Proof

/-- The set whose units a command addresses (R24). -/
inductive Target where
  /-- no unit: the handle must be 0xFFFF -/
  | none
  /-- a live command: the current set -/
  | live
  /-- a staging command: the staged set -/
  | staged
  /-- UNIT_READ: the set its source byte names -/
  | source
  deriving DecidableEq, Repr

/-- What the command tables say of an opcode before its own checks. -/
structure CmdInfo where
  /-- opcode -/
  op : Nat
  /-- unit addressed -/
  target : Target := .none
  /-- payload bytes that are not reserved: offset, length -/
  fields : List (Nat × Nat) := []
  /-- reserved bits inside those bytes: offset, mask -/
  bits : List (Nat × Nat) := []
  /-- the command addresses units only: its selector must be 0b00 (R400) -/
  unitOnly : Bool := false
  /-- its effect is recorded in the gallery (R363, R364) -/
  recorded : Bool := false
  deriving DecidableEq, Repr

/-- Every byte outside the fields is 0 (R7). -/
def reservedZero (fields : List (Nat × Nat)) (bs : List Byte) : Bool :=
  (bs.zipIdx).all fun p => p.1 == 0#8 || fields.any fun f => f.1 ≤ p.2 && p.2 < f.1 + f.2

/-- A selector names a member that a unit of this type has (R22); `slots` are a bank's slots. -/
def selectorOk (utype slots sel : Nat) : Bool :=
  match sel / 64 with
  | 0 => sel % 64 == 0
  | 1 => utype == 0x03 && decide (sel % 64 < 32)
  | 2 => utype == 0x03 && decide (sel % 64 < 36)
  | _ => utype == 0x09 && decide (sel % 64 < slots)

/-- Check 1 of Table 20-4: the header's and payload's reserved parts, and the handle of an opcode without a unit. -/
def checkForm (i : CmdInfo) (m : Cmd) : Bool :=
  m.status == 0#16 && m.flags == 0#8 && m.early == 0#8 && reservedZero i.fields m.payload &&
    (i.bits.all fun b => (m.payload.getD b.1 0#8).toNat &&& b.2 == 0) && decide (m.payload.length ≤ 192) &&
    (i.target != .none || m.handle == 0xFFFF#16)

/-- Opcodes that read the gallery (R292, R366). -/
def galleryRead (op : Nat) : Bool := [0x0601, 0x0602, 0x0603].contains op

/-- Opcodes that read the ledger. -/
def ledgerRead (op : Nat) : Bool := [0x0701, 0x0703].contains op

/-- Check 2 of Table 20-4: limp state (R292), LOCKOUT (R325), standby (R346). -/
def served (s : State) (op : Nat) : Bool :=
  let grp := op / 256
  if s.boot.stage = .limp then grp == 0x0B || galleryRead op || op == 0x0A06
  else if s.faults.lockout then grp == 0x0B || galleryRead op || ledgerRead op
  else if s.pair.st = .synced ∨ s.pair.st = .syncing then
    s.pair.claimOut || grp == 0x0B || grp == 0x0C || galleryRead op || ledgerRead op
  else true

/-- Groups whose commands compare the expected version (R393). -/
def versionChecked (op : Nat) : Bool := [0x01, 0x02, 0x03, 0x04, 0x05, 0x09, 0x0A, 0x0C].contains (op / 256)

/-- The set a command's handle is judged against (R24). -/
def actedSet (i : CmdInfo) (m : Cmd) (s : State) : CfgSet :=
  match i.target with
  | .staged => s.cfg.staged.getD s.cfg.cur
  | .source => if m.u 1 1 = 1 then s.cfg.staged.getD s.cfg.cur else s.cfg.cur
  | _ => s.cfg.cur

/-- The selector of a command that addresses a unit fits the unit (R22, R400). -/
def checkSelector (i : CmdInfo) (c : CfgSet) (m : Cmd) : Bool :=
  let u := (c.unit (hIndex m.handle)).getD {}
  selectorOk u.utype u.bankSlots m.sel && (!i.unitOnly || m.sel == 0)

/-- The ticket argument of a payload: the first 8 bytes of its SHA-256 (R399, Table 19-7). -/
def ticketArgs (m : Cmd) : Nat := leNat ((digestBytes (Config.sha256 m.payload).toNat).take 8)

/-- The grant matches a command's opcode and payload (R375). -/
def grantMatches (s : State) (op : Nat) (m : Cmd) : Bool :=
  match s.auth.grant with
  | some g => g.op == op && g.args == ticketArgs m
  | none => false

/-- The grant satisfies a need: regulator 1 serves every need, service 2 also an operator's (R372). -/
def grantServes (s : State) (need : Nat) : Bool :=
  match s.auth.grant with
  | some g => decide (g.role ≤ need)
  | none => false

/-- Checks 1 to 5 of Table 20-4 in their order: the status of the first that fails. `need` is the role a ticket must
have, 0 for none. -/
def vet (i : CmdInfo) (need : Nat) (m : Cmd) (s : State) : Option Status :=
  if !checkForm i m then some .range
  else if !served s i.op then some .busy
  else if versionChecked i.op && m.version != 0#32 && m.version.toNat != s.latestVersion then some .badVersion
  else
    let c := actedSet i m s
    match (if i.target = .none then none else checkHandle s c m.handle) with
    | some st => some st
    | none =>
      if i.target ≠ .none ∧ checkSelector i c m = false then some .range
      else if need ≠ 0 ∧ (grantMatches s i.op m && grantServes s need) = false then some .notAuthorised
      else none

end Sys2Proof.Machine
end

