-- ==== Sys2Proof/Machine/Mail.lean ====
section
/-! DEFINITION. The mailbox: messages entering the inbound ring, responses leaving, and the shape of every command
(R383 to R393). -/

namespace Sys2Proof.Machine

open Sys2Proof

/-- The code of a status (Table 20-3). -/
def Status.code : Status → BitVec 16
  | .ok => 0x0000#16
  | .busy => 0x0001#16
  | .conflict => 0x0002#16
  | .noUnit => 0x0003#16
  | .staleHandle => 0x0004#16
  | .badVersion => 0x0005#16
  | .notAuthorised => 0x0006#16
  | .noPrevious => 0x0007#16
  | .refusedFull => 0x0008#16
  | .overlapDenied => 0x0009#16
  | .timeout => 0x000A#16
  | .range => 0x000B#16
  | .notInGap => 0x000C#16

/-- Bytes in pieces of 48, at least one piece, at most `n + 1`. -/
def chunks : Nat → List Byte → List (List Byte)
  | 0, bs => [padTo 48 bs]
  | n + 1, bs => if bs.length ≤ 48 then [padTo 48 bs] else padTo 48 bs :: chunks n (bs.drop 48)

/-- MORE is set in every part but the last (R384). -/
def moreFlag (k n : Nat) : BitVec 8 := if k + 1 < n then 4#8 else 0#8

/-- The messages a command arrived as (R384). -/
def cmdParts (op : Nat) (m : Cmd) : List Msg :=
  let cs := chunks 3 m.payload
  cs.zipIdx.map fun p =>
    { opcode := BitVec.ofNat 16 op, tag := m.tag
      flags := if p.2 + 1 < cs.length then 4#8 ||| (if p.2 = 0 then m.early else 0#8) else m.flags
      handle := m.handle, status := m.status, version := m.version, seq := m.seq + BitVec.ofNat 32 p.2
      payload := p.1 }

/-- The messages of a response (R383 to R385). -/
def respMsgs (op : Nat) (m : Cmd) (st : Status) (payload : List Byte) (s : State) : List Msg :=
  let cs := chunks (payload.length / 48) payload
  cs.zipIdx.map fun p =>
    { opcode := BitVec.ofNat 16 op, tag := m.tag, flags := 1#8 ||| moreFlag p.2 cs.length
      handle := m.handle, status := st.code, version := BitVec.ofNat 32 s.latestVersion, seq := m.seq
      payload := p.1 }

/-- The message is the last part of its response. -/
def lastPart (m : Msg) : Bool := !m.flags.getLsbD 2

/-- Waiting responses enter the outbound ring in completion order while slots are free; a tag stops being outstanding
when its response's last part enters (R386, R387, R391). -/
def pump (s : State) : State :=
  s.modMbx fun b =>
    let k := 64 - b.outRing.length
    let moved := b.waiting.take k
    let tags := (moved.filter lastPart).map fun m => m.tag.toNat
    { b with
      outRing := b.outRing ++ moved
      outProd := b.outProd + BitVec.ofNat 16 moved.length
      waiting := b.waiting.drop k
      outstanding := b.outstanding.filter fun o => !tags.contains o.tag }

/-- Sends response messages on the path their command came by (R389, R425). -/
def deliver (p : Path) (ms : List Msg) (s : State) : State :=
  match p with
  | .spi => pump (s.modMbx fun b => { b with waiting := b.waiting ++ ms })
  | .host a => s.modMbx fun b =>
      { b with
        held := b.held ++ ms.map fun m => (a, m)
        outstanding := b.outstanding.filter fun o => !(ms.any fun m => m.tag.toNat == o.tag) }

/-- Answers a command: the response is kept for 1 s for a repeated command (R391) and goes out. -/
def respond (op : Nat) (m : Cmd) (st : Status) (payload : List Byte) (s : State) : State :=
  let ms := respMsgs op m st payload s
  let now := s.clk.opSec
  deliver m.path ms (s.modMbx fun b =>
    { b with answered := (b.answered.filter fun a => decide (now ≤ a.sec + 1)) ++
        [{ parts := cmdParts op m, resp := ms, path := m.path, sec := now }] })

/-- The command of a single message. -/
def msgCmd (p : Path) (m : Msg) : Cmd :=
  { path := p, tag := m.tag, flags := m.flags, handle := m.handle, status := m.status, version := m.version,
    seq := m.seq, payload := m.payload }

/-- A SEQ_GAP note when a command message's seq is not one more than the previous one's (R391, R394). -/
def seqCheck (q : Nat) (s : State) : State :=
  let s' := s.modMbx fun b => { b with lastSeq := some q }
  match s.mbx.lastSeq with
  | some p => if (p + 1) % 2 ^ 32 = q then s' else note 0x0621 0#16 0 s'
  | none => s'

/-- Core 0 starts a command: its entries leave the inbound ring (R387); a command delivered with no entry there
becomes outstanding now (log entry 12). -/
def startCmd (op : Nat) (m : Cmd) (s : State) : State :=
  let ps := cmdParts op m
  let mine := fun (e : Path × Msg) => e.1 == m.path && ps.contains e.2
  let k := (s.mbx.inRing.filter mine).length
  if k ≠ 0 then
    s.modMbx fun b =>
      { b with inRing := b.inRing.filter fun e => !mine e, inCons := b.inCons + BitVec.ofNat 16 k }
  else
    (seqCheck m.seq.toNat s).modMbx fun b =>
      { b with
        lastSeq := some ((m.seq.toNat + (ps.length - 1)) % 2 ^ 32)
        outstanding := (b.outstanding.filter fun o => o.tag != m.tag.toNat) ++ [{ tag := m.tag.toNat, parts := ps }] }

/-- How a command ends its first part: with its response, or waiting for its end (R392, R399). -/
inductive Reply where
  /-- answered with a status and a payload in a state -/
  | done (st : Status) (payload : List Byte) (s : State)
  /-- under way; it responds at end -/
  | later (s : State)

/-- A refusal: the status, with no effect (R393). -/
def refuse (st : Status) (s : State) : Reply := .done st [] s

/-- The grant is used up by the first command that matches it (R375). -/
def useGrant (op : Nat) (m : Cmd) (s : State) : State :=
  if grantMatches s op m then s.modAuth fun a => { a with grant := none } else s

/-- A mailbox command: it starts, is checked in the order of Table 20-4, has its effect and is answered. Before
firmware serves the mailbox, or while core 0 is stalled, it has no effect (R14, R395, log entry 12). -/
def runCmd (i : CmdInfo) (need : State → Nat) (m : Cmd) (body : State → Reply) (s : State) : State :=
  if !s.mbx.live || coreStalled s 0 then s
  else
    let s := startCmd i.op m s
    match vet i (need s) m s with
    | some st => respond i.op m st [] s
    | none =>
      let s := useGrant i.op m s
      match body s with
      | .done st p t =>
        if st ≠ .ok then respond i.op m st p t
        else if i.recorded && galFull s.gal then respond i.op m .refusedFull [] s
        else respond i.op m st p (if i.recorded then galFlush t else t)
      | .later t =>
        if i.recorded && galFull s.gal then respond i.op m .refusedFull [] s
        else t.modMbx fun b => { b with waiters := b.waiters ++ [{ op := i.op, cmd := m }] }

/-- No ticket needed. -/
def noTicket (_ : State) : Nat := 0

/-- Answers every waiting command that satisfies `p` and forgets it. -/
def finish (p : Waiter → Bool) (st : Status) (payload : List Byte) (s : State) : State :=
  let ws := s.mbx.waiters.filter p
  ws.foldl (fun s w => respond w.op w.cmd st payload s)
    (s.modMbx fun b => { b with waiters := b.waiters.filter fun w => !p w })

/-- A command of opcode `op` waits. -/
def waitingOp (op : Nat) (w : Waiter) : Bool := w.op == op

/-- A command of opcode `op` on unit `h` waits. -/
def waitingOn (op : Nat) (h : Handle) (w : Waiter) : Bool := w.op == op && w.cmd.handle == h

/-! ### Messages arriving -/

/-- The opcodes of the command tables (R398). -/
def opcodes : List Nat :=
  (List.range 9).map (0x0101 + ·) ++ (List.range 7).map (0x0201 + ·) ++ (List.range 5).map (0x0301 + ·) ++
  (List.range 12).map (0x0401 + ·) ++ (List.range 7).map (0x0501 + ·) ++ (List.range 4).map (0x0601 + ·) ++
  (List.range 3).map (0x0701 + ·) ++ (List.range 9).map (0x0801 + ·) ++ (List.range 5).map (0x0901 + ·) ++
  (List.range 6).map (0x0A01 + ·) ++ (List.range 6).map (0x0B01 + ·) ++ (List.range 3).map (0x0C01 + ·) ++
  (List.range 3).map (0x0D01 + ·)

/-- The multi-part command left incomplete at the ring's end, if any: its tag and its entries so far (R384). -/
def incompletePart (s : State) : Option (Nat × Nat) :=
  match s.mbx.inRing.getLast? with
  | some (_, m) =>
    if m.flags.getLsbD 2 then
      some (m.tag.toNat, (s.mbx.inRing.reverse.takeWhile fun e => e.2.tag == m.tag && e.2.flags.getLsbD 2).length)
    else none
  | none => none

/-- Takes the last `k` entries out of the inbound ring and answers their command with RANGE (R384). -/
def dropTail (k : Nat) (s : State) : State :=
  let n := s.mbx.inRing.length - k
  match s.mbx.inRing[n]? with
  | none => s
  | some (p, m) =>
    let s := s.modMbx fun b => { b with inRing := b.inRing.take n, inCons := b.inCons + BitVec.ofNat 16 k }
    respond m.opcode.toNat (msgCmd p m) .range [] s

/-- A message that is a command in its own right enters the ring, or is answered BUSY when the ring is full (R387),
or RANGE at once when its opcode is no command's (R398). -/
def enterRing (p : Path) (m : Msg) (s : State) : State :=
  let s := seqCheck m.seq.toNat s
  if 64 ≤ s.mbx.inRing.length then
    let s := note 0x0622 0#16 0 s
    deliver p (respMsgs m.opcode.toNat (msgCmd p m) .busy [] s) s
  else
    let s := s.modMbx fun b =>
      { b with
        inRing := b.inRing ++ [(p, m)], inProd := if p = .spi then b.inProd else b.inProd + 1#16
        outstanding := b.outstanding ++ [{ tag := m.tag.toNat, parts := [m] }] }
    if opcodes.contains m.opcode.toNat || m.flags.getLsbD 2 then s else dropTail 1 s

/-- A further part of the incomplete command at the ring's end (R384); a fifth part makes it too long. -/
def enterPart (p : Path) (m : Msg) (k : Nat) (s : State) : State :=
  let s := seqCheck m.seq.toNat s
  if 4 ≤ k then dropTail k s
  else if 64 ≤ s.mbx.inRing.length then
    let s := note 0x0622 0#16 0 s
    deliver p (respMsgs m.opcode.toNat (msgCmd p m) .busy [] s) s
  else
    s.modMbx fun b =>
      { b with
        inRing := b.inRing ++ [(p, m)], inProd := if p = .spi then b.inProd else b.inProd + 1#16
        outstanding := b.outstanding.map fun o =>
          if o.tag = m.tag.toNat then { o with parts := o.parts ++ [m] } else o }

/-- An inbound message (R391): a retransmission is ignored, a command answered within the last second is answered
again, a tag clash is discarded, any other message enters the ring. -/
def arrive (p : Path) (m : Msg) (s : State) : State :=
  if s.mbx.outstanding.any fun o => o.parts.contains m then s
  else
    match s.mbx.answered.find? fun a => a.parts.contains m && decide (s.clk.opSec ≤ a.sec + 1) with
    | some a => deliver a.path a.resp s
    | none =>
      match incompletePart s with
      | some (t, k) =>
        if t = m.tag.toNat then enterPart p m k s
        else
          let s := dropTail k s
          if s.mbx.outstanding.any fun o => o.tag == m.tag.toNat then note 0x0620 0#16 0 s else enterRing p m s
      | none =>
        if s.mbx.outstanding.any fun o => o.tag == m.tag.toNat then note 0x0620 0#16 0 s else enterRing p m s

end Sys2Proof.Machine
end

