-- ==== Sys2Proof/Machine/Opcodes.lean ====
section
/-! DEFINITION. What the command tables say of each opcode before its own checks: its number, the unit it addresses, the
payload bytes that are not reserved, and whether its effect is recorded (R363, R364, R398, 21). -/

namespace Sys2Proof.Machine

open Sys2Proof

/-- UNIT_CREATE. -/
def opUnitCreate : CmdInfo :=
  { op := 0x0101, fields := [(0, 1), (2, 9), (16, 16)], bits := [(5, 0xF8)] }

/-- UNIT_DELETE. -/
def opUnitDelete : CmdInfo :=
  { op := 0x0102, target := .staged, fields := [(0, 1)], unitOnly := true }

/-- UNIT_MOVE. -/
def opUnitMove : CmdInfo :=
  { op := 0x0103, target := .staged, fields := [(0, 4)], unitOnly := true }

/-- UNIT_SET. -/
def opUnitSet : CmdInfo :=
  { op := 0x0104, target := .staged, fields := [(0, 3), (4, 4), (16, 16)], unitOnly := true, bits := [(2, 0xF8)] }

/-- UNIT_ENABLE. -/
def opUnitEnable : CmdInfo :=
  { op := 0x0105, target := .live, fields := [(0, 1)], unitOnly := true }

/-- UNIT_DISABLE. -/
def opUnitDisable : CmdInfo :=
  { op := 0x0106, target := .live, fields := [(0, 1)], unitOnly := true }

/-- UNIT_READ. -/
def opUnitRead : CmdInfo :=
  { op := 0x0107, target := .source, fields := [(0, 2)], unitOnly := true }

/-- UNIT_LOOKUP. -/
def opUnitLookup : CmdInfo :=
  { op := 0x0108, fields := [(0, 2), (16, 16)] }

/-- UNIT_CHILDREN. -/
def opUnitChildren : CmdInfo :=
  { op := 0x0109, target := .live, fields := [(0, 2)], unitOnly := true }

/-- CFG_STAGE_BEGIN. -/
def opCfgStageBegin : CmdInfo :=
  { op := 0x0201 }

/-- CFG_WRITE. -/
def opCfgWrite : CmdInfo :=
  { op := 0x0202, fields := [(0, 1), (2, 6), (16, 176)] }

/-- CFG_READ. -/
def opCfgRead : CmdInfo :=
  { op := 0x0203, fields := [(0, 8)] }

/-- CFG_STAGE_ABORT. -/
def opCfgStageAbort : CmdInfo :=
  { op := 0x0204 }

/-- CFG_COMMIT. -/
def opCfgCommit : CmdInfo :=
  { op := 0x0205, fields := [(0, 32)], recorded := true }

/-- CFG_REVERT. -/
def opCfgRevert : CmdInfo :=
  { op := 0x0206, fields := [(0, 4)], recorded := true }

/-- CFG_STATUS. -/
def opCfgStatus : CmdInfo :=
  { op := 0x0207 }

/-- JOB_SUBMIT. -/
def opJobSubmit : CmdInfo :=
  { op := 0x0301, fields := [(0, 48)], bits := [(11, 0xE0)] }

/-- JOB_CANCEL. -/
def opJobCancel : CmdInfo :=
  { op := 0x0302, fields := [(0, 4)] }

/-- JOB_HOLD. -/
def opJobHold : CmdInfo :=
  { op := 0x0303, fields := [(0, 4)] }

/-- JOB_RELEASE. -/
def opJobRelease : CmdInfo :=
  { op := 0x0304, fields := [(0, 4)] }

/-- JOB_STATUS. -/
def opJobStatus : CmdInfo :=
  { op := 0x0305, fields := [(0, 4)] }

/-- MOT_PRESS_STOP. -/
def opMotPressStop : CmdInfo :=
  { op := 0x0401, fields := [(0, 1)] }

/-- MOT_PRESS_THREAD. -/
def opMotPressThread : CmdInfo :=
  { op := 0x0401, fields := [(0, 1)] }

/-- MOT_PRESS_RUN. -/
def opMotPressRun : CmdInfo :=
  { op := 0x0401, fields := [(0, 1)] }

/-- MOT_JOG. -/
def opMotJog : CmdInfo :=
  { op := 0x0402, fields := [(0, 2), (4, 4)] }

/-- MOT_HOME. -/
def opMotHome : CmdInfo :=
  { op := 0x0403, target := .live, fields := [(0, 1)] }

/-- MOT_GEAR_HOLD. -/
def opMotGearHold : CmdInfo :=
  { op := 0x0404, target := .live, fields := [(0, 2), (4, 14)] }

/-- MOT_GEAR_FREE. -/
def opMotGearFree : CmdInfo :=
  { op := 0x0404, target := .live, fields := [(0, 2), (4, 14)] }

/-- MOT_GEAR_REGEAR. -/
def opMotGearRegear : CmdInfo :=
  { op := 0x0404, target := .live, fields := [(0, 2), (4, 14)] }

/-- MOT_RATIO. -/
def opMotRatio : CmdInfo :=
  { op := 0x0405, target := .live, fields := [(0, 1), (4, 14), (20, 4)] }

/-- MOT_RATIO_CANCEL. -/
def opMotRatioCancel : CmdInfo :=
  { op := 0x0406, target := .live, fields := [(0, 1), (2, 6)] }

/-- MOT_PHASE. -/
def opMotPhase : CmdInfo :=
  { op := 0x0407, target := .live, fields := [(0, 1), (4, 12)] }

/-- MOT_MOVE. -/
def opMotMove : CmdInfo :=
  { op := 0x0408, target := .live, fields := [(0, 2), (4, 8)], bits := [(1, 0xFE)] }

/-- MOT_LOOP_MODE. -/
def opMotLoopMode : CmdInfo :=
  { op := 0x0409, target := .live, fields := [(0, 2), (4, 4)] }

/-- MOT_LOOP_TARGET. -/
def opMotLoopTarget : CmdInfo :=
  { op := 0x040A, target := .live, fields := [(0, 1), (4, 4)] }

/-- MOT_LOOP_SWITCH. -/
def opMotLoopSwitch : CmdInfo :=
  { op := 0x040B, target := .live, fields := [(0, 4)] }

/-- MOT_SOL_FIRE. -/
def opMotSolFire : CmdInfo :=
  { op := 0x040C, target := .live, fields := [(0, 4)], bits := [(1, 0xFE)] }

/-- MNT_START. -/
def opMntStart : CmdInfo :=
  { op := 0x0501, target := .live, fields := [(0, 3)], unitOnly := true, bits := [(2, 0xFE)] }

/-- MNT_STOP. -/
def opMntStop : CmdInfo :=
  { op := 0x0502, target := .live, fields := [(0, 2)], unitOnly := true }

/-- MNT_STATUS. -/
def opMntStatus : CmdInfo :=
  { op := 0x0503, target := .live, fields := [(0, 2)], unitOnly := true }

/-- MNT_FAULT_ACK. -/
def opMntFaultAck : CmdInfo :=
  { op := 0x0504, fields := [(0, 1), (2, 2)] }

/-- MNT_RETURN. -/
def opMntReturn : CmdInfo :=
  { op := 0x0505, target := .live, fields := [(0, 1)], recorded := true }

/-- MNT_INTLK_RELEASE. -/
def opMntIntlkRelease : CmdInfo :=
  { op := 0x0506, fields := [(0, 1)] }

/-- MNT_SPOOL_FORMAT. -/
def opMntSpoolFormat : CmdInfo :=
  { op := 0x0507, fields := [(0, 4)], recorded := true }

/-- GAL_READ. -/
def opGalRead : CmdInfo :=
  { op := 0x0601, fields := [(0, 5)] }

/-- GAL_STATUS. -/
def opGalStatus : CmdInfo :=
  { op := 0x0602 }

/-- GAL_EXPORT. -/
def opGalExport : CmdInfo :=
  { op := 0x0603, fields := [(0, 8), (16, 32)], recorded := true }

/-- GAL_CLEAR. -/
def opGalClear : CmdInfo :=
  { op := 0x0604, fields := [(0, 4)] }

/-- LDG_READ. -/
def opLdgRead : CmdInfo :=
  { op := 0x0701, fields := [(0, 9)] }

/-- LDG_ACK. -/
def opLdgAck : CmdInfo :=
  { op := 0x0702, fields := [(0, 10)] }

/-- LDG_STATUS. -/
def opLdgStatus : CmdInfo :=
  { op := 0x0703 }

/-- AUTH_CHALLENGE. -/
def opAuthChallenge : CmdInfo :=
  { op := 0x0801 }

/-- AUTH_TICKET. -/
def opAuthTicket : CmdInfo :=
  { op := 0x0802, fields := [(0, 44), (48, 32)] }

/-- AUTH_KEY_INSTALL. -/
def opAuthKeyInstall : CmdInfo :=
  { op := 0x0803, fields := [(0, 2), (8, 136)], recorded := true }

/-- AUTH_KEY_REMOVE. -/
def opAuthKeyRemove : CmdInfo :=
  { op := 0x0804, fields := [(0, 2)], recorded := true }

/-- AUTH_DIGEST_ADD. -/
def opAuthDigestAdd : CmdInfo :=
  { op := 0x0805, fields := [(0, 32)], recorded := true }

/-- AUTH_DIGEST_REMOVE. -/
def opAuthDigestRemove : CmdInfo :=
  { op := 0x0806, fields := [(0, 32)], recorded := true }

/-- AUTH_DIGEST_CLEAR. -/
def opAuthDigestClear : CmdInfo :=
  { op := 0x0807, recorded := true }

/-- AUTH_STATUS. -/
def opAuthStatus : CmdInfo :=
  { op := 0x0808 }

/-- AUTH_TOKEN_SIGN. -/
def opAuthTokenSign : CmdInfo :=
  { op := 0x0809, fields := [(0, 12)] }

/-- CAL_WRITE. -/
def opCalWrite : CmdInfo :=
  { op := 0x0901, target := .live, fields := [(0, 2), (4, 6), (16, 176)], unitOnly := true }

/-- CAL_COMMIT. -/
def opCalCommit : CmdInfo :=
  { op := 0x0902, target := .live, fields := [(0, 1), (16, 32)], unitOnly := true }

/-- CAL_READ. -/
def opCalRead : CmdInfo :=
  { op := 0x0903, target := .live, fields := [(0, 2), (4, 6)], unitOnly := true }

/-- CAL_ABORT. -/
def opCalAbort : CmdInfo :=
  { op := 0x0904, target := .live, fields := [(0, 1)], unitOnly := true }

/-- CAL_HEAD_CLEAR. -/
def opCalHeadClear : CmdInfo :=
  { op := 0x0905, target := .live, fields := [(0, 1), (8, 13)], unitOnly := true, recorded := true }

/-- PWR_STATUS. -/
def opPwrStatus : CmdInfo :=
  { op := 0x0A01, target := .live, fields := [(0, 1)], unitOnly := true }

/-- PWR_RAIL_RESTART. -/
def opPwrRailRestart : CmdInfo :=
  { op := 0x0A02, target := .live, fields := [(0, 1)], unitOnly := true }

/-- PWR_DOWN. -/
def opPwrDown : CmdInfo :=
  { op := 0x0A03 }

/-- PWR_UP. -/
def opPwrUp : CmdInfo :=
  { op := 0x0A04 }

/-- PWR_LOG_READ. -/
def opPwrLogRead : CmdInfo :=
  { op := 0x0A05, fields := [(0, 1)] }

/-- PWR_RESET. -/
def opPwrReset : CmdInfo :=
  { op := 0x0A06, fields := [(0, 4)] }

/-- DIAG_STATE. -/
def opDiagState : CmdInfo :=
  { op := 0x0B01, target := .live, fields := [(0, 1)] }

/-- DIAG_FAULTS. -/
def opDiagFaults : CmdInfo :=
  { op := 0x0B02, fields := [(0, 1)] }

/-- DIAG_NOTES. -/
def opDiagNotes : CmdInfo :=
  { op := 0x0B03, fields := [(0, 1), (2, 2)] }

/-- DIAG_METER. -/
def opDiagMeter : CmdInfo :=
  { op := 0x0B04, fields := [(0, 1), (4, 4)], bits := [(4, 0xFF), (5, 0xC0), (6, 0xC0)] }

/-- DIAG_SPOOL. -/
def opDiagSpool : CmdInfo :=
  { op := 0x0B05 }

/-- DIAG_BOOT. -/
def opDiagBoot : CmdInfo :=
  { op := 0x0B06 }

/-- PAIR_STATUS. -/
def opPairStatus : CmdInfo :=
  { op := 0x0C01 }

/-- PAIR_HANDOVER. -/
def opPairHandover : CmdInfo :=
  { op := 0x0C02 }

/-- PAIR_RESYNC. -/
def opPairResync : CmdInfo :=
  { op := 0x0C03 }

/-- PNL_LED. -/
def opPnlLed : CmdInfo :=
  { op := 0x0D01, fields := [(0, 19)] }

/-- PNL_BUZZER. -/
def opPnlBuzzer : CmdInfo :=
  { op := 0x0D02, fields := [(0, 4)] }

/-- PNL_STATUS. -/
def opPnlStatus : CmdInfo :=
  { op := 0x0D03 }

end Sys2Proof.Machine
end

