-- ==== Sys2Proof/Machine/Press.lean ====
section
/-! DEFINITION. Stations, lanes and frames in flight: what every family asks of them and does to them (03, 05). -/

namespace Sys2Proof.Machine

open Sys2Proof

/-! ### Access -/

/-- Station `n`'s pipeline. -/
def State.st (s : State) (n : Nat) : Station := kvGet {} s.stations n

/-- Changes station `n`'s pipeline. -/
def modSt (n : Nat) (f : Station → Station) (s : State) : State := s.modStations fun l => kvMod {} l n f

/-- Changes station `n`'s scan timing. -/
def modScan (n : Nat) (f : Rise → Rise) (s : State) : State := modSt n (fun x => { x with scan := f x.scan }) s

/-- Changes station `n`'s emitter supervisor. -/
def modEms (n : Nat) (f : Ems → Ems) (s : State) : State := modSt n (fun x => { x with ems := f x.ems }) s

/-- Beam lane `l`. -/
def State.lane (s : State) (l : Nat) : Lane := kvGet {} s.lanes l

/-- Changes beam lane `l`. -/
def modLane (l : Nat) (f : Lane → Lane) (s : State) : State := s.modLanes fun t => kvMod {} t l f

/-- Motor axis `a`. -/
def State.axis (s : State) (a : Nat) : Axis := kvGet {} s.axes a

/-- Changes motor axis `a`. -/
def modAxis (a : Nat) (f : Axis → Axis) (s : State) : State := s.modAxes fun t => kvMod {} t a f

/-- Changes one axis's gearing. -/
def modGear (a : Nat) (f : Gear → Gear) (s : State) : State := modAxis a (fun x => { x with gear := f x.gear }) s

/-- Loop slot `k`. -/
def State.loop (s : State) (k : Nat) : LoopSlot := kvGet {} s.loops k

/-- Changes loop slot `k`. -/
def modLoop (k : Nat) (f : LoopSlot → LoopSlot) (s : State) : State := s.modLoops fun t => kvMod {} t k f

/-- Ring node `n`. -/
def State.node (s : State) (n : Nat) : Node := kvGet {} s.ring.nodes n

/-- Changes ring node `n`. -/
def modNode (n : Nat) (f : Node → Node) (s : State) : State :=
  s.modRing fun r => { r with nodes := kvMod {} r.nodes n f }

/-- Rail `r`. -/
def State.rail (s : State) (r : Nat) : Rail := kvGet {} s.power.rails r

/-- Changes rail `r`. -/
def modRail (r : Nat) (f : Rail → Rail) (s : State) : State :=
  s.modPower fun p => { p with rails := kvMod {} p.rails r f }

/-- Newel position in lines. -/
def newelLines (s : State) : Rat := (s.newel.pos : Rat) / (2 ^ 32 : Nat)

/-- Whole newel lines. -/
def newelLine (s : State) : Int := s.newel.pos / (2 ^ 32 : Nat)

/-- The handle of station `n` under the current set. -/
def stH (s : State) (n : Nat) : Handle := s.cfg.cur.stationHandle n

/-! ### Unit states (R27) -/

/-- What a station's emitters add to its rank: RETIRED for one whose slot no other has, but in double interlace, where the
pairs cover every line; else DEGRADED while one is retired (R27, R201, Table 02-4, log entry 14). -/
def memberRank (s : State) (i : Nat) : Nat :=
  match s.cfg.cur.stationOf (s.cfg.cur.handle i) with
  | some n =>
    let x := (s.st n).ems
    let out := x.em.filter fun e => e.2.st == .retired
    if x.dbl then 2 else if out.any fun e => !e.2.covered then 4 else if out.isEmpty then 0 else 2
  | none => 0

/-- The state a unit reports: the highest rank among itself, its children and its members; a covered retirement
counts as DEGRADED (R27). At most `k` levels. -/
def stateRank (s : State) : Nat → Nat → Nat
  | 0, i => (liveOf s i).st.rank
  | k + 1, i =>
    let kids := (s.cfg.cur.children i).map fun j =>
      let r := stateRank s k j
      if r = 4 ∧ (liveOf s j).covered then 2 else r
    kids.foldl max (max (liveOf s i).st.rank (memberRank s i))

/-- The state of the unit at INDEX `i` (R27). -/
def unitState (s : State) (i : Nat) : UnitState := UnitState.ofRank (stateRank s 16 i)

/-- Station `n` is in service: READY or DEGRADED. -/
def stationServes (s : State) (n : Nat) : Bool :=
  s.cfg.cur.hasStation n && decide (stateRank s 16 (hIndex (stH s n)) = 0 ∨ stateRank s 16 (hIndex (stH s n)) = 2)

/-- Station `n` is FAULTED or RETIRED (Table 03-3, ROUTE). -/
def stationOut (s : State) (n : Nat) : Bool :=
  !s.cfg.cur.hasStation n || decide (3 ≤ stateRank s 16 (hIndex (stH s n)))

/-! ### Routes (R111, R112, R114) -/

/-- The lane a set's station map gives station `n` (Table 05-4). -/
def CfgSet.mapLane (c : CfgSet) (n : Nat) : Option Nat :=
  let b := c.get 0x02 0 (16 + n) 1
  if bitOf b 7 then some (b % 16) else none

/-- The station a set's layer map gives a layer (Table 05-4). -/
def CfgSet.mapLayer (c : CfgSet) (layer : Nat) : Option Nat :=
  let b := c.get 0x02 0 layer 1
  if layer < 16 ∧ bitOf b 7 then some (b % 16) else none

/-- The module a set's lane map gives a lane (Table 05-4). -/
def CfgSet.mapModule (c : CfgSet) (l : Nat) : Option Nat :=
  let b := c.get 0x02 0 (32 + l) 1
  if bitOf b 7 then some (b % 16) else none

/-- The lane in the ACTIVE copy for station `n`: the current set's, unless a forced change or an early switch says
otherwise. -/
def stationLane (s : State) (n : Nat) : Option Nat :=
  match kvFind s.cfg.routeLane n with
  | some r => r
  | none => s.cfg.cur.mapLane n

/-- The stations the ACTIVE copy maps to lane `l`. -/
def laneStations (s : State) (l : Nat) : List Nat :=
  (List.range 16).filter fun n => stationLane s n == some l

/-- The station a lane serves. -/
def laneStation (s : State) (l : Nat) : Option Nat := (laneStations s l).head?

/-! ### Frames in flight -/

/-- Changes the flight of a serial. -/
def modFlight (serial : Nat) (f : Flight → Flight) (s : State) : State :=
  s.modLand fun l => { l with flights := l.flights.map fun x => if x.serial = serial then f x else x }

/-- The flight of a serial. -/
def flight (s : State) (serial : Nat) : Option Flight := s.land.flights.find? fun f => f.serial == serial

/-- The stations a flight uses. -/
def Flight.stations (f : Flight) : List Nat := f.use.map (·.1)

/-- The layer a flight prints at station `n`. -/
def Flight.layerAt (f : Flight) (n : Nat) : Option Nat := (f.use.find? fun p => p.1 == n).map (·.2)

/-- A flight still uses station `n`: bound to it or printing its mark there, and not yet past it. -/
def Flight.usesNow (f : Flight) (n : Nat) : Bool := (f.stations.contains n || f.marking.contains n) && !f.left.contains n

/-- Sets bit `n` of a 16-bit map. -/
def setBit (m : BitVec 16) (n : Nat) : BitVec 16 := m ||| BitVec.ofNat 16 (2 ^ n)

/-- SPOILED with a cause; the first cause in time stands (R64, Table 19-3). -/
def Flight.spoil (f : Flight) (cause : Nat) : Flight :=
  { f with spoiled := true, cause := if f.spoiled then f.cause else cause }

/-- Offset of station `n` in lines (R42). -/
def offsetOf (s : State) (n : Nat) : Nat := s.cfgGet 0x01 n 0 4

/-- Station landing of a flight at station `n` (R42). -/
def stationLanding (s : State) (f : Flight) (n : Nat) : Int := f.landing + offsetOf s n

/-- Spoil mark station of engine `e` (Table 21-6), if one is named. -/
def spoilStation (c : CfgSet) (e : Nat) : Option Nat :=
  let b := c.get 0x03 0 (6 + e) 1
  if b < 16 then some b else none

/-- The spoil mark band of engine `e`: as many bytes as the band_length field of its own header says, when the entry's
header holds the magic (R63, R66, Table 04-4, Table 21-4). -/
def spoilBand (c : CfgSet) (e : Nat) : Option (List Byte) :=
  if c.get 0x04 e 0 4 = 0x444E4254 then some (c.read 0x04 e 0 (min 65536 (c.get 0x04 e 28 4))) else none

/-- The spoil mark of a failed layer: the engine's mark station prints its band for the whole frame when it is in
service and has not consumed band 0 of the frame (R63). -/
def trySpoilMark (n : Nat) (s : State) (f : Flight) : Flight :=
  match spoilStation s.latestSet (s.cfg.cur.engineOf n) with
  | none => f
  | some k =>
    if stationServes s k ∧ kvGet 0 f.consumed k = 0 ∧ f.left.contains k = false ∧ f.marking.contains k = false
        ∧ (spoilBand s.latestSet (s.cfg.cur.engineOf n)).isSome then
      { f with marking := f.marking ++ [k], asked := f.asked.filter fun p => p.1 != k }
    else f

/-- The layer of a flight at station `n` prints nothing of band `k`: it has failed at that band or before (R62). -/
def Flight.failsAt (f : Flight) (n k : Nat) : Bool := f.failed.getLsbD n && decide (kvGet 0 f.failFrom n ≤ k)

/-- The layer at station `n` fails for a flight at band `k`: from there on nothing of it prints and its fetches are
cancelled, the frame is SPOILED and the spoil mark is tried; a layer that has failed may fail at an earlier band yet
(R62, R63). -/
def failLayerF (n k cause : Nat) (s : State) (f : Flight) : Flight :=
  let cancel := fun (f : Flight) => { f with
    asked := f.asked.filter fun p => !(p.1 == n && decide (k ≤ p.2) && !f.fetched.contains p) }
  if f.failed.getLsbD n then cancel { f with failFrom := kvSet f.failFrom n (min k (kvGet 0 f.failFrom n)) }
  else
    trySpoilMark n s (cancel { f.spoil cause with
      failed := setBit f.failed n, failFrom := kvSet f.failFrom n k, crcs := kvDel f.crcs n })

/-- The layer of one flight fails at station `n` at band `k` (R62). -/
def failLayer (serial n k cause : Nat) (s : State) : State := modFlight serial (failLayerF n k cause s) s

/-- The band at which a layer fails when its station does: the one in exposure, else the next (R62, R114). -/
def Flight.bandNow (f : Flight) (s : State) (n : Nat) : Nat :=
  match ((s.st n).expo.filter fun p => p.1 == f.serial).map (·.2) with
  | [] => kvGet 0 f.exposed n
  | k :: r => r.foldl min k

/-- The layer at station `n` fails for every flight that uses the station and has not left it (R62). -/
def failStation (n cause : Nat) (s : State) : State :=
  s.modLand fun l => { l with
    flights := l.flights.map fun f => if f.usesNow n then failLayerF n (f.bandNow s n) cause s f else f }

/-- Every frame in flight is SPOILED and every station exposes level 0 for the remainder of it, a spoil mark included
(R16, R45). -/
def spoilAll (cause : Nat) (s : State) : State :=
  (s.modLand fun l => { l with flights := l.flights.map fun f =>
    { f.spoil cause with
      failed := f.stations.foldl setBit f.failed, failFrom := f.stations.foldl (fun t n => kvSet t n 0) f.failFrom
      marking := [], asked := [] } }).modStations fun t => t.map fun p =>
    (p.1, { p.2 with
      wHalf := { p.2.wHalf with cells := [] }, xHalf := { p.2.xHalf with cells := [] }
      pHalf := { p.2.pHalf with cells := [] } })

/-- A flight that has exposed at station `n` since the station's sweep `since` is marked by its job's emitter policy
(R199). -/
def markEmitterF (n since : Nat) (s : State) (f : Flight) : Flight :=
  match kvFind f.lastExp n with
  | none => f
  | some k =>
    if k < since then f
    else
      let spoil := match s.jobs.find? fun j => j.id == f.job with | some j => j.spoilPolicy | none => false
      if spoil then trySpoilMark n s (f.spoil 0x17)
      else { f with degraded := setBit f.degraded n }

/-- Every frame in flight is marked under R199 for an emitter lost at station `n`. -/
def markEmitter (n since : Nat) (s : State) : State :=
  s.modLand fun l => { l with flights := l.flights.map (markEmitterF n since s) }

/-! ### Press motion -/

/-- The device is the standby of a pair. -/
def standby (s : State) : Bool := s.pair.st != .alone && !s.pair.claimOut

/-- STATE of the pair status word (Table 18-3). -/
def PairSt.code : PairSt → Nat
  | .alone => 0
  | .active => 1
  | .syncing => 2
  | .synced => 3
  | .unsynced => 4
  | .locked => 5

/-- The pair status word (Table 18-4). -/
def pairWord (s : State) : Nat :=
  let p := s.pair
  p.st.code * 2 ^ 29 + bnat p.claimOut * 2 ^ 28 + bnat p.claimIn * 2 ^ 27 + bnat p.peerAlive * 2 ^ 26 +
    bnat p.mirrorUp * 2 ^ 25 + bnat p.peerActive * 2 ^ 24 + p.missed.toNat

/-- The pair state changes; PAIR tells it (R414). -/
def setPair (st : PairSt) (s : State) : State :=
  if s.pair.st = st then s
  else
    let s := s.modPair fun p => { p with st := st }
    post 0x8C01 0xFFFF#16 (leBytes 4 (pairWord s)) s

/-- Where the mode of the current set leads: FINE or SPEED (Table 21-5). -/
def setMode (c : CfgSet) : PressMode := if c.fine then .fine else .speed

/-- Top speed of the mode, in/s (R17, Table 01-6). -/
def topSpeed (s : State) : Rat :=
  let t : Rat := match s.land.mode with | .speed => 100 | .fine => 50 | .thread => 25
  if s.land.reduced then t / 2 else t

/-- The newel limit word: A_MAX in in/s² (Table 10-2). -/
def aMax (c : CfgSet) : Rat := (c.get 0x05 0 20 2 : Rat) / 1000

/-- J_MAX in in/s³ (Table 10-2). -/
def jMax (c : CfgSet) : Rat := (bitsOf (c.get 0x05 0 20 4) 29 16 : Rat) / 100

/-- The main web drive: the DTC axis of lowest block index beneath the press itself (log entry 13). -/
def webDrive (c : CfgSet) : Option Nat :=
  (List.range 64).find? fun a => match c.unit (hIndex (c.ranked 0x06 a)) with
    | some u => u.utype == 0x06 && u.parent == 0#16 && c.get 0x09 a 3 1 / 64 == 2
    | none => false

/-- The polygon axis of station `n`: the first axis beneath it in fan-out order (log entry 13). -/
def polygonOf (c : CfgSet) (n : Nat) : Option Nat :=
  match (c.children (hIndex (c.stationHandle n))).find? fun i => (c.unit i).any fun u => u.utype == 0x06 with
  | some i => c.rank 0x06 (c.handle i)
  | none => none

/-- Order of what stops the press (R16, Table 01-4): the higher stands. -/
def HoldSrc.rank : HoldSrc → Nat
  | .none => 0
  | .threadCmd => 1
  | .stop => 2
  | .controlled => 3
  | .lockout => 4

/-- A stop is asked for: the highest asked for stands, the run sequence ends with CONFLICT, and the lower speed demands
that have not taken effect, a job's slow request and a REDUCED transition, are cancelled (R16, R324, R404). A pending
commit is not: it takes effect when the last frame has left flight (R33). -/
def askStop (w : HoldSrc) (s : State) : State :=
  let s := s.modGov fun g => { g with reqs := g.reqs.filter fun r => r.1 != 1000 && r.1 != 1001 }
  finish (waitingOp 0x0401) .conflict [] (s.modLand fun l => { l with
    stopReq := if w.rank < l.stopReq.rank then l.stopReq else w, run := .none, reducedReq := false })

/-- No frame is in flight. -/
def noFlights (s : State) : Bool := s.land.flights.isEmpty

/-! ### Slow requests (R16) -/

/-- Names a source's slow request in place of its earlier one (R16). -/
def addReq (src : Nat) (v : Rat) (s : State) : State :=
  s.modGov fun g => { g with reqs := (g.reqs.filter fun r => r.1 != src) ++ [(src, v)] }

/-- Withdraws the slow request of a source. -/
def dropReq (src : Nat) (s : State) : State := s.modGov fun g => { g with reqs := g.reqs.filter fun r => r.1 != src }

/-- The REDUCED transition is requested: a slow request of half the mode's top speed, and no frame admitted until none
is in flight (R16, R19, R200). -/
def askReduced (s : State) : State :=
  addReq 1001 (topSpeed (s.modLand fun l => { l with reduced := false }) / 2) (s.modLand fun l => { l with reducedReq := true })

end Sys2Proof.Machine
end

