-- ==== Sys2Proof/Machine/Chirp.lean ====
section
/-! DEFINITION. The frequency plan of a station: chirp profiles, band tables and the switch schedule (R143, R144,
R148, R151 to R154). -/

namespace Sys2Proof.Machine

open Sys2Proof

/-! ### Profiles (Tables 07-7, 07-8) -/

/-- A chirp segment: start, end, and the four coefficients in units of 2^-30. -/
structure Seg3 where
  /-- start, φ × 65,536 -/
  a : Nat
  /-- start of the next segment -/
  b : Nat
  /-- c0 to c3 -/
  c0 : Rat
  /-- c1 -/
  c1 : Rat
  /-- c2 -/
  c2 : Rat
  /-- c3 -/
  c3 : Rat
  deriving DecidableEq, Repr

/-- The segments of a profile's bytes. -/
def chirpSegs (bs : List Byte) : List Seg3 :=
  let n := fieldAt bs 0 1
  (List.range n).map fun k =>
    let o := 8 + 20 * k
    let c := fun j => ((signed 32 (fieldAt bs (o + 4 + 4 * j) 4) : Int) : Rat) / (2 ^ 30 : Nat)
    { a := fieldAt bs o 2, b := if k + 1 < n then fieldAt bs (o + 20) 2 else 65536, c0 := c 0, c1 := c 1, c2 := c 2, c3 := c 3 }

/-- window_end of a profile. -/
def chirpWindow (bs : List Byte) : Nat := fieldAt bs 2 2

/-- Deviation of a segment at u. -/
def Seg3.at (s : Seg3) (u : Rat) : Rat := s.c0 + s.c1 * u + s.c2 * u ^ 2 + s.c3 * u ^ 3

/-- Width of a segment as a share of the sweep. -/
def Seg3.width (s : Seg3) : Rat := ((s.b : Rat) - s.a) / 65536

/-- Deviation of a profile at phase φ; an empty profile has none (R151, R153). -/
def chirpAt (segs : List Seg3) (phi : Rat) : Rat :=
  let x := (if 1 < phi then 1 else phi) * 65536
  match segs.find? fun s => decide ((s.a : Rat) ≤ x) && (decide (x < s.b) || s.b == 65536) with
  | some s => s.at ((x - s.a) / ((s.b : Rat) - s.a))
  | none => 0

/-- The integral of 1 + δ from 0 to φ. -/
def chirpCount (segs : List Seg3) (phi : Rat) : Rat :=
  segs.foldl
    (fun t s =>
      let x := phi * 65536
      if x ≤ s.a then t
      else
        let u := if (s.b : Rat) ≤ x then 1 else (x - s.a) / ((s.b : Rat) - s.a)
        t + s.width * (s.c0 * u + s.c1 * u ^ 2 / 2 + s.c2 * u ^ 3 / 3 + s.c3 * u ^ 4 / 4))
    phi

/-- `a + b √d` exceeds zero, for d at least 0. -/
def surdPos (a b d : Rat) : Bool :=
  if 0 ≤ a then (if 0 ≤ b then decide (0 < a ∨ 0 < b * b * d) else decide (b * b * d < a * a))
  else (if 0 < b then decide (a * a < b * b * d) else false)

/-- A segment's deviation exceeds `k` somewhere on it: at an end, or at an inner maximum. -/
def Seg3.above (s : Seg3) (k : Rat) : Bool :=
  decide (k < s.at 0) || decide (k < s.at 1) ||
    (if s.c3 = 0 then
      (s.c2 != 0 && (let u := -s.c1 / (2 * s.c2); decide (0 < u) && decide (u < 1) && decide (k < s.at u)))
    else
      -- inner extremes at u = (-c2 ± √d) / (3 c3), d = c2² - 3 c1 c3
      let d := s.c2 * s.c2 - 3 * s.c1 * s.c3
      decide (0 ≤ d) && [1, -1].any fun sg =>
        let p := -s.c2 / (3 * s.c3)
        let q := sg / (3 * s.c3)
        let inside := surdPos p q d && surdPos (1 - p) (-q) d
        let a := s.c0 + s.c1 * p + s.c2 * (p * p + q * q * d) + s.c3 * (p ^ 3 + 3 * p * q * q * d)
        let b := s.c1 * q + 2 * s.c2 * p * q + s.c3 * (3 * p * p * q + q ^ 3 * d)
        inside && surdPos (a - k) b d)

/-- The mirrored segment. -/
def Seg3.neg (s : Seg3) : Seg3 := { s with c0 := -s.c0, c1 := -s.c1, c2 := -s.c2, c3 := -s.c3 }

/-- |x|. -/
def absRat (x : Rat) : Rat := if x < 0 then -x else x

/-- The steepest |dδ/du| of a segment. -/
def Seg3.steep (s : Seg3) : Rat :=
  let d := fun u => absRat (s.c1 + 2 * s.c2 * u + 3 * s.c3 * u ^ 2)
  let u := if s.c3 = 0 then 0 else -s.c2 / (3 * s.c3)
  max (max (d 0) (d 1)) (if 0 < u ∧ u < 1 then d u else 0)

/-- Each segment with the one that follows it, the last with the first. -/
def segPairs (l : List Seg3) : List (Seg3 × Seg3) := l.zip (l.drop 1 ++ l.take 1)

/-- Form, range, continuity and slope of a profile (Tables 07-7 and 07-8, R152). -/
def chirpFormOk (bs : List Byte) (sTop : Nat) : Bool :=
  let segs := chirpSegs bs
  let n := fieldAt bs 0 1
  decide (1 ≤ n) && decide (n ≤ 16) && decide (bs.length = 8 + 20 * n) && fieldAt bs 1 1 == 0 && fieldAt bs 4 4 == 0 &&
    decide (32768 ≤ chirpWindow bs) && decide (chirpWindow bs ≤ 63488) &&
    (List.range n).all (fun k => fieldAt bs (10 + 20 * k) 2 == 0) && (segs.head?.any fun s => s.a == 0) &&
    segs.all (fun s => decide (s.a < s.b) && !s.above (8 / 100) && !s.neg.above (8 / 100) &&
      decide (s.steep / s.width * sTop ≤ 1000)) &&
    (segPairs segs).all fun p => decide (absRat (p.1.at 1 - p.2.at 0) ≤ 1024 / (2 ^ 30 : Nat))

/-! ### Band tables (R148) -/

/-- A band table is valid (R148). -/
def bandTableOk (t : List (Nat × Nat)) : Bool :=
  decide (t.length = 128) && t.all (fun p => decide (p.1 < p.2)) &&
    (t.zip (t.drop 1)).all fun p => decide (p.1.1 < p.2.1) && decide (p.1.2 < p.2.2) &&
      decide (4 * (p.2.1 - p.1.1) ≤ 3 * (p.1.2 - p.1.1))

/-- Frequency of band `b` at a fine code, in 4 Hz. -/
def bandFreq (t : List (Nat × Nat)) (b : Nat) (fine : Rat) : Rat :=
  let p := t.getD b (0, 0)
  (p.1 : Rat) + ((p.2 : Rat) - p.1) * fine / 65535

/-- The fine code of band `b` for a frequency in 4 Hz. -/
def bandCode (t : List (Nat × Nat)) (b : Nat) (f : Rat) : Rat :=
  let p := t.getD b (0, 0)
  if p.2 = p.1 then 0 else (f - p.1) * 65535 / ((p.2 : Rat) - p.1)

/-- The fine code of a band for a frequency in 4 Hz, rounded and clamped: code(b, f) (R145). -/
def tableCode (t : List (Nat × Nat)) (b : Nat) (f : Rat) : Nat := (max 0 (min 65535 (roundHalf (bandCode t b f)))).toNat

/-- The fine code lies in the range a schedule keeps to: 0x2000 to 0xDFFF (R154). -/
def codeOk (c : Rat) : Bool := decide ((0x2000 : Rat) ≤ c) && decide (c ≤ 0xDFFF)

/-- The band for a frequency in 4 Hz: of those whose fine code for it lies in 0x2000 to 0xDFFF, the one whose code is
nearest the middle of the range, the lowest of equals. DESIGN CHOICE: the spec does not say which band is taken where
several overlap (R154, log entry 156). -/
def bestBand (t : List (Nat × Nat)) (f : Rat) : Option Nat :=
  let ok := (List.range 128).filter fun b => codeOk (bandCode t b f)
  ok.foldl (fun m b => match m with
    | none => some b
    | some k => if absRat (bandCode t b f - 32768) < absRat (bandCode t k f - 32768) then some b else some k) none

/-- Walks a sweep at reference cycles of 10 ns and collects the switches: word, band, fine code (R154). `dphi` is the
phase of one reference cycle, `base` the frequency at δ = 0 in 4 Hz. -/
def scheduleFrom (segs : List Seg3) (t : List (Nat × Nat)) (nsw : Nat) (dphi base : Rat) :
    Nat → Rat → Nat → List (Nat × Nat × Nat)
  | 0, _, _ => []
  | k + 1, phi, band =>
    if 1 ≤ phi then []
    else
      let f := base * (1 + chirpAt segs phi)
      if codeOk (bandCode t band f) then scheduleFrom segs t nsw dphi base k (phi + dphi) band
      else match bestBand t f with
        | none => scheduleFrom segs t nsw dphi base k (phi + dphi) band
        | some b =>
          ((nsw * chirpCount segs phi).floor.toNat, b, tableCode t b f) ::
            scheduleFrom segs t nsw dphi base k (phi + dphi) b

/-- The band a sweep starts in, chosen for φ = 0, and its switch schedule, at `rate` sweeps/s with post-divider `p`
(R154, R163). -/
def schedule (segs : List Seg3) (t : List (Nat × Nat)) (nsw : Nat) (rate : Rat) (p : Nat) : Nat × List (Nat × Nat × Nat) :=
  let base := 20 * p * nsw * rate
  let b := (bestBand t (base * (1 + chirpAt segs 0))).getD 0
  (b, scheduleFrom segs t nsw (rate / 100000000) base 1000000 0 b)

/-! ### Station checks (R11, R104, R110, R142 to R144, R152, R170) -/

/-- Pixel periods that the profile places before phase φ, rounded down (R152). -/
def windowCount (segs : List Seg3) (nsw : Nat) (phi : Rat) : Nat := (nsw * chirpCount segs phi).floor.toNat

/-- The frequency plan stays inside the band table (R144). -/
def planOk (segs : List Seg3) (t : List (Nat × Nat)) (nsw sTop : Nat) : Bool :=
  let hi : Rat := ((t.getD 127 (0, 0)).2 : Rat) * 4
  let lo : Rat := ((t.getD 0 (0, 0)).1 : Rat) * 4
  let up : Rat := 80 * nsw * sTop
  let dn : Rat := 40 * nsw * sTop
  -- every δ of the profile keeps up (1 + δ) ≤ hi and dn (1 + δ) ≥ lo
  decide (0 < nsw * sTop) && (!segs.isEmpty || (decide (up ≤ hi) && decide (lo ≤ dn))) &&
    segs.all fun s => !s.above (hi / up - 1) && !s.neg.above (1 - lo / dn)

/-- What a station's calibration and its configuration must satisfy together (R109, R110, R144, R152, R170). Without an
installed profile there is none to check, and without a band table no plan; scan_start is checked as soon as the
station is calibrated at all (log entry 17). -/
def stationCalOk (c : CfgSet) (n : Nat) (k : CalSt) (table : List (Nat × Nat)) : Bool :=
  let nsw := c.get 0x01 n 6 2
  let sTop := c.get 0x01 n 8 2
  let w := c.get 0x01 n 4 2
  let segs := chirpSegs k.chirp
  let last := k.scanStart + w + 1023
  -- no scan_start stands: never calibrated, or invalidated by a new head (R204)
  let bare := k.stagger.isEmpty && k.scanStart == 0
  (bare || decide (64 ≤ k.scanStart ∧ k.scanStart ≤ 16383)) &&
    (k.chirp.isEmpty ||
      (chirpFormOk k.chirp sTop &&
        (bare || (decide (last ≤ windowCount segs nsw ((chirpWindow k.chirp : Rat) / 65536)) &&
          decide (((last + 26 : Nat) : Rat) ≤ nsw * chirpCount segs (1 - 2 * (sTop : Rat) / 100000)))) &&
        (table.isEmpty || decide ((schedule segs table nsw sTop 1).2.length ≤ 128)))) &&
    (table.isEmpty || planOk segs table nsw sTop)

/-! ### Calibration objects (R412, Table 21-17) -/

/-- Most bytes of an object; 0 for a code no object has. -/
def objSize (o : Nat) : Nat :=
  match o with
  | 1 => 72
  | 2 | 6 => 8
  | 3 => 328
  | 4 | 5 => 32
  | 7 => 1024
  | 8 => 13
  | _ => 0

/-- The bytes of an installed object; a profile or a band table that is not there has none. -/
def CalSt.obj (k : CalSt) (o : Nat) : List Byte :=
  match o with
  | 1 => (List.range 36).flatMap fun e => leBytes 2 (kvGet 0#16 k.stagger e).toNat
  | 2 => leBytes 2 k.scanStart ++ leBytes 2 0 ++ leInt 4 k.sosOff
  | 3 => k.chirp
  | 4 => padTo 32 (k.full.flatMap (leBytes 2))
  | 5 => padTo 32 (k.half.flatMap (leBytes 2))
  | 6 => leBytes 8 k.just.toNat
  | 7 => k.table.flatMap fun p => leBytes 4 p.1 ++ leBytes 4 p.2
  | _ => []

/-- Fields of `w` bytes, one after another. -/
def fieldList (w n : Nat) (bs : List Byte) : List Nat := (List.range n).map fun i => fieldAt bs (w * i) w

/-- A calibration with an object in place. -/
def CalSt.put (k : CalSt) (o : Nat) (bs : List Byte) : CalSt :=
  match o with
  | 1 => { k with stagger := (fieldList 2 36 bs).zipIdx.map fun p => (p.2, BitVec.ofNat 16 p.1) }
  | 2 => { k with scanStart := fieldAt bs 0 2, sosOff := signed 32 (fieldAt bs 4 4) }
  | 3 => { k with chirp := bs }
  | 4 => { k with full := fieldList 2 16 bs }
  | 5 => { k with half := fieldList 2 16 bs }
  | 6 => { k with just := BitVec.ofNat 64 (fieldAt bs 0 8) }
  | _ => k

/-- A station's calibration lets it serve: stagger table and both width tables are there (R204, R380). -/
def CalSt.complete (k : CalSt) : Bool := !k.stagger.isEmpty && !k.full.isEmpty && !k.half.isEmpty

/-- A width table is acceptable: level 0 is 0, no entry above 256, none below the one before (R174). -/
def widthsOk (w : List Nat) : Bool :=
  w.headD 0 == 0 && w.all (fun x => decide (x ≤ 256)) && (w.zip (w.drop 1)).all fun p => decide (p.1 ≤ p.2)

end Sys2Proof.Machine
end

