-- ==== Sys2Proof/Machine/RailTable.lean ====
section
/-! DEFINITION. The rail table, the rails' states and reset outputs, and the way down (15). -/

namespace Sys2Proof.Machine

open Sys2Proof

/-- Rails that stand below rail `r`, itself included; at most `k` levels. -/
def railBelow (c : CfgSet) : Nat → Nat → Nat → Bool
  | 0, r, q => r == q
  | k + 1, r, q => r == q || (List.range 4).any fun i =>
      let p := c.get 0x0F q (2 + i) 1
      decide (p < 48) && railBelow c k r p

/-! ### The rail table (R301, Table 15-2) -/

/-- A field of rail `r`'s entry. -/
def railF (s : State) (r off k : Nat) : Nat := s.cfgGet 0x0F r off k

/-- Rail `r` is used: its source is local or PMBus. -/
def usedRail (s : State) (r : Nat) : Bool := r < 48 && railF s r 0 1 / 64 != 0

/-- Rail `r` is on PMBus. -/
def railPm (s : State) (r : Nat) : Bool := railF s r 0 1 / 64 == 2

/-- ESSENTIAL. -/
def railEssential (s : State) (r : Nat) : Bool := bitOf (railF s r 1 1) 0

/-- TIMED: no sense. -/
def railTimed (s : State) (r : Nat) : Bool := bitOf (railF s r 1 1) 1

/-- Rail `r`'s parents. -/
def parentRails (s : State) (r : Nat) : List Nat :=
  ((List.range 4).map fun i => railF s r (2 + i) 1).filter fun p => decide (p < 48)

/-- The used rails. -/
def usedRails (s : State) : List Nat := (List.range 48).filter (usedRail s)

/-- The used rails that name rail `r` as a parent. -/
def railKids (s : State) (r : Nat) : List Nat := (usedRails s).filter fun q => (parentRails s q).contains r

/-- Every dependant of rail `r` (R302). -/
def railDependants (s : State) (r : Nat) : List Nat := (usedRails s).filter fun q => q != r && railBelow s.cfg.cur 48 r q

/-- Rails in ascending order, then ascending index (R304). -/
def upOrder (s : State) (rs : List Nat) : List Nat :=
  sortBy rs fun a b => decide (railF s a 6 1 < railF s b 6 1) || (railF s a 6 1 == railF s b 6 1 && decide (a ≤ b))

/-- The unit of rail `r`, the press where the tree holds none for it. -/
def railH (s : State) (r : Nat) : Handle :=
  let h := s.cfg.cur.ranked 0x0A r
  if h = 0xFFFF#16 then 0#16 else h

/-- PSEQ_EN[c] is high: its local rail is switched on (R299). -/
def pseqEn (s : State) (c : Nat) : Bool :=
  (usedRails s).any fun r => railF s r 0 1 / 64 == 1 && railF s r 0 1 % 16 == c &&
    ((s.rail r).st == .rising || (s.rail r).st == .good)

/-- A rail's sense is unavailable: its fall is timed by off_delay (R307); in a power failure every rail's is (R309). -/
def railBlind (s : State) (r : Nat) : Bool :=
  railTimed s r || s.boot.pfail || (if railPm s r then (s.rail r).noAns else s.power.adcBad)

/-! ### States and outputs -/

/-- The unit state a rail state reports (Table 15-3). -/
def railUnitState : RailState → UnitState
  | .good => .ready
  | .failed => .retired
  | _ => .disabled

/-- Reset output `r`'s set: used bits of its binding word (Table 15-4). -/
def resetSet (s : State) (r : Nat) : List Nat :=
  (List.range 48).filter fun n => bitOf (s.cfgGet 0x0F (80 + r) 0 6) n

/-- Every rail of the set is GOOD and the set is not empty (R308). -/
def resetReady (s : State) (r : Nat) : Bool :=
  !(resetSet s r).isEmpty && (resetSet s r).all fun n => (s.rail n).st == .good

/-- Outputs whose set is no longer GOOD are asserted at once (R308). -/
def assertResets (s : State) : State :=
  s.modPower fun p => { p with rst := p.rst.map fun x => (x.1, x.2 && resetReady s x.1) }

/-- A rail takes a state; its unit reports it and the reset outputs follow. -/
def setRail (r : Nat) (st : RailState) (s : State) : State :=
  let s := assertResets (modRail r (fun x => { x with st := st, badJudge := 0 }) s)
  let h := s.cfg.cur.ranked 0x0A r
  if h = 0xFFFF#16 then s else setUnitState h (railUnitState st) 0 s

/-- A rail on its way down may be disabled: every dependant is OFF, FAILED or HELD (R306). -/
def mayDisable (s : State) (r : Nat) : Bool :=
  ((s.rail r).st == .good || (s.rail r).st == .rising) && ((s.power.seq == .down) || (s.rail r).toHeld) &&
    (railDependants s r).all fun q => [RailState.off, .failed, .held].contains (s.rail q).st

/-- A rail is disabled and falls (R306). -/
def disableRail (r : Nat) (s : State) : State := (setRail r .falling s).send (.rail r 0)

/-- Every rail that may be disabled now is, in descending order, then descending index (R306). -/
def disableReady (s : State) : State :=
  ((upOrder s (usedRails s)).reverse.filter (mayDisable s)).foldl (fun s r => disableRail r s) s

/-- A rail is disabled and FAILED; what depends on it is taken down in the down order and HELD, rails RISING at once and
rails not yet enabled without starting (R305). -/
def dropRail (r : Nat) (s : State) : State :=
  let s := (setRail r .failed (modRail r (fun x => { x with wanted := false, toHeld := false }) s)).send (.rail r 0)
  disableReady ((railDependants s r).foldl
    (fun s q => match (s.rail q).st with
      | .off => setRail q .held (modRail q (fun x => { x with wanted := false }) s)
      | .rising => (setRail q .held (modRail q (fun x => { x with wanted := false }) s)).send (.rail q 0)
      | .good | .falling => modRail q (fun x => { x with toHeld := true, wanted := false }) s
      | _ => s) s)

end Sys2Proof.Machine
end

