-- ==== Sys2Proof/Machine/Supervise.lean ====
section
/-! DEFINITION. What withdrawing a channel from service does: emitters (R191, R198 to R202), lanes (R114), axes (R242),
nodes (R260), loops (R281) and stations. -/

namespace Sys2Proof.Machine

open Sys2Proof

/-! ### The calibration store (R379) -/

/-- What the store holds now (R379). -/
def storeImage (s : State) : CalStore :=
  { inst := s.cal.inst, lists := s.cal.lists, kappa := s.axes.map fun p => (p.1, p.2.kappaSaved)
    off := s.axes.map fun p => (p.1, p.2.offSaved) }

/-- A write of the whole store begins in the slot that does not hold the valid copy: its header is cleared, then the
payload is written (R379). -/
def beginStore (s : State) : State :=
  let img := storeImage s
  s.modCal fun c =>
    if c.slotIsB then { c with slotA := img, aValid := false, writing := true, again := false }
    else { c with slotB := img, bValid := false, writing := true, again := false }

/-- An update of the calibration store: a write begins, or follows the one that runs (R379); after PFW_N none does
(R309). -/
def requestStore (s : State) : State :=
  if s.boot.pfail then s
  else if s.cal.writing then s.modCal fun c => { c with again := true }
  else beginStore s

/-! ### Emitters -/

/-- Emitter `e` of station `n`. -/
def emitter (s : State) (n e : Nat) : Emitter := kvGet {} (s.st n).ems.em e

/-- Changes emitter `e` of station `n`. -/
def modEm (n e : Nat) (f : Emitter → Emitter) (s : State) : State :=
  modEms n (fun x => { x with em := kvMod {} x.em e f }) s

/-- The identity entry of emitter `e` in an accepted head. -/
def headEm (x : Ems) (e : Nat) : HeadEm :=
  match x.head with
  | some h => (h.ems[e]?).getD {}
  | none => {}

/-- The emitter that fills a beam slot. -/
def slotHolder (x : Ems) (slot : Nat) : Option Nat :=
  (List.range 36).find? fun e => let m := kvGet ({} : Emitter) x.em e; m.mapValid && m.slot == slot

/-- The spare that fills a vacant slot (R191): SPARE and GOOD, allowed there by its mask, good within the last two
survey cycles; one of the leaving emitter's column first, else the lowest numbered. -/
def pickSpare (x : Ems) (sweeps leaving slot : Nat) : Option Nat :=
  let fits := (List.range 36).filter fun e =>
    let m := kvGet ({} : Emitter) x.em e
    m.st == .spare && m.good && (headEm x e).mask.getLsbD slot && decide (sweeps ≤ m.lastGood + 72)
  match fits.find? fun e => e / 9 == leaving / 9 with
  | some e => some e
  | none => fits.head?

/-- Emitters that can still print: mapped, suspect in a slot, or spare. -/
def serviceable (x : Ems) : List Nat :=
  (List.range 36).filter fun e =>
    let m := kvGet ({} : Emitter) x.em e
    m.st == .mapped || m.st == .spare || (m.st == .suspect && m.mapValid)

/-- Puts emitter `e` into a slot; the retired one that left it is COVERED (R27, R198). -/
def placeEm (e slot : Nat) (x : Ems) : Ems :=
  let em := x.em.map fun p => if p.2.st = .retired ∧ p.2.slot = slot then (p.1, { p.2 with covered := true }) else p
  { x with em := kvMod {} em e fun m => { m with st := .mapped, slot := slot, mapValid := true } }

/-- Both slots of pair `k` are vacant. -/
def pairVacant (x : Ems) (k : Nat) : Bool := (slotHolder x k).isNone && (slotHolder x (k + 16)).isNone

/-- Fills pair `k` in double interlace when both its slots are vacant: with a spare, else with an emitter whose
partner slot is also filled, lowest numbered first, where its mask allows (R201, log entry 15). -/
def fillPair (x : Ems) (k : Nat) : Ems :=
  if !pairVacant x k then x
  else
    let ok := fun e => (headEm x e).mask.getLsbD k || (headEm x e).mask.getLsbD (k + 16)
    let slot := fun e => if (headEm x e).mask.getLsbD k then k else k + 16
    let free := (serviceable x).find? fun e => (kvGet ({} : Emitter) x.em e).st == .spare && ok e
    let lent := (serviceable x).find? fun e =>
      let m := kvGet ({} : Emitter) x.em e
      m.mapValid && ok e && (slotHolder x ((m.slot + 16) % 32)).isSome
    match free with
    | some e => placeEm e (slot e) x
    | none => match lent with | some e => placeEm e (slot e) x | none => x

/-- The map of a station in double interlace (R201). -/
def remap (x : Ems) : Ems := (List.range 16).foldl fillPair x

/-- A station in double interlace can no longer print: fewer than 16 serviceable emitters, or a pair without any
(R202). -/
def unserviceable (x : Ems) : Bool :=
  decide ((serviceable x).length < 16) || (List.range 16).any (pairVacant x)

/-- Adds an emitter to its head's retirement list; the list of the serial accepted longest ago is dropped when 64
others stand (R205). Lists are held oldest first. -/
def retireList (serial e : Nat) (ls : List (Nat × BitVec 36)) : List (Nat × BitVec 36) :=
  if ls.any fun p => p.1 == serial then
    ls.map fun p => if p.1 = serial then (p.1, p.2 ||| BitVec.ofNat 36 (2 ^ e)) else p
  else ls ++ [(serial, BitVec.ofNat 36 (2 ^ e))]

/-- A station's own part of its unit state becomes FAULTED and its layer fails for every frame in flight there. -/
def stationFault (n cls cause : Nat) (s : State) : State :=
  failStation n cause (setUnitState (stH s n) .faulted cls s)

/-- A station leaves FAULTED. -/
def stationReady (n : Nat) (s : State) : State :=
  if (liveOf s (hIndex (stH s n))).st = .faulted then setUnitState (stH s n) .ready 0 s else s

/-- An emitter is retired (R198): it leaves its slot, a spare takes the slot, frames exposed since its last good
measurement are marked (R199); with no spare the station goes into double interlace (R200), or in double interlace
is remapped or given up (R202). -/
def retireEmitter (n e : Nat) (s : State) : State :=
  let m := emitter s n e
  let x := (s.st n).ems
  let serial := match x.head with | some h => h.serial | none => 0
  let s := modEm n e (fun m => { m with st := .retired, mapValid := false, covered := !m.mapValid }) s
  let s := requestStore (s.modCal fun c => { c with lists := retireList serial e c.lists })
  if !m.mapValid then s
  else
    let s := modEms n (fun x => { x with markUntil := (s.st n).scan.sweeps + 2 }) (markEmitter n m.lastGood s)
    if x.dbl then
      let s := modEms n remap s
      if unserviceable (s.st n).ems then stationFault n 2 0x11 s else s
    else
      match pickSpare (s.st n).ems (s.st n).scan.sweeps e m.slot with
      | some k => modEms n (placeEm k m.slot) s
      | none =>
        askReduced (modEms n (fun x => { x with dblPend := true }) s)

/-! ### Lanes -/

/-- A station loses its lane at once (R114): both copies of the route table, its state and its frames in flight; the
gallery names the lane, the station and the serials spoiled. -/
def loseLane (l n : Nat) (s : State) : State :=
  let hit := (s.land.flights.filter fun f => f.usesNow n).map (·.serial)
  let s := s.modCfg fun c => { c with routeLane := kvSet c.routeLane n none }
  let s := stationFault n 2 0x12 s
  galWrite 0x21 (stH s n) 0 0 (leBytes 1 l ++ leBytes 1 n ++ leBytes 6 0 ++ leBytes 8 (hit.foldl min (hit.headD 0)) ++
    leBytes 8 (hit.foldl max 0)) s

/-- A beam lane is retired (R114): it carries DARK words and its station's route is forced. -/
def retireLane (l : Nat) (s : State) : State :=
  let ns := laneStations s l
  let s := modLane l (fun x => { x with retired := true, mode := .dark, training := false, ber := none }) s
  ns.foldl (fun s n => loseLane l n s) s

/-- A thermal source stands in the trip stage, or an on-die comparator holds the gate (R319). -/
def tripped (s : State) : Bool := s.therm.dieTrip || s.therm.src.any fun p => p.2.hot == 5

/-- Whether lane `l` must carry DARK words: a retired lane, THREAD, LOCKOUT, T_trip, a power failure, and the pair's
standby darken lanes (R309, Table 08-12). -/
def laneDark (s : State) (l : Nat) : Bool :=
  (s.lane l).retired || tripped s || s.boot.pfail || s.land.mode == .thread || s.faults.lockout || standby s

/-! ### Axes, steppers, nodes and loops -/

/-- The node a unit is carried on (Table 21-4). -/
def nodeOf (c : CfgSet) (i : Nat) : Option Handle :=
  match c.unit i with
  | none => none
  | some u =>
    let h := c.handle i
    let viaBlock := fun (t blk off : Nat) => (c.rank t h).map fun r => BitVec.ofNat 16 (c.get blk r off 2)
    match u.utype with
    | 0x06 => viaBlock 0x06 0x09 92
    | 0x07 => viaBlock 0x07 0x0A 0
    | 0x0C => viaBlock 0x0C 0x0D 0
    | 0x0B | 0x0D | 0x0E =>
      match (List.range 512).find? fun k => c.get 0x0E k 0 2 == h.toNat && h != 0xFFFF#16 with
      | some k => some (BitVec.ofNat 16 (c.get 0x0E k 2 2))
      | none => none
    | _ => none

/-- The units a node carries. -/
def unitsOn (c : CfgSet) (h : Handle) : List Nat := c.indices.filter fun i => nodeOf c i == some h && h != 0xFFFF#16

/-- A unit beneath a station fails: the station is FAULTED and its frames lose the layer (R242, R281). -/
def faultAbove (i cls : Nat) (s : State) : State :=
  match s.cfg.cur.stationAbove i with
  | some n => stationFault n cls 0x11 s
  | none => s

/-- The unit of a thermal source: the press for the die, else its entry's sensor (Table 16-2). -/
def sourceH (c : CfgSet) (k : Nat) : Handle :=
  if k < 8 ∨ k = 140 then 0#16 else BitVec.ofNat 16 (c.get 0x10 (k - 8) 0 2)

/-- A unit's sensors that are broken have failed their check, or are taken back into service (R316). -/
def retireSensor (h : Handle) (back : Bool) (s : State) : State :=
  let f := fun (p : Nat × TSrc) =>
    if p.2.broken && sourceH s.cfg.cur p.1 == h then
      (p.1, { p.2 with retired := !back, broken := !back, okN := 0 })
    else p
  s.modTherm fun t => { t with src := t.src.map f }

/-- A motor axis is stopped, its power stage disabled (R242). -/
def stopAxis (a : Nat) (s : State) : State :=
  (modAxis a (fun x => { x with
    enabled := false, fault := true, phase := .rest, move := none, home := .none, duty := 0,
    gear := { x.gear with st := .free } }) s).send (.axis a 0 [])

/-- A motor axis is retired (R242). -/
def retireAxis (h : Handle) (s : State) : State :=
  match s.cfg.cur.rank 0x06 h with
  | some a =>
    let s := stopAxis a s
    let s := match s.cfg.cur.stationAbove (hIndex h) with
      | some n => if polygonOf s.cfg.cur n = some a then modScan n (fun x => { x with facetLock := false }) s else s
      | none => s
    faultAbove (hIndex h) 2 s
  | none => faultAbove (hIndex h) 2 s

/-- The loop slot range a unit holds. -/
def slotsOf (c : CfgSet) (h : Handle) : List Nat :=
  match c.unit (hIndex h) with
  | some u => if u.utype = 8 ∨ u.utype = 9 then (List.range u.bankSlots).map (u.firstSlot + ·) else []
  | none => []

/-- The unit that holds loop slot `k`. -/
def slotUnit (c : CfgSet) (k : Nat) : Option Nat := c.indices.find? fun i => (slotsOf c (c.handle i)).contains k

/-- The slot a LOOP unit or a member of a LOOP_BANK names (R22). -/
def slotAt (c : CfgSet) (h : Handle) (sel : Nat) : Option Nat :=
  match c.unit (hIndex h) with
  | some u =>
    if u.utype = 8 then some u.firstSlot
    else if u.utype = 9 ∧ sel / 64 = 3 then some (u.firstSlot + sel % 64) else none
  | none => none

/-- A loop slot sends out_safe and stops (R275, R281). -/
def disableLoop (k : Nat) (s : State) : State :=
  let safe := BitVec.ofNat 32 (s.cfgGet 0x0B k 52 4)
  (modLoop k (fun x => { x with on := false, uSat := safe, feRun := false, ramping := false }) s).send (.loopOut k safe)

/-- Slots whose outer loop is slot `k` fall out of CASCADE into AUTO with target w, with a note (Table 13-9). -/
def dropCascade (k : Nat) (s : State) : State :=
  let outer := fun j =>
    s.cfgGet 0x0B j 24 1 == 9 && slotAt s.cfg.cur (BitVec.ofNat 16 (s.cfgGet 0x0B j 26 2)) (s.cfgGet 0x0B j 25 1) == some k
  (s.loops.filter fun p => p.2.on && p.2.mode == .cascade && outer p.1).foldl
    (fun s p => modLoop p.1 (fun x => { x with mode := .auto }) s) s

/-- A loop slot is out of service (R281). -/
def retireSlot (k : Nat) (s : State) : State :=
  dropCascade k (modLoop k (fun x => { x with retired := true }) (disableLoop k s))

/-- A loop slot is retired by a fault (R281). -/
def retireLoop (h : Handle) (sel : Nat) (s : State) : State :=
  faultAbove (hIndex h) 2 (match slotAt s.cfg.cur h sel with
    | some k => retireSlot k s
    | none => s)

/-- A node is lost (R260): its units are FAULTED and its axes stopped. -/
def retireNode (h : Handle) (s : State) : State :=
  let s := match s.cfg.cur.rank 0x05 h with
    | some n => modNode n (fun x => { x with lost := true }) s
    | none => s
  (unitsOn s.cfg.cur h).foldl
    (fun s i =>
      let u := s.cfg.cur.handle i
      let s := setUnitState u .faulted 2 s
      match s.cfg.cur.rank 0x06 u with
      | some a => faultAbove i 2 (stopAxis a s)
      | none => faultAbove i 2 s) s

/-! ### Groups that retire as one (R30) -/

/-- The channel of a unit and selector to the fault collector: the outermost RETIRE_AS_ONE group that holds the unit, or
the unit and selector themselves (R30). -/
def channelOf (s : State) (h : Handle) (sel : Nat) : Handle × Nat :=
  match s.cfg.cur.flagged (hIndex h) with
  | some g => (s.cfg.cur.handle g, 0)
  | none => (h, sel)

/-- The unit at INDEX `i` is retired with its channel (R30): what its type's retirement does happens to it. -/
def retireUnit (s : State) (i : Nat) : State :=
  let h := s.cfg.cur.handle i
  let s := setUnitState h .retired 2 s
  match s.cfg.cur.typeOf h with
  | 0x05 => retireNode h s
  | 0x06 => retireAxis h s
  | 0x08 | 0x09 => faultAbove i 2 ((slotsOf s.cfg.cur h).foldl (fun s k => retireSlot k s) s)
  | 0x0A => match s.cfg.cur.rank 0x0A h with
    | some r => dropRail r s
    | none => s
  | 0x0B =>
    let own := fun (p : Nat × TSrc) =>
      if sourceH s.cfg.cur p.1 == h then (p.1, { p.2 with retired := true, broken := false, okN := 0 }) else p
    faultAbove i 2 (s.modTherm fun t => { t with src := t.src.map own })
  | _ => match s.cfg.cur.stationOf h with
    | some n => failStation n 0x11 s
    | none => faultAbove i 2 s

/-- Every unit of the group at INDEX `g` is retired, the group with it (R30); units that one retirement leaves FAULTED
end RETIRED. -/
def retireGroup (g : Nat) (s : State) : State :=
  let kids := s.cfg.cur.indices.filter fun j => s.cfg.cur.under g j
  let s := kids.foldl retireUnit s
  kids.foldl (fun s j => setUnitState (s.cfg.cur.handle j) .retired 2 s) s

/-- Every loop that drives an HV module is disabled to out_safe (R324). -/
def disableHv (s : State) : State :=
  (s.loops.filter fun p => p.2.on && s.cfgGet 0x0B p.1 8 1 == 0x05).foldl (fun s p => disableLoop p.1 s) s

end Sys2Proof.Machine
end

