-- ==== Sys2Proof/Machine/Faults.lean ====
section
/-! DEFINITION. The fault collector: classes, records, merging, retirement, stop and LOCKOUT (17). A fault code here is
area and code; the class stands in the record. -/

namespace Sys2Proof.Machine

open Sys2Proof

/-- Class an error takes directly, and its class when its self-test fails, 0 where it has none (Table 17-1 and the
tables it names). Codes whose class depends on the unit take the lesser here; their chapters raise them by class. -/
def faultClass (code : Nat) : Nat × Nat :=
  let c := code % 256
  match code / 256 with
  | 0x00 => if c = 1 then (3, 0) else (0, 0)
  | 0x01 => if c = 1 ∨ c = 2 then (3, 0) else if c = 3 ∨ c = 4 then (4, 0) else if c = 5 then (0, 0) else (2, 0)
  | 0x02 => if c = 7 then (0, 0) else (2, 0)
  | 0x03 => if c = 1 ∨ c = 2 then (0, 0) else if c = 3 ∨ c = 4 then (3, 0) else (1, 2)
  | 0x04 => if c = 1 then (0, 0) else if c = 2 then (1, 2) else (3, 0)
  | 0x05 => if c = 1 then (1, 2) else if c = 3 ∨ c = 4 ∨ c = 6 then (2, 0) else if c = 5 then (1, 3) else (0, 0)
  | 0x08 => if c = 1 ∨ c = 2 ∨ c = 3 then (1, 2) else if c = 5 then (2, 0) else (0, 0)
  | 0x09 => if c = 1 ∨ c = 2 ∨ c = 4 then (1, 2) else if c = 6 then (0, 0) else (2, 0)
  | 0x0A => if c = 1 then (1, 2) else if c = 2 then (0, 0) else (2, 0)
  | 0x0B => if c = 3 then (0, 0) else (2, 0)
  | 0x0C => if c = 2 then (4, 0) else (0, 0)
  | 0x0D => if c = 1 then (1, 0) else if c = 2 then (1, 3) else if c = 6 then (0, 0) else (3, 0)
  | 0x0E => if c = 1 ∨ c = 3 ∨ c = 6 ∨ c = 12 then (1, 2) else if c = 2 ∨ c = 4 ∨ c = 5 ∨ c = 7 then (2, 0) else (0, 0)
  | 0x0F => (2, 0)
  | 0x10 => if c = 4 then (3, 0) else if c = 5 then (0, 0) else (2, 0)
  | 0x11 => if c = 1 then (1, 2) else (3, 0)
  | 0x12 => if c = 5 then (0, 0) else if c = 1 ∨ c = 6 then (1, 2) else (2, 0)
  | 0x13 => if c = 3 ∨ c = 4 then (1, 2) else if c = 6 then (0, 0) else (2, 0)
  | 0x14 => if c = 1 then (2, 0) else if c = 4 then (0, 0) else (1, 2)
  | 0x15 => if c = 1 then (1, 2) else (1, 0)
  | 0x16 => if c = 1 then (1, 2) else if c = 3 then (4, 0) else if c = 4 ∨ c = 6 then (3, 0)
            else if c = 5 then (2, 0) else (0, 0)
  | 0x17 => if c = 3 then (3, 0) else (0, 0)
  | 0x18 => if c = 4 ∨ c = 7 then (3, 0) else (0, 0)
  | _ => (0, 0)

/-- Area and code of a record's code field. -/
def codeOf (full : Nat) : Nat := full % 8192

/-- Class in a record's code field (R322). -/
def classOf (full : Nat) : Nat := full / 8192

/-- A code field of a class. -/
def withClass (cls code : Nat) : Nat := cls * 8192 + code % 8192

/-- A record that is not closed. -/
def FRec.isOpen (r : FRec) : Bool := r.st == .testing || r.st == .reacting || r.st == .active

/-- Code of a record state (Table 17-4). -/
def RecState.code : RecState → Nat
  | .testing => 0
  | .reacting => 1
  | .active => 2
  | .closedTransient => 3
  | .closedRetired => 4
  | .closedCleared => 5

/-- The 32 bytes of a fault record (Table 17-4). -/
def FRec.bytes (r : FRec) : List Byte :=
  leBytes 2 r.code ++ leBytes 2 r.handle.toNat ++ leBytes 1 r.sel ++ leBytes 1 r.st.code ++ leBytes 2 r.merges ++
    leBytes 5 r.firstSec ++ leBytes 5 r.lastSec ++ leBytes 4 r.cycle ++ leBytes 2 r.raise ++ leBytes 4 r.detail ++
    leBytes 4 r.galSeq

/-- A class 3 or 4 record is ACTIVE (R328, R335). -/
def stopActive (s : State) : Bool := s.faults.recs.any fun p => p.2.st == .active && decide (3 ≤ classOf p.2.code)

/-! ### Dependants (R331) -/

/-- The unit at `j` is the unit at `i` or one of its dependants (R331). -/
def dependant (s : State) (i j : Nat) : Bool :=
  let c := s.cfg.cur
  if i = 0 then j == 0
  else
    c.under i j ||
    (match c.unit i with
      | some u =>
        if u.utype = 0x05 then nodeOf c j == some (c.handle i)
        else if u.utype = 0x0A then
          match c.rank 0x0A (c.handle i), c.rank 0x0A (c.handle j) with
          | some r, some q => railBelow c 8 r q
          | _, _ => false
        else false
      | none => false) ||
    (slotsOf c (c.handle j)).any fun k =>
      [4, 8].any fun o =>
        let h := BitVec.ofNat 16 (c.get 0x0B k (o + 2) 2)
        c.get 0x0B k o 1 != 0 && h != 0xFFFF#16 && h != 0#16 && c.under i (hIndex h)

/-- An error of a unit and selector merges into record `r` (R331). -/
def mergesInto (s : State) (r : FRec) (h : Handle) (sel : Nat) : Bool :=
  r.isOpen && (if hIndex r.handle = hIndex h then r.sel == 0 || r.sel == sel
    else r.sel == 0 && dependant s (hIndex r.handle) (hIndex h))

/-! ### Reactions -/

/-- The press comes to LOCKOUT (R325, precedence 2 of Table 01-4): lasers dark, frames in flight spoiled, a controlled
stop, the gallery flushed. `keep`: a DISAGREE lockout leaves CLAIM_OUT as it stands (R349, R350). -/
def lockout (keep : Bool) (s : State) : State :=
  let s := s.modFaults fun f => { f with lockout := true }
  let s := spoilAll 0x14 (s.modBoot fun b => { b with laserEn0 := false, laserEn1 := false })
  let s := s.modLanes fun l => l.map fun p => (p.1, { p.2 with mode := if p.2.mode = .off then .off else .dark })
  let s := setUnitState 0#16 .faulted 4 (askStop .lockout s)
  let s := if s.pair.peerSynced && s.pair.claimOut && !keep then
      setPair .locked (s.modPair fun p => { p with claimOut := false, dropped := true })
    else if s.pair.st = .alone then s else setPair .locked s
  galFlush s

/-- Withdraws the unit or member an error of this area names (R333 and the chapters it points to); what READ_ERROR
retires is the page, which its own rule does (R138), and a station that can no longer print is FAULTED (R202). -/
def retireOne (code : Nat) (h : Handle) (sel : Nat) (s : State) : State :=
  let s := if sel = 0 ∧ h ≠ 0#16 ∧ code ≠ 0x0501 ∧ code ≠ 0x0A03 then setUnitState h .retired 2 s else s
  match code / 256 with
  | 0x03 => faultAbove (hIndex h) 2 (retireSensor h false s)
  | 0x05 => s
  | 0x08 =>
    if code % 256 = 3 then retireAxis h s
    else if hIndex h = 0 ∨ 17 ≤ hIndex h then
      match s.cfg.cur.stationOf h with | some n => stationFault n 2 0x11 s | none => s
    else retireLane (hIndex h - 1) s
  | 0x09 => retireLane (hIndex h - 1) s
  | 0x0A => if sel / 64 = 2 then
      match s.cfg.cur.stationOf h with | some n => retireEmitter n (sel % 64) s | none => s
    else if code = 0x0A03 then
      match s.cfg.cur.stationOf h with | some n => stationFault n 2 0x11 s | none => s
    else s
  | 0x0B => match s.cfg.cur.stationOf h with | some n => stationFault n 2 0x11 s | none => s
  | 0x0E | 0x10 => retireAxis h s
  | 0x12 => retireNode h s
  | 0x14 => retireLoop h sel s
  | _ => faultAbove (hIndex h) 2 s

/-- Withdraws the channel of an error: a RETIRE_AS_ONE group with all it holds, or the unit or member itself (R30,
R333). -/
def retireChannel (code : Nat) (h : Handle) (sel : Nat) (s : State) : State :=
  match s.cfg.cur.flagged (hIndex h) with
  | some g => retireGroup g s
  | none => retireOne code h sel s

/-- What a class sets off when a record reaches it (R323 to R325). -/
def react (cls code : Nat) (h : Handle) (sel : Nat) (s : State) : State :=
  match cls with
  | 2 => retireChannel code h sel s
  | 3 =>
    let s := setUnitState h .faulted 3 s
    askStop .stop s
  | 4 => lockout (code == 0x1603) s
  | _ => s

/-- Errors whose cause is gone as soon as it has happened; the others' chapters say when it goes (log entry 16). -/
def momentary (code : Nat) : Bool :=
  [0x0D02, 0x0D04, 0x0D05, 0x0E02, 0x1001, 0x1606, 0x1804, 0x1402, 0x1401].contains code

/-- State of a record at a class. -/
def stateOfClass (cls : Nat) : RecState := if 3 ≤ cls then .active else if cls = 2 then .reacting else .testing

/-- FAULT_N follows the records (R335); FAULT is posted and a gallery record of an entry written (R329, R414); a class 2 or higher record flushes the
buffer (R363). -/
def tellFault (type i : Nat) (s : State) : State :=
  let r := kvGet ({} : FRec) s.faults.recs i
  let s := s.modBoot fun b => { b with faultN := b.aliveOn && !stopActive s }
  let s := post 0x8003 r.handle (leBytes 2 r.code ++ leBytes 1 r.st.code ++ leBytes 1 i) s
  let s := galWrite type r.handle r.sel 0 r.bytes s
  if type ≠ 0x12 ∧ 2 ≤ classOf r.code then galFlush s else s

/-- A record takes a higher class (R323, R331). -/
def raiseClass (i cls code : Nat) (s : State) : State :=
  let r := kvGet ({} : FRec) s.faults.recs i
  if cls ≤ classOf r.code then s
  else
    let s := s.modFaults fun f => { f with recs := kvMod {} f.recs i fun r =>
      { r with
        code := withClass cls r.code, raise := withClass cls code, st := stateOfClass cls, lastSec := s.clk.opSec
        causeGone := momentary code } }
    react cls (codeOf r.code) r.handle r.sel (tellFault 0x11 i s)

/-- The lowest free fault table entry for a unit: entry 0 is the press's (R328). -/
def freeEntry (s : State) (h : Handle) : Option Nat :=
  let used := fun i => match kvFind s.faults.recs i with | some r => r.isOpen | none => false
  if h = 0#16 ∧ used 0 = false then some 0
  else ((List.range 255).map (· + 1)).find? fun i => !used i

/-- Opens a record in an entry under the error's channel (R30, R328, R329); a group's record keeps the unit that failed
first among its merged ones. -/
def openRecord (i cls code : Nat) (h : Handle) (sel detail : Nat) (s : State) : State :=
  let now := s.clk.opSec
  let (ch, csel) := channelOf s h sel
  let r : FRec :=
    { code := withClass cls code, handle := ch, sel := csel, merged := if ch = h then [] else [h], st := stateOfClass cls, firstSec := now, lastSec := now,
      cycle := s.ring.cyc, raise := withClass cls code, detail := detail, galSeq := s.gal.nextSeq,
      causeGone := momentary code }
  react cls code ch csel (tellFault 0x10 i (s.modFaults fun f => { f with recs := kvSet f.recs i r }))

/-- Merges an error into a record: counted, its unit FAULTED, its class contributed (R331). -/
def mergeRecord (i cls code : Nat) (h : Handle) (s : State) : State :=
  let s := s.modFaults fun f => { f with recs := kvMod {} f.recs i fun r =>
    { r with
      merges := min 65535 (r.merges + 1), lastSec := s.clk.opSec
      merged := if r.merged.contains h || r.handle == h then r.merged else r.merged ++ [h] } }
  let s := if (liveOf s (hIndex h)).st = .retired ∨ h = 0#16 then s else setUnitState h .faulted cls s
  raiseClass i cls code s

/-- The transient history of a channel, newest first, at most 8 seconds (R326). -/
def transients (s : State) (h : Handle) (sel : Nat) : List Nat :=
  match s.faults.trans.find? fun p => p.1 == h.toNat && p.2.1 == sel with
  | some p => p.2.2
  | none => []

/-- Adds a transient to a channel's history. -/
def addTransient (h : Handle) (sel : Nat) (s : State) : State :=
  let t := s.clk.opSec :: (transients s h sel).take 8
  s.modFaults fun f => { f with
    trans := (f.trans.filter fun p => !(p.1 == h.toNat && p.2.1 == sel)) ++ [(h.toNat, sel, t)] }

/-- A transient now would be permanent: within 3,600 s of the oldest of the channel's previous 8 (R326). -/
def wouldBePermanent (s : State) (h : Handle) (sel : Nat) : Bool :=
  match (transients s h sel)[7]? with
  | some t => decide (s.clk.opSec ≤ t + 3600)
  | none => false

/-- Passed self-tests of a channel in the last hour (Table 09-5). -/
def recentTransients (s : State) (h : Handle) (sel : Nat) : Nat :=
  let (ch, csel) := channelOf s h sel
  ((transients s ch csel).filter fun t => decide (s.clk.opSec ≤ t + 3600)).length

/-- The class a permanent transient without a self-test takes: ILLEGAL_TRANSITION is handled as ENCODER_LOSS, class 3,
any other as class 2 (R326, Table 17-1). -/
def permanentClass (code : Nat) : Nat := if code = 0x0D01 then 3 else 2

/-- Starts handling an error of class 1 or above: it merges into an open record or opens one; with no entry free it
shares entry 0 and its own reaction is applied (R323, R331, R332). `fail` is the class on failure of a self-test, 0
where none runs. -/
def raiseAs (cls fail code : Nat) (h : Handle) (sel detail : Nat) (s : State) : State :=
  match s.faults.recs.find? fun p => mergesInto s p.2 h sel with
  | some (i, _) => mergeRecord i (if fail ≠ 0 then fail else cls) code h s
  | none =>
    let (ch, csel) := channelOf s h sel
    match freeEntry s ch with
    | some i =>
      let s := openRecord i cls code h sel detail s
      if cls = 1 ∧ fail ≠ 0 ∧ sel = 0 ∧ h ≠ 0#16 ∧ code ≠ 0x0501 then setUnitState h .faulted 1 s
      else if cls = 1 ∧ fail = 0 then
        let perm := wouldBePermanent s ch csel
        let s := addTransient ch csel s
        if perm then raiseClass i (permanentClass code) code s else s
      else s
    | none =>
      let s := match kvFind s.faults.recs 0 with
        | some r => if r.isOpen then s else openRecord 0 cls 0x0002 0#16 0 detail s
        | none => openRecord 0 cls 0x0002 0#16 0 detail s
      react cls code h sel (mergeRecord 0 cls 0x0002 h s)

/-- Raises a fault by its code: a class 0 note, or a record (R322, R330). -/
def raise (code : Nat) (h : Handle) (sel detail : Nat) (s : State) : State :=
  let (cls, fail) := faultClass code
  if cls = 0 then note code h sel s else raiseAs cls fail code h sel detail s

/-- An open record that a unit and selector opened: under its own name, or under its RETIRE_AS_ONE group's when the unit
failed first there (R30). -/
def opened (s : State) (h : Handle) (sel : Nat) (r : FRec) : Bool :=
  let (ch, csel) := channelOf s h sel
  r.isOpen && r.handle == ch && r.sel == csel && (ch == h || r.merged.head? == some h)

/-- The open record that a unit and selector opened. -/
def recordOf (s : State) (h : Handle) (sel : Nat) : Option Nat :=
  (s.faults.recs.find? fun p => opened s h sel p.2).map (·.1)

/-- A self-test fails: its record takes the class on failure (R326). -/
def testFailed (i : Nat) (s : State) : State :=
  let r := kvGet ({} : FRec) s.faults.recs i
  if r.st = .testing then
    let f := (faultClass (codeOf r.code)).2
    raiseClass i (if f = 0 then permanentClass (codeOf r.code) else f) (codeOf r.code) s
  else s

/-- A self-test passes: a class 1 transient, permanent when it is the ninth within the hour; otherwise the channel
returns to the state it had (R326). -/
def testPassed (i : Nat) (s : State) : State :=
  let r := kvGet ({} : FRec) s.faults.recs i
  if r.st = .testing then
    let perm := wouldBePermanent s r.handle r.sel
    let s := addTransient r.handle r.sel s
    if perm then testFailed i s
    else
      let s := s.modFaults fun f => { f with recs := kvMod {} f.recs i fun r => { r with st := .reacting } }
      let first := if (s.cfg.cur.flagged (hIndex r.handle)).isSome then r.merged.head?.getD r.handle else r.handle
      if r.sel = 0 ∧ (liveOf s (hIndex first)).st = .faulted then setUnitState first .ready 0 s else s
  else s

/-- A self-test of a channel ended. -/
def testEnded (pass : Bool) (h : Handle) (sel : Nat) (s : State) : State :=
  match recordOf s h sel with
  | some i => if pass then testPassed i s else testFailed i s
  | none => s

/-- The open record of a code that a unit or one of its members opened. -/
def codeRecord (s : State) (h : Handle) (code : Nat) : Option Nat :=
  (s.faults.recs.find? fun p => opened s h p.2.sel p.2 && codeOf p.2.code == code).map (·.1)

/-- A record of a code is open on a unit or one of its members. -/
def openOn (s : State) (h : Handle) (code : Nat) : Bool := (codeRecord s h code).isSome

/-- The self-test of a code on a unit ended. -/
def codeTestEnded (pass : Bool) (h : Handle) (code : Nat) (s : State) : State :=
  match codeRecord s h code with
  | some i => if pass then testPassed i s else testFailed i s
  | none => s

/-- A station in double interlace that can no longer print is given up with STATION_UNSERVICEABLE, once (R202). -/
def giveUpStation (n : Nat) (s : State) : State :=
  if (s.st n).ems.dbl && unserviceable (s.st n).ems && !openOn s (stH s n) 0x0A03 then
    raise 0x0A03 (stH s n) 0 n s
  else s

/-- How an open record closes (Table 17-4). -/
def closeState (r : FRec) : RecState :=
  if 3 ≤ classOf r.code then .closedCleared else if classOf r.code = 2 then .closedRetired else .closedTransient

/-- Closes a record: FAULT_CLOSE, and merged units whose first channel was not retired leave FAULTED (R329, R331). -/
def closeRecord (i : Nat) (s : State) : State :=
  let r := kvGet ({} : FRec) s.faults.recs i
  let s := s.modFaults fun f => { f with recs := kvMod {} f.recs i fun r => { r with st := closeState r } }
  let s := tellFault 0x12 i s
  if classOf r.code = 2 then s
  else
    (r.handle :: r.merged).foldl
      (fun s h => if (liveOf s (hIndex h)).st = .faulted then setUnitState h .ready 0 s else s) s

/-- A class 3 record whose cause is gone and that has been acknowledged closes (R324). -/
def closeIfCleared (i : Nat) (s : State) : State :=
  let r := kvGet ({} : FRec) s.faults.recs i
  if r.st = .active ∧ classOf r.code = 3 ∧ r.acked ∧ r.causeGone then closeRecord i s else s

/-- The cause of the class 3 records on a unit has gone (R324). -/
def causeGone (h : Handle) (code : Nat) (s : State) : State :=
  match codeRecord s h code with
  | some i =>
    closeIfCleared i (s.modFaults fun f => { f with recs := kvMod {} f.recs i fun r => { r with causeGone := true } })
  | none => s

end Sys2Proof.Machine
end

