-- ==== Sys2Proof/Machine/Words.lean ====
section
/-! DEFINITION. The forms a beam lane carries: the forward word, its scrambler and CRC-8, the BER pattern, the sweep
header and the sideband message (R165 to R171, R175, R176, R182). -/

namespace Sys2Proof.Machine

open Sys2Proof

/-! ### Scrambler, CRC and pattern (R166, R167, R182) -/

/-- One bit through the self-synchronous scrambler x^58 + x^39 + 1; the register holds the latest output in bit 0. -/
def scrambleBit (r : BitVec 58) (b : Bool) : BitVec 58 × Bool :=
  let o := b ^^ r.getLsbD 38 ^^ r.getLsbD 57
  ((r <<< 1) ||| BitVec.ofNat 58 (bnat o), o)

/-- `k` bits of `x` from bit `i` up through the scrambler, in transmission order: the register after them, and the
scrambled bits in their places. -/
def scrambleFrom (x : Nat) : Nat → Nat → BitVec 58 → BitVec 58 × Nat
  | 0, _, r => (r, 0)
  | k + 1, i, r =>
    let (r, o) := scrambleBit r (x.testBit i)
    let (r, y) := scrambleFrom x k (i + 1) r
    (r, bnat o * 2 ^ i + y)

/-- One bit into the CRC-8 register: x^8 + x^2 + x + 1, most significant bit first. -/
def crc8Bit (c : BitVec 8) (b : Bool) : BitVec 8 :=
  if c.getLsbD 7 ^^ b then (c <<< 1) ^^^ 0x07#8 else c <<< 1

/-- CRC-8 over the `k` low bits of `x`, bit 0 first: initial value 0xFF, no final XOR (R167). -/
def crc8 (k x : Nat) : BitVec 8 := (List.range k).foldl (fun c i => crc8Bit c (x.testBit i)) 0xFF#8

/-- One bit of the pattern x^31 + x^28 + 1; the register holds the latest in bit 0. -/
def patternBit (r : BitVec 31) : BitVec 31 := (r <<< 1) ||| BitVec.ofNat 31 (bnat (r.getLsbD 30 ^^ r.getLsbD 27))

/-- `k` bits of the pattern, the first in bit `i` (R182). -/
def patternFrom : Nat → Nat → BitVec 31 → BitVec 31 × Nat
  | 0, _, r => (r, 0)
  | k + 1, i, r =>
    let r := patternBit r
    let (r', y) := patternFrom k (i + 1) r
    (r', bnat (r.getLsbD 0) * 2 ^ i + y)

/-! ### The word (Tables 08-2 and 08-3) -/

/-- Word types (Table 08-3). -/
inductive WordType where
  | pixel | retrace | idle | dark | train
  deriving DecidableEq, Repr

/-- The marker of a word type (Table 08-3). -/
def WordType.marker : WordType → Nat
  | .pixel => 0x96
  | .retrace => 0x69
  | .idle => 0xA5
  | .dark => 0x5A
  | .train => 0xC3

/-- A forward word before scrambling. -/
structure FwdWord where
  /-- TYPE -/
  type : WordType
  /-- SLICE, 16 bits -/
  slice : Nat := 0
  /-- DATA, 128 bits -/
  data : Nat := 0
  deriving DecidableEq, Repr

/-- A word as it is sent, and the scrambler after it: bits 143 to 0 scrambled, then the marker, then the CRC over bits
151 to 0 (R165 to R167). -/
def FwdWord.encode (w : FwdWord) (r : BitVec 58) : BitVec 58 × BitVec 160 :=
  let (r, x) := scrambleFrom (w.data % 2 ^ 128 + w.slice % 2 ^ 16 * 2 ^ 128) 144 0 r
  let y := x + w.type.marker * 2 ^ 144
  (r, BitVec.ofNat 160 (y + (crc8 152 y).toNat * 2 ^ 152))

/-- Retrace control slice (Table 08-4). -/
def retraceSlice (role index : Nat) : Nat := role % 16 * 2 ^ 12 + index % 16 * 2 ^ 8

/-- Sideband slice: VALID, SOM and one byte; 0 with none to send (R176). -/
def sideSlice : Option (Bool × Byte) → Nat
  | none => 0
  | some (som, b) => 2 ^ 15 + bnat som * 2 ^ 14 + b.toNat

/-! ### The sweep header (Table 08-6) -/

/-- Word `i` of a header, 128 bits. -/
def SweepHdr.word (h : SweepHdr) (i : Nat) : Nat :=
  let slot := fun (k : Nat) (f : SlotUse → Nat) => match (h.map[k]?).join with | some u => f u | none => 0
  let bytes := fun (base : Nat) (f : SlotUse → Nat) =>
    (List.range 16).foldl (fun t j => t + slot (base + j) f * 2 ^ (8 * j)) 0
  match i with
  | 0 =>
    let (e, i1, i2, tag) := match h.meas with | some r => (r.emitter, r.i1, r.i2, r.tag) | none => (0, 0, 0, 0)
    h.sweepNo % 65536 + h.m % 64 * 2 ^ 16 + bnat h.half * 2 ^ 24 + bnat h.meas.isSome * 2 ^ 25 + 2 ^ 26 +
      h.pixels % 65536 * 2 ^ 32 + h.sosEm % 64 * 2 ^ 48 + e % 64 * 2 ^ 56 + i1 % 4096 * 2 ^ 64 + i2 % 4096 * 2 ^ 76 +
      tag % 256 * 2 ^ 88
  | 1 => bytes 0 fun u => 128 + u.emitter % 64
  | 2 => bytes 16 fun u => 128 + u.emitter % 64
  | 3 => bytes 0 fun u => u.fine % 64
  | _ => bytes 16 fun u => u.fine % 64

/-! ### The sideband message (Table 08-7) -/

/-- One bit into the CRC-16 register: polynomial 0x1021, no reflection. -/
def crc16Bit (c : BitVec 16) (b : Bool) : BitVec 16 :=
  if c.getLsbD 15 ^^ b then (c <<< 1) ^^^ 0x1021#16 else c <<< 1

/-- CRC-16 of a byte string, each byte most significant bit first: initial value 0xFFFF, no final XOR (R175). -/
def crc16 (bs : List Byte) : BitVec 16 :=
  bs.foldl (fun c b => (List.range 8).foldl (fun c i => crc16Bit c (b.getLsbD (7 - i))) c) 0xFFFF#16

/-- The 16 bytes of a forward message: type, tag, 12 bytes of payload, CRC-16. -/
def SideMsg.bytes (m : SideMsg) : List Byte :=
  let b := [BitVec.ofNat 8 m.kind, BitVec.ofNat 8 m.tag] ++ padTo 12 (m.data.map (BitVec.ofNat 8 ·))
  b ++ leBytes 2 (crc16 b).toNat

/-- A message's bytes as they wait for their slices, the first marked SOM (R176). -/
def SideMsg.slices (m : SideMsg) : List (Bool × Byte) := m.bytes.zipIdx.map fun p => (p.2 == 0, p.1)

end Sys2Proof.Machine
end

