-- ==== Sys2Proof/Machine/Lanes.lean ====
section
/-! DEFINITION. The beam lanes: what words they carry, their sideband, their training, and coming back from DARK
(08, R147, R160, R162). -/

namespace Sys2Proof.Machine

open Sys2Proof

/-! ### The interlock gate (R183, R184) -/

/-- The map word of interlock input `i`: the reset map until one is loaded (Table 08-13). -/
def mapWord (s : State) (i : Nat) : Nat := s.intlk.map.getD i 0x0003FFFF

/-- The gate holds lane `l` closed: it is in the union of the masks of the inputs asserted since the gate was last open
(R184). -/
def gateCloses (s : State) (l : Nat) : Bool := decide (l < 16) && s.intlk.shut.getLsbD l

/-- The gate holds LASER_EN output `k` low. -/
def gateLowers (s : State) (k : Nat) : Bool := s.intlk.shut.getLsbD (16 + k)

/-- Firmware holds LASER_EN high: the device runs with the claim and neither LOCKOUT, T_trip nor a power failure stands
(Table 01-4, R309, R346). -/
def laserWanted (s : State) : Bool :=
  s.boot.stage == .running && s.pair.claimOut && !s.faults.lockout && !s.boot.pfail && !tripped s

/-- The LASER_EN outputs follow firmware and the gate (R183, R184). -/
def setLasers (s : State) : State :=
  s.modBoot fun b => { b with
    laserEn0 := laserWanted s && !gateLowers s 0, laserEn1 := laserWanted s && !gateLowers s 1 }

/-- Every lane that must carry DARK words now does so, one on its way out of DARK stays; TRAIN words pass (R183, R184,
Table 08-12). -/
def darken (s : State) : State :=
  s.modLanes fun t => t.map fun p =>
    if laneDark s p.1 || gateCloses s p.1 then
      (p.1, match p.2.mode with
        | .idle | .swept | .dark => { p.2 with mode := .dark, leave := 0 }
        | _ => p.2)
    else p

/-! ### Sideband (R175, R176) -/

/-- Changes a lane so that a forward message counts as unacknowledged and its 16 bytes wait for their slices (R175,
R176). -/
def launchSide (l : Nat) (m : SideMsg) (s : State) : State :=
  modLane l (fun x => { x with out := x.out ++ [m], tx := x.tx ++ m.slices }) s

/-- Sends a forward message; with 8 unacknowledged it waits. A standby uses the sideband for HEAD_READ and STATUS_REQ
only (R346). -/
def sendSide (l kind : Nat) (data : List Nat) (s : State) : State :=
  if standby s && kind != 4 && kind != 6 then s
  else
    let x := s.lane l
    let m : SideMsg := { tag := x.tag, kind := kind, data := data }
    let s := modLane l (fun x => { x with tag := (x.tag + 1) % 256 }) s
    if x.out.length < 8 then launchSide l m s else modLane l (fun x => { x with queue := x.queue ++ [m] }) s

/-- Waiting forward messages take the places that acknowledgements freed. -/
def pumpSide : Nat → Nat → State → State
  | 0, _, s => s
  | k + 1, l, s =>
    match (s.lane l).queue with
    | m :: r =>
      if (s.lane l).out.length < 8 then pumpSide k l (launchSide l m (modLane l (fun x => { x with queue := r }) s)) else s
    | [] => s

/-- The station a lane serves, or will serve once a pending set is in effect (R113). -/
def laneServes (s : State) (l : Nat) : Option Nat :=
  match laneStation s l with
  | some n => some n
  | none => (List.range 16).find? fun n => s.latestSet.mapLane n == some l

/-- Both width tables, the justification word and COMMIT go to the driver: they write its shadows, which become active
at the mark after the COMMIT (R174, R179). -/
def writeTables (l : Nat) (s : State) : State :=
  let c := match laneServes s l with | some n => kvGet ({} : CalSt) s.cal.inst n | none => {}
  let put := fun (t : Nat) (w : List Nat) (s : State) =>
    [0, 4, 8, 12].foldl (fun s k => sendSide l 1 ([t, k] ++ (List.range 4).flatMap fun j =>
      let v := w.getD (k + j) 0; [v % 256, v / 256]) s) s
  let s := put 1 c.half (put 0 c.full s)
  let s := sendSide l 2 ((leBytes 8 c.just.toNat).map BitVec.toNat) s
  sendSide l 3 [] (modLane l (fun x => { x with shadow := some (c.full, c.half, c.just), commitDue := false }) s)

/-! ### Words and training (R169, R179, R184) -/

/-- Words a trained lane that is not swept carries: DARK where Table 08-12 or the gate says so, else IDLE. -/
def restMode (s : State) (l : Nat) : LaneMode := if laneDark s l || gateCloses s l then .dark else .idle

/-- Training starts: TRAIN words (Table 08-9); an initial one counts from its beginning. -/
def startTraining (l : Nat) (initial : Bool) (s : State) : State :=
  (modLane l (fun x => { x with
    mode := .training, training := true, initial := initial, linkUp := false, statSeen := true, noStat := 0
    train := 0#8, leave := 0 }) s).send (.train l)

/-- Target frequency of a station's oscillator at post-divider `p` and φ = 0, in 4 Hz (R145). -/
def startFreq (s : State) (n p : Nat) : Rat :=
  let x := (s.st n).scan
  20 * (p : Nat) * (x.nsw.getD (s.cfgGet 0x01 n 6 2) : Nat) * x.sPred *
    (1 + chirpAt (chirpSegs (kvGet ({} : CalSt) s.cal.inst n).chirp) 0)

/-- The synthesiser of station `n` enters its band table anew for its frequency at post-divider `p`: band and fine code
from the table, the loop from rest (R147, R162). -/
def reenter (n p : Nat) (s : State) : State :=
  let t := (s.st n).scan.table
  let f := startFreq s n p
  let b := (bestBand t f).getD (s.st n).scan.band
  modScan n (fun x => { x with band := b, fine := tableCode t b f, integ := 0, acc := x.dco, inWin := 0, outWin := 0 }) s

/-- A post-divider change or a retrain at post-divider `p`: the synthesiser sets P, enters the band table anew and
relocks, the lane trains (R162, R181, Table 08-9). -/
def retrain (n l p : Nat) (s : State) : State :=
  let s := reenter n p (modScan n (fun x => { x with postdiv := p, lock := false, frozen := false }) s)
  startTraining l false (modLane l (fun x => { x with postNext := none }) s)

/-- SOS and facet phase are acquired anew (R157, R160). -/
def acquire (n : Nat) (s : State) : State :=
  modScan n (fun x => { x with
    acquiring := true, sosOk := false, facetLock := false, goodSos := 0, goodFacet := 0, badSos := 0, tsSeen := true }) s

/-- A lane leaves DARK: DARK words up to the next mark, then one sweep of IDLE words (R184). -/
def leaveDark (l : Nat) (s : State) : State :=
  let x := s.lane l
  if x.mode ≠ .dark ∨ laneDark s l ∨ gateCloses s l then s
  else
    let s := modLane l (fun x => { x with leave := 2, statSeen := true, noStat := 0 }) s
    match laneStation s l with
    | some n => acquire n s
    | none => s

/-- Every lane that may leave DARK does. -/
def leaveAllDark (s : State) : State := (List.range 16).foldl (fun s l => leaveDark l s) s

/-! ### Losing a sweep (R147, R157, R159) -/

/-- The flights of which a band is in exposure at station `n` in this sweep. -/
def exposing (s : State) (n : Nat) : List Flight :=
  s.land.flights.filter fun f => (s.st n).expo.any fun p => p.1 == f.serial

/-- The frames in exposure at station `n` lose the layer at the band in exposure; a sweep that exposes none fails nothing
(R62, R181). -/
def failExposure (n : Nat) (s : State) : State :=
  (s.st n).expo.foldl (fun s p => failLayer p.1 n p.2 0x11 s) s

/-- Station `n` prints nothing to the end of the sweep, and the layer of the frame in exposure fails (R147, R157). -/
def dropSweep (n : Nat) (s : State) : State :=
  failExposure n (modSt n (fun x => { x with
    xHalf := { x.xHalf with cells := [] }, pHalf := { x.pHalf with cells := [] } }) s)

/-- A retrain that a lane error orders (R181): steps 1 and 2 of R147, the record against the lane, then training at the
current P; a training already under way serves (Table 08-15). -/
def orderRetrain (l code detail : Nat) (s : State) : State :=
  let s := match laneStation s l with
    | some n => dropSweep n s
    | none => s
  let s := raise code (laneHandle l) 0 detail s
  if (s.lane l).retired || (s.lane l).training then s
  else match laneStation s l with
    | some n => retrain n l (s.st n).scan.postdiv s
    | none => startTraining l false s

/-- LANE_STAT of the sweep that a mark of station `n` ends: the second swept sweep in a row without one is a lane error
(Table 08-11). -/
def statMark (n : Nat) (s : State) : State :=
  match stationLane s n with
  | none => s
  | some l =>
    if (s.lane l).mode ≠ .swept ∨ (s.lane l).statSeen then s
    else
      let k := (s.lane l).noStat + 1
      let s := modLane l (fun x => { x with noStat := if 2 ≤ k then 0 else k }) s
      if 2 ≤ k then orderRetrain l 0x0902 n s else s

/-- The BER test of lane `l` starts as its self-test, or runs on (R182). -/
def startBer (l : Nat) (cmd : Bool) (s : State) : State :=
  match (s.lane l).ber with
  | some _ => s
  | none => sendSide l 5 [1] (modLane l (fun x => { x with ber := some { cmd := cmd } }) s)

end Sys2Proof.Machine
end

