-- ==== Sys2Proof/Machine/Tread.lean ====
section
/-! DEFINITION. The band format: sizes, checks and decoding (04). -/

namespace Sys2Proof.Machine

open Sys2Proof

/-! ### Header fields (Table 04-4) -/

/-- Header field of a band. -/
def bh (b : List Byte) (o k : Nat) : Nat := fieldAt b o k

/-- ratio. -/
def bRatio (b : List Byte) : Nat := bh b 5 1
/-- A flag of Table 04-5. -/
def bFlag (b : List Byte) (i : Nat) : Bool := bitOf (bh b 6 2) i
/-- STREAM. -/
def bStream (b : List Byte) : Bool := bFlag b 0
/-- rider_count. -/
def bRiders (b : List Byte) : Nat := bh b 9 1
/-- Declared width W. -/
def bWidth (b : List Byte) : Nat := bh b 32 2
/-- band_length. -/
def bLength (b : List Byte) : Nat := bh b 28 4
/-- The identity of a band (R98). -/
def bId (b : List Byte) : BandId := { job := bh b 12 4, layer := bh b 8 1, frame := bh b 16 4, band := bh b 20 2 }
/-- protected_crc in the trailer that ends at band_length (Table 04-7). -/
def bProtected (b : List Byte) : Nat := fieldAt b (bLength b - 12) 4
/-- encoded_crc. -/
def bEncoded (b : List Byte) : Nat := fieldAt b (bLength b - 16) 4
/-- Where the class map begins (R66). -/
def mapStart (b : List Byte) : Nat := 64 + 16 * bRiders b
/-- Where the payloads begin. -/
def payStart (b : List Byte) : Nat := mapStart b + bWidth b / 8
/-- Cells of a band (R71). -/
def cellCount (b : List Byte) : Nat := bWidth b / 2
/-- The payload area as one number, bit 0 first (R72). -/
def payBits (b : List Byte) : Nat := leNat ((b.drop (payStart b)).take (bLength b - 16 - payStart b))
/-- The class map as one number (R71). -/
def mapBits (b : List Byte) : Nat := leNat ((b.drop (mapStart b)).take (bWidth b / 8))
/-- The payload area as far as bytes have come, wherever the declared length ends: what an ingest check before LENGTH
reads (R88). -/
def payAll (b : List Byte) : Nat := leNat (b.drop (payStart b))
/-- Class code of cell `i`. -/
def cellClass (map i : Nat) : Nat := bitsOf map (2 * i + 1) (2 * i)

/-! ### Cells (R74 to R78) -/

/-- Size in bits of a cell whose payload begins `s` (R78). -/
def cellSize (stream : Bool) (ratio cls s : Nat) : Nat :=
  match cls with
  | 0 => 4
  | 1 => if stream then 0 else 256 / 2 ^ ratio
  | 2 => match s % 4 with | 0 => 6 | 1 => 74 | _ => 146
  | _ => 256

/-- One pixel of a cell (R77); COPY cells are taken from the history instead. -/
def cellPixel (cls ratio s x y : Nat) : Nat :=
  let p := 8 * y + x
  let q := 2 * (y / 4) + x / 4
  let j := 4 * y + x / 2
  let k := 4 * (y / 2) + x / 2
  let f := fun (hi lo : Nat) => bitsOf s hi lo
  match cls with
  | 0 => f 3 0
  | 3 => f (4 * p + 3) (4 * p)
  | 2 =>
    if f 1 0 = 0 then f 5 2
    else
      let e := if f 1 0 = 1 then f (10 + p) (10 + p) else f (18 + 2 * p + 1) (18 + 2 * p)
      f (4 * e + 5) (4 * e + 2)
  | _ =>
    if ratio = 3 then
      let o := f (24 + 2 * q + 1) (24 + 2 * q)
      if bitOf s (8 + k) then min 15 (f 7 4 + o) else min 15 (f 3 0 + o)
    else
      let a := f (8 * q + 3) (8 * q)
      let b := f (8 * q + 7) (8 * q + 4)
      if ratio = 2 then (if bitOf s (32 + j) then b else a)
      else if bitOf s (32 + p) then b else if bitOf s (96 + j) then (a + b) / 2 else a

/-- The 64 pixels of a cell, in p order. -/
def cellPixels (cls ratio s : Nat) : List Nat := (List.range 64).map fun p => cellPixel cls ratio s (p % 8) (p / 8)

/-- The history cell at the same row and column (R91). -/
def histCell (h : Hist) (w i : Nat) : Option (List Nat) :=
  let cols := w / 8
  let c := i % cols
  if h.valid ∧ c < h.width / 8 then h.cells[i / cols * (h.width / 8) + c]? else none

/-- Every cell of a band from number `i` on, its payload beginning `s`, for `n` cells; none when a COPY cell finds no
history (R77, R78, R91). -/
def decodeCells (stream : Bool) (ratio w map : Nat) (h : Hist) : Nat → Nat → Nat → Option (List (List Nat))
  | 0, _, _ => some []
  | n + 1, i, s =>
    let cls := cellClass map i
    let cell := if cls = 1 ∧ stream then histCell h w i else some (cellPixels cls ratio s)
    match cell, decodeCells stream ratio w map h n (i + 1) (s >>> cellSize stream ratio cls s) with
    | some c, some cs => some (c :: cs)
    | _, _ => none

/-- Bits of the payload of `n` cells from number `i` on (R78). -/
def payloadSize (stream : Bool) (ratio map : Nat) : Nat → Nat → Nat → Nat
  | 0, _, _ => 0
  | n + 1, i, s =>
    let z := cellSize stream ratio (cellClass map i) s
    z + payloadSize stream ratio map n (i + 1) (s >>> z)

/-- First payload bit of each of `n` cells from number `i` on, the first of them at `off` (R78). -/
def cellOffsets (stream : Bool) (ratio map : Nat) : Nat → Nat → Nat → Nat → List Nat
  | 0, _, _, _ => []
  | n + 1, i, off, s =>
    let z := cellSize stream ratio (cellClass map i) s
    off :: cellOffsets stream ratio map n (i + 1) (off + z) (s >>> z)

/-- Pixel values two to a byte, the even-numbered pixel in the low nibble (R82). -/
def packPixels : List Nat → List Byte
  | a :: b :: r => BitVec.ofNat 8 (a + 16 * b) :: packPixels r
  | [a] => [BitVec.ofNat 8 a]
  | [] => []

/-- The CRC of the protected cells: Z, P, W and COPY in raster order; 0 with none (R82). -/
def protectedCrc (stream : Bool) (map : Nat) (cells : List (List Nat)) : Nat :=
  let kept := cells.zipIdx.filter fun p => cellClass map p.2 != 1 || stream
  (crc32c (packPixels (kept.flatMap (·.1)))).toNat

/-- The history matches the band: valid, and of its job and layer (R91, R93). -/
def histMatches (h : Hist) (b : List Byte) : Bool :=
  h.valid && h.job == (bId b).job && h.layer == (bId b).layer

/-- What decoding a band gives. -/
inductive Decoded where
  /-- HISTORY failed (R91, R93) -/
  | noHistory
  /-- the cells, and whether the protected CRC agrees (R83) -/
  | cells (cs : List (List Nat)) (good : Bool)
  deriving DecidableEq, Repr

/-- The history a band decodes against: restored from the save slot when it asks for that (R93). -/
def startHist (live save : Hist) (b : List Byte) : Option Hist :=
  if bFlag b 5 then (if histMatches save b then some save else none) else some live

/-- A band has a COPY cell. -/
def hasCopy (b : List Byte) : Bool :=
  bStream b && (List.range (cellCount b)).any fun i => cellClass (mapBits b) i == 1

/-- Decodes a band against a station's histories (R77, R83, R91, R93). -/
def decodeBand (live save : Hist) (b : List Byte) : Decoded :=
  match startHist live save b with
  | none => .noHistory
  | some h =>
    if hasCopy b && !histMatches h b then .noHistory
    else
      match decodeCells (bStream b) (bRatio b) (bWidth b) (mapBits b) h (cellCount b) 0 (payBits b) with
      | none => .noHistory
      | some cs => .cells cs (protectedCrc (bStream b) (mapBits b) cs == bProtected b)

/-! ### Ingest checks (R88, Table 04-13) -/

/-- Rider entry `i` of a band, its 16 bytes (Table 04-6). -/
def riderBytes (b : List Byte) (i : Nat) : List Byte := bytesAt b (64 + 16 * i) 16

/-- A rider's argument, one little-endian 64-bit value. -/
def riderArg (r : List Byte) : Nat := fieldAt r 8 8

/-- A rider entry is valid: its reserved fields, its opcode with the selector and the argument range the opcode has,
and a target unit of the right type in the current set (R22, R116, Table 05-6). -/
def riderOk (s : State) (r : List Byte) : Bool :=
  let op := fieldAt r 0 2
  let sel := fieldAt r 3 1
  let h : Handle := BitVec.ofNat 16 (fieldAt r 4 2)
  let a := riderArg r
  let t := s.cfg.cur.typeOf h
  let slots := match s.cfg.cur.unit (hIndex h) with | some u => u.bankSlots | none => 0
  fieldAt r 2 1 == 0 && fieldAt r 6 2 == 0 && (checkHandle s s.cfg.cur h).isNone &&
    match op with
    | 1 => ((t == 8 && sel == 0) || (t == 9 && sel / 64 == 3 && decide (sel % 64 < slots))) && a / 2 ^ 32 == 0
    | 2 => t == 3 && sel == 0 && a / 2 ^ 16 == 0 &&
        decide (-8192 ≤ signed 16 (a % 2 ^ 16)) && decide (signed 16 (a % 2 ^ 16) ≤ 8191)
    | 3 => t == 0x0C && sel == 0 && decide (a % 2 ^ 32 ≤ 131071) && decide (1 ≤ bitsOf a 47 32) &&
        decide (bitsOf a 47 32 ≤ 10000) && a / 2 ^ 48 == 0
    | 4 => t == 6 && sel == 0 && decide (32 ≤ bitsOf a 47 32) && a / 2 ^ 48 == 0
    | _ => false

/-- Cells of a class in the map. -/
def classCount (b : List Byte) (c : Nat) : Nat :=
  ((List.range (cellCount b)).filter fun i => cellClass (mapBits b) i == c).length

/-- A P cell with three levels uses the fourth (R75). -/
def badPalette (s : Nat) : Bool :=
  s % 4 == 2 && (bitsOf s 17 14 != 0 || (List.range 64).any fun p => bitsOf s (18 + 2 * p + 1) (18 + 2 * p) == 3)

/-- Some P cell of `n` cells from number `i` on is invalid (R75). -/
def anyBadPalette (stream : Bool) (ratio map : Nat) : Nat → Nat → Nat → Bool
  | 0, _, _ => false
  | n + 1, i, s =>
    (cellClass map i == 2 && badPalette s) ||
      anyBadPalette stream ratio map n (i + 1) (s >>> cellSize stream ratio (cellClass map i) s)

/-- The reserved fields of the header and the flag rules (Table 04-13, RESERVED); `mark` is the spoil mark band, whose
own flag it may set (R95). -/
def reservedBad (mark : Bool) (b : List Byte) : Bool :=
  let f := bh b 6 2
  bh b 10 2 != 0 || bh b 34 2 != 0 || bh b 44 16 != 0 || decide (f / 128 ≠ 0) || (bFlag b 6 && !mark) ||
    ((bFlag b 1 || bFlag b 2 || bFlag b 4 || bFlag b 5) && !bStream b) || (bFlag b 1 && bFlag b 5)

/-- The reserved field of the trailer, the 16 bytes that end at the declared length; a length below 16 leaves it no
place, and the band fails with LENGTH later (R88, Table 04-7). -/
def trailerBad (b : List Byte) : Bool := decide (16 ≤ bLength b) && fieldAt b (bLength b - 8) 8 != 0

/-- Field ranges (Table 04-13, FIELD_RANGE). -/
def rangeBad (b : List Byte) : Bool :=
  let w := bWidth b
  let n := bh b 22 2
  decide (3 < bRatio b) || (bStream b && bRatio b != 0) || decide (15 < bh b 8 1) || decide (4 < bRiders b) ||
    decide (n = 0 ∨ 2048 < n) || decide (n ≤ bh b 20 2) || w % 64 != 0 || decide (w < 64 ∨ 65472 < w) ||
    (bStream b && decide (3072 < w))

/-- The ingest checks in their order: the code of the first that fails (R88, Table 04-13). `job` judges the band
against its job, `rider` one rider entry, `mark` is a spoil mark band (R95). -/
def ingestCheck (mark : Bool) (job : List Byte → Bool) (rider : List Byte → Bool) (b : List Byte) : Option Nat :=
  let n := b.length
  let L := bLength b
  let pay := payloadSize (bStream b) (bRatio b) (mapBits b) (cellCount b) 0 (payAll b)
  if n < 5 then some 0x0A
  else if bh b 0 4 ≠ 0x444E4254 ∨ bh b 4 1 ≠ 1 then some 0x01
  else if n < 64 then some 0x0A
  else if bh b 60 4 ≠ (crc32c (b.take 60)).toNat then some 0x02
  else if reservedBad mark b then some 0x03
  else if n < L then some 0x0A
  else if trailerBad b then some 0x03
  else if rangeBad b then some 0x04
  else if !mark && !job b then some 0x05
  else if 0 < bRiders b ∧ 0 < bh b 20 2 then some 0x06
  else if n < mapStart b then some 0x0A
  else if (List.range (bRiders b)).any fun i => !rider (riderBytes b i) then some 0x06
  else if n < payStart b then some 0x0A
  else if classCount b 0 ≠ bh b 36 2 ∨ classCount b 1 ≠ bh b 38 2 ∨ classCount b 2 ≠ bh b 40 2 ∨
      classCount b 3 ≠ bh b 42 2 then some 0x07
  else if 0 < classCount b 1 ∧ ((!bStream b ∧ (bRatio b = 0 ∨ bFlag b 3)) ∨ (bStream b ∧ bFlag b 1)) then some 0x08
  else if n < payStart b + (pay + 7) / 8 then some 0x0A
  else if anyBadPalette (bStream b) (bRatio b) (mapBits b) (cellCount b) 0 (payAll b) then some 0x09
  else if L ≠ payStart b + 4 * ((pay + 31) / 32) + 16 ∨ 1044480 < L ∨ n ≠ L then some 0x0A
  else if payBits b / 2 ^ pay ≠ 0 then some 0x0B
  else if bEncoded b ≠ (crc32c (b.take (L - 16))).toNat then some 0x0C
  else none

/-- Bands by whose job a band is judged: submitted and not DONE or CANCELLED, the layer one of its layers, SECURE as
the job says, frame_bands as the directory has it once known (Table 04-13, JOB_MISMATCH). DESIGN CHOICE: a frame_index
at or above the job's frame_count, for which the table names no check, is a mismatch too (log entry 153). -/
def jobJudges (s : State) (b : List Byte) : Bool :=
  match s.jobs.find? fun j => j.id == (bId b).job with
  | none => false
  | some j =>
    let dir := s.spool.dir.find? fun f => f.job == j.id && f.frame == (bId b).frame
    (j.state == .queued || j.state == .active || j.state == .held) && j.layers.getLsbD (bId b).layer &&
      j.secure == bFlag b 3 && decide ((bId b).frame < j.count) &&
      match dir with
      | some f => f.bands == 0 || f.bands == bh b 22 2
      | none => true

/-- The protected check value of a station (R84). -/
def checkValue (crcs : List Nat) : Nat := (crc32c (crcs.flatMap (leBytes 4))).toNat

end Sys2Proof.Machine
end

