-- ==== Sys2Proof/Machine/Units.lean ====
section
/-! DEFINITION. The UNIT_ commands (R400) and the fan-outs they start (R28, R29). -/

namespace Sys2Proof.Machine

open Sys2Proof

/-! ### Entries -/

/-- Every INDEX in use (R25). -/
def usedEntries (s : State) : List Nat := (List.range 1024).filter fun i => (s.entryUnit i).isSome

/-- The generation an entry takes after it is freed (R24). -/
def nextGen (i g : Nat) : Nat := if i = 1023 ∧ g = 62 then 0 else (g + 1) % 64

/-- Frees every entry that was in use before and is in no set now (R24, R25). -/
def freeEntries (before : List Nat) (old s : State) : State :=
  (before.filter fun i => (s.entryUnit i).isNone).foldl
    (fun s i =>
      let g := match old.entryUnit i with | some u => u.gen | none => 0
      s.modUnits fun u =>
        { u with gens := kvSet u.gens i (nextGen i g), freed := u.freed ++ [i], live := kvDel u.live i }) s

/-- Changes the configuration sets and frees the entries that leave the last of them. -/
def changeSets (f : Cfg → Cfg) (s : State) : State := freeEntries (usedEntries s) s (s.modCfg f)

/-- The entry UNIT_CREATE takes: the free entries queued at boot in ascending INDEX order, then those freed since, the
least recently freed first (R24). -/
def allocEntry (s : State) : Option Nat :=
  match (List.range 1024).find? fun i =>
      decide (s.units.fresh ≤ i) && (s.entryUnit i).isNone && !s.units.freed.contains i with
  | some i => some i
  | none => s.units.freed.head?

/-- Loop slots in use in any set (R25, R266). -/
def usedSlots (s : State) : List Nat :=
  s.sets.flatMap fun c => c.units.flatMap fun p =>
    if p.2.utype = 8 ∨ p.2.utype = 9 then (List.range p.2.bankSlots).map (p.2.firstSlot + ·) else []

/-- The lowest free run of `k` loop slots (R266). -/
def slotRun (s : State) (k : Nat) : Option Nat :=
  let used := usedSlots s
  (List.range (1025 - k)).find? fun a => (List.range k).all fun j => !used.contains (a + j)

/-- A name is taken by another child of the parent (R400). -/
def nameTaken (c : CfgSet) (parent : Handle) (me : Option Nat) (name : List Byte) : Bool :=
  (c.children (hIndex parent)).any fun j => some j != me && (c.unit j).any fun u => u.name == name

/-- No group of the set nests deeper than 8 (R26). -/
def depthOk (c : CfgSet) : Bool := (c.ofType 0x0F).all fun i => decide (c.depth 9 i ≤ 8)

/-- Puts a descriptor into the staged set. -/
def stageUnit (i : Nat) (u : UnitDesc) (s : State) : State :=
  s.modCfg fun c => { c with staged := c.staged.map fun t => { t with units := kvSet t.units i u } }

/-- The staged set, or the status that a staging command without one gives (R32, R400). -/
def staging (s : State) : Except Status CfgSet :=
  match s.cfg.staged with
  | none => .error .conflict
  | some c => if s.cfg.pend.isSome then .error .busy else .ok c

/-! ### UNIT_CREATE -/

/-- The descriptor UNIT_CREATE stages, before its entry and slots are known (Table 21-2). -/
def createDesc (m : Cmd) : UnitDesc :=
  { utype := m.u 0 1, parent := m.h 2, order := m.u 4 1, retireAsOne := bitOf (m.u 5 1) 1, stepDelay := m.u 6 2
    stepTimeout := if m.u 8 2 = 0 then 2000 else m.u 8 2, name := m.bytes 16 16
    bankSlots := if m.u 0 1 = 8 then 1 else m.u 10 1 }

/-- The range rules of a new descriptor (R21, R26, Tables 02-1, 02-3, 21-2). -/
def createRange (c : CfgSet) (m : Cmd) : Bool :=
  let t := m.u 0 1
  let pt := c.typeOf (m.h 2)
  (t == 2 || t == 3 || (decide (5 ≤ t) && decide (t ≤ 15))) && parentAllowed t pt &&
    (m.u 5 1 == 0 || (m.u 5 1 == 2 && t == 0x0F)) && decide (m.u 6 2 ≤ 10000) && decide (m.u 8 2 ≤ 60000) &&
    (if t = 9 then decide (1 ≤ m.u 10 1) && decide (m.u 10 1 ≤ 64) else m.u 10 1 == 0) &&
    (pt != 0x0F || decide ((c.children (hIndex (m.h 2))).length < 255))

/-- UNIT_CREATE's own checks and effect (R25, R266, Table 21-2). -/
def bodyUnitCreate (m : Cmd) (s : State) : Reply :=
  match staging s with
  | .error e => refuse e s
  | .ok c =>
    match checkHandle s c (m.h 2) with
    | some e => refuse e s
    | none =>
      let u := createDesc m
      if !createRange c m then refuse .range s
      else match allocEntry s, slotRun s u.bankSlots with
        | some i, some a =>
          let u := { u with gen := kvGet 0 s.units.gens i, firstSlot := a }
          if nameTaken c u.parent none u.name then refuse .conflict s
          else if !depthOk { c with units := kvSet c.units i u } then refuse .range s
          else
            let s := s.modUnits fun t =>
              { t with fresh := if t.freed.contains i then t.fresh else i + 1, freed := t.freed.filter (· != i) }
            .done .ok (leBytes 2 (mkHandle u.gen i).toNat) (stageUnit i u s)
        | _, _ => refuse .refusedFull s

/-- UNIT_CREATE. -/
def execUnitCreate (m : Cmd) (s : State) : Host.Outcome State Fault Refusal :=
  .next (runCmd opUnitCreate noTicket m (bodyUnitCreate m) s)

/-! ### UNIT_DELETE, UNIT_MOVE, UNIT_SET -/

/-- A loop of the set in use names the unit in one of its references (R25). -/
def loopRefers (c : CfgSet) (h : Handle) : Bool :=
  (c.indices.flatMap fun i => slotsOf c (c.handle i)).any fun k =>
    [4, 8, 12, 16, 20, 24].any fun o => c.get 0x0B k o 1 != 0 && c.get 0x0B k (o + 2) 2 == h.toNat

/-- A route of the set leads to the station the unit is (R25). -/
def routeRefers (c : CfgSet) (h : Handle) : Bool :=
  match c.stationOf h with
  | some n => ((List.range 16).any fun l => c.mapLayer l == some n) || (c.mapLane n).isSome
  | none => false

/-- A gear ratio names the unit: it is a follower axis or stepper that is geared, or is to be (R25, R213, R214). -/
def gearRefers (s : State) (h : Handle) : Bool :=
  let named := fun (g : Gear) => g.st != .free || g.regear.isSome || !g.queue.isEmpty
  match s.cfg.cur.rank 0x06 h, s.cfg.cur.rank 0x07 h with
  | some a, _ => named (s.axis a).gear
  | none, some k => named (kvGet ({} : Stepper) s.steppers k).gear
  | none, none => false

/-- UNIT_DELETE's own checks and effect (R25). -/
def bodyUnitDelete (m : Cmd) (s : State) : Reply :=
  match staging s with
  | .error e => refuse e s
  | .ok c =>
    let i := hIndex m.handle
    if (c.children i).isEmpty = false ∨ loopRefers c m.handle ∨ gearRefers s m.handle ∨ routeRefers c m.handle then refuse .conflict s
    else if i < 32 then refuse .range s
    else .done .ok [] (changeSets (fun t => { t with staged := t.staged.map fun x => { x with units := kvDel x.units i } }) s)

/-- UNIT_DELETE. -/
def execUnitDelete (m : Cmd) (s : State) : Host.Outcome State Fault Refusal :=
  .next (runCmd opUnitDelete noTicket m (bodyUnitDelete m) s)

/-- UNIT_MOVE's own checks and effect (R21, R26, R400). DESIGN CHOICE: onto a parent where a sibling has the unit's name
already it answers RANGE; Table 21-2 gives UNIT_MOVE no status for that case (log entry 164). -/
def bodyUnitMove (m : Cmd) (s : State) : Reply :=
  match staging s with
  | .error e => refuse e s
  | .ok c =>
    let i := hIndex m.handle
    match c.unit i, checkHandle s c (m.h 2) with
    | _, some e => refuse e s
    | none, _ => refuse .noUnit s
    | some u, none =>
      let u' := { u with parent := m.h 2, order := m.u 1 1 }
      let c' := { c with units := kvSet c.units i u' }
      if i < 32 ∨ parentAllowed u.utype (c.typeOf (m.h 2)) = false ∨ c.under i (hIndex (m.h 2)) ∨
          ((c.typeOf (m.h 2) = 0x0F ∧ u.parent ≠ m.h 2) ∧ 255 ≤ (c.children (hIndex (m.h 2))).length) ∨
          nameTaken c (m.h 2) (some i) u.name ∨ depthOk c' = false then refuse .range s
      else .done .ok [] (stageUnit i u' s)

/-- UNIT_MOVE. -/
def execUnitMove (m : Cmd) (s : State) : Host.Outcome State Fault Refusal :=
  .next (runCmd opUnitMove noTicket m (bodyUnitMove m) s)

/-- UNIT_SET's own checks and effect (R400). -/
def bodyUnitSet (m : Cmd) (s : State) : Reply :=
  match staging s with
  | .error e => refuse e s
  | .ok c =>
    let i := hIndex m.handle
    match c.unit i with
    | none => refuse .noUnit s
    | some u =>
      let name := m.bytes 16 16
      let u' :=
        { u with
          order := m.u 1 1, retireAsOne := bitOf (m.u 2 1) 1, stepDelay := m.u 4 2
          stepTimeout := if m.u 6 2 = 0 then 2000 else m.u 6 2, name := name }
      if ¬(m.u 2 1 = 0 ∨ (m.u 2 1 = 2 ∧ u.utype = 0x0F)) ∨ 10000 < m.u 4 2 ∨ 60000 < m.u 6 2 ∨
          (i < 32 ∧ name ≠ u.name) then refuse .range s
      else if nameTaken c u.parent (some i) name then refuse .conflict s
      else .done .ok [] (stageUnit i u' s)

/-- UNIT_SET. -/
def execUnitSet (m : Cmd) (s : State) : Host.Outcome State Fault Refusal :=
  .next (runCmd opUnitSet noTicket m
    (bodyUnitSet m) s)

/-! ### Fan-outs (R28, R29) -/

/-- The units a fan-out steps, in order: each child of the unit with what stands below it first, the unit itself
last; at most `k` levels. DESIGN CHOICE: a unit with children that is no group fans out as a group does; R28 speaks of
groups only (log entry 165). -/
def fanOrder (c : CfgSet) : Nat → Nat → List Nat
  | 0, i => [i]
  | k + 1, i => ((c.children i).flatMap (fanOrder c k)) ++ [i]

/-- The node that carries a unit is in service, so that the unit can report READY or off (R28, R256, R260). -/
def nodeServes (s : State) (i : Nat) : Bool :=
  match nodeOf s.cfg.cur i with
  | none => true
  | some h =>
    h == 0xFFFF#16 ||
      match s.cfg.cur.rank 0x05 h with
      | some n => (s.node n).slot && (s.node n).ready && !(s.node n).lost
      | none => false

/-- The rail a unit reports, if it is a RAIL (Table 15-3). -/
def railUnit (s : State) (i : Nat) : Option Nat := s.cfg.cur.rank 0x0A (s.cfg.cur.handle i)

/-- Whether a unit can reach READY now: it is in no fault and its node is in service (R28); a rail is READY when it is
GOOD (Table 15-3). -/
def canReady (s : State) (i : Nat) : Bool :=
  decide ((liveOf s i).st.rank ≤ 2) && nodeServes s i &&
    match railUnit s i with
    | some r => (s.rail r).st == .good
    | none => true

/-- A unit enters FAULTED or RETIRED: the fan-out's child fails (R28). -/
def unitFailed (s : State) (i : Nat) : Bool := decide (3 ≤ (liveOf s i).st.rank)

/-- A loop slot is enabled (R275): it enters mode_init bumplessly from the destination's current value. -/
def enableLoop (k : Nat) (s : State) : State :=
  let mode : LoopMode := match s.cfgGet 0x0B k 1 1 with
    | 1 => .auto
    | 2 => .cascade
    | 3 => .track
    | _ => .manual
  modLoop k (fun x => { x with on := true, mode := mode, preset := true, fresh := true, retired := false, feRun := false }) s

/-- A unit's own enable step; a rail's state is its own (Table 15-3). -/
def enableUnit (i : Nat) (s : State) : State :=
  let h := s.cfg.cur.handle i
  let s := (slotsOf s.cfg.cur h).foldl (fun s k => enableLoop k s) s
  let s := match s.cfg.cur.rank 0x06 h with
    | some a => modAxis a (fun x => { x with enabled := true, fault := false }) s
    | none => s
  if (railUnit s i).isSome then s
  else setUnitState h (if (liveOf s i).st = .degraded then .degraded else .ready) 0 s

/-- A unit's own disable step: loops go to out_safe (R275), an axis's stage off; a fault stays in force. -/
def disableUnit (i : Nat) (s : State) : State :=
  let h := s.cfg.cur.handle i
  let s := (slotsOf s.cfg.cur h).foldl (fun s k => disableLoop k s) s
  let s := match s.cfg.cur.rank 0x06 h with
    | some a => (modAxis a (fun x => { x with enabled := false, duty := 0, phase := .rest }) s).send (.axis a 0 [])
    | none => s
  if unitFailed s i || (railUnit s i).isSome then s else setUnitState h .disabled 0 s

/-- The step time after a unit's step, ms (Table 02-3). -/
def stepDelayOf (s : State) (h : Handle) : Nat := match s.cfg.cur.unit (hIndex h) with | some u => u.stepDelay | none => 0

/-- A fan-out's end answers the command that started it. -/
def fanDone (f : FanOut) (s : State) : State :=
  let s := s.modUnits fun u => { u with fans := u.fans.filter fun g => g.root != f.root }
  finish (waitingOn (if f.disable then 0x0106 else 0x0105) f.root) (if f.undo then .timeout else .ok) [] s

/-- Keeps a fan-out's progress. -/
def putFan (f : FanOut) (s : State) : State :=
  s.modUnits fun u => { u with fans := (u.fans.filter fun g => g.root != f.root) ++ [f] }

/-- The enable step of a RAIL unit that is OFF switches its rail on: the sequencer takes it up (R28, R304, Table 15-3). -/
def wantRail (i : Nat) (s : State) : State :=
  match railUnit s i with
  | some r =>
    if (s.rail r).st ≠ .off ∨ s.power.seq = .down then s
    else (modRail r (fun x => { x with wanted := true }) s).modPower fun p => { p with seq := .up }
  | none => s

/-- Takes a fan-out through its steps up to its first wait: a step delay, or a unit that has not yet got there. An
enable whose unit fails is undone in reverse order and ends with TIMEOUT (R28). At most `k` steps. -/
def runFan : Nat → FanOut → State → State
  | 0, f, s => putFan f s
  | k + 1, f, s =>
    match f.todo with
    | [] => fanDone f s
    | h :: rest =>
      let i := hIndex h
      if f.disable && !f.undo && !nodeServes s i then putFan { f with cur := some h } s
      else if f.disable || f.undo then
        let s := disableUnit i s
        let f := { f with todo := rest, done := h :: f.done, cur := none }
        if stepDelayOf s h = 0 ∨ f.undo then runFan k f s else putFan { f with cur := some h } s
      else if unitFailed s i then
        runFan k { f with todo := f.done, done := [], cur := none, undo := true } s
      else if canReady s i then
        let s := enableUnit i s
        let f := { f with todo := rest, done := h :: f.done, cur := none }
        if stepDelayOf s h = 0 then runFan k f s else putFan { f with cur := some h } s
      else putFan { f with cur := some h } (wantRail i s)

/-- A fan-out that waits looks at its unit (R28, R29): in an enable, one that has failed ends it, in its step_delay too,
and one that has got there lets it go on; in a disable, one that can report off does. -/
def wakeFan (s : State) (f : FanOut) : State :=
  match f.cur with
  | none => s
  | some h =>
    let i := hIndex h
    let waits := f.todo.contains h
    if f.undo then s
    else if f.disable then (if waits && nodeServes s i then runFan 2100 { f with cur := none } s else s)
    else if unitFailed s i then runFan 2100 { f with todo := f.done, done := [], cur := none, undo := true } s
    else if waits && canReady s i then runFan 2100 { f with cur := none } s
    else s

/-- Every fan-out that waits looks at its unit: once in each ring cycle (log entry 166). -/
def wakeFans (s : State) : State := s.units.fans.foldl wakeFan s

/-- A fan-out runs on the unit or on one above it (R29). -/
def fanBusy (s : State) (h : Handle) : Bool :=
  s.units.fans.any fun f => s.cfg.cur.under (hIndex f.root) (hIndex h)

/-- UNIT_ENABLE's own checks and effect: the fan-out starts; it responds at end (R28, R29). -/
def bodyUnitEnable (m : Cmd) (s : State) : Reply :=
  if fanBusy s m.handle then refuse .busy s
  else .later (putFan { root := m.handle, todo := (fanOrder s.cfg.cur 16 (hIndex m.handle)).map s.cfg.cur.handle } s)

/-- UNIT_DISABLE's own checks and effect: the reverse fan-out starts; it responds at end (R28, R29). -/
def bodyUnitDisable (m : Cmd) (s : State) : Reply :=
  if fanBusy s m.handle then refuse .busy s
  else
    .later (putFan
      { root := m.handle, disable := true
        todo := ((fanOrder s.cfg.cur 16 (hIndex m.handle)).map s.cfg.cur.handle).reverse } s)

/-- Runs the fan-outs that are not waiting for a step. -/
def startFans (s : State) : State :=
  (s.units.fans.filter fun f => f.cur.isNone).foldl (fun s f => runFan 2100 f s) s

/-- UNIT_ENABLE. -/
def execUnitEnable (m : Cmd) (s : State) : Host.Outcome State Fault Refusal :=
  .next (startFans (runCmd opUnitEnable noTicket m
    (bodyUnitEnable m) s))

/-- UNIT_DISABLE. -/
def execUnitDisable (m : Cmd) (s : State) : Host.Outcome State Fault Refusal :=
  .next (startFans (runCmd opUnitDisable noTicket m
    (bodyUnitDisable m) s))

/-- FAN_OUT_STEP_DELAY: the delay after a unit's step has run out and the fan-out goes on (R28). -/
def execFanOutStepDelay (root child : Handle) (s : State) : Host.Outcome State Fault Refusal :=
  .next (match s.units.fans.find? fun f => f.root == root && f.cur == some child && f.done.contains child with
    | some f =>
      if !f.disable && !f.undo && unitFailed s (hIndex child) then
        runFan 2100 { f with todo := f.done, done := [], cur := none, undo := true } s
      else runFan 2100 { f with cur := none } s
    | none => s)

/-- FAN_OUT_STEP_TIMEOUT: a unit has not got there within its step_timeout (R28). An enable stops and is undone; a
disable marks the unit FAULTED and goes on. -/
def execFanOutStepTimeout (root child : Handle) (s : State) : Host.Outcome State Fault Refusal :=
  .next (match s.units.fans.find? fun f => f.root == root && f.cur == some child && f.todo.contains child with
    | some f =>
      if f.disable then
        runFan 2100 { f with cur := none, todo := f.todo.filter (· != child), done := child :: f.done }
          (setUnitState child .faulted 2 s)
      else runFan 2100 { f with cur := none, todo := f.done, done := [], undo := true } s
    | none => s)

/-! ### Reading the tree -/

/-- The 32 bytes of a unit descriptor (Table 02-3). -/
def descBytes (s : State) (c : CfgSet) (i : Nat) : List Byte :=
  match c.unit i with
  | none => padTo 32 (leBytes 2 (kvGet 0 s.units.gens i))
  | some u =>
    let l := liveOf s i
    leBytes 2 (mkHandle u.gen i).toNat ++ leBytes 1 u.utype ++
      leBytes 1 (bnat (decide (i < 32)) + 2 * bnat u.retireAsOne + 4 * bnat l.covered) ++
      leBytes 2 u.parent.toNat ++ leBytes 1 u.order ++ leBytes 1 (c.depth 9 i) ++ leBytes 2 u.stepDelay ++
      leBytes 2 u.stepTimeout ++ leBytes 1 (stateRank s 16 i) ++ leBytes 1 l.cls ++ leBytes 2 0 ++ padTo 16 u.name

/-- UNIT_READ's own checks and effect. -/
def bodyUnitRead (m : Cmd) (s : State) : Reply :=
  match m.u 1 1, s.cfg.staged with
  | 0, _ => .done .ok (descBytes s s.cfg.cur (hIndex m.handle)) s
  | 1, some c => .done .ok (descBytes s c (hIndex m.handle)) s
  | 1, none => refuse .conflict s
  | _, _ => refuse .range s

/-- UNIT_READ. -/
def execUnitRead (m : Cmd) (s : State) : Host.Outcome State Fault Refusal :=
  .next (runCmd opUnitRead noTicket m (bodyUnitRead m) s)

/-- UNIT_LOOKUP's own checks and effect. -/
def bodyUnitLookup (m : Cmd) (s : State) : Reply :=
  match checkHandle s s.cfg.cur (m.h 0) with
  | some e => refuse e s
  | none =>
    match (s.cfg.cur.children (hIndex (m.h 0))).find? fun i =>
        (s.cfg.cur.unit i).any fun u => u.name == m.bytes 16 16 with
    | some i => .done .ok (leBytes 2 (s.cfg.cur.handle i).toNat) s
    | none => refuse .noUnit s

/-- UNIT_LOOKUP. -/
def execUnitLookup (m : Cmd) (s : State) : Host.Outcome State Fault Refusal :=
  .next (runCmd opUnitLookup noTicket m (bodyUnitLookup m) s)

/-- UNIT_CHILDREN's effect: at most 23 handles from a position on. -/
def bodyUnitChildren (m : Cmd) (s : State) : Reply :=
  let cs := (s.cfg.cur.children (hIndex m.handle)).drop (m.u 1 1)
  let hs := (cs.take 23).flatMap fun i => leBytes 2 (s.cfg.cur.handle i).toNat
  .done .ok (leBytes 1 (min 23 cs.length) ++ leBytes 1 (bnat (decide (23 < cs.length))) ++ hs) s

/-- UNIT_CHILDREN. -/
def execUnitChildren (m : Cmd) (s : State) : Host.Outcome State Fault Refusal :=
  .next (runCmd opUnitChildren noTicket m (bodyUnitChildren m) s)

end Sys2Proof.Machine
end

