-- ==== Sys2Proof/Machine/Rules.lean ====
section
/-! DEFINITION. The content rules a set must satisfy to be accepted, and the class of every parameter (R38, R401). -/

namespace Sys2Proof.Machine

open Sys2Proof

/-- `lo ≤ x ≤ hi`. -/
def between (lo hi x : Nat) : Bool := decide (lo ≤ x) && decide (x ≤ hi)

/-- Every number of a list stands there once. -/
def allDistinct (l : List Nat) : Bool := l.eraseDups.length == l.length

/-! ### Stations, routes and admission -/

/-- Every block entry a station owns (R11, R42, R104, R142, R143, R145, R156, R188, R457, Tables 07-3, 07-4, 09-2 to 09-4). -/
def stationRules (s : State) (c : CfgSet) (n : Nat) : Bool :=
  let g := c.get 0x01 n
  let w := g 4 2
  let lw := c.get 0x06 n 0 4
  let kw := c.get 0x06 n 4 4
  let ew := c.get 0x07 n 64 4
  let tw := c.get 0x07 n 68 4
  c.typeOf (c.stationHandle n) == 3 && decide (g 0 4 ≤ 4194303) && w % 64 == 0 && between 64 24576 w &&
    between 4096 65535 (g 6 2) && between 100 6000 (g 8 2) && decide (g 10 1 ≤ 1) && ((g 10 1 == 1) == c.fine) &&
    decide (g 13 1 ≤ 3) && between 2 16 (g 14 1) && g 15 1 == 0 && decide (4 * w * g 8 2 ≤ 540000000) &&
    (n != 0 || g 0 4 == 0) && decide (4 * bitsOf lw 17 8 ≤ 10 * bitsOf lw 27 18) &&
    bitsOf lw 31 28 == 0 && between 10 1000 (bitsOf lw 27 18) && between 1 1000 (bitsOf lw 17 8) &&
    between 8 200 (bitsOf lw 7 0) && between 16 65535 kw && between 1 8 (c.get 0x06 n 8 1) &&
    between 1 50 (c.get 0x06 n 9 1) && c.get 0x06 n 10 2 == 0 && c.get 0x07 n 0 4 == 0 &&
    (List.range 16).all (fun b => decide (c.get 0x07 n (4 * b) 4 ≤ 1000000)) &&
    [bitsOf ew 31 24, bitsOf ew 23 16, bitsOf ew 15 8, bitsOf ew 7 0].all (between 1 50) &&
    between 10 80 (bitsOf tw 15 8) && between (bitsOf tw 15 8 + 10) 90 (bitsOf tw 7 0) &&
    stationCalOk c n (kvGet {} s.cal.inst n) (kvGet ({} : CalSt) s.cal.inst n).table

/-- Station and engine numbers are one to one with the tree (R457). -/
def numberRules (c : CfgSet) : Bool :=
  ((c.ofType 3).all fun i => ((List.range 16).filter fun n => c.get 0x01 n 11 2 == (c.handle i).toNat).length == 1) &&
    (c.stationList.all fun n => c.stationList.all fun k =>
      let pn := ((c.unit (hIndex (c.stationHandle n))).getD {}).parent
      let pk := ((c.unit (hIndex (c.stationHandle k))).getD {}).parent
      (pn == pk) == (c.engineOf n == c.engineOf k))

/-- The route table (R111, Table 05-4). -/
def routeRules (c : CfgSet) : Bool :=
  let b := fun i => c.get 0x02 0 i 1
  (List.range 48).all (fun i => bitsOf (b i) 6 4 == 0) && (List.range 16).all (fun i => b (48 + i) == 0) &&
    allDistinct ((List.range 16).filterMap c.mapLayer) && allDistinct ((List.range 16).filterMap c.mapLane) &&
    allDistinct ((List.range 16).filterMap c.mapModule) &&
    (List.range 16).all fun i =>
      (match c.mapLayer i with | some n => c.hasStation n | none => true) && ((c.mapLane i).isNone || c.hasStation i)

/-- The limiting acceleration of a newel ramp, in/s²: A_MAX, or the lowest polygon equivalent (R211). -/
def rampAccel (c : CfgSet) : Rat :=
  let a : Rat := if c.fine then 16 else 32
  c.stationList.foldl (fun m n => min m ((2000 : Rat) / 60 * c.get 0x01 n 14 1 * a / 1200)) (aMax c)

/-- The peak-slope factor of the ramp's shape (R210). -/
def shapeC (c : CfgSet) : Rat := if bitsOf (c.get 0x05 0 20 4) 31 30 = 1 then 2 else 15 / 8

/-- The horizon covers the ramp of the largest speed change (R12, R210). -/
def horizonOk (c : CfgSet) : Bool :=
  let dv : Rat := if c.fine then 25 else 75
  let a := rampAccel c
  let tj := shapeC c * a / jMax c
  let h : Rat := c.get 0x03 0 5 1
  decide (h ≤ 30) && (if a * tj ≤ dv then decide (dv / a + tj ≤ h) else decide (4 * shapeC c * dv / jMax c ≤ h * h))

/-- The spoil mark of engine `e`: its band passes the ingest checks, is declared at the station's width and uses no
stream copy; a named station needs a band (R63, R95, Table 21-6). -/
def spoilRules (s : State) (c : CfgSet) (e : Nat) : Bool :=
  let n := c.get 0x03 0 (6 + e) 1
  let has := c.get 0x04 e 0 4 == 0x444E4254
  let len := c.get 0x04 e 28 4
  let b := c.read 0x04 e 0 (min len 65536)
  (n == 0xFF || (c.hasStation n && c.engineOf n == e && has)) &&
    (!has || (decide (len ≤ 65536) && (ingestCheck true (fun _ => true) (riderOk s) b).isNone && bFlag b 6 && !bStream b &&
      (bId b).job == 0 && (bId b).frame == 0 && (bId b).band == 0 && bh b 24 4 == 0 && bh b 22 2 == 1 && bRiders b == 0 &&
      (n == 0xFF || bWidth b == c.get 0x01 n 4 2)))

/-- Admission, newel and interlock blocks (R12, R46, R51, R58, R183, R207 to R212, Tables 21-6, 08-13, 10-2). -/
def pressRules (c : CfgSet) : Bool :=
  let lim := c.get 0x05 0 20 4
  let le := (List.range 8).foldl (fun m n => m ||| bitsOf (c.get 0x08 n 0 4) 17 16) 0
  between 50 1000 (c.get 0x03 0 0 2) && between (c.get 0x03 0 0 2) 1000 (c.get 0x03 0 2 2) &&
    between 50 95 (c.get 0x03 0 4 1) && horizonOk c && (c.read 0x03 0 10 6).all (· == 0#8) &&
    decide (c.get 0x05 0 4 1 ≤ 1) && (c.read 0x05 0 5 3).all (· == 0#8) &&
    between 1 255 (c.get 0x05 0 16 1) && decide (bitsOf lim 31 30 ≤ 1) &&
    between 100 16383 (bitsOf lim 29 16) && between 100 65535 (c.get 0x05 0 20 2) &&
    between 100 65535 (c.get 0x05 0 24 2) &&
    between 10 5000 (c.get 0x05 0 26 2) &&
    (List.range 8).all (fun n => bitsOf (c.get 0x08 n 0 4) 30 18 == 0) && le == 3

/-! ### Axes, steppers, solenoids, channels, nodes -/

/-- A handle field names a unit of a type, or nothing where that is allowed. -/
def namesType (c : CfgSet) (h t : Nat) (none' : Bool) : Bool :=
  (h == 0xFFFF && none') || c.typeOf (BitVec.ofNat 16 h) == t

/-- One motor axis (R224, Tables 11-1, 11-2, 11-6, 10-4). -/
def axisRules (c : CfgSet) (a : Nat) : Bool :=
  let g := c.get 0x09 a
  let w := g 0 4
  let mode := bitsOf w 31 30
  let top := g 104 4 * bitsOf w 27 24
  decide (a < 64) && decide (mode ≤ 2) && decide (bitsOf w 29 28 ≤ 2) && decide (1 ≤ bitsOf w 27 24) &&
    between 40 255 (bitsOf w 23 16) && bitsOf w 7 0 == 0 && decide (g 95 1 ≤ 1) && namesType c (g 92 2) 5 true &&
    (if mode = 0 then
      decide (g 120 4 = 0 ∨ top ≤ 2000 * g 120 4) && between 1 (g 114 2) (g 4 2) && between 10 5000 (g 6 2) &&
        between 10 (g 10 2) (g 8 2) && decide (g 10 2 ≤ 20000) && decide (1 ≤ g 12 2) && between 10 (g 10 2) (g 18 2) &&
        between 16 192 (g 22 1)
    else decide (0 < g 120 4)) &&
    (if mode = 2 then
      bitsOf w 29 28 == 0 && between 1 200 (g 32 2) && between 1 200 (g 34 2) && decide (g 52 2 < g 54 2) &&
        namesType c (g 50 2) 0x0B true
    else true) &&
    [60, 62, 64].all (fun o => namesType c (g o 2) 0x0B true) && decide (g 66 1 ≤ 1) &&
    (g 60 2 == 0xFFFF || (between 1 (g 104 4) (g 68 4) && between 1 (g 68 4) (g 72 4) && between 1 (2 ^ 31 - 1) (g 76 4) &&
      between 1 (2 ^ 31 - 1) (g 80 4)))

/-- One stepper (R219, R220, Table 21-4). -/
def stepperRules (c : CfgSet) (k : Nat) : Bool :=
  let g := c.get 0x0A k
  decide (k < 32) && namesType c (g 0 2) 5 true && decide (g 3 1 ≤ 1) && decide (g 4 4 ≤ 250000) && decide (g 10 1 ≤ 100) &&
    g 11 1 == 0 && g 14 2 == 0

/-- One solenoid (R262). -/
def solenoidRules (c : CfgSet) (k : Nat) : Bool :=
  let g := c.get 0x0D k
  let p := g 3 1
  decide (k < 64) && namesType c (g 0 2) 5 true && (g 6 2 == 0 || between 1 200 (g 6 2)) &&
    (p == 0xFF || (decide (p < 64) && p != k && c.get 0x0D p 3 1 == k && decide (g 4 2 ≤ g 10 2) &&
      decide (c.get 0x0D p 4 2 ≤ g 10 2)))

/-- One channel entry (Table 21-4). -/
def channelRules (c : CfgSet) (k : Nat) : Bool :=
  let g := c.get 0x0E k
  g 0 2 == 0xFFFF ||
    ([0x0B, 0x0D, 0x0E].contains (c.typeOf (BitVec.ofNat 16 (g 0 2))) && namesType c (g 2 2) 5 true)

/-- Nodes of the ring layout and their slot lengths: one entry per NODE unit. -/
def slotArea (c : CfgSet) : Nat := ((List.range (c.ofType 5).length).map fun k => c.get 0x0C k 8 1).sum

/-- The ring (R251, Tables 12-11, 21-4); the loop time is the one last measured. -/
def ringRules (s : State) (c : CfgSet) : Bool :=
  let L := s.ring.loopNs
  (List.range (c.ofType 5).length).all (fun k =>
    let g := c.get 0x0C k
    decide (k < 64) && between 8 64 (g 8 1) && g 8 1 % 2 == 0 && decide (g 9 1 ≤ 10) &&
      (List.range (g 9 1)).all fun r => let x := g (10 + 2 * r) 2
        between 1 6 (bitsOf x 15 12) && (if bitsOf x 15 12 = 6 then decide (bitsOf x 11 8 ≤ 8) else bitsOf x 11 8 == 0)) &&
    decide (2 * L + 3000 ≤ 16000) && decide ((17 + slotArea c) * 32 + 10 * L ≤ 135000)

/-! ### Rails, thermal sources, pair, maintenance, host, panel, clock -/

/-- A rail is used. -/
def railUsed (c : CfgSet) (r : Nat) : Bool := bitsOf (c.get 0x0F r 0 1) 7 6 != 0

/-- The parents of a rail. -/
def railParents (c : CfgSet) (r : Nat) : List Nat :=
  ((List.range 4).map fun i => c.get 0x0F r (2 + i) 1).filter (· != 0xFF)

/-- Rails above rail `r`, at most `k` levels. -/
def railsAbove (c : CfgSet) : Nat → Nat → List Nat
  | 0, _ => []
  | k + 1, r => (railParents c r).flatMap fun p => p :: railsAbove c k p

/-- One rail (R302, Table 15-2). -/
def railRules (c : CfgSet) (r : Nat) : Bool :=
  let g := c.get 0x0F r
  let src := g 0 1
  let kind := bitsOf src 7 6
  let dev := 64 + bitsOf src 5 3
  let timed := bitOf (g 1 1) 1
  !railUsed c r ||
    (decide (kind ≤ 2) && decide (g 1 1 ≤ 3) && (railParents c r).all (fun p => decide (p < 48) && railUsed c p && p != r) &&
      !((railsAbove c 5 r).contains r) &&
      (List.range 48).all (fun q => q == r || !railUsed c q || c.get 0x0F q 0 1 != src) &&
      (kind != 2 || (bitOf (c.get 0x0F dev 1 1) 0 && decide (bitsOf src 1 0 < c.get 0x0F dev 2 1))) &&
      decide (g 10 2 < g 12 2) && decide (g 14 2 < g 10 2) && between 1 10000 (g 16 2) && decide (g 18 2 ≤ 1000) &&
      between 1 10000 (g 20 2) && between 1 1000 (g 22 2) &&
      (kind != 1 || (if timed then g 24 2 == 0 else decide (256 ≤ g 24 2))))

/-- PMBus devices and reset outputs (Tables 15-1, 15-4). -/
def powerRules (c : CfgSet) : Bool :=
  (List.range 48).all (railRules c) &&
    (List.range 8).all (fun d =>
      let g := c.get 0x0F (64 + d)
      !bitOf (g 1 1) 0 || (decide (g 0 1 < 128) && decide (g 1 1 ≤ 7) && between 1 4 (g 2 1) &&
        (List.range (g 2 1)).all fun p => between 240 255 (g (4 + p) 1))) &&
    (List.range 4).all fun r => let w := c.get 0x0F (80 + r) 0 8; bitsOf w 63 58 == 0 && decide (1 ≤ bitsOf w 57 48)

/-- One thermal source (R314, Table 16-2). -/
def thermalRules (c : CfgSet) (k : Nat) : Bool :=
  let g := c.get 0x10 k
  let t := fun o => signed 16 (g o 2)
  decide (g 2 1 ≤ 1) && g 3 1 == 0 &&
    (!bitOf (g 2 1) 0 || (namesType c (g 0 2) 0x0B false && decide (t 4 < t 6) && decide (t 6 < t 8) && decide (t 10 < t 4)))

/-- One maintenance entry (R408, Table 21-12). -/
def maintRules (c : CfgSet) (k : Nat) : Bool :=
  let g := c.get 0x12 k
  decide (g 0 1 ≤ 3) && decide (g 2 2 ≤ 10000) && g 14 2 == 0 && namesType c (g 12 2) 0x0C true &&
    (g 8 4 == 0 || decide (g 4 4 ≤ g 8 4))

/-- Frequency bound of CLK_OUT's source over its prescaler in 100 kHz, for the sources with a fixed rate; 0 for none
(Table 14-7; log entry 18). -/
def clkSource (s : State) (src : Nat) : Nat :=
  let dom := fun (d root pre : Nat) =>
    let x := kvGet ({} : Domain) s.clk.domains d
    if x.div = 0 then 0 else (if x.onRoot then root else 2000) / (x.div * pre)
  match src with
  | 0 => 250
  | 1 => 0
  | 2 => 2000
  | 3 => 0
  | 4 => 24000 / 8
  | 5 => dom 4 24000 4
  | 6 => dom 3 24000 2
  | 7 => dom 6 24000 2
  | 8 => dom 2 24000 1
  | 9 => dom 5 24000 1
  | 10 => dom 1 24000 1
  | 11 => dom 0 24000 1
  | 12 => 1563
  | 13 => 1000
  | n => if 14 ≤ n ∧ n < 30 then s.cfg.cur.get 0x01 (n - 14) 6 2 * s.cfg.cur.get 0x01 (n - 14) 8 2 / 100000 else 0

/-- CLK_OUT, pair, spool, host and panel blocks (R119, R296, R338, R416, R418, Tables 14-8, 18-2, 22-1). -/
def boardRules (s : State) (c : CfgSet) : Bool :=
  let ck := c.get 0x14 0 0 4
  let pw := c.get 0x11 0 0 4
  let lane := fun n o k => c.get 0x15 0 (32 * n + o) k
  let fl := fun n => lane n 0 1
  bitsOf ck 30 14 == 0 && bitsOf ck 7 4 == 0 && decide (bitsOf ck 13 8 ≤ 34) &&
    (!bitOf ck 31 || decide (clkSource s (bitsOf ck 13 8) ≤ 1000 * 2 ^ bitsOf ck 3 0)) &&
    bitsOf pw 30 16 == 0 && decide (1 ≤ bitsOf pw 15 8) && decide (1 ≤ bitsOf pw 7 0) &&
    decide (c.get 0x13 0 0 1 ≤ 2) && between 1 100 (c.get 0x13 0 1 1) && c.get 0x13 0 2 2 == 0 &&
    (List.range 4).all (fun n => decide (fl n ≤ 15) && !(bitOf (fl n) 1 && bitOf (fl n) 2) &&
      between 1518 9216 (lane n 2 2) && lane n 1 1 == 0) &&
    decide (((List.range 4).filter fun n => bitOf (fl n) 0 && bitOf (fl n) 3).length ≤ 1) &&
    decide (c.get 0x15 0 128 1 ≤ 3) &&
    (!bitOf (c.get 0x15 1 7 1) 0 || between 1 16 (c.get 0x15 1 2 1)) && decide (c.get 0x15 1 7 1 ≤ 3)

/-! ### Loops (R268 to R270, R276, Tables 13-1 to 13-4) -/

/-- Slots a set holds, rising. -/
def setSlots (c : CfgSet) : List Nat := sortBy (c.indices.flatMap fun i => slotsOf c (c.handle i)) (· ≤ ·)

/-- The sample period of a class, s; a SWEEP slot's is that of its station's top rate. -/
def classPeriod (c : CfgSet) (k : Nat) : Rat :=
  match c.get 0x0B k 0 1 with
  | 0 => 16 / 1000000
  | 1 => 128 / 1000000
  | 2 => 1024 / 1000000
  | 3 => 8192 / 1000000
  | _ =>
    match c.stationOf (BitVec.ofNat 16 (c.get 0x0B k 6 2)) with
    | some n => if c.get 0x01 n 8 2 = 0 then 1 / 100 else 1 / (c.get 0x01 n 8 2 : Rat)
    | none => 1 / 100

/-- The cycles of a class: 1, 8, 64, 512; 0 for SWEEP. -/
def classDiv (k : Nat) : Nat := match k with | 0 => 1 | 1 => 8 | 2 => 64 | 3 => 512 | _ => 0

/-- A signal reference names a unit of its type (Table 13-3). -/
def refOk (c : CfgSet) (k o : Nat) : Bool :=
  let t := c.get 0x0B k o 1
  let sel := c.get 0x0B k (o + 1) 1
  let h := c.get 0x0B k (o + 2) 2
  let is := fun x => c.typeOf (BitVec.ofNat 16 h) == x
  match t with
  | 0 => sel == 0
  | 1 => sel == 0 && is 0x0B
  | 2 => sel == 0 && h == 0
  | 3 | 4 => sel == 0 && is 0x06
  | 5 => decide (sel ≤ 2) && is 0x0E
  | 6 => sel == 0 && is 0x0D
  | 7 | 8 => sel == 0 && is 0x03
  | 9 => (slotAt c (BitVec.ofNat 16 h) sel).isSome && (is 0x09 || sel == 0)
  | _ => false

/-- The output destination is allowed for the slot's class (Table 13-4). -/
def destOk (c : CfgSet) (k : Nat) : Bool :=
  let cls := c.get 0x0B k 0 1
  match c.get 0x0B k 8 1 with
  | 0 => decide (cls ≤ 3)
  | 4 => decide (cls ≤ 1)
  | 5 => c.get 0x0B k 9 1 != 1 && between 1 3 cls
  | 6 | 8 => between 2 3 cls
  | 7 => cls == 4 && c.get 0x0B k 4 1 == 7 && c.get 0x0B k 6 2 == c.get 0x0B k 10 2
  | _ => false

/-- The slot a slot's outer reference names. -/
def outerOf (c : CfgSet) (k : Nat) : Option Nat :=
  if c.get 0x0B k 24 1 = 9 then slotAt c (BitVec.ofNat 16 (c.get 0x0B k 26 2)) (c.get 0x0B k 25 1) else none

/-- Outer slots above a slot, nearest first, at most `n`. -/
def outers (c : CfgSet) : Nat → Nat → List Nat
  | 0, _ => []
  | n + 1, k => match outerOf c k with | some o => o :: outers c n o | none => []

/-- One loop slot (R269, R270). -/
def loopRules (c : CfgSet) (k : Nat) : Bool :=
  let g := c.get 0x0B k
  let f := fun o => BitVec.ofNat 32 (g o 4)
  let v := fun o => f32Rat (f o)
  let floats := [40, 44, 48, 52, 56, 60, 64, 68] ++ (List.range 16).map (80 + 4 * ·)
  let pts := g 76 1
  let up := outers c 5 k
  decide (g 0 1 ≤ 4) && decide (g 1 1 ≤ 3) && decide (g 2 1 ≤ 3) && floats.all (fun o => f32Finite (f o)) &&
    [4, 8, 12, 16, 20, 24].all (refOk c k) && destOk c k && (g 24 1 == 0 || g 24 1 == 9) &&
    decide (q16 (g 32 4) ≤ q16 (g 36 4)) && decide (q16 (g 32 4) ≤ q16 (g 28 4)) && decide (q16 (g 28 4) ≤ q16 (g 36 4)) &&
    decide (v 44 < v 48) && decide (v 44 ≤ v 52) && decide (v 52 ≤ v 48) && decide (0 ≤ v 56) && decide (0 ≤ v 60) &&
    decide (v 60 ≤ 10) && decide (0 ≤ v 64) && decide (v 64 * classPeriod c k ≤ 1) && decide (0 ≤ v 68) &&
    decide (1 ≤ g 72 2) && decide (g 74 2 ≤ 1000) && between 1 4 pts &&
    (List.range (pts - 1)).all (fun i => decide (v (80 + 4 * i) < v (84 + 4 * i))) && !up.contains k && decide (up.length ≤ 3) &&
    match outerOf c k with
    | some o => g 0 1 != 4 && c.get 0x0B o 0 1 != 4 && decide (g 0 1 ≤ c.get 0x0B o 0 1)
    | none => true

/-- Slots with one output reference: exactly one owns it (R276). -/
def groupRules (c : CfgSet) (ks : List Nat) : Bool :=
  ks.all fun k => c.get 0x0B k 8 1 == 0 ||
    (ks.filter fun j => c.get 0x0B j 8 4 == c.get 0x0B k 8 4 && bitOf (c.get 0x0B j 2 1) 1).length == 1

/-- Evaluations of each class and phase: the phase R268 gives the next slot of class `cls`. -/
def nextPhase (given : List (Nat × Nat)) (cls : Nat) : Nat :=
  let load := fun p => (given.filter fun x => x.1 == cls && x.2 == p).length
  let best := (List.range (classDiv cls)).foldl (fun m p => match m with
    | none => some p
    | some q => if load p < load q then some p else some q) none
  best.getD 0

/-- The phases of a set's slots: slots unchanged from the old set keep theirs, the others take the least loaded phase
in slot order (R268). -/
def assignPhases (old : CfgSet) (phase : Nat → Nat) (c : CfgSet) : List (Nat × Nat × Nat) :=
  let ks := (setSlots c).filter fun k => c.get 0x0B k 0 1 ≤ 3
  let kept := ks.filter fun k => (setSlots old).contains k && old.read 0x0B k 0 160 == c.read 0x0B k 0 160
  let first := kept.map fun k => (k, c.get 0x0B k 0 1, phase k)
  (ks.filter fun k => !kept.contains k).foldl
    (fun l k => l ++ [(k, c.get 0x0B k 0 1, nextPhase (l.map fun x => (x.2.1, x.2.2)) (c.get 0x0B k 0 1))]) first

/-- The heaviest load of a ring cycle of an assignment (R268). -/
def maxLoad (l : List (Nat × Nat × Nat)) : Nat :=
  ((List.range 512).map fun j => (l.filter fun x => j % classDiv x.2.1 == x.2.2).length).foldl max 0

/-- Every loop rule of a set. -/
def loopsRules (s : State) (c : CfgSet) : Bool :=
  let ks := setSlots c
  ks.all (loopRules c) && groupRules c ks && decide ((ks.filter fun k => c.get 0x0B k 0 1 == 0).length ≤ 64) &&
    decide ((ks.filter fun k => c.get 0x0B k 0 1 == 4).length ≤ 16) &&
    decide (maxLoad (assignPhases s.cfg.cur (fun k => (s.loop k).phase) c) ≤ 128)

/-- Every content rule of a set: what a commit is refused for with RANGE (R401). -/
def contentOk (s : State) (c : CfgSet) : Bool :=
  decide (c.size ≤ 262144) && c.stationList.all (stationRules s c) && numberRules c && routeRules c &&
    (List.range 4).all (spoilRules s c) && pressRules c && depthOk c &&
    (List.range (c.ofType 6).length).all (axisRules c) && (List.range (c.ofType 7).length).all (stepperRules c) &&
    (List.range (c.ofType 0x0C).length).all (solenoidRules c) && (List.range 512).all (channelRules c) && ringRules s c &&
    loopsRules s c && powerRules c && (List.range 132).all (thermalRules c) && (List.range 9).all (maintRules c) &&
    boardRules s c

/-- A commit that asks for more than the hardware has: a fifth DTC axis (R224), a fifth privileged stepper (R220). -/
def tooMany (c : CfgSet) : Bool :=
  decide (4 < ((List.range (c.ofType 6).length).filter fun a => bitsOf (c.get 0x09 a 0 4) 31 30 == 2).length) ||
    decide (4 < ((List.range (c.ofType 7).length).filter fun k => bitOf (c.get 0x0A k 3 1) 0).length)

/-! ### Classes (R38, Table 02-5): 0 OPEN, 1 SERVICE, 2 REGULATED -/

/-- Class of a byte of a set. -/
def classOfByte (a : Nat) : Nat :=
  let (blk, i, o) := cfgLoc a
  let within := fun (lo hi : Nat) => decide (lo ≤ o) && decide (o < hi)
  match blk with
  | 0x01 => if within 6 10 || o == 14 then 1 else 2
  | 0x02 => if o < 16 then 2 else 1
  | 0x03 => if o < 2 ∨ within 6 10 then 2 else if within 2 4 ∨ o = 5 then 0 else 1
  | 0x04 | 0x08 | 0x11 => 2
  | 0x05 => if o < 5 ∨ within 12 16 then 2 else 1
  | 0x0B => if within 28 52 || within 64 72 || within 96 144 then 0 else 1
  | 0x12 => if within 1 8 then 0 else 1
  | 0x13 => if o = 1 then 2 else 1
  | 0x15 => if i = 1 ∧ within 8 24 then 0 else 1
  | _ => 1

/-- Class of the change of a unit between two sets. -/
def classOfUnit (a b : Option UnitDesc) : Nat :=
  let main := fun (u : UnitDesc) => if u.utype = 2 ∨ u.utype = 3 then 2 else 1
  match a, b with
  | none, none => 0
  | none, some v => main v
  | some u, none => main u
  | some u, some v =>
    if u.gen ≠ v.gen ∨ u.utype ≠ v.utype then max (main u) (main v)
    else if u.parent ≠ v.parent then main u
    else if u.retireAsOne ≠ v.retireAsOne ∨ u.bankSlots ≠ v.bankSlots then 1
    else 0

/-- The highest class that differs between two sets; none when nothing differs (R38, R39). -/
def changedClass (a b : CfgSet) : Option Nat :=
  let bytes := ((a.bytes ++ b.bytes).map (·.1)).filter fun x =>
    memRead cfgDefault a.bytes x != memRead cfgDefault b.bytes x
  let units := (a.units ++ b.units).map (·.1) |>.filter fun i => a.unit i != b.unit i
  if bytes.isEmpty ∧ units.isEmpty then none
  else some ((bytes.map classOfByte ++ units.map fun i => classOfUnit (a.unit i) (b.unit i)).foldl max 0)

/-- The role a ticket must have to install set `b` over set `a`: 0 none, 2 service, 1 regulator (R38, R372). -/
def ticketFor (a b : CfgSet) : Nat :=
  match changedClass a b with
  | some 2 => 1
  | some 1 => 2
  | _ => 0

/-- Two sets differ in a route entry (R112). -/
def routeDiffers (a b : CfgSet) : Bool := a.read 0x02 0 0 48 != b.read 0x02 0 0 48

end Sys2Proof.Machine
end

