-- ==== Sys2Proof/Machine/Upkeep.lean ====
section
/-! DEFINITION. The maintenance scheduler's counts and requests: what an activity's count makes it, and the gap or the
lower speed it then asks for (R405 to R408). -/

namespace Sys2Proof.Machine

open Sys2Proof

/-! ### Activities -/

/-- A field of the MAINT entry of activity `k` (Table 21-12). -/
def mntF (s : State) (k off n : Nat) : Nat := s.cfgGet 0x12 (k - 1) off n

/-- gap_ms of activity `k`. -/
def mntGap (s : State) (k : Nat) : Nat := mntF s k 2 2

/-- Activity `k` on scope `h`. -/
def actOf (s : State) (k : Nat) (h : Handle) : Act :=
  ((s.maint.acts.find? fun a => a.1 == k && a.2.1 == h).map fun a => a.2.2).getD {}

/-- Changes activity `k` on scope `h`. -/
def modAct (k : Nat) (h : Handle) (f : Act → Act) (s : State) : State :=
  let x := f (actOf s k h)
  s.modMaint fun m => { m with acts := (m.acts.filter fun a => !(a.1 == k && a.2.1 == h)) ++ [(k, h, x)] }

/-- The level of an activity by its count: 0 idle, 1 due, 2 urgent (R407). -/
def actLevel (s : State) (k : Nat) (x : Act) : Nat :=
  if x.urgentAsked || (mntF s k 8 4 != 0 && decide (mntF s k 8 4 ≤ x.count)) then 2
  else if mntF s k 4 4 != 0 && decide (mntF s k 4 4 ≤ x.count) then 1 else 0

/-- The scheduler runs activity `k`: its entry is ENABLED. -/
def mntEnabled (s : State) (k : Nat) : Bool := bitOf (mntF s k 0 1) 0

/-- The source of the slow request of activity `k` on scope `h`. -/
def actSource (k : Nat) (h : Handle) : Nat := 2000 + 1024 * k + hIndex h

/-- A maintenance gap is asked for at the next admission position; the scrub's waits while throttle 2 withholds it
(R407, Table 16-7). -/
def askGap (k : Nat) (h : Handle) (s : State) : State :=
  if k = 8 ∧ 2 ≤ (kvGet ({} : TSrc) s.therm.src 140).thr then modAct k h (fun x => { x with gapLeft := 1 }) s
  else if mntGap s k ≤ s.maint.gapNext then s
  else s.modMaint fun m => { m with gapNext := mntGap s k, gapFor := some (k, h) }

/-- The speed an activity with ACTION SPEED names: 0.8 × the planned speed, never below 25 in/s (R407). -/
def actSpeed (s : State) : Rat := max 25 (((8 * s.gov.speed / 5).floor : Rat) / 2)

/-- An activity is judged by its count: MNT tells a level newly reached, and an urgent one asks for its gap or its speed
(R407, R414). -/
def judgeAct (k : Nat) (h : Handle) (s : State) : State :=
  let x := actOf s k h
  let n := actLevel s k x
  if !mntEnabled s k || x.stopped || n == x.said then s
  else
    let s := modAct k h (fun x => { x with said := n }) s
    let s := if x.said < n then post 0x8501 h (leBytes 1 k ++ leBytes 1 (n - 1)) s else s
    if n = 2 then (if bitOf (mntF s k 0 1) 1 then addReq (actSource k h) (actSpeed s) s else askGap k h s)
    else if x.said = 2 then dropReq (actSource k h) s else s

/-- Every activity is judged: new limits at their point of effect (Table 21-21). -/
def judgeActs (s : State) : State := s.maint.acts.foldl (fun s a => judgeAct a.1 a.2.1 s) s

/-- An activity's count advances (R407). -/
def bumpAct (k : Nat) (h : Handle) (s : State) : State := judgeAct k h (modAct k h (fun x => { x with count := x.count + 1 }) s)

/-- A station has exposed a frame: its activities counted in frames that have an interval advance (R407). -/
def countFrame (n : Nat) (s : State) : State :=
  [3, 4].foldl (fun s k => if mntF s k 4 4 = 0 then s else bumpAct k (stH s n) s) s

/-- An activity is made urgent at once (R150). -/
def askUrgent (k : Nat) (h : Handle) (s : State) : State := judgeAct k h (modAct k h (fun x => { x with urgentAsked := true }) s)

/-- A MNT_START of activity `k` on scope `h` waits. -/
def mntWaits (k : Nat) (h : Handle) (w : Waiter) : Bool := w.op == 0x0501 && w.cmd.handle == h && w.cmd.u 1 1 == k

/-- An activity ends. One that is complete starts its count again and MNT tells it; one that failed keeps its count. A
MNT_START that waited for its end is answered (R407, R409). -/
def endAct (k : Nat) (h : Handle) (pass : Bool) (s : State) : State :=
  let s := modAct k h (fun x => { x with running := false, wanted := false }) s
  if pass then
    let s := modAct k h (fun x => { x with count := 0, doneSec := s.clk.opSec, urgentAsked := false, said := 0, gapLeft := 0 }) s
    finish (mntWaits k h) .ok [] (post 0x8501 h (leBytes 1 k ++ leBytes 1 3) (dropReq (actSource k h) s))
  else finish (mntWaits k h) .timeout [] s

/-- A landing passes: activities that receive a further gap every so many landings come nearer to it (R407). -/
def landingPassed (s : State) : State :=
  s.maint.acts.foldl
    (fun s a => if a.2.2.gapLeft = 0 ∨ a.2.2.running then s
      else
        let s := modAct a.1 a.2.1 (fun x => { x with gapLeft := x.gapLeft - 1 }) s
        if a.2.2.gapLeft = 1 then askGap a.1 a.2.1 s else s) s

/-- A maintenance gap is inserted: MNT tells it, and urgent activities with a repeat count the landings to their next
(R407, R414). -/
def gapInserted (s : State) : State :=
  let s := match s.maint.gapFor with
    | some (k, h) => post 0x8501 h (leBytes 1 k ++ leBytes 1 4) s
    | none => s
  let s := s.maint.acts.foldl
    (fun s a => if actLevel s a.1 a.2.2 = 2 ∧ mntEnabled s a.1 then
        modAct a.1 a.2.1 (fun x => { x with gapLeft := mntF s a.1 1 1 }) s else s) s
  s.modMaint fun m => { m with gapNext := 0, gapFor := none }

end Sys2Proof.Machine
end

