-- ==== Sys2Proof/Machine/Configs.lean ====
section
/-! DEFINITION. The CFG_ commands (R401), and how an accepted set comes into effect (R33 to R37, R39, R112). -/

namespace Sys2Proof.Machine

open Sys2Proof

/-! ### The parts of a set -/

/-- The static bytes of a descriptor, for the digest of a set. -/
def unitBytes (p : Nat × UnitDesc) : List Byte :=
  let u := p.2
  leBytes 2 (mkHandle u.gen p.1).toNat ++ leBytes 1 u.utype ++ leBytes 1 (2 * bnat u.retireAsOne) ++
    leBytes 2 u.parent.toNat ++ leBytes 1 u.order ++ leBytes 2 u.stepDelay ++ leBytes 2 u.stepTimeout ++
    padTo 16 u.name ++ leBytes 2 u.firstSlot ++ leBytes 1 u.bankSlots

/-- SHA-256 of a set, 32 bytes (R401; log entry 7). -/
def setDigest (c : CfgSet) : List Byte :=
  digestBytes (Config.setSha c.bytes (c.units.flatMap unitBytes)).toNat

/-- CRC-32C over the payload of a set: its descriptors and the block bytes it holds, in the model's order (R35, log
entry 7). -/
def setCrc (c : CfgSet) : Nat :=
  (crc32c (c.units.flatMap unitBytes ++ (c.gens.flatMap fun p => leBytes 2 p.1 ++ leBytes 1 p.2) ++
    c.bytes.flatMap fun p => leBytes 8 p.1 ++ [p.2])).toNat

/-- The slot's payload has the CRC its header holds (R35). -/
def SetSlot.crcOk (x : SetSlot) : Bool := x.crc == setCrc x.set

/-- A slot written in full with a set (R35). -/
def slotWith (version : Nat) (st : SlotState) (c : CfgSet) : SetSlot :=
  { version := version, state := st, crc := setCrc c, set := c }

/-- The first of some stations by offset. -/
def firstByOffset (c : CfgSet) (ns : List Nat) : Option Nat :=
  ns.foldl (fun m n => match m with
    | none => some n
    | some k => if c.get 0x01 n 0 4 < c.get 0x01 k 0 4 then some n else some k) none

/-- The station whose landing brings the parameters of engine `e`: its first by offset (R33). -/
def engineOwner (c : CfgSet) (e : Nat) : Option Nat := firstByOffset c (c.stationList.filter fun n => c.engineOf n == e)

/-- The station whose landing brings a unit's parameters: the one above it, or the first station by offset of the
engine above it (R33). -/
def ownerOfUnit (c : CfgSet) (i : Nat) : Option Nat :=
  match c.stationAbove i with
  | some n => some n
  | none =>
    let eng := (i :: c.ancestors 16 i).find? fun j => (c.unit j).any fun u => u.utype == 2
    match eng with
    | none => none
    | some e =>
      firstByOffset c (c.stationList.filter fun n => (c.unit (hIndex (c.stationHandle n))).any fun u => hIndex u.parent == e)

/-- The station whose landing brings a configuration byte into effect, none for the press (R33, R112). -/
def ownerOf (c : CfgSet) (a : Nat) : Option Nat :=
  let (blk, i, o) := cfgLoc a
  let unit := fun (t : Nat) => match (c.ofType t)[i]? with | some j => ownerOfUnit c j | none => none
  match blk with
  | 0x01 | 0x06 | 0x07 => if c.hasStation i then some i else none
  | 0x02 =>
    if 16 ≤ o ∧ o < 32 then (if c.hasStation (o - 16) then some (o - 16) else none)
    else if 32 ≤ o ∧ o < 48 then c.stationList.find? fun n => c.mapLane n == some (o - 32) else none
  | 0x04 => engineOwner c i
  | 0x09 => unit 6
  | 0x0A => unit 7
  | 0x0C => unit 5
  | 0x0D => unit 0x0C
  | 0x0B => match slotUnit c i with | some j => ownerOfUnit c j | none => none
  | 0x0E =>
    let h : Handle := BitVec.ofNat 16 (c.get 0x0E i 0 2)
    if h = 0xFFFF#16 then none else ownerOfUnit c (hIndex h)
  | _ => none

/-- The station whose landing brings a unit's descriptor: its owner in the new set, or for a unit that leaves with it the
one in the old (R33). -/
def ownerOfDesc (new cur : CfgSet) (i : Nat) : Option Nat :=
  if (new.unit i).isSome then ownerOfUnit new i else ownerOfUnit cur i

/-- The set in effect with the part of `new` that `owner` owns put in place: block bytes, and the descriptors of the units
beneath it (R33, log entry 19). -/
def mergePart (owner : Option Nat) (new cur : CfgSet) : CfgSet :=
  let addrs := (cur.bytes ++ new.bytes).map (·.1)
  let mine := addrs.filter fun a => ownerOf new a == owner
  let units := ((cur.units ++ new.units).map (·.1)).filter fun i => ownerOfDesc new cur i == owner
  { gens := new.gens
    bytes := mine.foldl (fun b a => memWrite cfgDefault b a (memRead cfgDefault new.bytes a)) cur.bytes
    units := units.foldl (fun t i => match kvFind new.units i with | some u => kvSet t i u | none => kvDel t i) cur.units }

/-- A spoil band's bytes beyond its own length are discarded at commit (Table 21-4). -/
def trimSpoil (c : CfgSet) : CfgSet :=
  { c with bytes := c.bytes.filter fun p =>
      let (blk, i, o) := cfgLoc p.1
      blk != 0x04 || c.get 0x04 i 0 4 != 0x444E4254 || decide (o < c.get 0x04 i 28 4) }

/-! ### Records -/

/-- A CONFIG gallery record (R39, Table 19-2). -/
def configRecord (old new state cls role : Nat) (s : State) : State :=
  galWrite 0x20 0#16 0 0 (leBytes 4 old ++ leBytes 4 new ++ leBytes 1 state ++ leBytes 1 cls ++ leBytes 1 role) s

/-! ### Effect -/

/-- The descriptors of the output group of slot `k`, the slots whose output references are identical, are the same in two
sets (R276). -/
def sameGroup (old new : CfgSet) (k : Nat) : Bool :=
  ((setSlots old).filter fun j => old.read 0x0B j 8 4 == old.read 0x0B k 8 4).all fun j =>
    old.read 0x0B j 0 160 == new.read 0x0B j 0 160

/-- What a change of the loops' descriptors does at its point of effect: slots gone lose their state, a changed target
takes the place of a rider's, the flags of a changed group apply (R117, R268, R276). -/
def reloadLoops (old new : CfgSet) (phases : List (Nat × Nat × Nat)) (s : State) : State :=
  let live := setSlots new
  let phaseOf := fun k => match phases.find? fun x => x.1 == k with | some x => x.2.2 | none => 0
  s.modLoops fun l => (l.filter fun p => live.contains p.1).map fun p =>
    (p.1, { p.2 with
      phase := phaseOf p.1
      target := if old.read 0x0B p.1 28 4 = new.read 0x0B p.1 28 4 then p.2.target else none
      owner := if sameGroup old new p.1 then p.2.owner else none
      preset := p.2.preset || old.read 0x0B p.1 0 160 != new.read 0x0B p.1 0 160 })

/-- The interlock map words are loaded while every input is high (R183, R184). -/
def reloadMap (s : State) : State :=
  if s.intlk.low = 0#8 then s.modIntlk fun x => { x with map := (List.range 8).map fun n => s.cfgGet 0x08 n 0 4 } else s

/-- A lane is in service: trained and not retired (R111, R114, R179). -/
def laneServing (s : State) (l : Nat) : Bool := !(s.lane l).retired && (s.lane l).trained

/-- COVERED of the unit at INDEX `i` (R27). -/
def setCovered (i : Nat) (b : Bool) (s : State) : State :=
  s.modUnits fun u => { u with live := kvMod {} u.live i fun x => { x with covered := b } }

/-- The retired lane that served station `n` in set `base` is COVERED by the lane that has taken its function over
(R27). -/
def coverLane (base : CfgSet) (n : Nat) (s : State) : State :=
  match base.mapLane n with
  | some l => if (s.lane l).retired then setCovered (l + 1) true s else s
  | none => s

/-- A station that a retired lane left without one takes a different lane that the set just in effect gives it, if that is
in service, and leaves FAULTED (R114). -/
def newRoute (base : CfgSet) (n : Nat) (s : State) : State :=
  match kvFind s.cfg.routeLane n, s.cfg.cur.mapLane n with
  | some none, some l =>
    if base.mapLane n = some l ∨ laneServing s l = false then s
    else coverLane base n (stationReady n (s.modCfg fun c => { c with routeLane := kvDel c.routeLane n }))
  | _, _ => s

/-- The ACTIVE route copy keeps only what a retired lane forces (R112, R114). -/
def reloadRoutes (base : CfgSet) (s : State) : State :=
  s.cfg.cur.stationList.foldl (fun s n => newRoute base n s)
    (s.modCfg fun c => { c with routeLane := c.routeLane.filter fun p => p.2.isNone && (c.cur.mapLane p.1).isSome })

/-- THREAD is left: the press takes the set's mode, every lane leaves DARK, MOT_PRESS RUN responds and the dwell at
25 in/s begins (R453). A REDUCED transition that a stop cancelled is requested again (R16, R200; log entry 171). -/
def leaveThread (s : State) : State :=
  let s := s.modLand fun l => { l with mode := setMode s.cfg.cur, run := .dwell }
  let s := if (List.range 16).any fun n => (s.st n).ems.dblPend then askReduced s else s
  finish (waitingOp 0x0401) .ok [] (leaveAllDark s)

/-- A pending set has taken effect in full (R33, R35, R37): it is current, the set before it is previous, or after a
revert there is none; the slots say so; CFG_EFFECT and the CONFIG record tell it. -/
def effectDone (p : Pend) (s : State) : State :=
  let s := changeSets (fun c =>
    let mine := slotWith p.version .active p.set
    let toB := !c.slotIsB
    { c with
      cur := p.set, curVer := p.version, prev := if p.revert then none else some (p.oldVersion, p.base), pend := none,
      routePend := none, slotIsB := toB,
      slotA := if toB then (if p.revert then {} else c.slotA) else mine
      slotB := if toB then mine else (if p.revert then {} else c.slotB) }) s
  let s := reloadRoutes p.base s
  let s := if s.land.mode = .thread ∨ s.land.mode = setMode p.set then s
    else s.modLand fun l => { l with mode := setMode p.set, next := none, plans := [], rampWait := true }
  let s := s.modLand fun l => { l with modeNext := none, drain := if p.bound.isNone then false else l.drain }
  let s := post 0x8201 0xFFFF#16 (leBytes 4 p.version ++ leBytes 1 0 ++ leBytes 3 0 ++ leBytes 8 (p.bound.getD 0)) s
  let s := configRecord p.oldVersion p.version 1 p.cls p.role s
  judgeActs (if s.land.run = .commit then leaveThread s else s)

/-- Every part of a pending set is in effect. -/
def allParts (p : Pend) : Bool :=
  p.pressDone && (p.set.stationList ++ p.base.stationList).all fun n => p.stations.contains n

/-- One part of the pending set takes effect (R33): the press's, or a station's. -/
def effectPart (owner : Option Nat) (s : State) : State :=
  match s.cfg.pend with
  | none => s
  | some p =>
    let old := s.cfg.cur
    let phases := assignPhases old (fun k => (s.loop k).phase) p.set
    let p' := match owner with
      | none => { p with pressDone := true }
      | some n => { p with stations := if p.stations.contains n then p.stations else p.stations ++ [n] }
    let s := s.modCfg fun c =>
      { c with
        cur := mergePart owner p.set c.cur, pend := some p'
        routePend := match c.routePend, owner with | some l, some n => some (l ++ [n]) | r, _ => r }
    let s := reloadMap (reloadLoops old s.cfg.cur phases s)
    let s := match owner with | some n => newRoute p.base n s | none => s
    if allParts p' then effectDone p' s else s

/-- The whole pending set takes effect at once (R33). -/
def takeEffect (s : State) : State :=
  match s.cfg.pend with
  | none => s
  | some p =>
    let phases := assignPhases s.cfg.cur (fun k => (s.loop k).phase) p.set
    let old := s.cfg.cur
    let s := s.modCfg fun c => { c with cur := p.set }
    effectDone p (reloadMap (reloadLoops old p.set phases s))

/-- A pending set that no frame is bound to takes effect when no frame is in flight and its slot is written (R33). -/
def effectIfIdle (s : State) : State :=
  match s.cfg.pend with
  | some p => if p.bound.isNone ∧ p.slotDone ∧ noFlights s then takeEffect s else s
  | none => s

/-! ### Acceptance -/

/-- The role of the grant a command used, 0xFF when none was needed (Table 19-2). -/
def ticketRole (need : Nat) (s : State) : Nat :=
  if need = 0 then 0xFF else match s.auth.grant with | some g => g.role | none => 0xFF

/-- The lanes that a set's station map names and another's does not (R113). -/
def newLanes (base c : CfgSet) : List Nat :=
  (List.range 16).filter fun l => ((List.range 16).any fun n => c.mapLane n == some l) &&
    !((List.range 16).any fun n => base.mapLane n == some l)

/-- The lanes that only the new routes name are trained at once, those of a station whose synthesiser has not calibrated
once it has (R113, R149). -/
def trainNew (base c : CfgSet) (s : State) : State :=
  (newLanes base c).foldl (fun s l =>
    let ready := match laneServes s l with | some n => (s.st n).scan.calibrated | none => false
    if (s.lane l).retired || (s.lane l).training || !ready then s else startTraining l true s) s

/-- A set with the generations of its free descriptor slots: what each entry takes at its next use, one step on from that
of a unit another set still holds (R24, Table 02-3). -/
def recordGens (s : State) (c : CfgSet) : CfgSet :=
  let free := (List.range 1024).filter fun i => (c.unit i).isNone
  let next := fun i => match s.entryUnit i with
    | some u => nextGen i u.gen
    | none => kvGet 0 s.units.gens i
  { c with gens := (free.map fun i => (i, next i)).filter fun p => p.2 != 0 }

/-- A set is accepted: its version is consumed, its slot write begins (a revert rewrites a header), the acceptance is
recorded (R34, R35, R37, R39). A mode change drains first (R18); a changed route fills the PENDING copy (R112). -/
def acceptSet (c : CfgSet) (revert : Bool) (role : Nat) (s : State) : State :=
  let v := s.cfg.highVer + 1
  let old := s.cfg.curVer
  let base := s.cfg.cur
  let c := recordGens s c
  let cls := (changedClass base c).getD 0xFF
  let turn := c.fine != base.fine
  let s := s.modLand fun l => { l with plans := [] }
  let s := s.modCfg fun g =>
    let slot : SetSlot := if revert then slotWith v .pending c else {}
    { g with
      highVer := v, writing := !revert, staged := if revert then g.staged else none
      pend := some
        { set := c, base := base, version := v, oldVersion := old, revert := revert, cls := cls, role := role
          slotDone := revert }
      slotA := if g.slotIsB then slot else g.slotA
      slotB := if g.slotIsB then g.slotB else slot
      routePend := if routeDiffers base c then some [] else g.routePend }
  let s := if turn && s.land.mode != .thread then
      s.modLand fun l => { l with drain := true, modeNext := some (setMode c) }
    else s
  let s := trainNew base c s
  configRecord old v (if revert then 3 else 0) cls role s

/-- Whether the set just accepted is bound to the next frame admitted: 1, or takes effect with none: 0 (Table 21-3). -/
def binding (s : State) : Nat := bnat (!noFlights s && !s.land.drain && s.land.stopReq == .none)

/-- The response of an acceptance. -/
def acceptReply (s : State) : Reply :=
  .done .ok (leBytes 4 s.cfg.highVer ++ leBytes 1 (binding s) ++ leBytes 5 0 ++ leBytes 6 0) (effectIfIdle s)

/-! ### The commands -/

/-- CFG_STAGE_BEGIN's own checks and effect (R32). -/
def bodyCfgStageBegin (s : State) : Reply :=
  if s.cfg.staged.isSome then refuse .conflict s
  else .done .ok [] (s.modCfg fun c => { c with staged := some s.latestSet })

/-- CFG_STAGE_BEGIN. -/
def execCfgStageBegin (m : Cmd) (s : State) : Host.Outcome State Fault Refusal :=
  .next (runCmd opCfgStageBegin noTicket m bodyCfgStageBegin s)

/-- The block, entry, offset and length of a command lie inside the entry. -/
def inEntry (m : Cmd) : Bool :=
  between 1 176 (m.u 6 2) && match entrySize (m.u 0 1) (m.u 2 2) with
    | some z => decide (m.u 4 2 + m.u 6 2 ≤ z)
    | none => false

/-- CFG_WRITE's own checks and effect (R31, R401). -/
def bodyCfgWrite (m : Cmd) (s : State) : Reply :=
  if !inEntry m then refuse .range s
  else match staging s with
    | .error e => refuse e s
    | .ok c =>
      let c' := c.write (m.u 0 1) (m.u 2 2) (m.u 4 2) (m.bytes 16 (m.u 6 2))
      if 262144 < c'.size then refuse .range s else .done .ok [] (s.modCfg fun g => { g with staged := some c' })

/-- CFG_WRITE. -/
def execCfgWrite (m : Cmd) (s : State) : Host.Outcome State Fault Refusal :=
  .next (runCmd opCfgWrite noTicket m (bodyCfgWrite m) s)

/-- The set a source byte names: current, staged, previous; a pending set's parts do not show in it before the set has
taken effect in full. DESIGN CHOICE: while a commit is pending, the previous set is still shown though its slot is being
overwritten; the spec does not say what reads it then (R35, R37, log entry 163). -/
def sourceSet (n : Nat) (s : State) : Option CfgSet :=
  match n with
  | 0 => match s.cfg.pend with | some p => some p.base | none => some s.cfg.cur
  | 1 => s.cfg.staged
  | _ => s.cfg.prev.map (·.2)

/-- CFG_READ's own checks and effect (R401). -/
def bodyCfgRead (m : Cmd) (s : State) : Reply :=
  if !inEntry m || decide (2 < m.u 1 1) then refuse .range s
  else match sourceSet (m.u 1 1) s with
    | some c => .done .ok (c.read (m.u 0 1) (m.u 2 2) (m.u 4 2) (m.u 6 2)) s
    | none => refuse .conflict s

/-- CFG_READ. -/
def execCfgRead (m : Cmd) (s : State) : Host.Outcome State Fault Refusal :=
  .next (runCmd opCfgRead noTicket m (bodyCfgRead m) s)

/-- CFG_STAGE_ABORT's own checks and effect (R32): entries only the staged set reserved are freed (R25). -/
def bodyCfgStageAbort (s : State) : Reply :=
  if s.cfg.staged.isNone then refuse .conflict s
  else .done .ok [] (changeSets (fun c => { c with staged := none }) s)

/-- CFG_STAGE_ABORT. -/
def execCfgStageAbort (m : Cmd) (s : State) : Host.Outcome State Fault Refusal :=
  .next (runCmd opCfgStageAbort noTicket m bodyCfgStageAbort s)

/-- The ticket a commit of the staged set needs (R38). -/
def commitNeed (s : State) : Nat :=
  match s.cfg.staged with
  | some c => ticketFor s.cfg.cur c
  | none => 0

/-- CFG_COMMIT's own checks and effect (R33 to R35, R39, R112, Table 21-3). `role` is the role of the ticket used. -/
def bodyCfgCommit (role : Nat) (m : Cmd) (s : State) : Reply :=
  match s.cfg.staged with
  | none => refuse .conflict s
  | some c =>
    if s.cfg.pend.isSome then refuse .busy s
    else if m.bytes 0 32 ≠ setDigest c then refuse .range s
    else if !contentOk s c then refuse .range s
    else if 0xFFFFFFFF ≤ s.cfg.highVer then refuse .range s
    else if s.cfg.routePend.isSome && routeDiffers s.cfg.cur c then refuse .busy s
    else if tooMany c then refuse .refusedFull s
    else acceptReply (acceptSet (trimSpoil c) false role s)

/-- CFG_COMMIT. -/
def execCfgCommit (m : Cmd) (s : State) : Host.Outcome State Fault Refusal :=
  .next (runCmd opCfgCommit commitNeed m
    (bodyCfgCommit (ticketRole (commitNeed s) s) m) s)

/-- The ticket a revert needs (R38). -/
def revertNeed (s : State) : Nat :=
  match s.cfg.prev with
  | some p => ticketFor s.cfg.cur p.2
  | none => 0

/-- CFG_REVERT's own checks and effect (R37, R39, Table 21-3). -/
def bodyCfgRevert (role : Nat) (m : Cmd) (s : State) : Reply :=
  if s.cfg.pend.isSome then refuse .busy s
  else match s.cfg.prev with
    | none => refuse .noPrevious s
    | some (v, c) =>
      if m.u 0 4 ≠ v ∨ 0xFFFFFFFF ≤ s.cfg.highVer then refuse .range s
      else if s.cfg.routePend.isSome && routeDiffers s.cfg.cur c then refuse .busy s
      else acceptReply (acceptSet c true role s)

/-- CFG_REVERT. -/
def execCfgRevert (m : Cmd) (s : State) : Host.Outcome State Fault Refusal :=
  .next (runCmd opCfgRevert revertNeed m
    (bodyCfgRevert (ticketRole (revertNeed s) s) m) s)

/-- CFG_STATUS's effect (Table 21-3). -/
def bodyCfgStatus (s : State) : Reply :=
  let prev := match s.cfg.prev with | some p => p.1 | none => 0
  let pend := match s.cfg.pend with | some p => p.version | none => 0
  let dig := match s.cfg.staged with | some c => setDigest c | none => leBytes 32 0
  .done .ok (leBytes 4 s.cfg.curVer ++ leBytes 4 prev ++ leBytes 4 pend ++ leBytes 1 (bnat s.cfg.staged.isSome) ++
    leBytes 3 0 ++ dig) s

/-- CFG_STATUS. -/
def execCfgStatus (m : Cmd) (s : State) : Host.Outcome State Fault Refusal :=
  .next (runCmd opCfgStatus noTicket m bodyCfgStatus s)

/-- CONFIG_SLOT_WRITE_COMPLETE: the slot's header is PENDING with the version; a set that no frame is bound to takes
effect at once when no frame is in flight (R33, R35). -/
def execConfigSlotWriteComplete (s : State) : Host.Outcome State Fault Refusal :=
  .next (match s.cfg.pend with
    | some p =>
      if s.cfg.writing then
        let slot := slotWith p.version .pending p.set
        effectIfIdle (s.modCfg fun c =>
          { c with
            writing := false, pend := some { p with slotDone := true }
            slotA := if c.slotIsB then slot else c.slotA
            slotB := if c.slotIsB then c.slotB else slot })
      else s
    | none => s)

end Sys2Proof.Machine
end

