-- ==== Sys2Proof/Machine/Nvme.lean ====
section
/-! DEFINITION. The spool's layout and its members' commands: regions, stripes, superblock, directory and ledger pages,
queues and the order of service, superblock updates and directory batches (R122, R124 to R128, R130 to R132, R135,
R137). -/

namespace Sys2Proof.Machine

open Sys2Proof

/-! ### Regions (R126, R130, Table 06-3) -/

/-- Whole multiple of `k` not above `n`. -/
def floorTo (k n : Nat) : Nat := if k = 0 then 0 else n / k * k

/-- Smallest multiple of `k` at or above `n`. -/
def ceilTo (k n : Nat) : Nat := if k = 0 then 0 else (n + k - 1) / k * k

/-- Total striped pages N. -/
def Superblock.pages (b : Superblock) : Nat := b.width * b.memberPages

/-- Pages of the frame directory. -/
def Superblock.dirPages (b : Superblock) : Nat := floorTo b.width (b.pages / 400)

/-- Pages of the ledger region. -/
def Superblock.ledgerPages (b : Superblock) : Nat := floorTo b.width (b.ledgerShare * b.pages / 1000)

/-- Pages of the free map: the smallest multiple of K with one bit for every page of the extent area. -/
def Superblock.mapPages (b : Superblock) : Nat :=
  let left := b.pages - b.dirPages - b.ledgerPages
  ceilTo b.width ((left + 32768) / 32769)

/-- First page of the extent area. -/
def Superblock.extentStart (b : Superblock) : Nat := b.dirPages + b.ledgerPages + b.mapPages

/-- Pages of the extent area. -/
def Superblock.extentPages (b : Superblock) : Nat := b.pages - b.extentStart

/-- Frame entries the directory holds: 64 on each of F pages (R130). -/
def Superblock.frameEntries (b : Superblock) : Nat := 64 * min 4096 (b.dirPages / 2)

/-- Records the ledger region holds, 32 per page. -/
def Superblock.regionRecords (b : Superblock) : Nat := 32 * b.ledgerPages

/-- The spool takes and gives bands. -/
def mounted (s : State) : Bool := s.spool.state == .mounted

/-- Pages of a band (R133). -/
def pagesOf (len : Nat) : Nat := (len + 4095) / 4096

/-- Staging a band of a length reserves, bytes (R421). -/
def reserveOf (len : Nat) : Nat := 4096 * pagesOf len

/-- Bytes of positions 0 to `len - 1` of a band at page `first` that lie on member `c` of `k` (R137). -/
def bytesOn (k first len c : Nat) : Nat :=
  ((List.range (pagesOf len)).map fun p =>
    if k ≠ 0 ∧ (first + p) % k = c then min 4096 (len - 4096 * p) else 0).sum

/-- The members that hold pages of a band. -/
def membersOf (k first len : Nat) : List Nat := (List.range k).filter fun c => decide (0 < bytesOn k first len c)

/-! ### Bands on the spool -/

/-- The descriptor of a band identity. -/
def descOf (s : State) (id : BandId) : Option BandDesc := s.spool.descs.find? fun d => d.id == id

/-- Changes the descriptor of an identity. -/
def modDesc (id : BandId) (f : BandDesc → BandDesc) (s : State) : State :=
  s.modSpool fun p => { p with descs := p.descs.map fun d => if d.id = id then f d else d }

/-- Some page of a band lies on a member that is lost or gone (R138). -/
def onLost (s : State) (d : BandDesc) : Bool :=
  (membersOf s.spool.sb.width d.first d.data.length).any fun c =>
    match s.spool.members[c]? with | some m => m.lost || m.gone | none => true

/-- A band is on the spool for admission (R132, R138). -/
def onSpool (s : State) (id : BandId) : Bool :=
  mounted s && match descOf s id with
    | some d => d.present && !d.lost && !onLost s d
    | none => false

/-- Changes member `c`. -/
def modMember (c : Nat) (f : Member → Member) (s : State) : State :=
  s.modSpool fun p => { p with members := p.members.zipIdx.map fun x => if x.2 = c then f x.1 else x.1 }

/-! ### Where a page lies (R125) -/

/-- Local pages each controller reserves: superblock copies, reserved pages, bench region. -/
def reservedPages : Nat := 262400

/-- Local page of spool page `g` with `k` members. -/
def localPage (k g : Nat) : Nat := reservedPages + (if k = 0 then 0 else g / k)

/-- Spool page at local page `l` of member `c` of `k`. -/
def spoolPage (k c l : Nat) : Nat := (l - reservedPages) * k + c

/-- The part on member `c` of a run of `n` spool pages from `first`: consecutive local pages, the first and how many. -/
def shareOf (k first n c : Nat) : Nat × Nat :=
  if k = 0 then (0, 0)
  else
    let g := first + (c + k - first % k) % k
    if g < first + n then (localPage k g, (first + n - g + k - 1) / k) else (0, 0)

/-! ### The superblock (R127, Table 06-4) -/

/-- Fields of given widths and values, one after the other, before `r`. -/
def layout : List (Nat × Nat) → List Byte → List Byte
  | [], r => r
  | (k, v) :: l, r => leBytes k v ++ layout l r

/-- The fields of a superblock copy before its bad pages: widths in bytes and values (Table 06-4). -/
def Superblock.fields (b : Superblock) (copy member lba : Nat) : List (Nat × Nat) :=
  [(4, 0x4C4F5053), (2, 1), (1, copy), (1, member), (8, b.generation), (16, b.spoolId), (1, b.width), (1, bnat b.mounted),
   (1, b.ledgerShare), (1, 0), (4, lba), (8, b.memberPages), (8, b.pages), (8, b.dirPages), (8, b.ledgerPages),
   (8, b.mapPages), (8, b.extentPages), (8, b.keyCheck), (2, b.bad.length)]

/-- The bytes of a superblock copy before its CRC (Table 06-4). -/
def Superblock.head (b : Superblock) (copy member lba : Nat) : List Byte :=
  layout (b.fields copy member lba) (padTo 2560 (b.bad.flatMap (leBytes 5)) ++ leBytes 1434 0)

/-- The 4,096 bytes of a superblock copy on a member with an LBA size. -/
def Superblock.toBytes (b : Superblock) (copy member lba : Nat) : List Byte :=
  let x := b.head copy member lba
  x ++ leBytes 4 (crc32c x).toNat

/-- A superblock copy as read: valid with its magic, version and CRC. -/
def superOf (bs : List Byte) : SuperCopy :=
  let f := fieldAt bs
  { valid := bs.length == 4096 && f 0 4 == 0x4C4F5053 && f 4 2 == 1 && f 4092 4 == (crc32c (bs.take 4092)).toNat
    generation := f 8 8, spoolId := f 16 16, member := f 7 1, copy := f 6 1, width := f 32 1
    mounted := bitOf (f 33 1) 0, ledgerShare := f 34 1, memberPages := f 40 8
    sizes := [f 48 8, f 56 8, f 64 8, f 72 8, f 80 8], keyCheck := f 88 8
    bad := (List.range (min 512 (f 96 2))).map fun i => f (98 + 5 * i) 5 }

/-- The key check value of an XTS key: the first 8 bytes of an all-zero page under tweak 0xFF_FFFF_FFFF (R127). -/
def keyCheck (key : BitVec 512) : Nat := fieldAt (Config.xts key 0xFFFFFFFFFF#128 (leBytes 4096 0)) 0 8

/-! ### Directory, free map and ledger pages (R130, R131, Tables 06-6, 06-7) -/

/-- Pages of frame entries, F. -/
def Superblock.framePages (b : Superblock) : Nat := min 4096 (b.dirPages / 2)

/-- Layers of a frame, in order. -/
def FrameEnt.layerList (f : FrameEnt) : List Nat := (List.range 16).filter f.layers.getLsbD

/-- Descriptors of a frame: frame_bands for each layer used. -/
def FrameEnt.descCount (f : FrameEnt) : Nat := f.bands * f.layerList.length

/-- Whole descriptor pages of a frame. -/
def FrameEnt.descPages (f : FrameEnt) : Nat := (f.descCount + 254) / 255

/-- The bands of a frame, in the order of their descriptors. -/
def FrameEnt.bandIds (f : FrameEnt) : List BandId :=
  f.layerList.flatMap fun l => (List.range f.bands).map fun b => { job := f.job, layer := l, frame := f.frame, band := b }

/-- state of a frame entry: 0 EMPTY, 1 OPEN, 2 COMPLETE (Table 06-6). -/
def FrameEnt.state (f : FrameEnt) (ds : List BandDesc) : Nat :=
  if f.closed then 0
  else if f.bands ≠ 0 ∧ f.bandIds.all (fun i => ds.any fun d => d.id == i && d.present && !d.lost) then 2 else 1

/-- The 64 bytes of a frame entry; an EMPTY one is all zeros before its CRC. -/
def FrameEnt.toBytes (f : FrameEnt) (ds : List BandDesc) : List Byte :=
  let x := if f.closed then leBytes 60 0
    else leBytes 4 f.job ++ leBytes 4 f.frame ++ leBytes 2 f.bands ++ leBytes 1 f.gapBands ++ leBytes 1 (f.state ds) ++
      leBytes 2 f.layers.toNat ++ leBytes 2 (bnat f.secure) ++ leBytes 8 (f.descPage.getD 0) ++ leBytes 4 f.descCount ++
      leBytes 32 0
  x ++ leBytes 4 (crc32c x).toNat

/-- The 16 bytes of a band's descriptor. -/
def bandDescBytes (i : BandId) (d : Option BandDesc) : List Byte :=
  match d with
  | some d => leBytes 5 d.first ++ leBytes 1 (128 * bnat d.present + 64 * bnat d.lost + i.layer % 16) ++ leBytes 2 i.band ++
      leBytes 4 d.data.length ++ leBytes 4 d.seq
  | none => leBytes 5 0 ++ leBytes 1 (i.layer % 16) ++ leBytes 2 i.band ++ leBytes 8 0

/-- A directory page: 64 frame entries, or 255 descriptors and their trailer. -/
def dirPageBytes (b : Superblock) (dir : List FrameEnt) (ds : List BandDesc) (g : Nat) : List Byte :=
  if g < b.framePages then
    (List.range 64).flatMap fun k =>
      ((dir.find? fun f => f.index == 64 * g + k).getD { closed := true }).toBytes ds
  else
    let x := match dir.find? fun f => f.descPage.any fun p => decide (p ≤ g) && decide (g < p + f.descPages) with
      | some f => ((f.bandIds.drop (255 * (g - f.descPage.getD 0))).take 255).flatMap fun i =>
          bandDescBytes i (ds.find? fun d => d.id == i)
      | none => []
    let x := padTo 4080 x
    x ++ leBytes 4 (crc32c x).toNat ++ leBytes 12 0

/-- A free map page: bit set for a page of the extent area in use or retired. -/
def mapPageBytes (b : Superblock) (runs : List (Nat × Nat)) (j : Nat) : List Byte :=
  (List.range 4096).map fun k => BitVec.ofNat 8 (((List.range 8).map fun i =>
    let g := b.extentStart + 32768 * j + 8 * k + i
    2 ^ i * bnat ((runs.any fun r => decide (r.1 ≤ g) && decide (g < r.1 + r.2)) || b.bad.contains g)).sum)

/-- The directory pages in which two images of the directory differ. -/
def dirtyDir (b : Superblock) (dir old : List FrameEnt) (ds oldDs : List BandDesc) : List Nat :=
  let ents := ((dir.filter fun f => !old.contains f) ++ old.filter fun f => !dir.contains f)
  let changed := ((ds.filter fun d => !oldDs.contains d) ++ oldDs.filter fun d => !ds.contains d).map (·.id)
  let all := (dir ++ old).filter fun f => changed.any fun i => i.job == f.job && i.frame == f.frame
  let descs := all.flatMap fun f => match f.descPage with
    | some p => ((List.range f.descPages).filter fun k =>
        ((f.bandIds.drop (255 * k)).take 255).any changed.contains).map (p + ·)
    | none => []
  ((ents ++ all).map (fun (f : FrameEnt) => f.index / 64) ++ descs).eraseDups.filter fun g => decide (g < b.dirPages)

/-- The free map pages, counted from the first, in which two images differ. -/
def dirtyMap (b : Superblock) (runs old : List (Nat × Nat)) : List Nat :=
  (((runs.filter fun r => !old.contains r) ++ old.filter fun r => !runs.contains r).flatMap fun r =>
    let lo := (r.1 - b.extentStart) / 32768
    (List.range ((r.1 + r.2 - 1 - b.extentStart) / 32768 + 1 - lo)).map (lo + ·)).eraseDups

/-! ### The members' queues (R124, R137) -/

/-- Place of a command in its member's order of service (R137). Flush and superblock writes go with the directory's, a
format's bench writes last (log entry 174). -/
def opPlace : NvmeOp → Nat
  | .reread => 1
  | .read => 2
  | .ledgerWrite => 3
  | .flush | .dirWrite | .mapWrite | .superWrite => 4
  | .write => 5
  | .trim => 6
  | _ => 7

/-- The command transfers data, at most 128 KiB of it (R124). -/
def opTransfers : NvmeOp → Bool
  | .flush | .trim => false
  | _ => true

/-- A Read whose bytes count for the delivered rate (R136). -/
def opReads : NvmeOp → Bool
  | .read | .reread | .scrub | .bench => true
  | _ => false

/-- `a` is served before `b`: its place is earlier, or at one place its deadline is. -/
def NvmeCmd.before (a b : NvmeCmd) : Bool :=
  decide (opPlace a.op < opPlace b.op) || (opPlace a.op == opPlace b.op && decide (a.key < b.key))

/-- The command served next of a list. -/
def nextCmd : List NvmeCmd → Option NvmeCmd
  | [] => none
  | q :: r => some (r.foldl (fun m x => if x.before m then x else m) q)

/-- Some member is lost or retired: band writes stop (R138). -/
def someLost (s : State) : Bool := s.spool.members.any fun m => m.lost || m.gone

/-- A member may have one command more outstanding: 64, and one fewer than its queue holds (R124). -/
def Member.hasRoom (m : Member) : Bool := decide (m.out.length < min 64 (m.entries - 1))

/-- The commands of a member that may be issued now: at most 16 band writes, none to read-only media and none while a
member is lost (R124, R138). -/
def ready (s : State) (m : Member) : List NvmeCmd :=
  m.queue.filter fun q => q.op != .write ||
    (decide ((m.out.filter fun x => x.op == .write).length < 16) && !m.readOnly && !someLost s)

/-- The plain bytes of a band at spool page `g`, its page tail zeros. -/
def bandPage (s : State) (id : BandId) (g : Nat) : List Byte :=
  match descOf s id with
  | some d => padTo 4096 (d.data.drop (4096 * (g - d.first)))
  | none => leBytes 4096 0

/-- The bytes a write command takes to member `c`: pages of the striped space encrypted under their page numbers, the
superblock as it is (R127, R135). -/
def cmdData (s : State) (c : Nat) (q : NvmeCmd) : List Byte :=
  let k := s.spool.sb.width
  let enc := fun (g : Nat) (bs : List Byte) => Config.xts s.spool.xtsKey (BitVec.ofNat 128 g) bs
  match q.op with
  | .write => (List.range q.pages).flatMap fun i => let g := spoolPage k c (q.page + i); enc g (bandPage s q.id g)
  | .dirWrite | .mapWrite | .ledgerWrite =>
    (List.range q.pages).flatMap fun i => enc (spoolPage k c (q.page + i)) (padTo 4096 q.data)
  | .superWrite => q.data
  | _ => []

/-- Replaces the first of a list that equals `q`. -/
def replaceCmd (q : NvmeCmd) (r : List NvmeCmd) : List NvmeCmd → List NvmeCmd
  | [] => []
  | x :: t => if x = q then r ++ t else x :: replaceCmd q r t

/-- What is left of a run once its first `n` pages are issued; a bench read goes round its region while it is wanted. -/
def NvmeCmd.rest (q : NvmeCmd) (n : Nat) (again : Bool) : List NvmeCmd :=
  if n < q.pages then [{ q with page := q.page + n, pages := q.pages - n }]
  else if q.op = .bench ∧ again then [{ q with page := 256, pages := 262144 }] else []

/-- Issues to member `c` what its order of service and its limits let it take, at most `k` commands; no command
transfers more than 128 KiB (R124, R137). -/
def serve (c : Nat) : Nat → State → State
  | 0, s => s
  | k + 1, s =>
    match s.spool.members[c]? with
    | none => s
    | some m =>
      if m.lost || m.gone || !m.hasRoom then s
      else match nextCmd (ready s m) with
        | none => s
        | some q =>
          let n := if opTransfers q.op then min 32 q.pages else q.pages
          let x := { q with pages := n }
          let s := modMember c (fun m => { m with
            queue := replaceCmd q (q.rest n (s.spool.mounting || s.spool.probing)) m.queue, out := m.out ++ [x] }) s
          serve c k (s.send (.nvme c x (cmdData s c x)))

/-- Every member issues what it can. -/
def serveAll (s : State) : State := (List.range s.spool.members.length).foldl (fun s c => serve c 64 s) s

/-- A command joins the queue of member `c`. -/
def enqueue (c : Nat) (q : NvmeCmd) (s : State) : State :=
  serve c 64 (modMember c (fun m => { m with queue := m.queue ++ [q] }) s)

/-- The share of a band on every member that holds pages of it, as one run each (R125). -/
def issueAll (op : NvmeOp) (key : Int) (d : BandDesc) (s : State) : State :=
  (List.range s.spool.sb.width).foldl
    (fun s c =>
      let (l, n) := shareOf s.spool.sb.width d.first (pagesOf d.data.length) c
      if n = 0 then s else enqueue c { op := op, id := d.id, page := l, pages := n, key := key } s) s

/-- The queue and the outstanding commands of every member. -/
def allCmds (s : State) : List NvmeCmd := s.spool.members.flatMap fun m => m.queue ++ m.out

/-- A command for a purpose waits or is outstanding on some member. -/
def pendingOp (s : State) (op : NvmeOp) : Bool := (allCmds s).any fun q => q.op == op

/-- A command for a band waits or is outstanding on some member. -/
def pendingFor (s : State) (op : NvmeOp) (id : BandId) : Bool := (allCmds s).any fun q => q.op == op && q.id == id

/-- Drops the waiting commands that meet a test, on every member. -/
def dropCmds (p : NvmeCmd → Bool) (s : State) : State :=
  s.modSpool fun x => { x with members := x.members.map fun m => { m with queue := m.queue.filter fun q => !p q } }

/-- One page written on the member it lies on. -/
def writePage (op : NvmeOp) (g : Nat) (data : List Byte) (s : State) : State :=
  let k := s.spool.sb.width
  if k = 0 then s else enqueue (g % k) { op := op, page := localPage k g, data := data } s

/-- One command on every member. -/
def onEvery (q : NvmeCmd) (s : State) : State :=
  (List.range s.spool.members.length).foldl (fun s c => enqueue c q s) s

/-! ### Superblock updates (R128) -/

/-- Writes a copy of the superblock in force on every member. -/
def writeSuper (copy : Nat) (second : Bool) (s : State) : State :=
  let s := s.modSpool fun p => { p with sbOut := some (copy, second) }
  (s.spool.members.zipIdx.map fun m => (m.2, m.1.lba)).foldl
    (fun s m => enqueue m.1 { op := .superWrite, page := copy, data := s.spool.sbWrote.toBytes copy m.1 m.2 } s) s

/-- The superblock changes: the copy with the lower generation is written first, on every member; a change that comes
while one is written waits. -/
def superUpdate (f : Superblock → Superblock) (s : State) : State :=
  let s := s.modSpool fun p => { p with sb := { f p.sb with generation := p.sb.generation + 1 } }
  if s.spool.sbOut.isSome then s.modSpool fun p => { p with sbMore := true }
  else writeSuper (if s.spool.sbGen.2 < s.spool.sbGen.1 then 1 else 0) false (s.modSpool fun p => { p with sbWrote := p.sb })

/-- Once a copy stands on every member the other is written, and then what waits. -/
def advanceSuper (s : State) : State :=
  match s.spool.sbOut with
  | none => s
  | some (c, second) =>
    if pendingOp s .superWrite then s
    else
      let g := s.spool.sbWrote.generation
      let s := s.modSpool fun p => { p with sbGen := if c = 0 then (g, p.sbGen.2) else (p.sbGen.1, g), sbOut := none }
      if !second then writeSuper (1 - c) true s
      else if s.spool.sbMore then
        writeSuper (if s.spool.sbGen.2 < s.spool.sbGen.1 then 1 else 0) false
          (s.modSpool fun p => { p with sbMore := false, sbWrote := p.sb })
      else s

/-! ### Directory batches (R132) -/

/-- The PRESENT descriptors. -/
def presentDescs (s : State) : List BandDesc := s.spool.descs.filter (·.present)

/-- A batch begins with a Flush on every member, when the directory or the free map has changed. -/
def beginBatch (s : State) : State :=
  let p := s.spool
  if !mounted s || p.batch != 0 || (p.dir == p.storedDir && presentDescs s == p.stored && p.usedRuns == p.storedRuns) then s
  else onEvery { op := .flush, pages := 0 } (s.modSpool fun p => { p with batch := 1 })

/-- The Flush is complete everywhere: the dirty directory pages are written. -/
def batchDirWrites (s : State) : State :=
  if s.spool.batch ≠ 1 ∨ pendingOp s .flush then s
  else
    let s := s.modSpool fun p => { p with
      batch := 2, batchDir := p.dir, batchDescs := p.descs.filter (·.present), batchRuns := p.usedRuns }
    (dirtyDir s.spool.sb s.spool.batchDir s.spool.storedDir s.spool.batchDescs s.spool.stored).foldl
      (fun s g => writePage .dirWrite g (dirPageBytes s.spool.sb s.spool.batchDir s.spool.batchDescs g) s) s

/-- The directory pages stand: the dirty free map pages are written. -/
def batchMapWrites (s : State) : State :=
  if s.spool.batch ≠ 2 ∨ pendingOp s .dirWrite then s
  else
    let old := s.spool.storedRuns
    let s := s.modSpool fun p => { p with batch := 3, storedDir := p.batchDir, stored := p.batchDescs }
    (dirtyMap s.spool.sb s.spool.batchRuns old).foldl
      (fun s j => writePage .mapWrite (s.spool.sb.dirPages + s.spool.sb.ledgerPages + j)
        (mapPageBytes s.spool.sb s.spool.batchRuns j) s) s

/-- The free map stands: the batch has ended; the last one of an orderly unmount is followed by MOUNTED cleared. -/
def batchEnds (s : State) : State :=
  if s.spool.batch ≠ 3 ∨ pendingOp s .mapWrite then s
  else
    let s := s.modSpool fun p => { p with batch := 0, storedRuns := p.batchRuns }
    if s.spool.unmounting then superUpdate (fun b => { b with mounted := false }) s else s

/-- A batch goes on as far as the commands completed let it. -/
def advanceBatch (s : State) : State := batchEnds (batchMapWrites (batchDirWrites s))

/-- An orderly unmount: what is dirty is written, then MOUNTED is cleared (R132; log entry 175). -/
def unmountSpool (s : State) : State :=
  if !mounted s then s
  else
    let s := advanceBatch (beginBatch (s.modSpool fun p => { p with unmounting := true }))
    if s.spool.batch = 0 ∧ s.spool.sb.mounted then superUpdate (fun b => { b with mounted := false }) s else s

end Sys2Proof.Machine
end

