-- ==== Sys2Proof/Machine/Spools.lean ====
section
/-! DEFINITION. The spool: its regions, where bands lie, the frame directory, freeing, and ingest credit (R97, R125 to
R134, R424). -/

namespace Sys2Proof.Machine

open Sys2Proof

/-! ### The extent area (R133) -/

/-- A run of pages is free: inside the area, not in use, none retired. -/
def runFree (s : State) (a n : Nat) : Bool :=
  let b := s.spool.sb
  decide (b.extentStart ≤ a) && decide (a + n ≤ b.pages) &&
    s.spool.usedRuns.all (fun r => decide (a + n ≤ r.1) || decide (r.1 + r.2 ≤ a)) &&
    b.bad.all fun p => decide (p < a) || decide (a + n ≤ p)

/-- The first free run of `n` pages from the cursor up, wrapping at the area's end. -/
def findRun (s : State) (n : Nat) : Option Nat :=
  let b := s.spool.sb
  let starts := b.extentStart :: s.spool.cursor :: (s.spool.usedRuns.map fun r => r.1 + r.2) ++ b.bad.map (· + 1)
  let fits := sortBy (starts.filter fun a => runFree s a n) (· ≤ ·)
  match fits.find? fun a => decide (s.spool.cursor ≤ a) with
  | some a => some a
  | none => fits.head?

/-- First descriptor page at which `n` whole pages are free; descriptors follow the frame entries (R131). -/
def descRun (s : State) (n : Nat) : Option Nat :=
  let b := s.spool.sb
  let used := s.spool.dir.filterMap fun f => if f.closed then none else f.descPage.map fun p => (p, f.descPages)
  let starts := sortBy (b.framePages :: used.map fun r => r.1 + r.2) (· ≤ ·)
  starts.find? fun a => decide (a + n ≤ b.dirPages) && used.all fun r => decide (a + n ≤ r.1) || decide (r.1 + r.2 ≤ a)

/-! ### The frame directory (R130, R134) -/

/-- The job of an id. -/
def jobOf (s : State) (id : Nat) : Option Job := s.jobs.find? fun j => j.id == id

/-- Changes a job. -/
def modJob (id : Nat) (f : Job → Job) (s : State) : State :=
  s.modJobs fun l => l.map fun j => if j.id = id then f j else j

/-- A job that still owns its frames. -/
def Job.live (j : Job) : Bool := j.state == .queued || j.state == .active || j.state == .held

/-- The frame entry of a frame. -/
def frameEnt (s : State) (job frame : Nat) : Option FrameEnt :=
  s.spool.dir.find? fun f => f.job == job && f.frame == frame

/-- A frame is in flight. -/
def inFlight (s : State) (job frame : Nat) : Bool := s.land.flights.any fun f => f.job == job && f.frame == frame

/-- Frames of a job whose entries are in use: those not closed, and of a cancelled job those in flight. -/
def entriesUsed (s : State) (j : Job) (lo hi : Nat) : Nat :=
  -- entries of the job at positions lo to hi - 1 of the directory
  let a := max lo j.base
  let b := min hi (j.base + j.count)
  let inside := fun f => decide (a ≤ j.base + f) && decide (j.base + f < b)
  if j.live then
    (b - a) - ((s.spool.dir.filter fun e => e.job == j.id && e.closed && inside e.frame).length)
  else (s.land.flights.filter fun f => f.job == j.id && inside f.frame).length

/-- The lowest run of `n` free frame entries (R130). -/
def frameRun (s : State) (n : Nat) : Option Nat :=
  let starts := 0 :: s.jobs.flatMap fun j =>
    (j.base + j.count) :: j.base :: ((s.spool.dir.filter fun e => e.job == j.id && e.closed).map fun e => j.base + e.frame) ++
      ((s.land.flights.filter fun f => f.job == j.id).map fun f => j.base + f.frame + 1)
  let fits := sortBy (starts.filter fun a => decide (a + n ≤ s.spool.sb.frameEntries) &&
    s.jobs.all fun j => entriesUsed s j a (a + n) == 0) (· ≤ ·)
  fits.head?

/-- A frame's extents and descriptors are freed and its entry is EMPTY (R134). -/
def freeFrame (job frame : Nat) (s : State) : State :=
  let mine := s.spool.descs.filter fun d => d.id.job == job && d.id.frame == frame
  let s := mine.foldl (fun s d => issueAll .trim 0 d s) (dropCmds (fun q => q.op == .write && mine.any fun d => d.id == q.id) s)
  s.modSpool fun p =>
    { p with
      descs := p.descs.filter fun d => !(d.id.job == job && d.id.frame == frame)
      usedRuns := p.usedRuns.filter fun r => !(mine.any fun d => d.first == r.1)
      dir := match p.dir.find? fun f => f.job == job && f.frame == frame with
        | some _ => p.dir.map fun f => if f.job = job ∧ f.frame = frame then { f with closed := true, bands := 0, descPage := none } else f
        | none => p.dir ++ [{ job := job, frame := frame, closed := true
                              index := match s.jobs.find? fun j => j.id == job with | some j => j.base + frame | none => 0 }] }

/-- Every band of every layer of a frame is PRESENT. -/
def frameComplete (s : State) (j : Job) (frame : Nat) : Bool :=
  match frameEnt s j.id frame with
  | none => false
  | some f => f.bands != 0 && !f.closed && ((List.range 16).filter j.layers.getLsbD).all fun l =>
      (List.range f.bands).all fun b =>
        match descOf s { job := j.id, layer := l, frame := frame, band := b } with
        | some d => d.present && !d.lost
        | none => false

/-! ### Ingest staging and credit (R97, R421, R424) -/

/-- Credit of a band returns (R424). -/
def returnCredit (n : Nat) (s : State) : State := s.modIngest fun i => { i with returned := i.returned + n }

/-- A band leaves staging with its credit. -/
def unstage (id : BandId) (s : State) : State :=
  match s.ingest.bands.find? fun b => b.id == id with
  | some b => returnCredit (reserveOf b.length) (s.modIngest fun i => { i with bands := i.bands.filter fun b => b.id != id })
  | none => s

/-- The BAND_REJECT or BAND_LOST event of a band (Table 21-20). -/
def bandEvent (code : Nat) (id : BandId) (why : Nat) (s : State) : State :=
  post code 0xFFFF#16 (leBytes 4 id.job ++ leBytes 1 id.layer ++ leBytes 1 why ++ leBytes 2 id.band ++ leBytes 4 id.frame) s

/-- A band is rejected: its staging is freed, its credit returns, BAND_REJECT says why (R88, R421). -/
def rejectBand (id : BandId) (why : Nat) (s : State) : State := bandEvent 0x8304 id why (unstage id s)

end Sys2Proof.Machine
end

