-- ==== Sys2Proof/Machine/Jobs.lean ====
section
/-! DEFINITION. The JOB_ commands (R403). -/

namespace Sys2Proof.Machine

open Sys2Proof

/-- The public key of a role and index, if one is installed. -/
def keyOf (s : State) (role index : Nat) : Option Key := s.auth.keys.find? fun k => k.role == role && k.index == index

/-- The fields of JOB_SUBMIT lie in their ranges, and an encrypted job has a key to unwrap with (Table 21-7, R423). -/
def submitRange (m : Cmd) (s : State) : Bool :=
  let fl := m.u 11 1
  let enc := bitOf fl 3
  m.u 0 4 != 0 && between 1 262144 (m.u 4 4) && m.u 8 2 != 0 && between 2 255 (m.u 10 1) && decide (fl < 32) &&
    (m.u 12 2 == 0 || between 50 200 (m.u 12 2)) && (!bitOf fl 4 || m.u 14 2 == 0) &&
    (if enc then s.cfgGet 0x15 0 128 1 != 0 && (keyOf s (s.cfgGet 0x15 0 128 1) (s.cfgGet 0x15 0 129 1)).isSome
     else (m.bytes 16 32).all (· == 0#8))

/-- The job a submission describes (Table 21-7). -/
def submitJob (m : Cmd) (base : Nat) (s : State) : Job :=
  let fl := m.u 11 1
  { id := m.u 0 4, count := m.u 4 4, layers := BitVec.ofNat 16 (m.u 8 2), gapBands := m.u 10 1, slow := bitOf fl 0
    spoilPolicy := bitOf fl 1, secure := bitOf fl 2, encrypted := bitOf fl 3, maxSpeed := m.u 12 2
    gapLimit := if bitOf fl 4 then 16 else m.u 14 2
    key := if bitOf fl 3 then
        match keyOf s (s.cfgGet 0x15 0 128 1) (s.cfgGet 0x15 0 129 1) with
        | some k => Config.unwrapKey k.pub (m.bytes 16 32)
        | none => 0
      else 0
    base := base }

/-- JOB_SUBMIT's own checks and effect (R130, R364, Tables 21-7, 21-8). A job_id of a job DONE or CANCELLED is free. -/
def bodyJobSubmit (m : Cmd) (s : State) : Reply :=
  if !submitRange m s then refuse .range s
  else if s.jobs.any fun j => j.id == m.u 0 4 && j.live then refuse .conflict s
  else if !mounted s then refuse .busy s
  else if galNear s.gal then refuse .refusedFull s
  else match frameRun s (m.u 4 4) with
    | none => refuse .refusedFull s
    | some base =>
      .done .ok [] ((s.modJobs fun l => (l.filter fun j => j.id != m.u 0 4) ++ [submitJob m base s]).modSpool fun p =>
        { p with dir := p.dir.filter fun f => f.job != m.u 0 4 })

/-- JOB_SUBMIT. -/
def execJobSubmit (m : Cmd) (s : State) : Host.Outcome State Fault Refusal :=
  .next (runCmd opJobSubmit noTicket m (bodyJobSubmit m) s)

/-- The frames of a job that wait and hold something on the spool. -/
def waitingFrames (s : State) (j : Job) : List Nat :=
  ((s.spool.dir.filter fun f => f.job == j.id && !f.closed && !inFlight s j.id f.frame).map (·.frame)).eraseDups

/-- JOB_CANCEL's own checks and effect: WAITING frames are freed, bands in reassembly discarded with their credit, the
job key forgotten; frames in flight go on (R44, R134, R423, Table 22-5). A job already DONE or CANCELLED is unknown. -/
def bodyJobCancel (m : Cmd) (s : State) : Reply :=
  match s.jobs.find? fun j => j.id == m.u 0 4 && j.live with
  | none => refuse .range s
  | some j =>
    let s := (waitingFrames s j).foldl (fun s f => freeFrame j.id f s) s
    let s := ((s.ingest.bands.filter fun b => b.id.job == j.id).map (·.id)).foldl (fun s id => unstage id s) s
    .done .ok [] ((modJob j.id (fun j => { j with state := .cancelled, key := 0 }) s).modLand fun l =>
      { l with plans := l.plans.filter fun p => p.job != j.id })

/-- JOB_CANCEL. -/
def execJobCancel (m : Cmd) (s : State) : Host.Outcome State Fault Refusal :=
  .next (runCmd opJobCancel noTicket m (bodyJobCancel m) s)

/-- A prepared plan of a job is dropped. -/
def dropPlan (job : Nat) (s : State) : State :=
  s.modLand fun l => { l with plans := l.plans.filter fun p => p.job != job }

/-- JOB_HOLD's own checks and effect. -/
def bodyJobHold (m : Cmd) (s : State) : Reply :=
  match jobOf s (m.u 0 4) with
  | some j =>
    if j.state = .queued ∨ j.state = .active then
      .done .ok [] (dropPlan j.id (modJob j.id (fun j => { j with state := .held }) s))
    else refuse .conflict s
  | none => refuse .conflict s

/-- JOB_HOLD. -/
def execJobHold (m : Cmd) (s : State) : Host.Outcome State Fault Refusal :=
  .next (runCmd opJobHold noTicket m (bodyJobHold m) s)

/-- JOB_RELEASE's own checks and effect: QUEUED or, once attempted, ACTIVE again; the GAP count restarts (R56). -/
def bodyJobRelease (m : Cmd) (s : State) : Reply :=
  match jobOf s (m.u 0 4) with
  | some j =>
    if j.state = .held then
      .done .ok [] (modJob j.id (fun j =>
        { j with state := if 0 < j.admitted + j.gaps then .active else .queued, gapRun := 0 }) s)
    else refuse .conflict s
  | none => refuse .conflict s

/-- JOB_RELEASE. -/
def execJobRelease (m : Cmd) (s : State) : Host.Outcome State Fault Refusal :=
  .next (runCmd opJobRelease noTicket m (bodyJobRelease m) s)

/-- Code of a job state, in the order R403 names them. -/
def JobState.code : JobState → Nat
  | .queued => 0
  | .active => 1
  | .held => 2
  | .done => 3
  | .cancelled => 4

/-- Frames of a job that are fully spooled. -/
def spooledFrames (s : State) (j : Job) : Nat :=
  ((s.spool.dir.filter fun f => f.job == j.id).filter fun f => frameComplete s j f.frame).length

/-- JOB_STATUS's own checks and effect. -/
def bodyJobStatus (m : Cmd) (s : State) : Reply :=
  match jobOf s (m.u 0 4) with
  | none => refuse .range s
  | some j =>
    .done .ok (leBytes 1 j.state.code ++ leBytes 3 0 ++ leBytes 4 (spooledFrames s j) ++ leBytes 4 j.admitted ++
      leBytes 4 j.closed ++ leBytes 4 j.gaps ++ leBytes 4 j.next) s

/-- JOB_STATUS. -/
def execJobStatus (m : Cmd) (s : State) : Host.Outcome State Fault Refusal :=
  .next (runCmd opJobStatus noTicket m (bodyJobStatus m) s)

end Sys2Proof.Machine
end

