-- ==== Sys2Proof/Machine/Books.lean ====
section
/-! DEFINITION. The ledger's life (R368 to R371) and the GAL_ and LDG_ commands (R365, R366, R410). -/

namespace Sys2Proof.Machine

open Sys2Proof

/-! ### Records -/

/-- Code of a ledger state (Table 19-4). -/
def LedgerSt.code : LedgerSt → Nat
  | .open => 0
  | .gap => 1
  | .printed => 2
  | .degraded => 3
  | .spoiled => 4
  | .interrupted => 5

/-- The 128 bytes of a ledger record (Table 19-3). -/
def LedgerRec.toBytes (r : LedgerRec) : List Byte :=
  let b := leBytes 8 r.serial ++ leBytes 4 r.job ++ leBytes 4 r.frame ++ leInt 6 r.landing ++ leBytes 2 0 ++
    leBytes 1 r.state.code ++ leBytes 1 r.cause ++ leBytes 1 r.mark.toNat ++
    leBytes 1 (bnat r.secure + 2 * r.pairSlot) ++ leBytes 4 r.version ++ leBytes 2 r.used.toNat ++
    leBytes 2 r.failed.toNat ++ leBytes 2 r.complete.toNat ++ leBytes 2 r.degraded.toNat ++ leBytes 5 r.admitted ++
    leBytes 5 r.closed ++ leBytes 4 r.cycle ++ leBytes 2 r.bands ++
    ((List.range 16).flatMap fun n => leBytes 4 (kvGet 0 r.check n)) ++ leBytes 4 0
  b ++ leBytes 4 (crc32c b).toNat

/-- A ledger record is closed. -/
def LedgerRec.isClosed (r : LedgerRec) : Bool := r.state != .open

/-- Records closed at the front of the queue that are not yet written to the spool region, in serial order. -/
def unwritten (s : State) : List LedgerRec :=
  (s.ledger.queue.filter fun r => decide (s.spool.regionWrite ≤ r.serial)).takeWhile (·.isClosed)

/-- The region's state (R140): unavailable, full, available. -/
def regionState (s : State) : RegionSt :=
  if !mounted s then .unavailable
  else if s.spool.sb.regionRecords ≤ s.spool.regionWrite - 1 - s.ledger.acked then .full
  else .available

/-- The oldest entries leave the queue once closed and written or acknowledged (R369). -/
def releaseLedger (s : State) : State :=
  s.modLedger fun l => { l with queue := l.queue.dropWhile fun r =>
    r.isClosed && (decide (r.serial < s.spool.regionWrite) || decide (r.serial ≤ l.acked)) }

/-- Index of a serial in the ledger region (R140, R369). -/
def regionIdx (s : State) (serial : Nat) : Nat := serial % s.spool.sb.regionRecords

/-- The closed records of the open ledger page that are not written yet, in serial order, as many as the region has room
for (R140, R369). -/
def openPage (s : State) : List LedgerRec :=
  let rs := (unwritten s).take (s.spool.sb.regionRecords - (s.spool.regionWrite - 1 - s.ledger.acked))
  match rs with
  | [] => []
  | r :: _ => rs.takeWhile fun x => regionIdx s x.serial / 32 == regionIdx s r.serial / 32

/-- The bytes of a ledger page with the records `rs` on it beside those it holds (R140). -/
def ledgerPageBytes (s : State) (page : Nat) (rs : List LedgerRec) : List Byte :=
  (List.range 32).flatMap fun k => match (s.spool.regionRecs ++ rs).reverse.find? fun r => regionIdx s r.serial == 32 * page + k with
    | some r => r.toBytes
    | none => leBytes 128 0

/-- The open ledger page is written with FUA, one Write at a time (R140). -/
def writeLedgerPage (s : State) : State :=
  if regionState s ≠ .available ∨ s.spool.ledgerOut ≠ [] then s
  else match openPage s with
    | [] => s
    | r :: t =>
      let page := regionIdx s r.serial / 32
      writePage .ledgerWrite (s.spool.sb.dirPages + page) (ledgerPageBytes s page (r :: t))
        (s.modSpool fun p => { p with ledgerOut := r :: t })

/-- A record of the open page fills it: its place is the page's 32nd (R140). -/
def pageFull (s : State) : Bool := (openPage s).any fun r => regionIdx s r.serial % 32 == 31

/-- The Write of a ledger page has completed: its records are written, their entries may leave the queue, and a page
that has filled meanwhile is written (R140, R369). -/
def ledgerWritten (s : State) : State :=
  match s.spool.ledgerOut.getLast? with
  | none => s
  | some r =>
    let s := releaseLedger (s.modSpool fun p =>
      { p with
        regionRecs := (p.regionRecs ++ p.ledgerOut).filter fun x => decide (r.serial < x.serial + p.sb.regionRecords)
        regionWrite := r.serial + 1, ledgerOut := [] })
    if pageFull s then writeLedgerPage s else s

/-- A record the device holds: in the queue, or read back from the region (R370, R410). -/
def ledgerRec (s : State) (serial : Nat) : Option LedgerRec :=
  match s.ledger.queue.find? fun r => r.serial == serial with
  | some r => some r
  | none => if mounted s then s.spool.regionRecs.find? fun r => r.serial == serial else none

/-- A serial that no record stands for: assigned, and neither queued, a candidate, nor in a region that can be read
(R371). -/
def lostSerial (s : State) (n : Nat) : Bool :=
  decide (n < s.land.nextSerial) && (mounted s || decide (s.spool.regionWrite ≤ n)) && (ledgerRec s n).isNone &&
    !(s.ledger.cands.any fun r => r.serial == n)

/-- Closed records in unbroken serial order from `n` on, over `k` serials (R370); a lost serial holds nothing up. -/
def closedRun (s : State) : Nat → Nat → List LedgerRec
  | 0, _ => []
  | k + 1, n => match ledgerRec s n with
    | some r => if r.isClosed then r :: closedRun s k (n + 1) else []
    | none => if lostSerial s n then closedRun s k (n + 1) else []

/-- Sends records in datagrams of at most 64 (R426). -/
def sendRecords : Nat → List LedgerRec → State → State
  | 0, _, s => s
  | k + 1, rs, s =>
    if rs.isEmpty then s
    else sendRecords k (rs.drop 64) ((s.send (.ledger (rs.take 64))).modHost fun h => { h with dseq := h.dseq + 1 })

/-- Records from `A + 1` to `A + W` not yet sent go upstream (R370); without an EVENTS lane none does (R418), and a
standby sends none (R346). -/
def sendLedger (s : State) : State :=
  match (if standby s then none else eventLane s) with
  | none => s
  | some _ =>
    let l := s.ledger
    let from' := max l.sent l.acked + 1
    let rs := closedRun s (l.acked + l.window + 1 - from') from'
    match rs.getLast? with
    | none => s
    | some r =>
      let start := decide (l.sent ≤ l.acked)
      (sendRecords 200 rs s).modLedger fun l => { l with sent := r.serial, timer := l.timer || start }

/-- Occupancy of the queue (R369). -/
def occupancy (s : State) : Nat :=
  match s.ledger.queue with
  | [] => 0
  | r :: _ => s.land.nextSerial - r.serial

/-- Admission is stopped by the ledger (R369, Table 03-2). -/
def ledgerHigh (s : State) : Bool := decide (7168 < occupancy s) && regionState s != .available

/-- The note of a ledger backlog that stops admission, once per episode (Table 19-11). -/
def ledgerLevel (s : State) : State :=
  if ledgerHigh s && !s.ledger.highWater then
    note 0x1805 0#16 0 (s.modLedger fun l => { l with highWater := true })
  else if !ledgerHigh s then s.modLedger fun l => { l with highWater := false }
  else s

/-- Reserves the entry of a serial just assigned (R369). -/
def reserveLedger (r : LedgerRec) (s : State) : State :=
  ledgerLevel ((s.modLedger fun l => { l with queue := l.queue ++ [r] }).modLand fun l =>
    { l with nextSerial := r.serial + 1 })

/-- After a record has closed: the open page is written at its 32nd record, and records go upstream (R140, R370). -/
def afterClose (s : State) : State :=
  ledgerLevel (sendLedger (if pageFull s then writeLedgerPage s else s))

/-- Closes the entry of a serial with `f`. -/
def closeLedger (serial : Nat) (f : LedgerRec → LedgerRec) (s : State) : State :=
  afterClose (s.modLedger fun l => { l with queue := l.queue.map fun r => if r.serial = serial then f r else r })

/-- The highest closed record held from before this power cycle: it counts as sent for an acknowledgement (R370). -/
def heldBefore (s : State) : Nat :=
  ((s.ledger.queue ++ (if mounted s then s.spool.regionRecs else [])).filter fun r =>
    r.isClosed && decide (r.cycle < s.clk.powerCycle)).foldl (fun n r => max n r.serial) 0

/-- An acknowledgement of serial `A` with window `W` (R370). -/
def ackLedger (a w : Nat) (s : State) : State :=
  if 8192 < w ∨ a < s.ledger.acked ∨ max (max s.ledger.sent s.ledger.acked) (heldBefore s) < a then note 0x0606 0#16 0 s
  else
    let moved := decide (s.ledger.acked < a)
    let s := s.modLedger fun l =>
      { l with acked := a, window := w, timer := if moved then decide (a < l.sent) else l.timer }
    ledgerLevel (sendLedger (releaseLedger s))

/-! ### GAL_ commands -/

/-- Records held, in index order, buffered ones last. -/
def galAll (s : State) : List GalRec := s.gal.recs ++ s.gal.buf

/-- GAL_READ's own checks and effect. -/
def bodyGalRead (m : Cmd) (s : State) : Reply :=
  if !between 1 16 (m.u 4 1) then refuse .range s
  else
    let rs := (galAll s).dropWhile fun r => r.seq != m.u 0 4
    if rs.isEmpty then refuse .range s else .done .ok ((rs.take (m.u 4 1)).flatMap galBytes) s

/-- GAL_READ. -/
def execGalRead (m : Cmd) (s : State) : Host.Outcome State Fault Refusal :=
  .next (runCmd opGalRead noTicket m (bodyGalRead m) s)

/-- GAL_STATUS's effect. -/
def bodyGalStatus (s : State) : Reply :=
  let first := match galAll s with | r :: _ => r.seq | [] => 0
  .done .ok (leBytes 4 (galHeld s.gal) ++ leBytes 4 first ++ leBytes 4 s.gal.nextSeq ++ leBytes 4 s.gal.lost ++
    leBytes 1 (bnat (galNear s.gal) + 2 * bnat (galFull s.gal))) s

/-- GAL_STATUS. -/
def execGalStatus (m : Cmd) (s : State) : Host.Outcome State Fault Refusal :=
  .next (runCmd opGalStatus noTicket m bodyGalStatus s)

/-- GAL_EXPORT's own checks and effect: head, records, signature; an EXPORT record is written (R366). -/
def bodyGalExport (m : Cmd) (s : State) : Reply :=
  let a := m.u 0 4
  let b := m.u 4 4
  let all := galAll s
  if !(all.any fun r => r.seq == a) || !(all.any fun r => r.seq == b) || decide (b < a) then refuse .range s
  else
    let rs := (all.dropWhile fun r => r.seq != a).take (((all.dropWhile fun r => r.seq != a).takeWhile fun r =>
      r.seq != b).length + 1)
    let head := leBytes 8 Config.deviceSerial.toNat ++ leBytes 4 a ++ leBytes 4 b ++ leBytes 4 rs.length ++
      leBytes 12 0 ++ m.bytes 16 32
    let body := rs.flatMap galBytes
    let sig := Config.ecdsaSign (Config.sha256 (head ++ body)).toNat
    .done .ok (head ++ body ++ digestBytes sig.1 ++ digestBytes sig.2)
      (galWrite 0x42 0#16 0 rs.length (leBytes 4 a ++ leBytes 4 b ++ m.bytes 16 16) s)

/-- GAL_EXPORT. -/
def execGalExport (m : Cmd) (s : State) : Host.Outcome State Fault Refusal :=
  .next (runCmd opGalExport noTicket m (bodyGalExport m) s)

/-- The gallery after a clear through `seq` (R365): the CLEAR record, the records after it, the LOST record. -/
def clearGallery (seq : Nat) (s : State) : State :=
  let all := galAll s
  let cut := (all.takeWhile fun r => r.seq != seq).length + 1
  let mk := fun (n t aux rep : Nat) (p : List Byte) =>
    ({ seq := n, sec := s.clk.opSec, last := s.clk.opSec, cycle := s.clk.powerCycle, type := t, handle := 0#16,
       rep := rep, aux := aux, payload := padTo 32 p } : GalRec)
  let n := s.gal.nextSeq
  let hash := digestBytes (Config.sha256 ((all.take cut).flatMap galBytes)).toNat
  let clear := mk n 0x40 seq cut hash
  let lost := if s.gal.lost = 0 then [] else [mk (n + 1) 0x41 s.gal.lost 0 (leBytes 4 s.gal.missedAt)]
  s.modGal fun g =>
    { g with
      recs := clear :: all.drop cut ++ lost, buf := [], nextSeq := n + 1 + lost.length, lost := 0 }

/-- GAL_CLEAR's own checks and effect (R364, R365). A record in the buffer is flushed first. -/
def bodyGalClear (m : Cmd) (s : State) : Reply :=
  if !((galAll s).any fun r => r.seq == m.u 0 4) then refuse .range s
  else
    let s := clearGallery (m.u 0 4) s
    let s := s.modGal fun g => { g with near := g.near && galNear g, full := g.full && galFull g }
    .done .ok [] (post 0x8601 0xFFFF#16 [2#8] s)

/-- GAL_CLEAR, under a regulator ticket. -/
def execGalClear (m : Cmd) (s : State) : Host.Outcome State Fault Refusal :=
  .next (runCmd opGalClear (fun _ => 1) m (bodyGalClear m) s)

/-- GALLERY_FLUSH: the buffer is flushed to MRAM (R363). -/
def execGalleryFlush (s : State) : Host.Outcome State Fault Refusal := .next (galFlush s)

/-! ### LDG_ commands -/

/-- Ledger records from a serial on, as long as they are held, at most `k`. -/
def ledgerRun (s : State) : Nat → Nat → List LedgerRec
  | 0, _ => []
  | k + 1, n => match ledgerRec s n with
    | some r => r :: ledgerRun s k (n + 1)
    | none => []

/-- LDG_READ's own checks and effect. -/
def bodyLdgRead (m : Cmd) (s : State) : Reply :=
  if !between 1 16 (m.u 8 1) then refuse .range s
  else match ledgerRun s (m.u 8 1) (m.u 0 8) with
    | [] => refuse .range s
    | rs => .done .ok (rs.flatMap LedgerRec.toBytes) s

/-- LDG_READ. -/
def execLdgRead (m : Cmd) (s : State) : Host.Outcome State Fault Refusal :=
  .next (runCmd opLdgRead noTicket m (bodyLdgRead m) s)

/-- LDG_ACK's own checks and effect: as an acknowledgement on port 47,102 (R370). -/
def bodyLdgAck (m : Cmd) (s : State) : Reply :=
  if 8192 < m.u 8 2 then refuse .range s else .done .ok [] (ackLedger (m.u 0 8) (m.u 8 2) s)

/-- LDG_ACK. -/
def execLdgAck (m : Cmd) (s : State) : Host.Outcome State Fault Refusal :=
  .next (runCmd opLdgAck noTicket m (bodyLdgAck m) s)

/-- Code of a region state. -/
def RegionSt.code : RegionSt → Nat
  | .available => 0
  | .full => 1
  | .unavailable => 2

/-- LDG_STATUS's effect. -/
def bodyLdgStatus (s : State) : Reply :=
  let old := match s.ledger.queue with | r :: _ => r.serial | [] => s.land.nextSerial
  .done .ok (leBytes 8 old ++ leBytes 8 s.land.nextSerial ++ leBytes 8 s.ledger.acked ++ leBytes 2 (occupancy s) ++
    leBytes 1 (regionState s).code) s

/-- LDG_STATUS. -/
def execLdgStatus (m : Cmd) (s : State) : Host.Outcome State Fault Refusal :=
  .next (runCmd opLdgStatus noTicket m bodyLdgStatus s)

/-! ### Ledger events -/

/-- LEDGER_ACKNOWLEDGEMENT: an ACK on port 47,102 (R370, R426). -/
def execLedgerAcknowledgement (a w : Nat) (s : State) : Host.Outcome State Fault Refusal := .next (ackLedger a w s)

/-- LEDGER_RESEND_TIMEOUT: 500 ms without an advance; records go again from A + 1 (R370). -/
def execLedgerResendTimeout (s : State) : Host.Outcome State Fault Refusal :=
  .next (if s.ledger.timer then
      sendLedger (s.modLedger fun l => { l with sent := l.acked })
    else s)

/-- LEDGER_PAGE_WRITE: the open page goes to the spool region (R140). -/
def execLedgerPageWrite (s : State) : Host.Outcome State Fault Refusal := .next (ledgerLevel (writeLedgerPage s))

end Sys2Proof.Machine
end

