-- ==== Sys2Proof/Machine/Governor.lean ====
section
/-! DEFINITION. The newel profile and the throughput governor: ramps, dwells, feasibility of fetches, candidate speeds
(R49 to R53, R58 to R61, R210, R211, R456). -/

namespace Sys2Proof.Machine

open Sys2Proof

/-! ### Time and shapes -/

/-- Now on the 16 µs clock of ring cycles, s. -/
def timeNow (s : State) : Rat := (s.ring.cyc : Rat) * 16 / 1000000

/-- The shape function of R210 with its first and second integrals, at τ. -/
def shape (cyc : Bool) (x : Rat) : Rat × Rat × Rat :=
  if cyc then Config.cycloid x
  else (10 * x ^ 3 - 15 * x ^ 4 + 6 * x ^ 5, 5 * x ^ 4 / 2 - 3 * x ^ 5 + x ^ 6, x ^ 5 / 2 - x ^ 6 / 2 + x ^ 7 / 7)

/-- Acceleration, speed and distance of a rising corner of length `tj` and peak `a`, at time `t` from its start at
speed `v`. -/
def rising (cyc : Bool) (v a tj t : Rat) : Rat × Rat × Rat :=
  if tj = 0 then (0, v, 0)
  else
    let (s0, s1, s2) := shape cyc (t / tj)
    (a * s0, v + a * tj * s1, v * t + a * tj ^ 2 * s2)

/-- Acceleration, speed and distance of a falling corner: the acceleration goes from `a` to 0. -/
def falling (cyc : Bool) (v a tj t : Rat) : Rat × Rat × Rat :=
  if tj = 0 then (0, v, 0)
  else
    let (s0, s1, s2) := shape cyc (t / tj)
    (a * (1 - s0), v + a * (t - tj * s1), v * t + a * (t ^ 2 / 2 - tj ^ 2 * s2))

/-- Acceleration, speed and distance of a segment, `t` from its start (R210, R456): a closing corner, a hold, or a ramp
of rising corner, constant part and falling corner. Distances in inches. -/
def Seg.at (cyc : Bool) (g : Seg) (t : Rat) : Rat × Rat × Rat :=
  if g.dur = 0 then (0, g.v1, g.v1 * t)
  else if g.dur ≤ t then (0, g.v1, (if g.closing then (falling cyc g.v0 g.apk g.dur g.dur).2.2 else (g.v0 + g.v1) / 2 * g.dur) +
      g.v1 * (t - g.dur))
  else if g.closing then falling cyc g.v0 g.apk g.dur t
  else if t ≤ g.tj then rising cyc g.v0 g.apk g.tj t
  else if t ≤ g.dur - g.tj then
    let u := t - g.tj
    let v := g.v0 + g.apk * g.tj / 2
    (g.apk, v + g.apk * u, (rising cyc g.v0 g.apk g.tj g.tj).2.2 + v * u + g.apk * u ^ 2 / 2)
  else
    let k := g.dur - 2 * g.tj
    let v := g.v0 + g.apk * g.tj / 2
    let w := v + g.apk * k
    let f := falling cyc w g.apk g.tj (t - g.dur + g.tj)
    (f.1, f.2.1, (rising cyc g.v0 g.apk g.tj g.tj).2.2 + v * k + g.apk * k ^ 2 / 2 + f.2.2)

/-- The shape the limit word selects is the cycloidal one (Table 10-2). -/
def isCycloid (c : CfgSet) : Bool := bitsOf (c.get 0x05 0 20 4) 31 30 == 1

/-- The plan: the segment in force and those after it. -/
def planSegs (s : State) : List Seg := s.gov.seg :: s.gov.after

/-- Acceleration, speed and distance from now of a list of segments at absolute time `t`; after the last, its hold. -/
def planAt (cyc : Bool) : List Seg → Rat → Rat × Rat × Rat
  | [], _ => (0, 0, 0)
  | [g], t => g.at cyc (t - g.t0)
  | g :: h :: r, t =>
    if t < h.t0 then g.at cyc (t - g.t0)
    else
      let d := (g.at cyc (h.t0 - g.t0)).2.2
      let x := planAt cyc (h :: r) t
      (x.1, x.2.1, d + x.2.2)

/-- Planned speed at a time, in/s. -/
def speedAt (s : State) (t : Rat) : Rat := (planAt (isCycloid s.cfg.cur) (planSegs s) t).2.1

/-- Planned newel position at a time, ln. -/
def posAt (s : State) (t : Rat) : Rat :=
  let at' := fun x => (planAt (isCycloid s.cfg.cur) (planSegs s) x).2.2
  newelLines s + 1200 * (at' t - at' (timeNow s))

/-- Time into a segment at which it has covered `d` inches, by halving the step: `k` halvings from `lo` on. -/
def Seg.seek (cyc : Bool) (g : Seg) (d : Rat) : Nat → Rat → Rat → Rat
  | 0, step, lo => lo + 2 * step
  | k + 1, step, lo => if (g.at cyc (lo + step)).2.2 < d then g.seek cyc d k (step / 2) (lo + step) else g.seek cyc d k (step / 2) lo

/-- Time at which a segment has covered `d` inches from its start; none where it stands or goes back (R50; log entry
20). A hold is exact, a ramp is met within 2^-40 of its length. -/
def Seg.reach (cyc : Bool) (g : Seg) (d : Rat) : Option Rat :=
  let all := (g.at cyc g.dur).2.2
  if g.dur ≠ 0 ∧ d ≤ all then some (g.t0 + (if g.v0 = g.v1 ∧ g.v0 ≠ 0 then d / g.v0 else g.seek cyc d 40 (g.dur / 2) 0))
  else if 0 < g.v1 then some (g.t0 + g.dur + (d - all) / g.v1)
  else none

/-- Time at which a list of segments has covered `d` inches from the start of the first. -/
def reachIn (cyc : Bool) : List Seg → Rat → Option Rat
  | [], _ => none
  | [g], d => g.reach cyc d
  | g :: h :: r, d =>
    let part := (g.at cyc (h.t0 - g.t0)).2.2
    if d ≤ part then g.reach cyc d else reachIn cyc (h :: r) (d - part)

/-- A time no plan of the press reaches, s: where a position is never reached (R50; log entry 20). -/
def never : Rat := 2 ^ 40

/-- time(p, x): the time at which the profile reaches a newel position (R50; log entry 20). -/
def timeOf (s : State) (x : Rat) : Rat :=
  if x ≤ newelLines s then timeNow s
  else
    let cyc := isCycloid s.cfg.cur
    (reachIn cyc (planSegs s) ((planAt cyc (planSegs s) (timeNow s)).2.2 + (x - newelLines s) / 1200)).getD never

/-! ### Planning -/

/-- A hold at a speed from a time. -/
def holdSeg (v t : Rat) : Seg := { v0 := v, v1 := v, t0 := t }

/-- A ramp from one hold to another speed (R210). -/
def rampSeg (c : CfgSet) (v0 v1 t : Rat) : Seg :=
  let dv := absRat (v1 - v0)
  let a := rampAccel c
  let j := jMax c
  let k := shapeC c
  let sg : Rat := if v1 < v0 then -1 else 1
  if dv = 0 ∨ j = 0 ∨ a = 0 then holdSeg v1 t
  else if k * a * a ≤ dv * j then
    { v0 := v0, v1 := v1, t0 := t, tj := k * a / j, dur := dv / a + k * a / j, apk := sg * a }
  else
    let ap := Config.sqrt (dv * j / k)
    { v0 := v0, v1 := v1, t0 := t, tj := k * ap / j, dur := 2 * (k * ap / j), apk := sg * ap }

/-- The target changes now (R456): the ramp's constant part lengthens, or a closing corner and a new ramp follow. -/
def planTo (v : Rat) (s : State) : State :=
  let c := s.cfg.cur
  let now := timeNow s
  let g := s.gov.seg
  let (ac, vc, _) := g.at (isCycloid c) (now - g.t0)
  let further := decide (0 < g.dur) && !g.closing && !g.dwell && absRat g.apk == rampAccel c &&
    decide (now - g.t0 < g.dur - g.tj) && (if 0 < g.apk then decide (g.v1 ≤ v) else decide (v ≤ g.v1))
  if ac ≠ 0 ∧ g.closing = false ∧ g.v1 = v then s.modGov fun x => { x with after := [], target := v }
  else if further then
    s.modGov fun x => { x with
      seg := { g with v1 := v, dur := absRat (v - g.v0) / rampAccel c + g.tj }, after := [], target := v }
  else if ac = 0 then
    s.modGov fun x => { x with seg := if vc = v then holdSeg v now else rampSeg c vc v now, after := [], target := v }
  else
    let tc := shapeC c * absRat ac / jMax c
    let ve := vc + ac * tc / 2
    let close : Seg := { v0 := vc, v1 := ve, t0 := now, dur := tc, apk := ac, closing := true }
    s.modGov fun x => { x with
      seg := close, after := if ve = v then [] else [rampSeg c ve v (now + tc)], target := v }

/-- Takes the plan forward: segments that have ended make way for those after them. -/
def advancePlan (s : State) : State :=
  let now := timeNow s
  let gone := (s.gov.after.takeWhile fun g => decide (g.t0 ≤ now)).length
  let s := match s.gov.after[gone - 1]? with
    | some h => if gone = 0 then s else s.modGov fun x => { x with seg := h, after := x.after.drop gone }
    | none => s
  let (a, v, _) := planAt (isCycloid s.cfg.cur) (planSegs s) now
  s.modGov fun x => { x with speed := v, accel := a }

/-- The plan stands still at its end speed. -/
def holding (s : State) : Bool :=
  s.gov.after.isEmpty && decide (s.gov.seg.t0 + s.gov.seg.dur ≤ timeNow s)

/-- The newel holds a speed now, whatever is planned for later. -/
def steady (s : State) : Bool := !s.gov.seg.dwell && decide (s.gov.seg.t0 + s.gov.seg.dur ≤ timeNow s)

/-- When the plan has come to its end, and the speed it ends at. -/
def planEnd (s : State) : Rat × Rat :=
  let g := (planSegs s).getLastD s.gov.seg
  (max (timeNow s) (g.t0 + g.dur), g.v1)

/-- Highest planned speed at or beyond a newel position. -/
def fastestFrom (s : State) (x : Rat) : Rat :=
  let t := timeOf s x
  ((planSegs s).filter fun g => decide (t < g.t0 + g.dur)).foldl (fun m g => max m g.v1)
    (max (speedAt s t) (planEnd s).2)

/-! ### Post-dividers (R61, R142, R143) -/

/-- S_top of station `n`, sweeps/s. -/
def topRate (s : State) (n : Nat) : Rat := s.cfgGet 0x01 n 8 2

/-- Newel lines per sweep of station `n` (R142). -/
def sweepLines (s : State) (n : Nat) : Nat := s.cfg.cur.lineStep / (if (s.st n).ems.dbl then 2 else 1)

/-- Sweep rate of station `n` at a web speed, sweeps/s (R142). -/
def rateAt (s : State) (n : Nat) (v : Rat) : Rat := if sweepLines s n = 0 then 0 else v * 1200 / (sweepLines s n : Nat)

/-- S_idle of station `n`, sweeps/s (R142, R452). -/
def idleRate (s : State) (n : Nat) : Rat := topRate s n / (if s.cfg.cur.fine then 2 else 4)

/-- The larger post-divider valid at a sweep rate (R143). -/
def postDivLarge (s : State) (n : Nat) (r : Rat) : Nat :=
  if r ≤ topRate s n / 4 then 4 else if r ≤ topRate s n / 2 then 2 else 1

/-- The smaller post-divider valid at a sweep rate (R143). -/
def postDivSmall (s : State) (n : Nat) (r : Rat) : Nat :=
  if topRate s n / 2 ≤ r then 1 else if topRate s n / 4 ≤ r then 2 else 4

/-- The post-divider of station `n` suits a web speed (R143). -/
def postDivOk (s : State) (n : Nat) (v : Rat) : Bool :=
  let p := (s.st n).scan.postdiv
  p == postDivLarge s n (rateAt s n v) || p == postDivSmall s n (rateAt s n v)

/-- The post-divider in THREAD: selected from max(S, S_idle), the larger at a threshold (R142). -/
def postDivThread (s : State) (n : Nat) : Nat := postDivLarge s n (max (rateAt s n s.gov.speed) (idleRate s n))

/-- Web speeds at which station `n` changes its post-divider, in/s, the higher first. -/
def thresholds (s : State) (n : Nat) : List Rat :=
  let a : Rat := sweepLines s n
  [topRate s n / 2 * a / 1200, topRate s n / 4 * a / 1200]

/-- The post-divider of station `n` on the far side of one of its thresholds. -/
def postDivBeyond (s : State) (n : Nat) (x : Rat) (up : Bool) : Nat :=
  if (thresholds s n).head? = some x then (if up then 1 else 2) else if up then 2 else 4

/-- The stations that a threshold speed is one of. -/
def stationsAt (s : State) (x : Rat) : List Nat := s.cfg.cur.stationList.filter fun n => (thresholds s n).contains x

/-- The stations whose post-divider must change at the threshold dwelt at. -/
def dwellStations (s : State) (x : Rat) (up : Bool) : List Nat :=
  (stationsAt s x).filter fun n => (s.st n).scan.postdiv != postDivBeyond s n x up

/-- The first threshold at which a ramp from `v` to `w` dwells: one between them, or `v` itself where a station has its
change still to make. Below 25 in/s and in THREAD every change is made at once and no ramp dwells (R61, R142, R162). -/
def nextStop (s : State) (here : Bool) (v w : Rat) : Option Rat :=
  if s.land.mode = .thread then none
  else
    let up := decide (v < w)
    let ts := (s.cfg.cur.stationList.flatMap (thresholds s)).filter fun t =>
      decide (25 < t ∨ (up ∧ t = 25)) && (if up then decide (t < w) else decide (w < t)) &&
        ((if up then decide (v < t) else decide (t < v)) || (here && t == v && !(dwellStations s t up).isEmpty))
    ts.foldl (fun m t => match m with
      | none => some t
      | some x => if absRat (t - v) < absRat (x - v) then some t else some x) none

/-- Pitch of a frame in lines; one whose length is not known yet counts as the shortest, one band (R41, R43). -/
def pitchOf (f : Flight) : Int := ((max 1 f.bands + f.gapBands) * f.h : Nat)

/-- Longest a dwell at a speed lasts: the largest frame pitch in flight, and two of the governor's evaluations where
that is less (R61; log entry 170). -/
def dwellTime (s : State) (x : Rat) : Rat :=
  let p := s.land.flights.foldl (fun m f => max m (pitchOf f)) 0
  max (32 / 1000) (if x ≤ 0 then 0 else (p : Rat) / 1200 / x)

/-- A dwell at a threshold. -/
def dwellSeg (x t d : Rat) : Seg := { v0 := x, v1 := x, t0 := t, dur := d, dwell := true }

/-- The segments from a hold at `v` at time `t` to `w`, its dwells between (R61). -/
def legs (s : State) (w : Rat) : Nat → Bool → Rat → Rat → List Seg
  | 0, _, v, t => [rampSeg s.cfg.cur v w t]
  | k + 1, here, v, t =>
    match nextStop s here v w with
    | none => if v = w then [holdSeg w t] else [rampSeg s.cfg.cur v w t]
    | some x =>
      let r := if x = v then [] else [rampSeg s.cfg.cur v x t]
      let t1 := match r with | g :: _ => g.t0 + g.dur | [] => t
      r ++ dwellSeg x t1 (dwellTime s x) :: legs s w k false x (t1 + dwellTime s x)

/-- The most thresholds a ramp may cross: two for each of 16 stations. -/
def maxStops : Nat := 32

/-- Plans toward a target from now, its dwells included (R59, R61, R456). -/
def planToward (w : Rat) (s : State) : State :=
  let c := s.cfg.cur
  let g := s.gov.seg
  let (ac, vc, _) := g.at (isCycloid c) (timeNow s - g.t0)
  -- the speed a closing corner would end at, where the ramp turns
  let ve := if 0 < ac * (w - vc) then vc else vc + ac * (if jMax c = 0 then 0 else shapeC c * absRat ac / jMax c) / 2
  match nextStop s (decide (ac = 0)) ve w with
  | none => planTo w s
  | some x =>
    let s1 := planTo x s
    let (te, _) := planEnd s1
    let d := dwellTime s x
    s1.modGov fun y => { y with
      after := y.after ++ dwellSeg x te d :: legs s w maxStops false x (te + d), target := w }

/-- Places a lowering so that the lower speed is reached by a newel position: from the hold the plan ends in, as late as
that allows; where the plan ends too late for it, from now (R59). -/
def lowerBy (x v : Rat) (s : State) : State :=
  let (te, ve) := planEnd s
  let ls := legs s v maxStops true ve te
  let tl := match ls.getLast? with | some g => g.t0 + g.dur | none => te
  let far := posAt s te + 1200 * (planAt (isCycloid s.cfg.cur) ls tl).2.2
  if v < ve ∧ 0 < ve ∧ far < x then
    let late := (x - far) / 1200 / ve
    s.modGov fun y => { y with after := y.after ++ ls.map (fun g => { g with t0 := g.t0 + late }), target := v }
  else if v < ve then planToward v s
  else s

/-- Drops what is planned for later while the newel holds its speed. -/
def dropLater (s : State) : State :=
  if steady s then s.modGov fun y => { y with after := [], target := y.seg.v1 } else s

/-- The threshold dwelt at now, and whether the plan goes up from it (R61). -/
def dwellNow (s : State) : Option (Rat × Bool) :=
  let g := s.gov.seg
  if g.dwell && decide (g.t0 ≤ timeNow s) && decide (timeNow s < g.t0 + g.dur) then
    some (g.v1, decide (g.v1 < s.gov.target))
  else none

/-- The dwell ends now: what is planned after it begins at once (R61). -/
def endDwell (s : State) : State :=
  match s.gov.after with
  | [] => s
  | g :: _ =>
    let d := g.t0 - timeNow s
    advancePlan (s.modGov fun y => { y with after := y.after.map fun h => { h with t0 := h.t0 - d } })

/-! ### Bands in flight (R49) -/

/-- A band to be consumed at a station: flight serial, identity, consume position, band position from the landing,
first page and length. -/
structure Due where
  /-- serial -/
  serial : Nat
  /-- identity -/
  id : BandId
  /-- station -/
  station : Nat
  /-- exposure position SL + k h -/
  pos : Int
  /-- lines per band -/
  h : Nat
  /-- first page -/
  first : Nat
  /-- length -/
  len : Nat
  /-- fetched already -/
  have_ : Bool
  deriving DecidableEq, Repr

/-- The bands of a flight at station `n`, in order. -/
def duesOf (s : State) (f : Flight) (n : Nat) : List Due :=
  match f.layerAt n with
  | none => []
  | some l =>
    if f.marking.contains n then []
    else ((List.range f.bands).filter fun k => !f.failsAt n k).filterMap fun k =>
      let id : BandId := { job := f.job, layer := l, frame := f.frame, band := k }
      (descOf s id).map fun d =>
        { serial := f.serial, id := id, station := n, pos := stationLanding s f n + k * f.h, h := f.h, first := d.first,
          len := d.data.length, have_ := f.fetched.contains (n, k) }

/-- consume_pos of a band. -/
def Due.consume (d : Due) : Int := d.pos - d.h

/-- Arrival deadline position. -/
def Due.deadline (d : Due) : Int := d.pos - 3 * d.h

/-- How many of a list of bands at one station, nearest first, fit together in 1,044,480 bytes. -/
def fitCount : List Due → Nat → Nat
  | [], _ => 0
  | d :: r, total => if 1044480 < total + d.len then 0 else 1 + fitCount r (total + d.len)

/-- Every band at station `n` of the flights in order, with its release position: consume_pos(m + 1), the bands m + 1 to
k being those that fit together; indices run across frames, gaps not counted (R49). While everything before a band fits
too, it may be fetched at once. -/
def stationWork (s : State) (fs : List Flight) (n : Nat) : List (Due × Int) :=
  let ds := fs.flatMap fun f => duesOf s f n
  ds.zipIdx.map fun p =>
    let before := (ds.take (p.2 + 1)).reverse
    (p.1, if (before.map (·.len)).sum ≤ 1044480 then -(2 ^ 62) else p.1.pos - (fitCount before 0 * p.1.h : Nat))

/-- The four-band test of R48 at one station: some four consecutive bands exceed the buffer, the last of them of the
candidate. -/
def fourTooLong (ds : List Due) (serial : Nat) : Bool :=
  (List.range ds.length).any fun i =>
    let w := (ds.drop i).take 4
    w.length == 4 && (w.any fun d => d.serial == serial) && decide (1044480 < (w.map (·.len)).sum)

/-! ### fetch_feasible (R50, R51) -/

/-- A unit of work on one controller. -/
structure Work where
  /-- deadline, s -/
  d : Rat
  /-- release, s -/
  rel : Rat
  /-- bytes left -/
  need : Rat
  /-- station -/
  station : Nat
  /-- order at the station -/
  k : Nat
  deriving DecidableEq, Repr

/-- Least release above `t`. -/
def nextRel (ws : List Work) (t : Rat) : Option Rat :=
  ws.foldl (fun m w => if t < w.rel then (match m with | none => some w.rel | some x => some (min x w.rel)) else m) none

/-- The ready work with the earliest deadline, ties to the lower station, then the lower k. -/
def edf (ws : List Work) (t : Rat) : Option Work :=
  (ws.filter fun w => decide (w.rel ≤ t)).foldl (fun m w => match m with
    | none => some w
    | some x => if w.d < x.d ∨ (w.d = x.d ∧ (w.station < x.station ∨ (w.station = x.station ∧ w.k < x.k))) then some w
        else some x) none

/-- Earliest-deadline-first service of one controller at rate `b` (R50). -/
def edfRun (b : Rat) : Nat → Rat → List Work → Bool
  | 0, _, ws => ws.isEmpty
  | n + 1, t, ws =>
    if ws.isEmpty then true
    else match edf ws t with
      | none => match nextRel ws t with
        | some r => edfRun b n r ws
        | none => true
      | some w =>
        let tEnd := t + w.need / b
        let tRel := (nextRel ws t).getD tEnd
        let tn := min tEnd tRel
        let left := w.need - (tn - t) * b
        if left = 0 then
          if w.d < tn then false else edfRun b n tn (ws.filter fun x => !(x.station == w.station && x.k == w.k))
        else edfRun b n tn (ws.map fun x => if x.station = w.station ∧ x.k = w.k then { x with need := left } else x)

/-- Reserved bandwidth of member `c`, bytes/s (R51). -/
def bRes (s : State) (c : Nat) : Rat :=
  match s.spool.members[c]? with
  | some m => (m.bw : Rat) * 1000000 * s.latestSet.get 0x03 0 4 1 / 100
  | none => 0

/-- Every band not yet fetched of the flights can be read in time on member `c` (R50). -/
def feasibleOn (s : State) (fs : List Flight) (c : Nat) : Bool :=
  let ws := (List.range 16).flatMap fun n =>
    ((stationWork s fs n).zipIdx.filter fun p => !p.1.1.have_).filterMap fun p =>
      let need := bytesOn s.spool.sb.width p.1.1.first p.1.1.len c
      if need = 0 then none
      else some
        { d := timeOf s p.1.1.deadline, rel := max (timeNow s) (timeOf s p.1.2), need := (need : Rat), station := n, k := p.2 }
  if bRes s c = 0 then ws.isEmpty else edfRun (bRes s c) (4 * ws.length + 4) (timeNow s) ws

/-- fetch_feasible over the flights given, on every controller (R50). -/
def fetchFeasible (s : State) (fs : List Flight) : Bool := (List.range s.spool.sb.width).all (feasibleOn s fs)

/-! ### candidate_speed (R52) -/

/-- The widest declared width among a flight's bands. -/
def widest (s : State) (f : Flight) : Nat :=
  (f.use.flatMap fun u => (List.range f.bands).map fun k =>
    match descOf s { job := f.job, layer := u.2, frame := f.frame, band := k } with
    | some d => bWidth d.data
    | none => 0).foldl max 0

/-- Sum over the stations of the mean bytes on member `c` of a flight's bands there. -/
def slotBytes (s : State) (f : Flight) (c : Nat) : Rat :=
  if f.bands = 0 then 0
  else ((f.use.flatMap fun u => (List.range f.bands).map fun k =>
    match descOf s { job := f.job, layer := u.2, frame := f.frame, band := k } with
    | some d => bytesOn s.spool.sb.width d.first d.data.length c
    | none => 0).sum : Rat) / f.bands

/-- Down to the 0.5 in/s grid. -/
def gridDown (v : Rat) : Rat := ((2 * v).floor : Rat) / 2

/-- The candidate speed of a frame, in/s (R52). -/
def candidateSpeed (s : State) (f : Flight) : Rat :=
  let cells : Rat := (widest s f : Rat) / 2
  let h : Rat := f.h
  let vDec := if cells = 0 then topSpeed s else h * 540000000 / (cells * 8) / 1200
  let job := match jobOf s f.job with | some j => if j.maxSpeed = 0 then topSpeed s else (j.maxSpeed : Rat) / 2 | none => topSpeed s
  let vs := (List.range s.spool.sb.width).map fun c =>
    let b := slotBytes s f c
    if b = 0 then topSpeed s else bRes s c * h / b / 1200
  gridDown (vs.foldl min (min (topSpeed s) (min job vDec)))

/-! ### The target (R58, Table 03-4) -/

/-- A frame of a job as it would fly from landing `l` under the latest set. -/
def wouldFly (s : State) (j : Job) (frame : Nat) (l : Int) : Flight :=
  let c := s.latestSet
  { serial := s.land.nextSerial, job := j.id, frame := frame, landing := l
    bands := match frameEnt s j.id frame with | some f => f.bands | none => 0
    gapBands := j.gapBands, h := s.cfg.cur.lineStep, version := s.latestVersion
    use := ((List.range 16).filter j.layers.getLsbD).filterMap fun y => (c.mapLayer y).map fun n => (n, y)
    secure := j.secure, admittedAt := s.clk.opSec }

/-- The next WAITING frames, in the order they would be attempted, at most `k`. -/
def nextFrames (s : State) (k : Nat) : List (Job × Nat) :=
  ((s.jobs.filter fun j => j.state == .active || j.state == .queued).flatMap fun j =>
    (List.range (min k (j.count - j.next))).map fun i => (j, j.next + i)).take k

/-- The frames whose landings fall in the horizon, as flights at successive landings, at most 64 (log entry 21). -/
def horizonFlights (s : State) : List Flight :=
  let far : Rat := newelLines s + 1200 * topSpeed s * s.latestSet.get 0x03 0 5 1
  match s.land.next with
  | none => []
  | some l =>
    ((nextFrames s 64).foldl
      (fun (acc : Int × List Flight) p =>
        let f := wouldFly s p.1 p.2 acc.1
        (acc.1 + ((f.bands + f.gapBands) * f.h : Nat), acc.2 ++ [f])) (l, [])).2.filter fun f => decide ((f.landing : Rat) ≤ far)

/-- Speed the spool allows the frames of the horizon: the highest grid speed at or below their candidates at which the
flights and they are feasible together (Table 03-4). -/
def spoolSpeed (s : State) (fs : List Flight) : Nat → Rat → Rat
  | 0, v => v
  | k + 1, v =>
    if v ≤ 25 ∨ fetchFeasible (planToward v s) (s.land.flights ++ fs) then v else spoolSpeed s fs k (v - 1 / 2)

/-- Bytes of a frame that are not on the spool yet. A band that has not begun to arrive has no declared length: it counts
as the longest band there is, 1,044,480 bytes (R86; log entry 167). -/
def bytesMissing (s : State) (f : Flight) : Nat :=
  (f.use.flatMap fun u => (List.range (max 1 f.bands)).map fun k =>
    let id : BandId := { job := f.job, layer := u.2, frame := f.frame, band := k }
    match descOf s id with
    | some d => if d.present then 0 else d.data.length
    | none => match s.ingest.bands.find? fun b => b.id == id with
      | some b => b.length
      | none => 1044480).sum

/-- The highest speed at which a frame not fully spooled is so 1 s before its admission position, from its job's
measured ingest rate in bytes per second; the frames of its job before it take their bytes first (Table 03-4). For a
job of which no rate is measured, or a rate of 0, the lowest speed a frame prints at, 25 in/s: the spec gives no
prediction there (DESIGN CHOICE, log entry 167). -/
def ingestSpeed (s : State) (rates : List (Nat × Nat)) (fs : List Flight) (f : Flight) : Rat :=
  match jobOf s f.job with
  | none => topSpeed s
  | some j =>
    if frameComplete s j f.frame then topSpeed s
    else
      let left := ((fs.filter fun g => g.job == f.job && decide (g.frame ≤ f.frame)).map (bytesMissing s)).sum
      let r := ((rates.find? fun r => r.1 == f.job).map (·.2)).getD 0
      if r = 0 then 25
      else
        let t : Rat := (left : Rat) / r + 1 + (s.latestSet.get 0x03 0 2 2 : Rat) / 1000
        if t = 0 then topSpeed s else max 25 (((f.landing : Rat) - newelLines s) / 1200 / t)

/-- Speed at which the ledger queue stays at or below 7,168 over the horizon, from the measured drain in records per
second (Table 03-4). One record is counted for each pitch of the last frame in flight, and no limit with none in flight:
the spec names no pitch for the prediction (DESIGN CHOICE, log entry 168). -/
def backlogSpeed (s : State) (drain : Nat) : Rat :=
  if regionState s = .available then topSpeed s
  else
    let h : Rat := s.latestSet.get 0x03 0 5 1
    let room : Rat := (7168 : Rat) - (occupancy s : Rat) + drain * h
    match s.land.flights.getLast? with
    | none => topSpeed s
    | some f => if h = 0 then topSpeed s else max 25 (room * (pitchOf f : Rat) / 1200 / h)

/-- The lowest ceiling among frames in flight. -/
def ceilingOf (s : State) : Option Rat :=
  s.land.flights.foldl (fun m f => match m with | none => some f.ceiling | some x => some (min x f.ceiling)) none

/-- The stations that wait to enter double interlace (R200). -/
def doubling (s : State) : List Nat := (List.range 16).filter fun n => (s.st n).ems.dblPend

/-- The slow requests in force: that of a REDUCED transition counts once its stations have no frame in flight, when the
newel's ramp begins (R16, R19, R200). -/
def slowReqs (s : State) : List Rat :=
  (s.gov.reqs.filter fun r => r.1 != 1001 ||
    (doubling s).all fun n => s.land.flights.all fun f => !f.usesNow n).map (·.2)

/-- Whole lines, up to a multiple of `h`. -/
def ceilLines (h : Nat) (x : Rat) : Int := if h = 0 then 0 else (x / h).ceil * (h : Int)

/-- The admission lead at a landing position: the configured lead at the planned speed there, up to a multiple of h
(R46). -/
def leadLines (s : State) (l : Int) : Int :=
  ceilLines s.cfg.cur.lineStep ((s.cfgGet 0x03 0 2 2 : Rat) / 1000 * (speedAt s (timeOf s l) * 1200))

/-- A prediction's speed on the governor's grid, never below 25 in/s (R45, R58). -/
def onGrid (v : Rat) : Rat := max 25 (gridDown v)

/-- The governor's predictions: a newel position and the speed it asks for from there on (R58, Table 03-4). The ceilings
in flight, the requests, the ledger and the ingest ask from now; a frame to come asks, with its candidate speed and its
job's, from its admission position, and the joint feasibility from the first of them (log entry 169). -/
def demands (s : State) (rates : List (Nat × Nat)) (drain : Nat) : List (Rat × Rat) :=
  let fs := horizonFlights s
  let x := newelLines s
  let now := ([topSpeed s, backlogSpeed s drain] ++ fs.map (ingestSpeed s rates fs) ++ slowReqs s ++
    s.land.flights.map (·.ceiling)).map fun v => (x, onGrid v)
  let at' := fun (f : Flight) => max x ((f.landing - leadLines s f.landing : Int) : Rat)
  let each := fs.flatMap fun f =>
    [(at' f, onGrid (candidateSpeed s f))] ++ (match jobOf s f.job with
      | some j => if j.maxSpeed = 0 then [] else [(at' f, onGrid ((j.maxSpeed : Rat) / 2))]
      | none => [])
  let all := match fs with
    | [] => []
    | f :: _ => [(at' f, onGrid (spoolSpeed s fs 200 ((fs.map (candidateSpeed s)).foldl min (topSpeed s))))]
  sortBy (now ++ each ++ all) fun a b => decide (a.1 < b.1 ∨ (a.1 = b.1 ∧ a.2 ≤ b.2))

/-- The governor's target over the whole horizon, in/s: the lowest of its predictions (R58, R59). -/
def governorTarget (s : State) (rates : List (Nat × Nat)) (drain : Nat) : Rat :=
  ((demands s rates drain).map (·.2)).foldl min (max 25 (topSpeed s))

/-- Posts SPEED: the target and the newel position at which it is reached (Table 21-20). -/
def postSpeed (s : State) : State :=
  let t := match s.gov.after.getLast? with | some g => g.t0 + g.dur | none => s.gov.seg.t0 + s.gov.seg.dur
  post 0x8401 0#16 (leBytes 2 (2 * s.gov.target).floor.toNat ++ leInt 6 (posAt s t).floor) s

/-- Plans toward a target and says so. -/
def newTarget (v : Rat) (s : State) : State :=
  if s.gov.target = v ∧ s.gov.after.isEmpty then s else postSpeed (planToward v s)

/-- Lowers the plan wherever a prediction lies below it, each by the position from which it asks (R59). A lowering
placed earlier and not begun is placed anew, unless that would leave the plan at a higher speed. -/
def lowerFor (ds : List (Rat × Rat)) (s : State) : State :=
  let place := fun (s : State) => ds.foldl (fun s d => if fastestFrom s d.1 ≤ d.2 then s else lowerBy d.1 d.2 s) s
  let t := place (dropLater s)
  let t := if t.gov.target ≤ s.gov.target then t else place s
  if t.gov.target = s.gov.target then t else postSpeed t

end Sys2Proof.Machine
end

