-- ==== Sys2Proof/Machine/Motion.lean ====
section
/-! DEFINITION. Gearing, profile moves, solenoids, and the MOT_ commands but those of the loops (10, 12, R404). -/

namespace Sys2Proof.Machine

open Sys2Proof

/-! ### Gearing (R213 to R218) -/

/-- A ratio as a rational, follower units per 1/256 line. -/
def ratioOf (num : Int) (den : Nat) : Rat := if den = 0 then 0 else (num : Rat) / den

/-- The ratio in force. -/
def Gear.ratio (g : Gear) : Rat := ratioOf g.num g.den

/-- The phase offset at newel position `x`, ln (R217). -/
def Gear.phi (cyc : Bool) (g : Gear) (x : Rat) : Rat :=
  if x < g.phX then g.phi0
  else if g.phD = 0 ∨ (g.phX : Rat) + g.phD ≤ x then g.phi1
  else g.phi0 + (g.phi1 - g.phi0) * (shape cyc ((x - g.phX) / g.phD)).1

/-- An offset that waits for its position starts its own blend there. DESIGN CHOICE: one whose position the newel has
passed already is joined part way in its blend, as though it had come in time, so that φ steps; the spec gives no answer
for it (R217, log entry 181). -/
def Gear.nextPhase (cyc : Bool) (x : Rat) (g : Gear) : Gear :=
  match g.phQ with
  | (v, xp, d) :: r =>
    if (xp : Rat) ≤ x then { g with phi0 := g.phi cyc xp, phi1 := v, phX := xp, phD := d, phQ := r } else g
  | [] => g

/-- A new phase offset (R217). -/
def Gear.setPhase (v : Rat) (xp : Int) (d : Nat) (g : Gear) : Gear :=
  { g with phQ := sortBy (g.phQ ++ [(v, xp, d)]) fun a b => decide (a.2.1 ≤ b.2.1) }

/-- The end position of a ratio change. -/
def RatioChg.stop (r : RatioChg) : Int := r.xs + r.d

/-- A ratio change whose position the newel has reached begins its blend; a change of no length steps (R215). -/
def Gear.startBlend (x : Rat) (g : Gear) : Gear :=
  match g.blend, g.queue with
  | none, r :: q =>
    if (r.xs : Rat) ≤ x then
      if r.d = 0 then { g with num := r.num, den := r.den, acc := 0, queue := q }
      else { g with blend := some (r, g.cmd), queue := q }
    else g
  | _, _ => g

/-- The ratio term at newel position `x` ln after an advance of `dn` newel units (R213, R215). -/
def Gear.follow (cyc : Bool) (x : Rat) (dn : Int) (g : Gear) : Gear :=
  match g.blend with
  | some (r, f) =>
    let d : Rat := 256 * r.d
    let r0 := g.ratio
    let r1 := ratioOf r.num r.den
    let u := if (r.stop : Rat) ≤ x then d else 256 * (x - r.xs)
    let v := (r0 * u + (r1 - r0) * d * (if d = 0 then 0 else (shape cyc (u / d)).2.1)).floor
    if (r.stop : Rat) ≤ x then { g with cmd := f + v, num := r.num, den := r.den, acc := 0, blend := none }
    else { g with cmd := f + v }
  | none =>
    let acc := g.acc + dn * g.num
    let df := if g.den = 0 then 0 else acc / (g.den : Int)
    { g with acc := acc - df * g.den, cmd := g.cmd + df }

/-- One ring cycle of a follower (R213, R214): GEARED follows the newel, HELD keeps its speed. `v` is the newel speed in
newel units per second. The phase term rides on whichever ratio is in force. -/
def Gear.cycle (cyc : Bool) (x : Rat) (dn : Int) (v : Rat) (g : Gear) : Gear :=
  match g.st with
  | .geared =>
    let g := (g.startBlend x).nextPhase cyc x
    let old := g.phTerm.floor
    let g := { g with cmd := g.cmd - old }
    let g := g.follow cyc x dn
    let t := g.phi cyc x * g.ratio
    { g with cmd := g.cmd + t.floor, phTerm := t, ff := v * g.ratio }
  | .held => { g with cmd := g.cmd + (g.ff * 16 / 1000000).floor }
  | .free => g

/-- A follower's speed matches a ratio at newel speed `v` within 0.1% (R214). -/
def matched (ff v r : Rat) : Bool := decide (absRat (ff - v * r) ≤ absRat (v * r) / 1000)

/-- A follower waiting for x_g is geared there when matched; answers whether it got there and how (R214). -/
def Gear.regearAt (x v : Rat) (g : Gear) : Gear × Option Bool :=
  match g.regear with
  | some (n, d, xg) =>
    if (xg : Rat) ≤ x then
      if matched g.ff v (ratioOf n d) then
        ({ g with st := .geared, num := n, den := d, acc := 0, blend := none, queue := [], regear := none }, some true)
      else ({ g with regear := none }, some false)
    else (g, none)
  | none => (g, none)

/-- Newel speed in newel units per second, as planned. -/
def newelUnits (s : State) : Rat := s.gov.speed * 1200 * 256

/-- The polygon ratio of station `n`: 256 / a units per newel unit (R218). -/
def polygonRatio (s : State) (n : Nat) : Int × Nat :=
  let a := s.cfg.cur.lineStep / (if (s.st n).ems.dbl then 2 else 1)
  (256, a)

/-! ### Which follower a command names -/

/-- A follower: a motor axis or a stepper. -/
inductive Follower where
  /-- motor axis -/
  | axis (a : Nat)
  /-- stepper -/
  | stepper (k : Nat)
  deriving DecidableEq, Repr

/-- The follower a handle names. -/
def followerOf (s : State) (h : Handle) : Option Follower :=
  match s.cfg.cur.rank 6 h, s.cfg.cur.rank 7 h with
  | some a, _ => if s.cfg.cur.typeOf h = 6 ∧ a < 64 then some (.axis a) else none
  | none, some k => if s.cfg.cur.typeOf h = 7 ∧ k < 32 then some (.stepper k) else none
  | none, none => none

/-- Its gear. -/
def gearOf (s : State) (f : Follower) : Gear :=
  match f with
  | .axis a => (s.axis a).gear
  | .stepper k => (kvGet ({} : Stepper) s.steppers k).gear

/-- Changes its gear. -/
def modFollower (f : Follower) (g : Gear → Gear) (s : State) : State :=
  match f with
  | .axis a => modGear a g s
  | .stepper k => s.modSteppers fun t => kvMod {} t k fun x => { x with gear := g x.gear }

/-! ### Coming to rest (R20, R240, R324) -/

/-- Polygons are let go for a controlled stop: HELD, then FREE, at zero duty (R240). -/
def freePolygons (s : State) : State :=
  s.cfg.cur.stationList.foldl
    (fun s n => match polygonOf s.cfg.cur n with
      | some a => modAxis a (fun x => { x with duty := 0, gear := { x.gear with st := .free } }) s
      | none => s) s

/-- Every station takes at once the post-divider that THREAD gives it (R142, R162). -/
def threadPostDivs (s : State) : State :=
  s.cfg.cur.stationList.foldl
    (fun s n =>
      let p := postDivThread s n
      if (s.st n).scan.postdiv = p then s
      else match stationLane s n with
        | some l => if (s.lane l).trained then retrain n l p s else modScan n (fun x => { x with postdiv := p }) s
        | none => modScan n (fun x => { x with postdiv := p }) s) s

/-- The press enters THREAD: lanes carry DARK words, HV loops go to out_safe, post-dividers change at once (R20, R142,
R324, R452). -/
def enterThread (s : State) : State :=
  let s := s.modLand fun l => { l with mode := .thread, next := none, plans := [], rampWait := false }
  let s := s.modLanes fun t => t.map fun p =>
    (p.1, { p.2 with mode := match p.2.mode with | .idle => .dark | .swept => .dark | m => m })
  threadPostDivs (disableHv s)

/-- An unplanned fall of the web puts the press in THREAD at once; no profile targets more than 25 in/s there (R2,
R20). -/
def fallToThread (s : State) : State :=
  let s := enterThread s
  if 25 < s.gov.target ∨ 25 < s.gov.speed then planTo 25 s else s

/-- The descent that a stop planned has reached 25 in/s: THREAD is entered (R20). -/
def threadCheck (s : State) : State :=
  if s.gov.stopping && s.land.mode != .thread && decide (s.gov.speed ≤ 25) then enterThread s else s

/-- Plans the descent to rest, or to the jog speed (R240, R324, R404). -/
def planRest (v : Rat) (s : State) : State :=
  threadCheck ((planToward v s).modGov fun g => { g with stopping := true, restAt := v })

/-- A stop that waits for its frames begins once none is in flight; LOCKOUT and the controlled stop do not wait. One that
ends at rest takes over a descent to the jog speed (R16, R20, R324). -/
def beginStop (s : State) : State :=
  if s.gov.stopping && (s.land.stopReq == .threadCmd || s.gov.restAt == 0) then s
  else match s.land.stopReq with
    | .none => s
    | .stop => if noFlights s then freePolygons (planRest 0 s) else s
    | .threadCmd => if noFlights s then planRest s.gov.jog s else s
    | .lockout | .controlled => freePolygons (planRest 0 s)

/-! ### MOT_PRESS and MOT_JOG (R404, R453) -/

/-- MOT_PRESS STOP's own checks and effect. -/
def bodyMotPressStop (m : Cmd) (s : State) : Reply :=
  if m.u 0 1 ≠ 0 then refuse .range s
  else .done .ok [] (beginStop (askStop .stop s))

/-- MOT_PRESS_STOP. -/
def execMotPressStop (m : Cmd) (s : State) : Host.Outcome State Fault Refusal :=
  .next (runCmd opMotPressStop noTicket m (bodyMotPressStop m) s)

/-- MOT_PRESS THREAD's own checks and effect. -/
def bodyMotPressThread (m : Cmd) (s : State) : Reply :=
  if m.u 0 1 ≠ 1 then refuse .range s
  else if !noFlights s then refuse .conflict s
  else
    let s := askStop .threadCmd s
    .done .ok [] (beginStop (if s.land.stopReq = .threadCmd then s.modGov fun g => { g with stopping := false } else s))

/-- MOT_PRESS_THREAD. -/
def execMotPressThread (m : Cmd) (s : State) : Host.Outcome State Fault Refusal :=
  .next (runCmd opMotPressThread noTicket m (bodyMotPressThread m) s)

/-- MOT_PRESS RUN's own checks and effect: the run sequence starts, the newel is planned to 25 in/s (R453). Out of
THREAD there is nothing to leave: OK, or CONFLICT while a stop is on its way. -/
def bodyMotPressRun (m : Cmd) (s : State) : Reply :=
  if m.u 0 1 ≠ 2 then refuse .range s
  else if stopActive s then refuse .conflict s
  else if s.cfg.pend.isSome then refuse .busy s
  else if s.land.mode ≠ .thread then (if s.land.stopReq = .none then .done .ok [] s else refuse .conflict s)
  else
    .later ((planTo 25 ((s.modLand fun l => { l with run := .ramp, stopReq := .none }).modGov fun g =>
      { g with stopping := false, jogLeft := none })))

/-- MOT_PRESS_RUN. -/
def execMotPressRun (m : Cmd) (s : State) : Host.Outcome State Fault Refusal :=
  .next (runCmd opMotPressRun noTicket m (bodyMotPressRun m) s)

/-- MOT_JOG's own checks and effect: only in THREAD; it responds at end when a distance is given. -/
def bodyMotJog (m : Cmd) (s : State) : Reply :=
  let v := signed 16 (m.u 0 2)
  if v ≤ -2500 ∨ 2500 ≤ v then refuse .range s
  else if s.land.mode ≠ .thread ∨ s.land.run ≠ .none then refuse .conflict s
  else
    let d := m.u 4 4
    let s := (planTo ((v : Rat) / 100) s).modGov fun g =>
      { g with jog := (v : Rat) / 100, jogLeft := if d = 0 then none else some (256 * d : Int), stopping := false }
    if d = 0 then .done .ok [] s else .later s

/-- MOT_JOG. -/
def execMotJog (m : Cmd) (s : State) : Host.Outcome State Fault Refusal :=
  .next (runCmd opMotJog noTicket m (bodyMotJog m) s)

/-! ### MOT_HOME, MOT_GEAR, MOT_RATIO, MOT_PHASE, MOT_MOVE -/

/-- The level of an input accepted last. -/
def inputLevel (s : State) (h : Nat) : Bool := kvGet false s.ring.inputs (h % 1024)

/-- MOT_HOME's own checks and effect (R222). -/
def bodyMotHome (m : Cmd) (s : State) : Reply :=
  match followerOf s m.handle with
  | some (.axis a) =>
    if (s.axis a).gear.st ≠ .free then refuse .conflict s
    else
      let active := inputLevel s (s.cfgGet 0x09 a 60 2)
      .later (modAxis a (fun x => { x with
        homed := false, home := if active then .backoff else .fast, homeDiv := 1, homeTravel := 0, move := none }) s)
  | _ => refuse .range s

/-- MOT_HOME. -/
def execMotHome (m : Cmd) (s : State) : Host.Outcome State Fault Refusal :=
  .next (runCmd opMotHome noTicket m (bodyMotHome m) s)

/-- MOT_GEAR HOLD's own checks and effect (R214). -/
def bodyMotGearHold (m : Cmd) (s : State) : Reply :=
  match followerOf s m.handle with
  | some f => if m.u 1 1 = 0 then .done .ok [] (modFollower f (fun g => { g with st := .held }) s) else refuse .range s
  | none => refuse .range s

/-- MOT_GEAR_HOLD. -/
def execMotGearHold (m : Cmd) (s : State) : Host.Outcome State Fault Refusal :=
  .next (runCmd opMotGearHold noTicket m (bodyMotGearHold m) s)

/-- MOT_GEAR FREE's own checks and effect (R214). -/
def bodyMotGearFree (m : Cmd) (s : State) : Reply :=
  match followerOf s m.handle with
  | some f =>
    if m.u 1 1 = 1 then
      .done .ok [] (modFollower f (fun g => { g with st := .free, blend := none, queue := [], regear := none }) s)
    else refuse .range s
  | none => refuse .range s

/-- MOT_GEAR_FREE. -/
def execMotGearFree (m : Cmd) (s : State) : Host.Outcome State Fault Refusal :=
  .next (runCmd opMotGearFree noTicket m (bodyMotGearFree m) s)

/-- MOT_GEAR REGEAR's own checks and effect: a HELD or FREE follower waits for x_g; it responds at end (R214). -/
def bodyMotGearRegear (m : Cmd) (s : State) : Reply :=
  match followerOf s m.handle with
  | some f =>
    if m.u 1 1 ≠ 2 ∨ m.u 8 4 = 0 ∨ (gearOf s f).st = .geared then refuse .range s
    else .later (modFollower f (fun g => { g with regear := some (m.i 4 4, m.u 8 4, m.i 12 6) }) s)
  | none => refuse .range s

/-- MOT_GEAR_REGEAR. -/
def execMotGearRegear (m : Cmd) (s : State) : Host.Outcome State Fault Refusal :=
  .next (runCmd opMotGearRegear noTicket m (bodyMotGearRegear m) s)

/-- The acceleration limit of a follower, counts/s²; a stepper has none configured. -/
def accelLimit (s : State) (f : Follower) : Option Rat :=
  match f with
  | .axis a => some (s.cfgGet 0x09 a 96 4 : Rat)
  | .stepper _ => none

/-- A ratio change stays inside the acceleration limit at every speed of the mode (R216). -/
def accelOk (s : State) (f : Follower) (r0 r1 : Rat) (d : Nat) : Bool :=
  match accelLimit s f with
  | none => true
  | some lim =>
    if d = 0 then true
    else
      let r := max (absRat r0) (absRat r1)
      let a := rampAccel s.cfg.cur * 1200 * 256
      let v := topSpeed s * 1200 * 256
      decide ((r * a + v ^ 2 * absRat (r1 - r0) * shapeC s.cfg.cur / (256 * d)) / 65536 ≤ lim)

/-- The ratio a change queued now would start from. -/
def ratioBefore (g : Gear) : Rat :=
  match g.queue.getLast? with
  | some r => ratioOf r.num r.den
  | none => match g.blend with
    | some (r, _) => ratioOf r.num r.den
    | none => g.ratio

/-- MOT_RATIO's own checks and effect (R215, R216). -/
def bodyMotRatio (m : Cmd) (s : State) : Reply :=
  match followerOf s m.handle with
  | none => refuse .range s
  | some f =>
    let g := gearOf s f
    let r : RatioChg := { num := m.i 4 4, den := m.u 8 4, xs := m.i 12 6, d := m.u 20 4 }
    let inBlend := fun (q : RatioChg) => decide (r.xs < q.stop) && decide (q.xs < r.stop + 1)
    if 4 ≤ g.queue.length then refuse .refusedFull s
    else if g.queue.any inBlend || (match g.blend with | some (q, _) => decide (r.xs < q.stop) | none => false) then
      refuse .conflict s
    else if r.den = 0 ∨ (r.d ≠ 0 ∧ (r.d < 32 ∨ 16777215 < r.d)) ∨ (r.d = 0 ∧ s.gov.speed ≠ 0) ∨
        (r.xs : Rat) < newelLines s ∨ accelOk s f (ratioBefore g) (ratioOf r.num r.den) r.d = false then refuse .range s
    else
      let q := sortBy (g.queue ++ [r]) fun a b => decide (a.xs ≤ b.xs)
      .done .ok (leBytes 1 ((q.findIdx? fun x => x == r).getD 0)) (modFollower f (fun g => { g with queue := q }) s)

/-- MOT_RATIO. -/
def execMotRatio (m : Cmd) (s : State) : Host.Outcome State Fault Refusal :=
  .next (runCmd opMotRatio noTicket m (bodyMotRatio m) s)

/-- MOT_RATIO_CANCEL's own checks and effect (R216). -/
def bodyMotRatioCancel (m : Cmd) (s : State) : Reply :=
  match followerOf s m.handle with
  | none => refuse .range s
  | some f =>
    let g := gearOf s f
    let x := m.i 2 6
    if g.queue.any fun r => r.xs == x then
      .done .ok [] (modFollower f (fun g => { g with queue := g.queue.filter fun r => r.xs != x }) s)
    else match g.blend with
      | some (r, _) => if r.xs = x then refuse .conflict s else refuse .range s
      | none => refuse .range s

/-- MOT_RATIO_CANCEL. -/
def execMotRatioCancel (m : Cmd) (s : State) : Host.Outcome State Fault Refusal :=
  .next (runCmd opMotRatioCancel noTicket m (bodyMotRatioCancel m) s)

/-- MOT_PHASE's own checks and effect (R217). -/
def bodyMotPhase (m : Cmd) (s : State) : Reply :=
  match followerOf s m.handle with
  | none => refuse .range s
  | some f =>
    if m.u 14 2 < 32 then refuse .range s
    else .done .ok [] (modFollower f (fun g => g.setPhase (m.i 4 4) (m.i 8 6) (m.u 14 2)) s)

/-- MOT_PHASE. -/
def execMotPhase (m : Cmd) (s : State) : Host.Outcome State Fault Refusal :=
  .next (runCmd opMotPhase noTicket m (bodyMotPhase m) s)

/-- MOT_MOVE's own checks and effect (R404). -/
def bodyMotMove (m : Cmd) (s : State) : Reply :=
  match followerOf s m.handle with
  | some (.axis a) =>
    let x := s.axis a
    let rel := bitOf (m.u 1 1) 0
    if 1 < m.u 1 1 ∨ m.u 8 4 = 0 then refuse .range s
    else if x.gear.st ≠ .free ∨ (!rel && !x.homed) then refuse .conflict s
    else
      let t := if rel then x.gear.cmd / 65536 + m.i 4 4 else m.i 4 4
      .later (modAxis a (fun x => { x with move := some (t, m.u 8 4) }) s)
  | _ => refuse .range s

/-- MOT_MOVE. -/
def execMotMove (m : Cmd) (s : State) : Host.Outcome State Fault Refusal :=
  .next (runCmd opMotMove noTicket m (bodyMotMove m) s)

/-! ### Solenoids (R116, R262, R263) -/

/-- Solenoid `k`. -/
def State.sol (s : State) (k : Nat) : Solenoid := kvGet {} s.sols k

/-- Peak time of solenoid `k`, µs. -/
def peakUs (s : State) (k : Nat) : Nat := 100 * s.cfgGet 0x0D k 6 2

/-- Two spans of time overlap. -/
def spansMeet (a b c d : Nat) : Bool := decide (a < d) && decide (c < b)

/-- A pulse of solenoid `k` at `t` held for `hold` µs breaches no rule against its partner's schedule (R263). -/
def pulseOk (s : State) (k p t hold : Nat) : Bool :=
  let g := s.cfgGet 0x0D
  let rating := g k 10 2
  let pk := t + peakUs s k
  let stop := pk + hold
  let x := s.sol p
  let ppk := x.start + peakUs s p
  x.holdEnd == 0 ||
    (!spansMeet t pk x.start ppk &&
      (!spansMeet t pk ppk x.holdEnd || decide (g k 4 2 + g p 8 2 ≤ rating)) &&
      (!spansMeet pk stop x.start ppk || decide (g p 4 2 + g k 8 2 ≤ rating)) &&
      (!spansMeet pk stop ppk x.holdEnd || decide (g k 8 2 + g p 8 2 ≤ rating)))

/-- The instant a fire of solenoid `k` at `now` may start: the earliest without a breach within the deferral, none when
there is none (R263). -/
def fireAt (s : State) (k now hold : Nat) : Option Nat :=
  let p := s.cfgGet 0x0D k 3 1
  if p = 0xFF then some now
  else
    let x := s.sol p
    let cands := [now, x.start + peakUs s p, x.holdEnd].filter fun t => decide (now ≤ t) && decide (t ≤ now + 1000 * s.cfgGet 0x0D k 12 1)
    (cands.filter fun t => pulseOk s k p t hold).foldl (fun m t => match m with
      | none => some t
      | some x => some (min x t)) none

/-- Fires solenoid `k` at `now` µs for a hold in ms: a pulse in progress has its hold's end replaced; none when the
overlap rule refuses it (R263). -/
def fireSol (k now holdMs tag : Nat) (s : State) : Option State :=
  let x := s.sol k
  let hold := 1000 * holdMs
  if now < x.holdEnd then
    some ((s.modSols fun t => kvMod {} t k fun x => { x with holdEnd := now + hold }).send (.solenoid k x.start (now + hold)))
  else match fireAt s k now hold with
    | none => none
    | some t =>
      let e := t + peakUs s k + hold
      some ((s.modSols fun l => kvMod {} l k fun x => { x with start := t, holdEnd := e, tag := tag }).send (.solenoid k t e))

/-- RELEASE ends a pulse at once. -/
def releaseSol (k now : Nat) (s : State) : State :=
  (s.modSols fun t => kvMod {} t k fun x => { x with holdEnd := if x.holdEnd = 0 then 0 else min x.holdEnd now }).send
    (.solenoid k now now)

/-- The next ring cycle boundary, µs. -/
def nextCycle (s : State) : Nat := 16 * (s.ring.cyc + 1)

/-- MOT_SOL_FIRE's own checks and effect. -/
def bodyMotSolFire (m : Cmd) (s : State) : Reply :=
  match s.cfg.cur.rank 0x0C m.handle with
  | some k =>
    let rel := bitOf (m.u 1 1) 0
    if s.cfg.cur.typeOf m.handle ≠ 0x0C ∨ 1 < m.u 1 1 ∨ (!rel && !between 1 10000 (m.u 2 2)) then refuse .range s
    else
      let ready := (liveOf s (hIndex m.handle)).st = .ready
      if rel then (if ready then .done .ok [] (releaseSol k (nextCycle s) s) else refuse .conflict s)
      else match fireSol k (nextCycle s) (m.u 2 2) m.tag.toNat s with
        | none => refuse .overlapDenied s
        | some t => if ready then .done .ok [] t else refuse .conflict s
  | none => refuse .range s

/-- MOT_SOL_FIRE. -/
def execMotSolFire (m : Cmd) (s : State) : Host.Outcome State Fault Refusal :=
  .next (runCmd opMotSolFire noTicket m (bodyMotSolFire m) s)

end Sys2Proof.Machine
end

