-- ==== Sys2Proof/Machine/Loops.lean ====
section
/-! DEFINITION. The loop engine: signals, the control law, modes, ownership, and the MOT_LOOP_ commands (13). -/

namespace Sys2Proof.Machine

open Sys2Proof

/-! ### binary32 arithmetic, none when a value is not finite (R272; log entry 22) -/

/-- A finite result. -/
def fin (q : Rat) : Option F32 := let x := f32OfRat q; if f32Finite x then some x else none

/-- An operation on two values. -/
def fop (f : Rat → Rat → Rat) (a b : Option F32) : Option F32 :=
  match a, b with
  | some x, some y => if f32Finite x && f32Finite y then fin (f (f32Rat x) (f32Rat y)) else none
  | _, _ => none

/-- Sum. -/
def fadd : Option F32 → Option F32 → Option F32 := fop (· + ·)
/-- Difference. -/
def fsub : Option F32 → Option F32 → Option F32 := fop (· - ·)
/-- Product. -/
def fmul : Option F32 → Option F32 → Option F32 := fop (· * ·)
/-- Quotient; not finite when the divisor is 0. -/
def fdiv (a b : Option F32) : Option F32 :=
  match b with
  | some y => if f32Rat y = 0 then none else fop (· / ·) a b
  | none => none

/-- A value clamped to a range. -/
def fclamp (lo hi x : Option F32) : Option F32 :=
  match lo, hi, x with
  | some l, some h, some v => some (if f32Rat v < f32Rat l then l else if f32Rat h < f32Rat v then h else v)
  | _, _, _ => none

/-! ### A slot's parameters -/

/-- A binary32 field of slot `k`. -/
def loopF (s : State) (k o : Nat) : Option F32 := some (BitVec.ofNat 32 (s.cfgGet 0x0B k o 4))

/-- A Q16.16 field as binary32. -/
def loopQ (s : State) (k o : Nat) : Option F32 := some (f32OfRat (q16 (s.cfgGet 0x0B k o 4)))

/-- The target in force: the live one, or the set's (R117, R277). -/
def loopTarget (s : State) (k : Nat) : Option F32 :=
  match (s.loop k).target with
  | some t => some (f32OfRat (q16 t))
  | none => loopQ s k 28

/-- The sample period of slot `k` as binary32. -/
def loopT (s : State) (k : Nat) : Option F32 := some (f32OfRat (classPeriod s.cfg.cur k))

/-- A signal reference's handle. -/
def refHandle (s : State) (k o : Nat) : Handle := BitVec.ofNat 16 (s.cfgGet 0x0B k (o + 2) 2)

/-- The slot that owns slot `k`'s output group (R276): the live owner, else the one that carries GROUP_OWNER. -/
def ownerOfGroup (s : State) (k : Nat) : Option Nat :=
  let out := s.cfgGet 0x0B k 8 4
  let grp := (setSlots s.cfg.cur).filter fun j => s.cfgGet 0x0B j 8 4 == out
  match grp.find? fun j => (s.loop j).owner == some true with
  | some j => some j
  | none => grp.find? fun j => bitOf (s.cfgGet 0x0B j 2 1) 1

/-- Slot `k` drives its destination. -/
def ownsOutput (s : State) (k : Nat) : Bool := s.cfgGet 0x0B k 8 1 == 0 || ownerOfGroup s k == some k

/-! ### Signals (Table 13-3) -/

/-- The scale of a sensor, units per count: its CHANNEL entry's. -/
def sensorScale (c : CfgSet) (h : Handle) : Rat :=
  match (List.range 512).find? fun e => c.get 0x0E e 0 2 == h.toNat with
  | some e => (c.get 0x0E e 6 2 : Rat) / 256
  | none => 0

/-- Newel speed as measured over the last ring cycle, in/s. -/
def newelSpeed (s : State) : Rat := (s.newel.dn : Rat) / 256 / 1200 * 62500

/-- The value of the signal that a reference at offset `o` of slot `k` names. -/
def signal (s : State) (k o : Nat) : Option F32 :=
  let h := refHandle s k o
  let sel := s.cfgGet 0x0B k (o + 1) 1
  let i := hIndex h
  let ax := match s.cfg.cur.rank 6 h with | some a => s.axis a | none => {}
  match s.cfgGet 0x0B k o 1 with
  | 1 => fin (((kvGet (0 : Int) s.ring.sensors i : Int) : Rat) * sensorScale s.cfg.cur h)
  | 2 => fin (newelSpeed s)
  | 3 => fin ax.speed
  | 4 => fin (ax.tRef / 1000)
  | 5 =>
    let v := kvGet (0, 0, 0) s.ring.hv i
    fin (if sel = 0 then (v.1 : Rat) else if sel = 1 then (v.2.1 : Rat) / 10 else (v.2.2 : Rat))
  | 6 =>
    match (setSlots s.cfg.cur).find? fun j => s.cfgGet 0x0B j 8 1 == 6 && refHandle s j 8 == h && ownsOutput s j with
    | some j => some (s.loop j).uSat
    | none => some 0#32
  | 7 => match s.cfg.cur.stationOf h with | some n => fin (s.st n).scan.ef | none => some 0#32
  | 8 => match s.cfg.cur.stationOf h with | some n => fin ((s.st n).scan.tReg / 256) | none => some 0#32
  | 9 => match slotAt s.cfg.cur h sel with | some j => some (s.loop j).uSat | none => some 0#32
  | _ => some 0#32

/-- The unit a reference names serves: not FAULTED or RETIRED, its node not lost (R280). -/
def refServes (s : State) (k o : Nat) : Bool :=
  let t := s.cfgGet 0x0B k o 1
  let h := refHandle s k o
  t == 0 || t == 2 || t == 9 ||
    (decide (stateRank s 16 (hIndex h) ≤ 2) &&
      match nodeOf s.cfg.cur (hIndex h) with
      | some nh => match s.cfg.cur.rank 5 nh with | some n => !(s.node n).lost | none => true
      | none => true)

/-- The measurement is valid. -/
def inputValid (s : State) (k : Nat) : Bool := refServes s k 4

/-- The destination is READY or DEGRADED (R280). -/
def destServes (s : State) (k : Nat) : Bool :=
  let t := s.cfgGet 0x0B k 8 1
  let r := stateRank s 16 (hIndex (refHandle s k 8))
  t == 0 || r == 0 || r == 2

/-! ### The law (R272, R273) -/

/-- A gain of slot `k` (0 k_p, 1 k_i, 2 k_d) at schedule variable `x` (R273). -/
def gainAt (s : State) (k which : Nat) (x : Option F32) : Option F32 :=
  let n := s.cfgGet 0x0B k 76 1
  let xs := fun i => f32Rat (BitVec.ofNat 32 (s.cfgGet 0x0B k (80 + 4 * i) 4))
  let g := fun i => loopF s k (96 + 12 * i + 4 * which)
  match x with
  | none => none
  | some v =>
    let q := f32Rat v
    if n ≤ 1 ∨ q ≤ xs 0 then g 0
    else if xs (n - 1) ≤ q then g (n - 1)
    else
      match (List.range (n - 1)).find? fun i => decide (q < xs (i + 1)) with
      | some i =>
        -- linear between the points
        fadd (g i) (fmul (fdiv (fsub (some v) (fin (xs i))) (fsub (fin (xs (i + 1))) (fin (xs i)))) (fsub (g (i + 1)) (g i)))
      | none => g 0

/-- What a sample of the law computes: p, d, ff, e, u, the clamped output and the new integral. -/
structure Law where
  /-- proportional term -/
  p : Option F32
  /-- derivative term -/
  d : Option F32
  /-- feed-forward -/
  ff : Option F32
  /-- error -/
  e : Option F32
  deriving DecidableEq, Repr

/-- p, d, ff and e at set-point `w` and measurement `y` (R272). -/
def lawTerms (s : State) (k : Nat) (w y : Option F32) : Law :=
  let x := signal s k 16
  let t := loopT s k
  let tf := loopF s k 60
  let kd := gainAt s k 2 x
  let e := fsub w y
  let den := fadd tf t
  { p := fmul (gainAt s k 0 x) e
    d := fsub (fmul (fdiv tf den) (some (s.loop k).d)) (fmul (fdiv kd den) (fsub y (some (s.loop k).yPrev)))
    ff := if s.cfgGet 0x0B k 12 1 = 0 then some 0#32 else fmul (loopF s k 40) (signal s k 12)
    e := e }

/-- The set-point moved toward the target by at most ramp × t (R272, R273). -/
def rampW (s : State) (k : Nat) (w : F32) : Option F32 :=
  match loopTarget s k, fmul (loopF s k 56) (loopT s k) with
  | some tg, some st =>
    if f32Rat st = 0 then some tg
    else
      let dv := f32Rat tg - f32Rat w
      if absRat dv ≤ f32Rat st then some tg
      else fin (f32Rat w + (if dv < 0 then -(f32Rat st) else f32Rat st))
  | _, _ => none

/-- The set-point of a sample in a mode (Table 13-5). -/
def workW (s : State) (k : Nat) (mode : LoopMode) (y : Option F32) : Option F32 :=
  let x := s.loop k
  match mode with
  | .manual | .track => y
  | .cascade => fclamp (loopQ s k 32) (loopQ s k 36) (signal s k 24)
  | .auto => if x.fresh then y else if x.preset then some x.w else rampW s k x.w

/-- The inner slot of an outer slot `k`, if any. -/
def innerOf (s : State) (k : Nat) : Option Nat :=
  (setSlots s.cfg.cur).find? fun j => outerOf s.cfg.cur j == some k

/-- The mode a sample runs in and the signal it tracks: forced TRACK of the owner (R276), of the inner slot's w (R277),
or of its own last output while the destination is out (R280). -/
def forcedTrack (s : State) (k : Nat) : Option F32 :=
  if !destServes s k then some (s.loop k).uSat
  else if !ownsOutput s k then (ownerOfGroup s k).map fun j => (s.loop j).uSat
  else match innerOf s k with
    | some j => if (s.loop j).on && (s.loop j).mode == .cascade then none else some (s.loop j).w
    | none => none

/-! ### Destinations (R271, Table 13-4) -/

/-- The clamped integer nearest a value. -/
def toStep (lo hi : Int) (q : Rat) : Int := max lo (min hi (roundHalf q))

/-- A slot's output goes to its destination. -/
def drive (k : Nat) (u : F32) (s : State) : State :=
  let h := refHandle s k 8
  let q := f32Rat u
  match s.cfgGet 0x0B k 8 1 with
  | 4 => match s.cfg.cur.rank 6 h with
    | some a =>
      let tm : Int := s.cfgGet 0x09 a 36 4
      modAxis a (fun x => { x with tRef := toStep (-tm) tm q }) s
    | none => s
  | 7 => match s.cfg.cur.stationOf h with
    | some n => match polygonOf s.cfg.cur n with
      | some a =>
        let v := roundHalf (q * 65536)
        -- while the station acquires, 1% of the geared speed: of the 65,536 units of a sweep, per sweep (R160, log entry 178)
        let t := (s.axis a).gear.trim
        let v := if (s.st n).scan.acquiring then max (t - 655) (min (t + 655) v) else v
        modGear a (fun g => { g with cmd := g.cmd - g.trim + v, trim := v }) s
      | none => s
    | none => s
  | 8 => match s.cfg.cur.stationOf h with
    | some n => modScan n (fun x => { x with tReg := toStep (-(2 ^ 31)) (2 ^ 31 - 1) (q * 256) }) s
    | none => s
  | 0 => s
  | _ => s.send (.loopOut k u)

/-! ### One sample -/

/-- The handle and selector a slot is reported under. -/
def slotChannel (s : State) (k : Nat) : Handle × Nat :=
  match slotUnit s.cfg.cur k with
  | some i =>
    let h := s.cfg.cur.handle i
    match s.cfg.cur.unit i with
    | some u => (h, if u.utype = 9 then 192 + (k - u.firstSlot) else 0)
    | none => (h, 0)
  | none => (0xFFFF#16, 0)

/-- Ownership moves to slot `k` at its next sample (R276): it enters AUTO, or CASCADE if it names an outer slot; the old
owner is held in TRACK. -/
def takeOwner (k : Nat) (s : State) : State :=
  let out := s.cfgGet 0x0B k 8 4
  let s := s.modLoops fun l => l.map fun p =>
    if s.cfgGet 0x0B p.1 8 4 = out then (p.1, { p.2 with owner := some (p.1 == k) }) else p
  modLoop k (fun x => { x with
    owner := some true, mode := if (outerOf s.cfg.cur k).isSome then .cascade else .auto, preset := true }) s

/-- A MOT_LOOP_SWITCH that waits for slot `k`'s input (Table 13-9). -/
def switchWaits (s : State) (k : Nat) (w : Waiter) : Bool :=
  w.op == 0x040B && slotAt s.cfg.cur (w.cmd.h 2) (w.cmd.u 1 1) == some k

/-- A sample that was not finite: integ and d reset, re-preset, NUMERIC raised (Table 13-6). -/
def numericFault (k : Nat) (s : State) : State :=
  let c := slotChannel s k
  raise 0x1403 c.1 c.2 k (modLoop k (fun x => { x with integ := 0#32, d := 0#32, preset := true }) s)

/-- What a good sample stores: output, integral, derivative, set-point, flags. -/
def storeSample (k : Nat) (mode : LoopMode) (forced : Bool) (t : Law) (w y u us integ : F32) (s : State) : State :=
  let hi := decide (f32Rat (BitVec.ofNat 32 (s.cfgGet 0x0B k 48 4)) < f32Rat u)
  let lo := decide (f32Rat u < f32Rat (BitVec.ofNat 32 (s.cfgGet 0x0B k 44 4)))
  let lim := f32Rat (BitVec.ofNat 32 (s.cfgGet 0x0B k 68 4))
  let closed := mode == .auto || mode == .cascade
  let fe := closed && decide (lim ≠ 0) && decide (lim < absRat (f32Rat (t.e.getD 0#32)))
  modLoop k (fun x => { x with
    forced := forced, w := w, yPrev := y, d := t.d.getD 0#32, integ := integ, uSat := us, preset := false, fresh := false
    satHi := hi, satLo := lo, inputOk := true, feRun := fe
    ramping := mode == .auto && loopTarget s k != some w
    satSince := if closed && (hi || lo) then x.satSince + 1 else 0 }) s

/-- One sample of an enabled slot (R272, R274, R276, R277, R280). -/
def sampleLoop (k : Nat) (s : State) : State :=
  let x := s.loop k
  if !inputValid s k then modLoop k (fun x => { x with inputOk := false }) s
  else
    let s := if s.mbx.waiters.any (switchWaits s k) then
        let t := takeOwner k s
        finish (switchWaits s k) .ok [] t
      else s
    let x := if x.forced && (forcedTrack s k).isNone then { s.loop k with preset := true } else s.loop k
    let s := modLoop k (fun _ => x) s
    let f := forcedTrack s k
    let mode : LoopMode := if f.isSome then .track else x.mode
    let y := signal s k 4
    let w := workW s k mode y
    let t := lawTerms s k w y
    let sum := fadd (fadd t.p t.d) t.ff
    let lo := loopF s k 44
    let hi := loopF s k 48
    if mode == .manual || mode == .track then
      let u0 : Option F32 := if x.preset then some x.uSat
        else match f with
          | some v => some v
          | none => if mode == .manual then some x.manual else signal s k 20
      match w, y, u0, fclamp lo hi u0, fsub (fclamp lo hi u0) sum with
      | some w, some y, some u, some us, some g =>
        let s := storeSample k mode f.isSome t w y u us g s
        if ownsOutput s k && destServes s k then drive k us s else s
      | _, _, _, _, _ => numericFault k s
    else if x.preset then
      match w, y, fsub (some x.uSat) sum with
      | some w, some y, some g =>
        let s := storeSample k mode false t w y x.uSat x.uSat g s
        if ownsOutput s k then drive k x.uSat s else s
      | _, _, _ => numericFault k s
    else
      let u := fadd (fadd (fadd t.p (some x.integ)) t.d) t.ff
      let us := fclamp lo hi u
      let T := loopT s k
      let g := fadd (fadd (some x.integ) (fmul (fmul (gainAt s k 1 (signal s k 16)) T) t.e))
        (fmul (fmul (loopF s k 64) T) (fsub us u))
      match w, y, u, us, g with
      | some w, some y, some u, some us, some g =>
        let s := storeSample k mode false t w y u us g s
        if ownsOutput s k then drive k us s else s
      | _, _, _, _, _ => numericFault k s

/-- The slots of class C0 to C3 that ring cycle `j` evaluates (R267), outer slots first. -/
def dueSlots (s : State) (j : Nat) : List Nat :=
  let ks := (setSlots s.cfg.cur).filter fun k =>
    let d := classDiv (s.cfgGet 0x0B k 0 1)
    d != 0 && (s.loop k).on && j % d == (s.loop k).phase % d
  sortBy ks fun a b => decide ((outers s.cfg.cur 5 a).length ≤ (outers s.cfg.cur 5 b).length)

/-- Every slot due in ring cycle `j`. -/
def runLoops (j : Nat) (s : State) : State := (dueSlots s j).foldl (fun s k => sampleLoop k s) s

/-- The SWEEP slot of station `n`, evaluated at its SOS mark (R267, R268). -/
def sweepSlot (s : State) (n : Nat) : Option Nat :=
  (setSlots s.cfg.cur).find? fun k => s.cfgGet 0x0B k 0 1 == 4 && refHandle s k 4 == stH s n

/-! ### Status (R278) -/

/-- Code of a mode (Table 13-5). -/
def LoopMode.code : LoopMode → Nat
  | .manual => 0
  | .auto => 1
  | .cascade => 2
  | .track => 3

/-- The loop status word (Table 13-6b). -/
def loopWord (x : LoopSlot) : Nat :=
  x.mode.code * 2 ^ 14 + bnat x.forced * 2 ^ 13 + bnat x.ramping * 2 ^ 12 + bnat x.satHi * 2 ^ 11 + bnat x.satLo * 2 ^ 10 +
    bnat x.inputOk * 2 ^ 9 + bnat x.feRun * 2 ^ 8 + min 255 x.satCount

/-! ### Commands -/

/-- The loop slot a command addresses. -/
def cmdSlot (m : Cmd) (s : State) : Option Nat := slotAt s.cfg.cur m.handle m.sel

/-- The mode of a code. -/
def loopModeOf (n : Nat) : Option LoopMode :=
  match n with
  | 0 => some .manual
  | 1 => some .auto
  | 2 => some .cascade
  | 3 => some .track
  | _ => none

/-- MOT_LOOP_MODE's own checks and effect (R274). CASCADE needs an outer slot. -/
def bodyMotLoopMode (m : Cmd) (s : State) : Reply :=
  match cmdSlot m s, loopModeOf (m.u 1 1) with
  | some k, some md =>
    let v : F32 := BitVec.ofNat 32 (m.u 4 4)
    if !f32Finite v || (md == .cascade && (outerOf s.cfg.cur k).isNone) then refuse .range s
    else
      .done .ok [] (modLoop k (fun x => { x with
        mode := md, manual := if md = .manual then v else x.manual, preset := x.preset || x.mode != md, feRun := x.feRun }) s)
  | _, _ => refuse .range s

/-- MOT_LOOP_MODE. -/
def execMotLoopMode (m : Cmd) (s : State) : Host.Outcome State Fault Refusal :=
  .next (runCmd opMotLoopMode noTicket m (bodyMotLoopMode m) s)

/-- MOT_LOOP_TARGET's own checks and effect (R277). -/
def bodyMotLoopTarget (m : Cmd) (s : State) : Reply :=
  match cmdSlot m s with
  | some k =>
    let t := q16 (m.u 4 4)
    if t < q16 (s.cfgGet 0x0B k 32 4) ∨ q16 (s.cfgGet 0x0B k 36 4) < t then refuse .range s
    else .done .ok [] (modLoop k (fun x => { x with target := some (m.u 4 4) }) s)
  | none => refuse .range s

/-- MOT_LOOP_TARGET. -/
def execMotLoopTarget (m : Cmd) (s : State) : Host.Outcome State Fault Refusal :=
  .next (runCmd opMotLoopTarget noTicket m (bodyMotLoopTarget m) s)

/-- MOT_LOOP_SWITCH's own checks and effect (R276): at once when the new owner's input is valid, else it waits. -/
def bodyMotLoopSwitch (m : Cmd) (s : State) : Reply :=
  match checkHandle s s.cfg.cur (m.h 2) with
  | some e => refuse e s
  | none =>
    match cmdSlot m s, slotAt s.cfg.cur (m.h 2) (m.u 1 1) with
    | some k, some j =>
      if s.cfgGet 0x0B k 8 1 = 0 ∨ s.cfgGet 0x0B k 8 4 ≠ s.cfgGet 0x0B j 8 4 then refuse .conflict s
      else if inputValid s j then .done .ok [] (takeOwner j s)
      else .later s
    | _, _ => refuse .range s

/-- MOT_LOOP_SWITCH. -/
def execMotLoopSwitch (m : Cmd) (s : State) : Host.Outcome State Fault Refusal :=
  .next (runCmd opMotLoopSwitch noTicket m (bodyMotLoopSwitch m) s)

/-! ### Events -/

/-- LOOP_FOLLOWING_TIMEOUT: a slot's following-error timer reaches fe_timer (R279, Table 13-6); on a SWEEP slot the
facet phase fault takes its place (R281). -/
def execLoopFollowingTimeout (slot : Nat) (s : State) : Host.Outcome State Fault Refusal :=
  .next (if (s.loop slot).feRun && (s.loop slot).on && s.cfgGet 0x0B slot 0 1 != 4 then
      let c := slotChannel s slot
      raiseAs (if bitOf (s.cfgGet 0x0B slot 2 1) 0 then 3 else 2) 0 0x1401 c.1 c.2 slot
        (modLoop slot (fun x => { x with feRun := false }) s)
    else s)

/-- LOOP_INPUT_HOLD_TIMEOUT: an input invalid beyond input_hold (R280); a switch that waits for it ends in TIMEOUT
(Table 13-9). -/
def execLoopInputHoldTimeout (slot : Nat) (s : State) : Host.Outcome State Fault Refusal :=
  .next (
    let s := if inputValid s slot then s else finish (switchWaits s slot) .timeout [] s
    if (s.loop slot).on && !inputValid s slot then
      let c := slotChannel s slot
      raise 0x1402 c.1 c.2 slot s
    else s)

/-- LOOP_SATURATED: SAT_HI or SAT_LO held for 10 s (R281, Table 13-6). -/
def execLoopSaturated (slot : Nat) (s : State) : Host.Outcome State Fault Refusal :=
  .next (if (s.loop slot).on && ((s.loop slot).satHi || (s.loop slot).satLo) &&
        ((s.loop slot).mode == .auto || (s.loop slot).mode == .cascade) then
      let c := slotChannel s slot
      note 0x1404 c.1 c.2 (modLoop slot (fun x => { x with satCount := min 255 (x.satCount + 1) }) s)
    else s)

end Sys2Proof.Machine
end

