-- ==== Sys2Proof/Machine/Landing.lean ====
section
/-! DEFINITION. The landing machine: admission, GAP records, landings, frames leaving flight, and what the governor
does every 16 ms (03, R15, R18 to R20, R33, R43 to R64, R115 to R118, R200, R453). -/

namespace Sys2Proof.Machine

open Sys2Proof

/-! ### When admission is stopped (R47, Table 03-2) -/

/-- A thermal source has reached T_stop or T_trip. -/
def thermStop (s : State) : Bool := s.therm.src.any fun p => decide (4 ≤ p.2.hot)

/-- Every beam slot of a station holds a working emitter again. -/
def fullComplement (x : Ems) : Bool :=
  (List.range 32).all fun k => match slotHolder x k with
    | some e => (kvGet ({} : Emitter) x.em e).st == .mapped
    | none => false

/-- Stations in double interlace. -/
def doubled (s : State) : List Nat := (List.range 16).filter fun n => (s.st n).ems.dbl

/-- REDUCED is to be left: every station in double interlace has its full complement again (R19). -/
def leaveWanted (s : State) : Bool :=
  s.land.reduced && !s.land.reducedReq && (doubled s).all fun n => fullComplement (s.st n).ems

/-- Admission is stopped (R47). A drain, a mode or REDUCED transition, a handover and a stop requested stop it as
THREAD does (R18, R20, R200, R324, R357); so does an unacknowledged loss of ledger records (R371). It stays stopped
until the ramp to a new mode's speed is planned (R18), and while REDUCED waits to be left (R19; log entry 172). -/
def admissionStopped (s : State) : Bool :=
  s.land.mode == .thread || s.land.drain || s.land.modeNext.isSome || s.land.reducedReq || s.pair.handover ||
    s.boot.pfail ||
    s.intlk.low != 0#8 || s.land.rampWait || leaveWanted s || stopActive s || s.faults.lockout || thermStop s || standby s || galFull s.gal || ledgerHigh s ||
    !s.faults.stalled.isEmpty || s.land.stopReq != .none || !s.land.ledgerLostAck ||
    decide (topSpeed s < s.gov.target)

/-! ### Landing positions (R43, R46) -/

/-- Least number at or above `lo`, below `lo + 2 ^ k`, from which on a test holds. -/
def leastFrom (p : Nat → Bool) : Nat → Nat → Nat
  | 0, lo => lo
  | k + 1, lo => if p (lo + 2 ^ k - 1) then leastFrom p k lo else leastFrom p k (lo + 2 ^ k)

/-- The first position on st0's sweep grid that lies at least one admission lead, that of the position itself, ahead of
the newel (R43, R46). -/
def firstLanding (s : State) : Int :=
  let h := s.cfg.cur.lineStep
  let base := ceilLines h (newelLines s)
  base + (h * leastFrom (fun k =>
    let l := base + (h * k : Nat)
    decide (newelLines s ≤ ((l - leadLines s l : Int) : Rat))) 13 0 : Nat)
/-- The landing sequence goes on by `d` lines. -/
def nextLanding (d : Int) (s : State) : State :=
  s.modLand fun l => { l with next := l.next.map (· + d) }

/-! ### The current job and its frame (R48) -/

/-- The next frame to attempt: of the first job in submission order that is QUEUED or ACTIVE and has frames left. -/
def nextFrame (s : State) : Option (Job × Nat) :=
  (s.jobs.find? fun j => (j.state == .queued || j.state == .active) && decide (j.next < j.count)).map fun j => (j, j.next)

/-- A station holds every lock (R160). -/
def hasLocks (s : State) (n : Nat) : Bool :=
  let x := (s.st n).scan
  x.lock && x.sosOk && x.facetLock

/-- A band of a frame is on the spool or in a band buffer. -/
def bandThere (s : State) (n : Nat) (id : BandId) : Bool := onSpool s id || (s.st n).buf.any fun b => b.id == id

/-- Every band of a frame is there (R48). -/
def allThere (s : State) (f : Flight) (j : Job) : Bool :=
  f.bands != 0 && ((List.range 16).filter j.layers.getLsbD).all fun l => (List.range f.bands).all fun b =>
    let n := match f.use.find? fun u => u.2 == l with | some u => u.1 | none => 0
    bandThere s n { job := f.job, layer := l, frame := f.frame, band := b }

/-- The stations whose locks a plan needs: those the frame uses that are not out of service, those last giving ROUTE
at the attempt (R48, R160). -/
def planStations (s : State) (f : Flight) : List Nat := f.stations.filter fun n => !stationOut s n

/-- Every lane named only in the PENDING copy has trained and carries IDLE words (R113). -/
def newLanesOk (s : State) : Bool :=
  match s.cfg.pend with
  | some p => (newLanes p.base p.set).all fun l => laneServing s l && (s.lane l).mode == .idle
  | none => true

/-- A plan can be prepared: every station the frame uses has its locks, and for the frame that a pending set waits to be
bound to, the lanes that set brings in carry IDLE words (R57, R113, R160). -/
def planOkFor (s : State) (f : Flight) : Bool :=
  (planStations s f).all (hasLocks s) && ((s.cfg.pend.all fun p => p.bound.isSome) || newLanesOk s)

/-- The frames of the next two landings, each with its landing: the next WAITING frame and, one pitch on, the one after
it (R43, R57). -/
def nextPlans (s : State) (l : Int) : List (Job × Nat × Int) :=
  match nextFrames s 2 with
  | [] => []
  | [(j, f)] => [(j, f, l)]
  | (j, f) :: (k, g) :: _ => [(j, f, l), (k, g, l + pitchOf (wouldFly s j f l))]

/-- A plan is prepared for a frame at a landing (R48, R57). -/
def prepared (s : State) (job frame : Nat) (l : Int) : Bool :=
  s.land.plans.any fun p => p.job == job && p.frame == frame && p.landing == l

/-- PLAN_PREPARE: core 1 prepares the first plan still missing of the next two landings, against the latest accepted set
and the current profile; plans of landings gone by are dropped (R57). -/
def execPlanPrepare (s : State) : Host.Outcome State Fault Refusal :=
  .next (if coreStalled s 1 ∨ s.land.mode = .thread then s
    else match s.land.next with
      | none => s
      | some l =>
        let s := s.modLand fun x => { x with plans := x.plans.filter fun p => decide (l ≤ p.landing) }
        match (nextPlans s l).find? fun q => !prepared s q.1.id q.2.1 q.2.2 && planOkFor s (wouldFly s q.1 q.2.1 q.2.2) with
        | some (j, f, p) => s.modLand fun x => { x with plans :=
            x.plans ++ [{ job := j.id, frame := f, landing := p, profile := planSegs s }] }
        | none => s)

/-! ### GAP (R54 to R56) -/

/-- The ledger record of a frame at its admission position. -/
def ledgerOf (s : State) (f : Flight) : LedgerRec :=
  { serial := s.land.nextSerial, job := f.job, frame := f.frame, landing := f.landing, secure := f.secure
    pairSlot := s.boot.pairSlot, version := f.version, admitted := s.clk.opSec, cycle := s.clk.powerCycle, bands := f.bands }

/-- A job enters HELD (R56). -/
def holdJob (j frame reason : Nat) (s : State) : State :=
  post 0x8302 0xFFFF#16 (leBytes 4 j ++ leBytes 4 frame ++ leBytes 1 reason)
    (dropPlan j (modJob j (fun x => { x with state := .held }) s))

/-- A GAP record: written and closed, told, and counted toward the job's limit (R44, R54, R56). The pitch passes
unprinted (R43). -/
def writeGap (j : Job) (f : Flight) (reason : Nat) (s : State) : State :=
  let serial := s.land.nextSerial
  let r := { ledgerOf s f with state := .gap, cause := reason, closed := s.clk.opSec, version := s.latestVersion }
  let s := afterClose (reserveLedger r s)
  let s := modJob j.id (fun x => { x with state := .active, gapRun := x.gapRun + 1, gaps := x.gaps + 1 }) s
  let s := post 0x8301 0xFFFF#16 (leBytes 8 serial ++ leBytes 4 f.job ++ leBytes 4 f.frame ++ leBytes 1 reason) s
  let s := nextLanding (pitchOf f) s
  if j.gapLimit ≠ 0 ∧ j.gapLimit ≤ j.gapRun + 1 then holdJob j.id f.frame reason s else s

/-! ### Admission (R48) -/

/-- The frame is admitted with a speed ceiling: its entry is reserved, the pending set binds to it, its plan is used up
(R33, R44, R48, R53). -/
def admitFrame (j : Job) (f : Flight) (v : Rat) (s : State) : State :=
  let serial := s.land.nextSerial
  let f := { f with
    serial := serial, version := s.latestVersion, ceiling := v, secure := j.secure, admittedAt := s.clk.opSec }
  let s := reserveLedger (ledgerOf s f) s
  let s := s.modLand fun l => { l with
    flights := l.flights ++ [f], plans := l.plans.filter fun p => decide (f.landing < p.landing) }
  let s := s.modCfg fun c => { c with pend := c.pend.map fun p => if p.bound.isNone then { p with bound := some serial, landing := f.landing } else p }
  let s := modJob j.id (fun x => { x with state := .active, next := x.next + 1, gapRun := 0, admitted := x.admitted + 1 }) s
  nextLanding (pitchOf f) s

/-- The first station check that fails, in ascending station number: ROUTE or RESIDENCY (R48, Table 03-3). -/
def stationReason (s : State) (f : Flight) : List Nat → Option Nat
  | [] => none
  | n :: r =>
    if stationOut s n || (s.latestSet.mapLane n).isNone then some 2
    else if fourTooLong ((s.land.flights ++ [f]).flatMap fun x => duesOf s x n) f.serial then some 3
    else stationReason s f r

/-- The attempt of R48 for a frame at a landing, its checks in their order. A layer without a station in the layer map
ends with ROUTE. -/
def attempt (j : Job) (f : Flight) (s : State) : State :=
  let layers := (List.range 16).filter j.layers.getLsbD
  if !prepared s j.id f.frame f.landing then writeGap j f 6 s
  else if !allThere s f j then writeGap j f 1 s
  else if layers.length ≠ f.use.length then writeGap j f 2 s
  else match stationReason s f ((List.range 16).filter f.stations.contains) with
    | some 3 =>
      let s := writeGap j f 3 s
      if (jobOf s j.id).any fun x => x.state == .held then s else holdJob j.id f.frame 3 s
    | some r => writeGap j f r s
    | none =>
      let v := candidateSpeed s f
      if v < 25 then writeGap j f 4 s
      else if fetchFeasible s (s.land.flights ++ [f]) then admitFrame j f v s
      else if j.slow then
        -- the slow request of precedence 6, and the plan against the profile it returns (R55)
        let t := addReq 1000 v s
        let t := if v < t.gov.target then newTarget v t else t
        if fetchFeasible t (t.land.flights ++ [f]) then admitFrame j f v t else writeGap j f 5 t
      else writeGap j f 5 s

/-- The landing advances by a maintenance gap: its length at the planned speed, up to a multiple of h (R43, R407). -/
def passMaintGap (s : State) : State :=
  let ms := s.maint.gapNext
  let d := ceilLines s.cfg.cur.lineStep ((ms : Rat) / 1000 * (s.gov.speed * 1200))
  nextLanding d (gapInserted s)

/-! ### REDUCED (R19, R200) -/

/-- Holds the polygon of a station whose interlace changes, at the rate it has (R200). -/
def holdPolygon (n : Nat) (s : State) : State :=
  let s := modEms n (fun x => { x with turning := true }) s
  match polygonOf s.cfg.cur n with
  | some a => modGear a (fun g => if g.st = .geared then { g with st := .held } else g) s
  | none => s

/-- A requested REDUCED transition goes on: a station that waits for it has its polygon held once it has no frame in
flight, and with no frame in flight at all the stations go to double interlace with their maps (R200). -/
def enterReduced (s : State) : State :=
  if !s.land.reducedReq then s
  else
    let s := (doubling s).foldl
      (fun s n => if (s.st n).ems.turning || s.land.flights.any (fun f => f.usesNow n) then s else holdPolygon n s) s
    if !noFlights s then s
    else
      let ns := doubling s
      let s := s.modLand fun l => { l with reduced := true, reducedReq := false, rampWait := true }
      ns.foldl (fun s n => giveUpStation n (modEms n (fun x => { remap x with dbl := true, dblPend := false }) s)) s

/-- REDUCED ends at a landing, with no frame in flight: its stations go back to single interlace, their polygons held
while the newel ramps up (R19; log entry 172). -/
def leaveReduced (s : State) : State :=
  if leaveWanted s && noFlights s then
    (doubled s).foldl (fun s n => holdPolygon n (modEms n (fun x => { x with dbl := false }) s))
      (dropReq 1001 (s.modLand fun l => { l with reduced := false, rampWait := true }))
  else s

/-- ADMISSION_ATTEMPT: the newel is at the admission position of the next landing (R43, R46 to R48). The sequence
starts with the first attempt after THREAD; an attempt before the admission position lands nothing. A REDUCED
transition that waits begins here when no frame is in flight (R200). -/
def execAdmissionAttempt (s : State) : Host.Outcome State Fault Refusal :=
  let s := enterReduced s
  .next (
    if s.land.mode = .thread then s
    else match s.land.next with
      | none => s.modLand fun l => { l with next := some (firstLanding s) }
      | some l =>
        if newelLines s < ((l - leadLines s l : Int) : Rat) then s
        else if s.maint.gapNext ≠ 0 ∧ admissionStopped s = false then passMaintGap s
        else if admissionStopped s then nextLanding s.cfg.cur.lineStep (leaveReduced s)
        else match nextFrame s with
          | none => nextLanding s.cfg.cur.lineStep s
          | some (j, fr) => landingPassed (attempt j (wouldFly s j fr l) s))

/-- Fastest an axis speed of a polygon may change, in axis units (1/65536 sweep) per second: 2,000 rpm per second at its
facet count (R60, R200). -/
def polygonLimit (s : State) (n : Nat) : Rat := (2000 : Rat) / 60 * (s.cfgGet 0x01 n 14 1 : Nat) * 65536

/-- The held polygon of a station whose interlace has changed is brought, within 16 ms at the polygon limit, toward the
rate its interlace needs at the speed the newel's plan ends at (R200). -/
def slewHeld (n : Nat) (s : State) : State :=
  match polygonOf s.cfg.cur n with
  | some a =>
    let (num, den) := polygonRatio s n
    let want := (planEnd s).2 * 1200 * 256 * ratioOf num den
    let d := polygonLimit s n * 16 / 1000
    if (s.axis a).gear.st = .held then
      modGear a (fun g => { g with ff := max (g.ff - d) (min (g.ff + d) want) }) s
    else s
  | none => s

/-- Once the newel holds that speed and the polygon's rate matches it, the polygon is geared at its interlace's ratio,
the lane retrains where its post-divider does not suit, and the marks are acquired (R160, R162, R200). -/
def regearTurned (n : Nat) (s : State) : State :=
  match polygonOf s.cfg.cur n with
  | none => acquire n (modEms n (fun x => { x with turning := false }) s)
  | some a =>
    let (num, den) := polygonRatio s n
    let g := (s.axis a).gear
    if steady s && g.st == .held && matched g.ff (newelUnits s) (ratioOf num den) then
      let s := modEms n (fun x => { x with turning := false }) (modGear a (fun g => { g with
        st := .geared, num := num, den := den, acc := 0, ff := newelUnits s * ratioOf num den }) s)
      let s := match stationLane s n with
        | some l => if postDivOk s n s.gov.speed then s else retrain n l (postDivLarge s n (rateAt s n s.gov.speed)) s
        | none => s
      acquire n s
    else s

/-- The stations whose interlace has changed and whose polygons wait for it. -/
def turned (s : State) : List Nat :=
  s.cfg.cur.stationList.filter fun n => (s.st n).ems.turning && !(s.st n).ems.dblPend

/-- What the polygons held for a change of interlace do every 16 ms outside THREAD (R200). -/
def regearHeld (s : State) : State :=
  if s.land.mode = .thread then s else (turned s).foldl (fun s n => regearTurned n (slewHeld n s)) s

/-! ### Station landings (R15, R33, R112, R114 to R118) -/

/-- A station whose lane has come back to service takes its map entry from the current set at its landing and leaves
FAULTED (R114). -/
def restoreLane (n : Nat) (s : State) : State :=
  match kvFind s.cfg.routeLane n, s.cfg.cur.mapLane n with
  | some none, some l =>
    if !laneServing s l then s else stationReady n (s.modCfg fun c => { c with routeLane := kvDel c.routeLane n })
  | _, _ => s

/-- A rider's target can act: present, and not DISABLED, FAULTED or RETIRED, a bank's slot not retired (R118). -/
def riderActs (s : State) (r : RiderL) : Bool :=
  (checkHandle s s.cfg.cur r.target).isNone &&
    ((liveOf s (hIndex r.target)).st == .ready || (liveOf s (hIndex r.target)).st == .degraded) &&
    (r.op != 1 || (slotAt s.cfg.cur r.target r.sel).all fun k => !(s.loop k).retired)

/-- The note of a rider skipped or clamped (R118). -/
def riderNote (r : RiderL) (s : State) : State := note 0x1306 r.target r.sel s

/-- One rider takes effect at a station landing at newel position `sl` (Table 05-6, R117, R118). -/
def applyRider (sl : Int) (r : RiderL) (s : State) : State :=
  if !riderActs s r then riderNote r s
  else match r.op with
    | 1 =>
      match slotAt s.cfg.cur r.target r.sel with
      | some k =>
        let v := q16 (r.arg % 2 ^ 32)
        let lo := s.cfgGet 0x0B k 32 4
        let hi := s.cfgGet 0x0B k 36 4
        let put := fun (t : Nat) (s : State) => modLoop k (fun x => { x with target := some t }) s
        if v < q16 lo then riderNote r (put lo s) else if q16 hi < v then riderNote r (put hi s) else put (r.arg % 2 ^ 32) s
      | none => riderNote r s
    | 2 =>
      match s.cfg.cur.stationOf r.target with
      | some n => modScan n (fun x => { x with tRider := signed 16 (r.arg % 2 ^ 16) }) s
      | none => riderNote r s
    | 3 =>
      match s.cfg.cur.rank 0x0C r.target with
      | some k => s.modSols fun t => kvMod {} t k fun x =>
          { x with due := x.due ++ [(sl + (r.arg % 2 ^ 32 : Nat), bitsOf r.arg 47 32)] }
      | none => riderNote r s
    | 4 =>
      match s.cfg.cur.rank 6 r.target with
      | some a => modGear a (fun g => g.setPhase (signed 32 (r.arg % 2 ^ 32)) sl (bitsOf r.arg 47 32)) s
      | none => riderNote r s
    | _ => s

/-- The press's part of a bound set takes effect at the bound frame's landing (R33). -/
def pressPart (s : State) : State :=
  match s.cfg.pend with
  | some p => if p.bound.isSome ∧ !p.pressDone ∧ (p.landing : Rat) ≤ newelLines s then effectPart none s else s
  | none => s

/-- A station's part of a bound set takes effect at its landing of the bound frame (R33, R112). -/
def stationPart (n serial : Nat) (s : State) : State :=
  match s.cfg.pend with
  | some p => if p.bound = some serial ∧ p.stations.contains n = false then effectPart (some n) s else s
  | none => s

/-- The landing, at a station that it does not use, of a frame to which a set was bound and which has left flight (R33,
R112). -/
def boundLanding (n serial : Nat) (s : State) : State :=
  match s.cfg.pend with
  | some p =>
    if p.bound = some serial ∧ ((p.landing + offsetOf s n : Int) : Rat) ≤ newelLines s then
      restoreLane n (stationPart n serial (pressPart s))
    else s
  | none => s

/-- What a station landing of a flight does, in the order of R15. -/
def landAt (n : Nat) (f : Flight) (s : State) : State :=
  let sl := stationLanding s f n
  let s := restoreLane n (stationPart n f.serial (pressPart s))
  let x := s.st n
  let s := if x.ridersFor = f.serial then
      (x.riders.foldl (fun s r => applyRider sl r s) s)
    else s
  let s := if x.ridersFor = f.serial then modSt n (fun x => { x with riders := [], ridersFor := 0 }) s else s
  modFlight f.serial (fun f => { f with landed := f.landed ++ [n] }) s

/-- The landings that coincide with a flight's landing at station `n` and come before it: those of lower stations at the
same newel position, in ascending order (R115). -/
def landedWith (n : Nat) (f : Flight) (s : State) : List (Nat × Nat) :=
  (List.range n).flatMap fun m =>
    (s.land.flights.filter fun g => g.stations.contains m && !g.landed.contains m &&
      stationLanding s g m == stationLanding s f n).map fun g => (m, g.serial)

/-- STATION_LANDING: the newel is at the landing of a flight at a station; coinciding landings go in ascending station
order (R115). Serial 0 is a landing of the sequence with no frame, at which only a returned lane's route entry is
restored (R114), and at which, with no frame in flight, the counter takes a returned NEWEL's counts again (R209). -/
def execStationLanding (station serial : Nat) (s : State) : Host.Outcome State Fault Refusal :=
  .next (if serial = 0 then
      restoreLane station (if s.newel.lost || !noFlights s then s else s.modNewel fun x => { x with onBackup := false })
    else match flight s serial with
      | some f =>
        if f.landed.contains station ∨ newelLines s < (stationLanding s f station : Rat) then s
        else
          let s := (landedWith station f s).foldl
            (fun s p => match flight s p.2 with | some g => landAt p.1 g s | none => s) s
          landAt station ((flight s serial).getD f) s
      | none => boundLanding station serial s)

/-! ### Leaving flight (R64) -/

/-- Where a flight's last band leaves its last station. -/
def lastPos (s : State) (f : Flight) : Int :=
  (f.stations ++ f.marking).foldl (fun m n => max m (stationLanding s f n + (f.bands * f.h : Nat))) f.landing

/-- The stations whose check value covers every band of a flight (R84). -/
def completeAt (f : Flight) : BitVec 16 :=
  ((List.range 16).filter fun n =>
    f.bands != 0 && f.stations.contains n && (kvGet ([] : List Nat) f.crcs n).length == f.bands && !f.failed.getLsbD n).foldl
    setBit 0#16

/-- The closing record of a flight (R64, Table 03-6). -/
def closeRec (s : State) (f : Flight) (r : LedgerRec) : LedgerRec :=
  let c := completeAt f
  { r with
    state := if f.spoiled then .spoiled else if f.degraded ≠ 0#16 then .degraded else .printed
    cause := if f.spoiled then f.cause else 0
    mark := f.mark, pairSlot := s.boot.pairSlot, used := f.used, failed := f.failed, complete := c, degraded := f.degraded
    closed := s.clk.opSec
    check := ((List.range 16).filter c.getLsbD).map fun n => (n, checkValue (kvGet [] f.crcs n)) }

/-- A job is DONE when its last frame has closed in a state other than GAP (R403). -/
def jobDone (id : Nat) (s : State) : State :=
  match jobOf s id with
  | some j =>
    if j.live ∧ j.closed = j.count then
      post 0x8303 0xFFFF#16 (leBytes 4 id) (modJob id (fun j => { j with state := .done, key := 0 }) s)
    else s
  | none => s

/-- With the last flight gone: what waited for it goes on (R18, R20, R33, R200, R324). -/
def afterFlights (s : State) : State := if noFlights s then beginStop (enterReduced (effectIfIdle s)) else enterReduced s

/-- A flight closes. -/
def closeFlight (f : Flight) (s : State) : State :=
  let s := s.modLand fun l => { l with flights := l.flights.filter fun x => x.serial != f.serial }
  let s := closeLedger f.serial (closeRec s f) s
  let s := freeFrame f.job f.frame s
  let s := jobDone f.job (modJob f.job (fun j => { j with closed := j.closed + 1 }) s)
  afterFlights s

/-- FRAME_LEAVES_FLIGHT: the last band of a frame has left its last station (R44, R64). -/
def execFrameLeavesFlight (serial : Nat) (s : State) : Host.Outcome State Fault Refusal :=
  .next (match flight s serial with
    | some f => if newelLines s < (lastPos s f : Rat) then s else closeFlight f s
    | none => s)

/-! ### The run sequence (R453) -/

/-- Stations in the run sequence: those not out of service. -/
def runStations (s : State) : List Nat := s.cfg.cur.stationList.filter fun n => !stationOut s n

/-- The polygon of a station turns at its idle rate, within 0.1% (R214, R453). -/
def atIdle (s : State) (n : Nat) : Bool :=
  match polygonOf s.cfg.cur n with
  | some a =>
    let r := (s.axis a).speed * (s.cfgGet 0x01 n 14 1 : Rat)
    decide (absRat (r - idleRate s n) ≤ idleRate s n / 1000)
  | none => true

/-- Polygons are regeared and every lane retrains at the post-divider its next speed wants (R453 step 2). -/
def regearAll (up : Bool) (s : State) : State :=
  let s := (runStations s).foldl
    (fun s n =>
      let (num, den) := polygonRatio s n
      let s := match polygonOf s.cfg.cur n with
        | some a => modGear a (fun g => { g with
            st := .geared, num := num, den := den, acc := 0, ff := newelUnits s * ratioOf num den }) s
        | none => s
      let p := if up then postDivSmall s n (rateAt s n 25) else postDivLarge s n (rateAt s n 25)
      match stationLane s n with
      | some l => if (s.lane l).trained then retrain n l p s else s
      | none => s) s
  s.modLand fun l => { l with run := .regear }

/-- Every lane of the run sequence has finished its retrain. -/
def lanesReady (s : State) : Bool :=
  (runStations s).all fun n => match stationLane s n with
    | some l => !(s.lane l).training
    | none => true

/-- The run sequence takes its next step (R404, R453). -/
def runStep (rates : List (Nat × Nat)) (drain : Nat) (s : State) : State :=
  match s.land.run with
  | .ramp =>
    if holding s && decide (s.gov.speed = 25) && (runStations s).all (atIdle s) then
      regearAll (decide (25 < governorTarget (s.modLand fun l => { l with mode := setMode s.cfg.cur }) rates drain)) s
    else s
  | .regear =>
    if !lanesReady s || s.cfg.pend.isSome then s
    else if 0xFFFFFFFF ≤ s.cfg.highVer then
      -- the commit has no version left (R5, R34)
      finish (waitingOp 0x0401) .range [] (s.modLand fun l => { l with run := .none })
    else
      acceptSet s.cfg.cur false 0xFF (s.modLand fun l => { l with run := .commit })
  | _ => s

/-- RUN_DWELL_END: the dwell at 25 in/s ends; a station without its locks raises a facet phase fault against its
polygon (R159, R453). -/
def execRunDwellEnd (s : State) : Host.Outcome State Fault Refusal :=
  .next (if s.land.run = .dwell then
      (runStations s).foldl
        (fun s n =>
          if hasLocks s n then s
          else
            let h := match polygonOf s.cfg.cur n with | some a => s.cfg.cur.ranked 6 a | none => stH s n
            raise 0x0803 h 0 n s)
        (s.modLand fun l => { l with run := .none })
    else s)

/-! ### The governor's evaluation (R53, R58, R59, R61) -/

/-- At the dwell every affected station is asked to change in its next gap; one with no frame in flight, or whose lane
carries DARK words, changes at once (R61, R162). -/
def askPostDiv (x : Rat) (up : Bool) (s : State) : State :=
  (dwellStations s x up).foldl
    (fun s n =>
      let p := postDivBeyond s n x up
      match stationLane s n with
      | some l =>
        if (s.lane l).training then s
        else if (s.lane l).mode != .dark && s.land.flights.any fun f => f.usesNow n then
          modLane l (fun x => { x with postNext := some p }) s
        else retrain n l p s
      | none => modScan n (fun x => { x with postdiv := p }) s) s

/-- Every affected station has retrained (R61). -/
def dwellOver (s : State) (x : Rat) (up : Bool) : Bool :=
  (dwellStations s x up).isEmpty && (stationsAt s x).all fun n => match stationLane s n with
    | some l => !(s.lane l).training
    | none => true

/-- What the governor does at a dwell: it asks for the changes, and ends it when all are made; a raise goes on from it
early only when every frame in flight stays feasible on it (R53, R61). -/
def dwellWork (s : State) : State :=
  match dwellNow s with
  | none => s
  | some (x, up) =>
    let s := askPostDiv x up s
    if dwellOver s x up then
      let t := endDwell s
      if up && !fetchFeasible t t.land.flights then s else t
    else s

/-- What the governor plans outside THREAD: dwells go on and end; a raise when every prediction of the horizon lies at
least 2 in/s above the speed and every frame in flight stays feasible on the whole raised profile; else a lowering
wherever a prediction asks for one, dwells and ramps in progress included (R53, R58, R59, R61). -/
def governSpeed (rates : List (Nat × Nat)) (drain : Nat) (s : State) : State :=
  let s := dwellWork s
  if s.gov.stopping || s.land.run == .dwell then s
  else
    let ds := demands s rates drain
    let lo := (ds.map (·.2)).foldl min (max 25 (topSpeed s))
    let s := s.modLand fun l => { l with rampWait := false }
    let t := newTarget lo s
    if decide (s.gov.target < lo) && decide (s.gov.speed + 2 ≤ lo) && s.land.stopReq == .none && !stopActive s &&
        fetchFeasible t t.land.flights then t
    else lowerFor ds s

/-- GOVERNOR_EVALUATE: every 16 ms (R58). `rates` are the jobs' ingest rates over the last second in bytes per second,
`drain` the ledger's upstream rate over the last 10 s in records per second. A slow request of a job ends with the
evaluation that follows the next admission position (R55). -/
def execGovernorEvaluate (rates : List (Nat × Nat)) (drain : Nat) (s : State) : Host.Outcome State Fault Refusal :=
  .next (if coreStalled s 1 then s
    else
      let s := pressPart (beginStop (threadCheck (advancePlan s)))
      let s := if s.land.mode = .thread then runStep rates drain s else governSpeed rates drain (dropReq 1000 s)
      regearHeld s)

end Sys2Proof.Machine
end

