-- ==== Sys2Proof/Machine/Emitters.lean ====
section
/-! DEFINITION. The emitter supervisor: heads, the survey, self-tests, defects (09). Retirement itself is
`retireEmitter`. -/

namespace Sys2Proof.Machine

open Sys2Proof

/-- The selector of emitter `e` (R22). -/
def emSel (e : Nat) : Nat := 128 + e

/-- Makes a station serve: its survey cycle and acquisition are complete and its head's calibration is there (R190,
R204, R453). A station disabled by command stays so. -/
def stationUp (n : Nat) (s : State) : State :=
  let x := (s.st n).ems
  let st := (liveOf s (hIndex (stH s n))).st
  if x.cycleDone && !x.calNeeded && x.head.isSome && hasLocks s n &&
      (st == .faulted || (st == .disabled && s.land.run == .dwell)) then
    setUnitState (stH s n) .ready 0 s
  else s

/-! ### Measurement windows (R188, R192, R193) -/

/-- A field of the head words of station `n`. -/
def headWord (s : State) (n o hi lo : Nat) : Nat := bitsOf (s.cfgGet 0x07 n o 4) hi lo

/-- A test current of emitter `e` in 10 µA: `which` is 15 for MI1's field and 7 for MI2's (R192). -/
def testCurrent (s : State) (n e top : Nat) : Nat :=
  (((headEm (s.st n).ems e).iNom * headWord s n 68 top (top - 7) + 50) / 100)

/-- R_d in mΩ and k in ppm from readings in 100 µV and 10 nA at currents in 10 µA (R193). -/
def measured (r : MeasReq) (v1 v2 m1 m2 : Nat) : Rat × Rat :=
  let di : Rat := (r.i2 : Rat) - r.i1
  if di = 0 then (0, 0) else (((v2 : Rat) - v1) * 10000 / di, ((m2 : Rat) - m1) * 1000 / di)

/-- A value lies within `lo` % below and `hi` % above a nominal. -/
def inWindow (x : Rat) (nom lo hi : Nat) : Bool :=
  decide ((nom : Rat) * (100 - lo) / 100 ≤ x) && decide (x ≤ (nom : Rat) * (100 + hi) / 100)

/-- A result with every reading made is within the windows (R193). -/
def withinWindows (s : State) (n : Nat) (r : MeasReq) (v1 v2 m1 m2 : Nat) : Bool :=
  let x := (s.st n).ems
  let bin := match x.head with | some h => h.power | none => 0
  let (rd, k) := measured r v1 v2 m1 m2
  inWindow rd (headEm x r.emitter).rNom (headWord s n 64 31 24) (headWord s n 64 23 16) &&
    inWindow k (s.cfgGet 0x07 n (4 * bin) 4) (headWord s n 64 15 8) (headWord s n 64 7 0)

/-! ### The survey (R192, R194, R195) -/

/-- The request that the header for sweep `k` carries, and the turn after it. -/
def chooseReq (s : State) (n k : Nat) (x : Ems) : Ems :=
  let ask := fun (e : Nat) (x : Ems) =>
    { x with
      tag := (x.tag + 1) % 256
      nextReq := some { emitter := e, sweep := BitVec.ofNat 16 k, tag := x.tag, i1 := testCurrent s n e 15, i2 := testCurrent s n e 7 } }
  if x.head.isNone then { x with nextReq := none }
  else match x.test with
    | some (e, _, _) => ask e x
    | none =>
      if !x.survey then { x with nextReq := none }
      else
        let e := x.turn
        let x := { x with turn := (e + 1) % 36 }
        if (kvGet ({} : Emitter) x.em e).st = .retired then { x with nextReq := none } else ask e x

/-- What a lane that is not swept does to the survey: the emitter whose turn was interrupted keeps it (R195). -/
def surveyPause (n : Nat) (s : State) : State :=
  modEms n (fun x => { x with
    turn := match x.req, x.nextReq with
      | some r, _ => if x.test.isNone then r.emitter else x.turn
      | none, some r => if x.test.isNone then r.emitter else x.turn
      | none, none => x.turn
    req := none, nextReq := none }) s

/-- A missing result: the emitter is requested again, and after four in a row at the station a transient is raised
against its lane, the BER test runs, and the survey moves on (R194; log entry 23). -/
def missResult (n : Nat) (r : MeasReq) (s : State) : State :=
  let m := (s.st n).ems.missing + 1
  if m < 4 then
    modEms n (fun x => { x with missing := m, req := none, turn := if x.test.isNone then r.emitter else x.turn }) s
  else
    let s := modEms n (fun x => { x with
      missing := 0, req := none, turn := if x.test.isNone then (r.emitter + 1) % 36 else x.turn }) s
    match stationLane s n with
    | some l => startBer l false (raise 0x0901 (laneHandle l) 0 r.emitter s)
    | none => s

/-- The supervisor's part of the mark that opens sweep `k` of a swept lane: a result that did not come is missing, the
header sent in the last tail governs now, the next header is made (R171, R192). -/
def surveyMark (n k : Nat) (s : State) : State :=
  let s := match (s.st n).ems.req with
    | some r => missResult n r s
    | none => s
  modEms n (fun x => chooseReq s n (k + 1) { x with req := x.nextReq }) s

/-! ### Judging results (R190, R191, R197) -/

/-- A defect starts the emitter's self-test (R197). -/
def startEmTest (n e : Nat) (s : State) : State :=
  let s := modEms n (fun x => { x with test := some (e, 0, true), turn := (e + 1) % 36 })
    (modEm n e (fun m => { m with st := .suspect }) s)
  raise 0x0A01 (stH s n) (emSel e) e s

/-- The state of an emitter that serves: MAPPED in a slot, else SPARE. -/
def servingState (m : Emitter) : EmState := if m.mapValid then .mapped else .spare

/-- A vacant slot is filled, or the station goes on toward double interlace (R190, R191, R200). -/
def fillVacant (n slot : Nat) (s : State) : State :=
  let x := (s.st n).ems
  if x.dbl || (slotHolder x slot).isSome then s
  else
    let home := match (List.range 36).find? fun e => (headEm x e).home == slot with | some e => e | none => 0
    match pickSpare x (s.st n).scan.sweeps home slot with
    | some k => modEms n (placeEm k slot) s
    | none => askReduced (modEms n (fun x => { x with dblPend := true }) s)

/-- The survey cycle after acceptance is over once every emitter has been measured and no self-test runs (R190). -/
def surveyDone (n : Nat) (s : State) : State :=
  let x := (s.st n).ems
  if x.cycleDone || x.head.isNone || x.test.isSome || x.em.any (fun p => p.2.st == .unmeasured) then s
  else
    let s := (List.range 32).foldl (fun s k => fillVacant n k s) s
    stationUp n (modEms n (fun x => { x with cycleDone := true }) s)

/-- A self-test's result: after four the emitter passes or is retired (R197). -/
def testResult (n e cnt : Nat) (ok good : Bool) (s : State) : State :=
  if cnt + 1 < 4 then modEms n (fun x => { x with test := some (e, cnt + 1, ok && good) }) s
  else
    let s := modEms n (fun x => { x with test := none, turn := (e + 1) % 36 }) s
    if ok && good then
      giveUpStation n (testEnded true (stH s n) (emSel e) (modEm n e (fun m => { m with st := servingState m }) s))
    else giveUpStation n (testEnded false (stH s n) (emSel e) s)

/-- A result arrives in the governed sweep's tail: it is judged against the windows (R193, R196, R197); a survey's
defect starts a self-test, of which a station runs one at a time. -/
def judge (n : Nat) (r : MeasReq) (good : Bool) (s : State) : State :=
  let e := r.emitter
  let k := (s.st n).scan.sweeps
  let s := modEms n (fun x => { x with req := none, missing := 0 }) s
  let s := modEm n e (fun m => { m with good := good, lastGood := if good then k else m.lastGood }) s
  let m := emitter s n e
  let s := match (s.st n).ems.test with
    | some (t, cnt, ok) => if t = e then testResult n e cnt ok good s
        else if good && m.st == .unmeasured then modEm n e (fun m => { m with st := servingState m }) s else s
    | none =>
      if m.st = .retired then s
      else if good then (if m.st = .unmeasured then modEm n e (fun m => { m with st := servingState m }) s else s)
      else startEmTest n e s
  surveyDone n s

/-- MEAS_RESULT: an emitter measurement arrives on a lane (R193). A result that does not match the request, or with a
reading of 0xFFFF, is missing (R193, R194). -/
def execMeasResult (lane sweep emitter tag v1 v2 m1 m2 : Nat) (s : State) : Host.Outcome State Fault Refusal :=
  .next (match laneStation s lane with
    | none => s
    | some n =>
      match (s.st n).ems.req with
      | none => s
      | some r =>
        if r.sweep.toNat ≠ sweep ∨ r.emitter ≠ emitter ∨ r.tag ≠ tag ∨ [v1, v2, m1, m2].contains 0xFFFF then missResult n r s
        else judge n r (withinWindows s n r v1 v2 m1 m2) s)

/-- EMITTER_RESULT_STALE: a MAPPED emitter has had no valid result for a further second (R194). -/
def execEmitterResultStale (station emitter : Nat) (s : State) : Host.Outcome State Fault Refusal :=
  .next (if (kvGet ({} : Emitter) (s.st station).ems.em emitter).st = .mapped ∧ (s.st station).ems.em.any (fun p => p.1 == emitter)
    then note 0x0A02 (stH s station) (emSel emitter) s else s)

/-! ### Heads (R186, R187, R190, R203 to R205) -/

/-- HEAD_READ of a piece of the identity memory (Table 08-8). -/
def askHead (n addr len : Nat) (s : State) : State :=
  match stationLane s n with
  | some l => sendSide l 4 [addr % 256, addr / 256, len] s
  | none => s

/-- Reading the identity memory begins (R186). -/
def readHead (n : Nat) (s : State) : State :=
  askHead n 0 8 (modEms n (fun x => { x with mem := [], readAt := some 0, readErr := 0, presence := false }) s)

/-- The 500 bytes of the identity memory as read. -/
def headImage (x : Ems) : List Byte := (List.range 500).map fun a => kvGet 0#8 x.mem a

/-- The head an identity describes (Table 09-1). -/
def headOf (b : List Byte) : Head :=
  { serial := fieldAt b 4 8, vendor := fieldAt b 0 2, model := bytesAt b 16 16, power := fieldAt b 13 1 / 16
    wave := fieldAt b 13 1 % 16
    ems := (List.range 36).map fun e =>
      { iNom := fieldAt b (64 + 12 * e) 2, rNom := fieldAt b (66 + 12 * e) 2, home := fieldAt b (68 + 12 * e) 1
        mask := BitVec.ofNat 32 (fieldAt b (72 + 12 * e) 4) } }

/-- The identity may be accepted at station `n` (R187). -/
def headOk (s : State) (n : Nat) (b : List Byte) : Bool :=
  let h := headOf b
  fieldAt b 496 4 == (crc32c (b.take 496)).toNat && fieldAt b 2 2 == 1 && fieldAt b 12 1 == 36 &&
    fieldAt b 14 2 == 0 && (bytesAt b 32 32).all (· == 0#8) && (List.range 36).all (fun e => fieldAt b (69 + 12 * e) 3 == 0) &&
    h.power != 0 && s.cfgGet 0x07 n (4 * h.power) 4 != 0 && bitOf (headWord s n 68 31 16) h.wave &&
    (List.range 32).all (fun k => (h.ems.filter fun m => m.home == k).length == 1) &&
    (h.ems.filter fun m => m.home == 0xFF).length == 4 &&
    h.ems.all fun m => (m.home == 0xFF || (decide (m.home < 32) && m.mask.getLsbD m.home)) && between 100 4000 m.iNom &&
      m.rNom != 0

/-- The retirement lists with a serial accepted now: last, its list kept; the one accepted longest ago goes when 64
others stand. Answers the list dropped, too (R205). -/
def acceptList (serial : Nat) (ls : List (Nat × BitVec 36)) : List (Nat × BitVec 36) × Option (Nat × BitVec 36) :=
  let mine := match ls.find? fun p => p.1 == serial with | some p => p | none => (serial, 0#36)
  let rest := ls.filter fun p => p.1 != serial
  match rest with
  | d :: r => if 64 ≤ rest.length then (r ++ [mine], some d) else (rest ++ [mine], none)
  | [] => ([mine], none)

/-- HEAD_LIST gallery record (Table 19-2). -/
def listRecord (serial : Nat) (mask : BitVec 36) (why : Nat) (s : State) : State :=
  galWrite 0x24 0#16 0 0 (leBytes 8 serial ++ leBytes 5 mask.toNat ++ leBytes 1 why) s

/-- The first state of an emitter of a head just accepted (R190). -/
def freshEm (retired : BitVec 36) (h : Head) (e : Nat) : Emitter :=
  let home := (h.ems.getD e {}).home
  if retired.getLsbD e then { st := .retired, covered := true }
  else { st := .unmeasured, slot := home % 32, mapValid := decide (home < 32) }

/-- A new serial invalidates the station's stagger table, scan_start, SOS offset and width tables (R204). -/
def newHead (n : Nat) (s : State) : State :=
  let s := requestStore (s.modCal fun c => { c with inst := kvMod {} c.inst n fun k =>
    { k with stagger := [], scanStart := 0, sosOff := 0, full := [], half := [] } })
  modSt n (fun x => { x with stagger := [], ems := { x.ems with calNeeded := true } }) s

/-- A head whose identity has been read completely is accepted or rejected (R187, R190). -/
def acceptHead (n : Nat) (s : State) : State :=
  let x := (s.st n).ems
  let b := headImage x
  let s := modEms n (fun x => { x with readAt := none, mem := [] }) s
  if !headOk s n b then raise 0x0B01 (stH s n) 0 n (modEms n (fun x => { x with rejected := true, head := none }) s)
  else
    let h := headOf b
    let (ls, gone) := acceptList h.serial s.cal.lists
    let mask := match ls.find? fun p => p.1 == h.serial with | some p => p.2 | none => 0#36
    let s := requestStore (s.modCal fun c => { c with lists := ls })
    let s := match gone with
      | some p => note 0x0B03 (stH s n) 0 (listRecord p.1 p.2 0 s)
      | none => s
    let s := if x.prevSerial.any (· != h.serial) then newHead n s else s
    modEms n (fun x => { x with
      head := some h, prevSerial := some h.serial, rejected := false, readErr := 0, cycleDone := false, turn := 0, test := none
      req := none, nextReq := none, missing := 0, em := (List.range 36).map fun e => (e, freshEm mask h e) }) s

/-- A head is lost: its station is FAULTED, its frames lose the layer, every emitter is UNMEASURED, the map is empty
(R203). A running self-test ends without a result (Table 09-8). -/
def loseHead (n : Nat) (s : State) : State :=
  if (s.st n).ems.head.isNone then s
  else
    let s := modEms n (fun x => { x with
      head := none, presence := false, readErr := 0, test := none, req := none, nextReq := none, cycleDone := false
      em := (List.range 36).map fun e => (e, { st := EmState.unmeasured }) }) s
    raise 0x0B02 (stH s n) 0 n s

/-- A reply to a read of the identity (R186, R187). -/
def identityReply (n addr : Nat) (data : List Nat) (status : Nat) (s : State) : State :=
  let x := (s.st n).ems
  if status = 0 then
    let s := modEms n (fun x => { x with
      readErr := 0, mem := data.zipIdx.foldl (fun m p => kvSet m (addr + p.2) (BitVec.ofNat 8 p.1)) x.mem }) s
    if 496 ≤ addr then acceptHead n s
    else
      let a := addr + 8
      askHead n a (min 8 (500 - a)) (modEms n (fun x => { x with readAt := some a }) s)
  else if status = 1 then modEms n (fun x => { x with readAt := none, mem := [] }) s
  else if x.readErr < 3 then askHead n addr (min 8 (500 - addr)) (modEms n (fun x => { x with readErr := x.readErr + 1 }) s)
  else raise 0x0B01 (stH s n) 0 n (modEms n (fun x => { x with readAt := none, mem := [], rejected := true, readErr := 0 }) s)

/-- A reply to the presence read of the serial (R203). -/
def presenceReply (n : Nat) (data : List Nat) (status : Nat) (s : State) : State :=
  let x := (s.st n).ems
  let serial := leNat (data.map (BitVec.ofNat 8 ·))
  let s := modEms n (fun x => { x with presence := false }) s
  if status = 0 then
    if (match x.head with | some h => h.serial == serial | none => true) then modEms n (fun x => { x with readErr := 0 }) s
    else loseHead n s
  else if status = 1 ∨ 2 ≤ x.readErr then loseHead n s
  else modEms n (fun x => { x with readErr := x.readErr + 1 }) s

/-- HEAD_DATA: a head identity read reply arrives on a lane (R186). -/
def execHeadData (lane addr : Nat) (data : List Nat) (status : Nat) (s : State) : Host.Outcome State Fault Refusal :=
  .next (match laneStation s lane with
    | none => s
    | some n =>
      let x := (s.st n).ems
      if x.readAt = some addr then identityReply n addr data status s
      else if x.presence && addr == 4 then presenceReply n data status s
      else s)

/-- HEAD_PRESENCE_CHECK: the once-per-second read of a station's head: its serial when accepted, else its whole
identity (R203). DESIGN CHOICE: a standby asks the driver for its STATUS with it; the spec gives STATUS_REQ no occasion
(R346, Table 08-8, log entry 158). -/
def execHeadPresenceCheck (station : Nat) (s : State) : Host.Outcome State Fault Refusal :=
  .next (
    let x := (s.st station).ems
    match stationLane s station with
    | some l =>
      if (s.lane l).training || !(s.lane l).trained then s
      else
        let s := if standby s then sendSide l 6 [] s else s
        if x.head.isSome then askHead station 4 8 (modEms station (fun x => { x with presence := true }) s)
        else if x.readAt.isNone then readHead station s else s
    | none => s)

end Sys2Proof.Machine
end

