-- ==== Sys2Proof/Machine/Former.lean ====
section
/-! DEFINITION. The beam word former: which line each beam writes, the pixels of a half, the words of a sweep and the
header in its tail (R87, R92, R104 to R109, R156, R168 to R171, R176, R182, R183). -/

namespace Sys2Proof.Machine

open Sys2Proof

/-! ### Sweeps on the web (R42, R105, R142, R158, R161) -/

/-- a: newel lines per sweep of station `n` (R142). -/
def advanceOf (s : State) (n : Nat) : Nat := s.cfg.cur.lineStep / (if (s.st n).ems.dbl then 2 else 1)

/-- The total trim asked for, in 1/256 line, and whether the clamp took part (R161). -/
def trimWanted (s : State) (n : Nat) : Int × Bool :=
  let x := (s.st n).scan
  let a : Int := advanceOf s n
  let t := x.tReg + x.tRider
  (max (-128 * a) (min (128 * a - 1) t), decide (t < -128 * a ∨ 128 * a - 1 < t))

/-- One sweep of the slew: 1/256 sweep (R161). -/
def slew (a : Nat) (now want : Int) : Int :=
  if want - now ≤ a ∧ now - want ≤ a then want else if now < want then now + a else now - a

/-- Reduces a number of sweeps modulo 1 into -1/2 to +1/2. -/
def wrapHalf (x : Rat) : Rat := let y := x - (x.floor : Rat); if y < 1 / 2 then y else y - 1

/-- Newel position in 1/256 line. -/
def newelFine (s : State) : Int := s.newel.pos / (2 ^ 24 : Nat)

/-- Position of a mark on the sweep grid, trim taken off, in lines. -/
def markLines (s : State) (n : Nat) : Rat := ((newelFine s - (s.st n).scan.tNow : Int) : Rat) / 256

/-- The landing whose grid a station's marks keep: that of the oldest flight that has not left the station, else of the
landing sequence (R158). -/
def gridLanding (s : State) (n : Nat) : Int :=
  match s.land.flights.find? fun f => f.usesNow n with
  | some f => f.landing
  | none => match s.land.flights.getLast? with
    | some f => f.landing
    | none => s.land.next.getD 0

/-- e_f of a mark now: the newel's distance from the target grid SL + k h, in sweeps modulo 1 (R42, R158). -/
def facetError (s : State) (n : Nat) : Rat :=
  let a := advanceOf s n
  if a = 0 then 0 else wrapHalf ((markLines s n - ((gridLanding s n + offsetOf s n : Int) : Rat)) / (a : Nat))

/-- Where a mark stands in a flight at station `n`, in half bands from its station landing: even numbers open band
sweeps, odd ones the second sweeps of double interlace (R105, R106). -/
def markIndex (s : State) (n : Nat) (f : Flight) : Int :=
  let y := (markLines s n - (stationLanding s f n : Rat)) / (f.h : Nat)
  if (s.st n).ems.dbl then roundHalf (2 * y) else 2 * roundHalf y

/-- The line of a flight that beam `k` writes in the sweep a mark opens, in the station's resolution, counted from line
0 of band 0 (R105, Table 05-2). -/
def beamLine (s : State) (n : Nat) (f : Flight) (k : Nat) : Int := 16 * markIndex s n f + k

/-- Some beam writes a line of the flight in the sweep that a mark opens (R107). -/
def writesFrame (s : State) (n : Nat) (f : Flight) : Bool :=
  f.usesNow n && decide (0 ≤ beamLine s n f 31) && decide (beamLine s n f 0 < 32 * f.bands)

/-- The sweep that a mark opens carries PIXEL words (R107). -/
def pixelSweep (s : State) (n : Nat) : Bool := s.land.flights.any (writesFrame s n)

/-- The mark falls in a sweep that lies wholly outside the frames at station `n` (R107, R162). -/
def inGap (s : State) (n : Nat) : Bool := !pixelSweep s n

/-! ### Pixels of a half (R87, R92, R103, R104) -/

/-- Pixel `x` of line `y` of a half at a station `ws` pixels wide: the band's pixel, under TILE that of `x` modulo its
width, level 0 beyond; a word that an SRAM error blanked is level 0. Line `y` begins at byte 12,288 y, two pixels to a
byte (R104). -/
def Half.pixel (h : Half) (ws x y : Nat) : Nat :=
  if ws ≤ x ∨ 32 ≤ y ∨ h.width = 0 ∨ h.blank.contains ((12288 * y + x / 2) / 8) then 0
  else
    let x := if h.tile then x % h.width else x
    if h.width ≤ x then 0
    else ((h.cells.getD (y / 8 * (h.width / 8) + x / 8) []).getD (8 * (y % 8) + x % 8) 0) % 16

/-- Byte `b` of a half: even pixels in the low nibble (R104). -/
def Half.byte (h : Half) (ws b : Nat) : Byte :=
  let y := b / 12288
  let x := 2 * (b % 12288)
  BitVec.ofNat 8 (h.pixel ws x y + 16 * h.pixel ws (x + 1) y)

/-- The half that beam `k` reads in this sweep, and the line of it (Table 05-2). -/
def beamSource (x : Station) (k : Nat) : Half × Nat :=
  if x.ems.dbl && x.odd then (if k < 16 then (x.pHalf, 16 + k) else (x.xHalf, k - 16)) else (x.xHalf, k)

/-! ### Beam slots (R108, R109, R171) -/

/-- What the state words and a stagger table give the beam slots. -/
def slotUses (x : Ems) (stagger : KV (BitVec 16)) : List (Option SlotUse) :=
  (List.range 32).map fun k => (slotHolder x k).map fun e =>
    let w := (kvGet 0#16 stagger e).toNat
    { emitter := e, coarse := w / 64, fine := w % 64 }

/-- A calibration committed for station `n` goes in at the next mark: no SOS_CALIBRATE runs there (R412, Table 21-21). -/
def calDue (s : State) (n : Nat) : Option (KV (List Byte)) :=
  if (actOf s 2 (stH s n)).running then none else kvFind s.cal.committed n

/-- The stagger table of station `n` from its next mark on (R108, R155). -/
def nextStagger (s : State) (n : Nat) : KV (BitVec 16) :=
  let k := kvGet ({} : CalSt) s.cal.inst n
  match calDue s n with
  | some os => ((os.filter fun p => p.1 == 1).foldl (fun k p => k.put p.1 p.2) k).stagger
  | none => k.stagger

/-- The beam slots of the sweep now sent: those its header carried, the map changing only at a mark (R108, R171). -/
def slotsNow (s : State) (n : Nat) : List (Option SlotUse) :=
  match (s.st n).scan.gov with
  | some h => h.map
  | none => slotUses (s.st n).ems (s.st n).stagger

/-- D: the largest COARSE among the emitters mapped (R109). -/
def maxCoarse (l : List (Option SlotUse)) : Nat := l.foldl (fun m u => match u with | some u => max m u.coarse | none => m) 0

/-- W_s + D of the sweep now sent. -/
def pixelWords (s : State) (n : Nat) : Nat := s.cfgGet 0x01 n 4 2 + maxCoarse (slotsNow s n)

/-- SOLO(l): the lowest level whose HALF width is nearest FULL(l); SOLO(0) is 0 (R201). -/
def solo (full half : List Nat) (l : Nat) : Nat :=
  let off := fun k => ((half.getD k 0 : Int) - (full.getD l 0 : Int)).natAbs
  if l = 0 then 0
  else (List.range 16).foldl (fun best k => if off k < off best then k else best) 0

/-- Beam `k` writes its line alone: the sweep's header carried HALF and the slot's partner is vacant (R201). -/
def soloBeam (s : State) (n k : Nat) : Bool :=
  match (s.st n).scan.gov with
  | some h => h.half && ((h.map[(k + 16) % 32]?).join).isNone
  | none => false

/-- The level sent for a decoded level: SOLO's for a beam that writes its line alone (R201). -/
def sentLevel (s : State) (n k level : Nat) : Nat :=
  match soloBeam s n k, stationLane s n with
  | true, some l => solo (s.lane l).full (s.lane l).half level
  | _, _ => level

/-- The levels of the beams in PIXEL word `i`: beam bn, mapped to e, carries pixel `i` less COARSE(e) of its line; a
synthesiser that is not locked sends level 0 (R109, R146). -/
def pixelData (s : State) (n i : Nat) : Nat :=
  let x := s.st n
  if !x.scan.lock then 0
  else ((slotsNow s n).zipIdx.map fun p => match p.1 with
    | some u =>
      let (h, y) := beamSource x p.2
      let level := if u.coarse ≤ i then h.pixel (s.cfgGet 0x01 n 4 2) (i - u.coarse) y else 0
      sentLevel s n p.2 level * 2 ^ (4 * p.2)
    | none => 0).sum

/-- The header sent in this sweep's tail: it governs the next sweep, and carries the stagger table that its mark installs
(R171, Table 07-11). SOS_EN is always set; which emitter lights
the SOS crossing the spec leaves open (log entry 154). -/
def makeHdr (s : State) (n : Nat) : SweepHdr :=
  let x := s.st n
  let map := slotUses x.ems (nextStagger s n)
  { sweepNo := (x.scan.sweeps + 1) % 65536, m := x.scan.nextM, half := x.ems.dbl, meas := x.ems.nextReq
    sosEm := (Config.sosEmitter n).val, pixels := s.cfgGet 0x01 n 4 2 + maxCoarse map, map := map }

/-! ### The words of a lane (R168, R169, R176, R182) -/

/-- The lane carries a sweep with a tail: swept, or IDLE sweeps after DARK or in reacquisition (R107, R157, R184). -/
def tailed (s : State) (n : Nat) : Bool :=
  match stationLane s n with
  | some l => (s.lane l).mode == .swept || ((s.lane l).mode == .idle && ((s.lane l).leave == 1 || (s.st n).scan.reacq))
  | none => false

/-- A word leaves lane `l`: scrambled, with its marker and CRC, into the driver's input that PAIR_SLOT selects (R111,
R165). -/
def emitWord (l : Nat) (w : FwdWord) (s : State) : State :=
  let (r, b) := w.encode (s.lane l).scr
  (modLane l (fun x => { x with scr := r }) s).send (.word l s.boot.pairSlot b)

/-- A word whose SLICE carries the next sideband byte (R176). -/
def sideWord (l : Nat) (t : WordType) (data : Nat) (s : State) : State :=
  emitWord l { type := t, slice := sideSlice (s.lane l).tx.head?, data := data }
    (modLane l (fun x => { x with tx := x.tx.drop 1 }) s)

/-- The DATA of a word that a BER test may fill: the next 128 bits of the pattern, counted, or 0 (R182). -/
def berData (l : Nat) (s : State) : Nat × State :=
  match (s.lane l).ber with
  | some b =>
    let (r, d) := patternFrom 128 0 (s.lane l).prbs
    (d, modLane l (fun x => { x with prbs := r, ber := some { b with bits := b.bits + 128 } }) s)
  | none => (0, s)

/-- Word `i` of a sweep of station `n` on lane `l`: LEAD, PIXEL or IDLE words, then GUARD, both header copies and MEAS
words (R169, Tables 08-4 and 08-5). -/
def sweptWord (n l i : Nat) (s : State) : State :=
  let x := (s.st n).scan
  let lead := (kvGet ({} : CalSt) s.cal.inst n).scanStart
  let pix := pixelWords s n
  let j := i - (lead + pix)
  let ret := fun (role index data : Nat) (s : State) =>
    emitWord l { type := .retrace, slice := retraceSlice role index, data := data } s
  if i < lead then ret 1 (if i = 0 then 1 else 0) 0 s
  else if i < lead + pix then
    if (s.lane l).mode = .swept ∧ x.pixel then sideWord l .pixel (pixelData s n (i - lead)) s
    else let (d, s) := berData l s; sideWord l .idle d s
  else if j < 16 then ret 2 0 0 s
  else if j < 26 then
    let s := if j = 16 then modScan n (fun x => { x with hdr := some (makeHdr s n) }) s else s
    let h := ((s.st n).scan.hdr).getD {}
    ret (if j < 21 then 3 else 4) ((j - 16) % 5) (h.word ((j - 16) % 5)) s
  else let (d, s) := berData l s; ret 5 0 d s

/-- One word of lane `l` in the clock of station `n`. In its initial training, once the driver is linked, a lane
carries DARK words, which take the sideband that TRAIN words do not (log entry 155); DARK words have DATA 0, their SLICE
stays the sideband's (R176, R183). -/
def laneWord (n l : Nat) (s : State) : State :=
  let x := s.lane l
  match x.mode with
  | .off => s
  | .dark => sideWord l .dark 0 s
  | .training =>
    if x.initial && x.linkUp then sideWord l .dark 0 s
    else emitWord l { type := .train, slice := x.train.toNat } (modLane l (fun x => { x with train := x.train + 1#8 }) s)
  | .swept => sweptWord n l (s.st n).scan.word s
  | .idle =>
    if tailed s n && stationLane s n == some l then sweptWord n l (s.st n).scan.word s
    else let (d, s) := berData l s; sideWord l .idle d s

/-- One pixel period of station `n`: every lane that its synthesiser clocks sends a word, and the sweep's word count
goes on (R109, R141). -/
def pixelPeriod (n : Nat) (s : State) : State :=
  let s := ((List.range 16).filter fun l => laneServes s l == some n).foldl (fun s l => laneWord n l s) s
  modScan n (fun x => { x with word := x.word + 1 }) s

/-- Words whose boundaries the oscillator passes between two counts of its cycles: one for each 80 P cycles, and at
12.5 GHz never more than two in a reference cycle (R141, R144). -/
def wordsPassed (p : Nat) (a b : Rat) : Nat :=
  if p = 0 then 0 else min 2 ((b / (80 * p : Nat)).floor - (a / (80 * p : Nat)).floor).toNat

end Sys2Proof.Machine
end

