-- ==== Sys2Proof/Machine/Sweep.lean ====
section
/-! DEFINITION. The print pipeline at a station: start-of-scan marks, consumption, decoding, exposure, and the
synthesiser (05, 07, R9, R10, R89 to R94, R99 to R109, R141 to R162). -/

namespace Sys2Proof.Machine

open Sys2Proof

/-! ### Decoding (R9, R83, R89 to R94, R100, R101, R115) -/

/-- The riders a band carries. -/
def ridersOf (b : List Byte) : List RiderL :=
  (List.range (bRiders b)).map fun i =>
    let r := riderBytes b i
    { op := fieldAt r 0 2, sel := fieldAt r 3 1, target := BitVec.ofNat 16 (fieldAt r 4 2), arg := riderArg r }

/-- A band check failure at load or decode: the note with the check's code, a stream band's failure clears the history's
VALID, and the layer fails at that band (R62, R89, R90). -/
def bandFails (n : Nat) (b : RBand) (code : Nat) (s : State) : State :=
  let s := if bStream b.data then modSt n (fun x => { x with hist := { x.hist with valid := false } }) s else s
  failLayer b.serial n b.id.band 0x11 (note (0x0700 + code) (stH s n) 0 s)

/-- The decoder starts a band: it is consumed, the anchor moves, band 0's riders are latched (R9, R101, R115). -/
def beginDecode (n : Nat) (b : RBand) (s : State) : State :=
  modSt n (fun x => { x with
    dec := .decoding, cur := some b, curMark := false
    anchor := some (b.id.job, b.id.layer, bh b.data 24 4)
    riders := if b.id.band = 0 then ridersOf b.data else x.riders
    ridersFor := if b.id.band = 0 then b.serial else x.ridersFor }) s

/-- A resident band has been decoded, has failed or is cancelled: its space and that of those before it which are gone
too is free; its offset table is free at once (R99, R100). -/
def freeBand (n serial band : Nat) (s : State) : State :=
  let gone := fun (b : RBand) => if b.serial = serial ∧ b.id.band = band then { b with gone := true } else b
  modSt n (fun x => { x with
    buf := (x.buf.map gone).dropWhile (·.gone)
    tabs := x.tabs.filter fun t => !(t.serial == serial && t.id.band == band) }) s

/-- A resident band that station `n` will not print: its flight is over there, has failed at it or before, or prints the
spoil mark instead (R62, R63). -/
def bandDead (s : State) (n : Nat) (b : RBand) : Bool :=
  match flight s b.serial with
  | some f => f.failsAt n b.id.band || f.marking.contains n || f.left.contains n
  | none => true

/-- The resident bands of station `n` that it will not print are gone (R62, R63, R99). -/
def dropFailed (n : Nat) (s : State) : State :=
  ((s.st n).buf.filter fun b => !b.gone && bandDead s n b).foldl (fun s b => freeBand n b.serial b.id.band s) s

/-- The offset table of a resident band is computed (R100). -/
def hasTable (x : Station) (b : RBand) : Bool := x.tabs.any fun t => t.serial == b.serial && t.id == b.id

/-- The set under which a flight prints at its stations from their landings on: a pending one that the frame was
admitted under, else the current one (R15, R33, R34). -/
def printSet (s : State) (f : Flight) : CfgSet :=
  match s.cfg.pend with
  | some p => if p.bound.any fun b => decide (b ≤ f.serial) then p.set else s.cfg.cur
  | none => s.cfg.cur

/-- Consumption of band `k` of a flight at its mark (R9, R49, R63, R100): the spoil mark band, taken one sweep early from
the set the landing will find (R15), the band itself, or a wait for one that is late. Band 0 counts as consumed
whatever becomes of it. -/
def consume (n : Nat) (f : Flight) (k : Nat) (s : State) : State :=
  let s := modFlight f.serial (fun f => { f with consumed := kvSet f.consumed n (max (k + 1) (kvGet 0 f.consumed n)) }) s
  let x := s.st n
  if f.marking.contains n then
    let s := dropFailed n s
    match spoilBand (printSet s f) (s.cfg.cur.engineOf n) with
    | some b => modSt n (fun x => { x with
        dec := .decoding, curMark := true, cur := some { serial := f.serial, id := { job := f.job, frame := f.frame, band := k }, data := b } }) s
    | none => s
  else if !f.stations.contains n || f.failsAt n k then dropFailed n s
  else match x.buf.find? fun b => b.serial == f.serial && b.id.band == k && !b.gone with
    | some b =>
      if b.ok && hasTable x b then beginDecode n b s else modSt n (fun x => { x with dec := .waiting, cur := some b, curMark := false }) s
    | none => modSt n (fun x => { x with
        dec := .waiting, curMark := false, cur := some { serial := f.serial, id := { job := f.job, layer := (f.layerAt n).getD 0, frame := f.frame, band := k } } }) s

/-- The mark at which a resident band is consumed is at most one sweep ahead, or past: its offsets may be computed
(R9, R100). -/
def offsetsDue (s : State) (n : Nat) (b : RBand) : Bool :=
  match flight s b.serial with
  | some f => decide (((stationLanding s f n + ((b.id.band : Int) - 1) * f.h - advanceOf s n : Int) : Rat) ≤ newelLines s)
  | none => false

/-- The next resident band whose offsets are not computed yet, in consumption order; there are two tables (R100). -/
def nextOffsets (s : State) (n : Nat) : Option RBand :=
  let x := s.st n
  if 2 ≤ x.tabs.length then none
  else match x.buf.find? fun b => b.ok && !b.gone && !hasTable x b with
    | some b => if offsetsDue s n b then some b else none
    | none => none

/-- The offset table of a band: the first payload bit of each of its cells (R78). -/
def offTable (b : RBand) : OffTab :=
  { serial := b.serial, id := b.id
    offs := cellOffsets (bStream b.data) (bRatio b.data) (mapBits b.data) (cellCount b.data) 0 0 (payBits b.data) }

/-- OFFSET_COMPUTE_COMPLETE: a band's cell offsets are computed; the decoder starts it at once if it waits for it
(R100). -/
def execOffsetComputeComplete (station : Nat) (s : State) : Host.Outcome State Fault Refusal :=
  .next (match nextOffsets s station with
    | none => s
    | some b =>
      let s := modSt station (fun x => { x with tabs := x.tabs ++ [offTable b] }) s
      let x := s.st station
      if x.dec = .waiting ∧ (x.cur.any fun c => c.serial == b.serial && c.id == b.id) then beginDecode station b s else s)

/-- The history after a stream band (R90, R93): replaced, and saved when the band asks. -/
def newHistory (b : List Byte) (cells : List (List Nat)) (x : Station) : Station :=
  if !bStream b then x
  else
    let h : Hist := { valid := true, width := bWidth b, job := (bId b).job, layer := (bId b).layer, cells := cells }
    { x with hist := h, save := if bFlag b 4 then h else x.save, saveCopying := x.saveCopying || bFlag b 4 }

/-- A band of a flight is printed as protected at station `n`: its protected_crc joins the station's list, for a spoil
mark the mark's own (R84). -/
def addCrc (n : Nat) (data : List Byte) (f : Flight) : Flight :=
  { f with crcs := kvMod [] f.crcs n (· ++ [bProtected data]) }

/-- DECODE_COMPLETE: a band's decode ends and its protected CRC is compared (R83, R84, R90 to R94). A failed spoil mark
leaves its band at level 0 (R95). -/
def execDecodeComplete (station : Nat) (s : State) : Host.Outcome State Fault Refusal :=
  .next (
    let x := s.st station
    match x.cur with
    | none => s
    | some b =>
      if x.dec ≠ .decoding then s
      else
        let done := fun (h : Half) (s : State) => modSt station (fun x => { x with dec := .idle, cur := none, curMark := false, wHalf := h }) s
        let half := fun (cs : List (List Nat)) =>
          ({ serial := b.serial, band := b.id.band, width := bWidth b.data, tile := bFlag b.data 2, cells := cs } : Half)
        if x.curMark then
          match decodeBand {} {} b.data with
          | .cells cs true => modFlight b.serial (addCrc station b.data) (done (half cs) s)
          | _ => done (half []) (note 0x0715 (stH s station) 0 s)
        else
          let s := freeBand station b.serial b.id.band s
          let live := (startHist x.hist x.save b.data).getD x.hist
          match decodeBand x.hist x.save b.data with
          | .noHistory => bandFails station b 0x14 (done {} s)
          | .cells _ false =>
            let drop := fun (x : Station) => if bStream b.data then { x with hist := { live with valid := false } } else x
            bandFails station b 0x15 (done {} (modSt station drop s))
          | .cells cs true =>
            modFlight b.serial (addCrc station b.data) (modSt station (newHistory b.data cs) (done (half cs) s)))

/-- SAVE_SLOT_COPY_COMPLETE: the mirrored copy of a station's save slot reaches the partner in full (R94). -/
def execSaveSlotCopyComplete (station : Nat) (s : State) : Host.Outcome State Fault Refusal :=
  .next (if (s.st station).saveCopying then
      modSt station (fun x => { x with saveCopying := false, peerSave := x.save }) s
    else s)

/-! ### Exposure (R10, R63, R107, R147, R157, R159, R184, R199) -/

/-- The lane of station `n` is in DARK words, or in the sweep after them: what an interlock leaves (R184). -/
def darkNow (s : State) (n : Nat) : Bool :=
  match stationLane s n with
  | some l => (s.lane l).mode == .dark || (s.lane l).leave != 0
  | none => false

/-- The lane of station `n` takes PIXEL words. -/
def sweptNow (s : State) (n : Nat) : Bool :=
  match stationLane s n with
  | some l => (s.lane l).mode == .swept && (s.st n).scan.lock
  | none => false

/-- Band `k` of a flight is exposed: what the flight and its record keep of it (R63, R199, Table 19-3). While the
interlock gate is closed the frame is SPOILED, whether or not this lane is dark (Table 03-6). -/
def noteExposure (n k : Nat) (s : State) (f : Flight) : Flight :=
  let f := { f with
    exposed := kvSet f.exposed n (k + 1), lastExp := kvSet f.lastExp n (s.st n).scan.sweeps, used := setBit f.used n
    mark := if f.marking.contains n then f.mark ||| BitVec.ofNat 4 (2 ^ s.cfg.cur.engineOf n) else f.mark }
  let f := if s.intlk.closedBy = 0#8 then f else f.spoil 0x15
  if (s.st n).scan.sweeps ≤ (s.st n).ems.markUntil ∨ (s.st n).ems.dblPend then markEmitterF n 0 s f else f

/-- The halves swap, or a blank half is exposed. -/
def swapHalves (n serial k : Nat) (have_ : Bool) (s : State) : State :=
  modSt n (fun x => { x with xHalf := if have_ then x.wHalf else { serial := serial, band := k }, wHalf := {} }) s

/-- Band `k` of a flight is in exposure at station `n` in this sweep. -/
def inExposure (n serial k : Nat) (s : State) : State := modSt n (fun x => { x with expo := x.expo ++ [(serial, k)] }) s

/-- The mark opens the exposure sweep of band `k` of a flight at station `n` (R9, R10). A layer that has failed at that
band or before is level 0. -/
def exposeBand (n : Nat) (f : Flight) (k : Nat) (s : State) : State :=
  let x := s.st n
  let mine := f.marking.contains n
  if !mine && !f.stations.contains n then s
  else if !mine && f.failsAt n k then swapHalves n f.serial k false s
  else
    let have_ := x.wHalf.serial == f.serial && x.wHalf.band == k && x.dec != .decoding
    let s := if x.dec = .idle ∨ have_ then s else freeBand n f.serial k (modSt n (fun x => { x with dec := .idle, cur := none }) s)
    if darkNow s n then
      -- an interlock holds the lane dark: the frame is SPOILED, the band is not printed (Table 03-6)
      let s := modFlight f.serial (fun f => f.spoil 0x15) (swapHalves n f.serial k have_ s)
      if have_ || mine then
        inExposure n f.serial k (modFlight f.serial (fun f => { f with exposed := kvSet f.exposed n (k + 1) }) s)
      else failLayer f.serial n k 0x11 s
    else if !sweptNow s n || (!have_ && !mine) then failLayer f.serial n k 0x11 (swapHalves n f.serial k false s)
    else
      let s := inExposure n f.serial k (modFlight f.serial (noteExposure n k s) (swapHalves n f.serial k have_ s))
      -- between the lock window and the following-error limit the sweep prints, with a note (R159)
      if (1 : Rat) / 16 < absRat x.scan.ef ∧ x.scan.overLim = false then note 0x0804 (stH s n) 0 s else s

/-- A new sweep begins: in double interlace the half exposed may be read once more (R106). -/
def rotateHalves (n : Nat) (s : State) : State :=
  modSt n (fun x => { x with pHalf := if x.ems.dbl then x.xHalf else {}, xHalf := {}, odd := false, expo := [] }) s

/-- The second sweep of band `k` in double interlace, for the beams that read it in this sweep: it stays the half
exposed in an even sweep, the half before in an odd one (R105, R106, Table 05-2). -/
def continueBand (n : Nat) (f : Flight) (k : Nat) (odd : Bool) (s : State) : State :=
  let x := s.st n
  if x.pHalf.serial ≠ f.serial ∨ x.pHalf.band ≠ k then s
  else
    let h := if !f.marking.contains n && f.failsAt n k then { x.pHalf with cells := [] } else x.pHalf
    let s := modSt n (fun x => if odd then { x with pHalf := h } else { x with xHalf := h, pHalf := {} }) s
    inExposure n f.serial k
      (modFlight f.serial (fun f => { f with lastExp := if f.used.getLsbD n then kvSet f.lastExp n (s.st n).scan.sweeps else f.lastExp }) s)

/-- A flight's last band has left station `n` (R44); the station has exposed a frame more (R407). -/
def leaveStation (n : Nat) (f : Flight) (s : State) : State :=
  if f.left.contains n then s
  else
    let s := if f.used.getLsbD n then countFrame n s else s
    modFlight f.serial (fun f => { f with left := f.left ++ [n] }) s

/-- What the mark that opens a sweep exposes of a flight: the band whose exposure begins, and in double interlace the
one that goes on (R9, R105 to R107). -/
def exposeFlight (n : Nat) (u : Int) (s : State) (f : Flight) : State :=
  let k := u / 2
  let first := fun (k : Int) (s : State) => if 0 ≤ k ∧ k < f.bands then exposeBand n f k.toNat s else s
  if !(s.st n).ems.dbl then first k s
  else
    let odd := u % 2 == 1
    let s := if writesFrame s n f then modSt n (fun x => { x with odd := odd }) s else s
    let s := if 0 ≤ k ∧ k < f.bands then continueBand n f k.toNat odd s else s
    if odd then first (k + 1) s else s

/-- What a mark does for one flight: exposure, then consumption of the band after, then leaving (R9, R49, R106). -/
def markFlight (n : Nat) (s : State) (f : Flight) : State :=
  let u := markIndex s n f
  let k := u / 2
  let s := exposeFlight n u s f
  let f := (flight s f.serial).getD f
  let s := if u % 2 = 0 ∧ 0 ≤ k + 1 ∧ k + 1 < f.bands then consume n f (k + 1).toNat s else s
  if f.bands ≤ k then leaveStation n f s else s

/-! ### Marks (R155 to R158, R160, R161, R184) -/

/-- A calibration committed for station `n` is installed, but for a profile, which may have to wait; the driver gets its
tables, and the store is written (R412). It waits for a running SOS_CALIBRATE to end (Table 21-21). -/
def installCal (n : Nat) (s : State) : State :=
  match calDue s n with
  | none => s
  | some os =>
      let s := s.modCal fun c =>
        { c with
          committed := kvDel c.committed n
          chirpNew := match kvFind os 3 with | some b => kvSet c.chirpNew n b | none => c.chirpNew
          inst := kvMod {} c.inst n fun k => (os.filter fun p => p.1 != 3).foldl (fun k p => k.put p.1 p.2) k }
      let s := requestStore (match stationLane s n with | some l => writeTables l s | none => s)
      if (kvGet ({} : CalSt) s.cal.inst n).complete then stationUp n (modEms n (fun x => { x with calNeeded := false }) s) else s

/-- CAL_COMMIT ends once all it installs is in place (R155, R412). -/
def calDone (n : Nat) (s : State) : State :=
  if (kvFind s.cal.committed n).isNone && (kvFind s.cal.chirpNew n).isNone then finish (waitingOn 0x0902 (stH s n)) .ok [] s
  else s

/-- What was installed since the last mark takes effect together (R149, R155, R108): a band table, a stagger table, and
a chirp profile, which while a frame is in flight at the station must not have the smaller window count. -/
def installAt (n : Nat) (s : State) : State :=
  let s := installCal n s
  let s := match (s.st n).scan.tableNew with
    | some t => (modScan n (fun x => { x with table := t, tableNew := none }) s).modCal fun c =>
        { c with inst := kvMod {} c.inst n fun k => { k with table := t } }
    | none => s
  let s := modSt n (fun x => { x with stagger := (kvGet ({} : CalSt) s.cal.inst n).stagger }) s
  match kvFind s.cal.chirpNew n with
  | none => calDone n s
  | some p =>
    let nsw := s.cfgGet 0x01 n 6 2
    let cnt := fun (b : List Byte) => windowCount (chirpSegs b) nsw ((chirpWindow b : Rat) / 65536)
    let flying := s.land.flights.any fun f => f.usesNow n
    if flying && decide (cnt p < cnt (kvGet ({} : CalSt) s.cal.inst n).chirp) then s
    else calDone n (requestStore (s.modCal fun c =>
      { c with chirpNew := kvDel c.chirpNew n, inst := kvMod {} c.inst n fun k => { k with chirp := p } }))

/-- The commanded facet rate of a station: the web's line rate over a, and in THREAD at least the idle rate (R142). -/
def facetRate (s : State) (n : Nat) : Rat :=
  let a : Rat := (advanceOf s n : Nat)
  let r := if a = 0 then 0 else s.gov.speed * 1200 / a
  if s.land.mode = .thread then max r (idleRate s n) else r

/-- N_sw in force at a station: since its last mark the set's of then (R142, R155). -/
def nswNow (s : State) (n : Nat) : Nat := (s.st n).scan.nsw.getD (s.cfgGet 0x01 n 6 2)

/-- s_pred: the commanded rate corrected by the mean SOS residual of the last revolution (R156). -/
def predict (s : State) (n : Nat) : Rat :=
  let x := (s.st n).scan
  let k := s.cfgGet 0x01 n 14 1
  let nsw : Rat := nswNow s n
  let rs := x.resids.take k
  if rs.isEmpty ∨ nsw = 0 then facetRate s n
  else facetRate s n / (1 + (rs.sum / (rs.length : Nat)) / 64 / nsw)

/-- SOS_OK is cleared: the sweep goes on at level 0, the frame in exposure loses the layer, IDLE sweeps follow from the
next mark, SOS_LOST opens against the lane (R157). -/
def loseSos (n : Nat) (s : State) : State :=
  let s := dropSweep n (modScan n (fun x => { x with sosOk := false, goodSos := 0, reacq := true }) s)
  match stationLane s n with
  | some l => raise 0x0802 (laneHandle l) 0 n s
  | none => s

/-- A sweep without a good timestamp; the fourth in a row clears SOS_OK (R157). -/
def badTimestamp (n : Nat) (s : State) : State :=
  let x := (s.st n).scan
  let s := modScan n (fun x => { x with badSos := x.badSos + 1, goodSos := 0 }) s
  if x.sosOk && decide (4 ≤ x.badSos + 1) then loseSos n s else s

/-- The handle of a station's polygon. -/
def polygonH (s : State) (n : Nat) : Handle :=
  match polygonOf s.cfg.cur n with
  | some a => s.cfg.cur.ranked 6 a
  | none => stH s n

/-- FACET_LOCK is declared: acquisition is complete (R160); a facet phase self-test passes with it (R159). -/
def facetLocked (n : Nat) (s : State) : State :=
  let s := modScan n (fun x => { x with facetLock := true, acquiring := false, reacq := false }) s
  let s := if openOn s (polygonH s n) 0x0803 then testEnded true (polygonH s n) 0 s else s
  stationUp n s

/-- Step 1 of an acquisition: the station's polygon is geared (R160); the pair's standby, which drives no axis, watches the
polygon that its peer drives. -/
def polygonGeared (s : State) (n : Nat) : Bool :=
  standby s || match polygonOf s.cfg.cur n with
    | some a => (s.axis a).gear.st == .geared
    | none => true

/-- The facet phase loop's sample of a mark, and what it does to FACET_LOCK (R158 to R160). -/
def facetSample (n : Nat) (s : State) : State :=
  let e := facetError s n
  let lim : Rat := (s.cfgGet 0x06 n 8 1 : Rat) / 64
  let inside := decide (absRat e ≤ 1 / 16)
  let x := (s.st n).scan
  let good := x.acquiring && x.sosOk && inside && polygonGeared s n
  let s := modScan n (fun x => { x with
    ef := e, overLim := decide (lim < absRat e)
    goodFacet := if good then x.goodFacet + 1 else 0
    facetLock := if x.acquiring then x.facetLock else x.facetLock && inside || (inside && x.sosOk) }) s
  if good && decide (64 ≤ x.goodFacet + 1) then facetLocked n s else s

/-- The lane of station `n` at a mark: acknowledged tables become active (R174); a post-divider change begins in a gap
(R162); a lane leaving DARK has one IDLE sweep, unless something closes it again (R184); a trained lane becomes swept
(R169); reacquisition brings IDLE sweeps (R157). -/
def markLane (n : Nat) (s : State) : State :=
  match stationLane s n with
  | none => s
  | some l =>
    let s := modLane l (fun x => match x.commitDue, x.shadow with
      | true, some (f, h, j) => { x with full := f, half := h, just := j, shadow := none, commitDue := false }
      | _, _ => { x with commitDue := false }) s
    let x := s.lane l
    match x.postNext with
    | some p => if inGap s n && x.mode != .training then retrain n l p s else s
    | none =>
      let scan := (s.st n).scan
      match x.mode with
      | .dark =>
        if x.leave ≠ 2 then s
        else if laneDark s l || gateCloses s l then modLane l (fun x => { x with leave := 0 }) s
        else modLane l (fun x => { x with mode := .idle, leave := 1 }) s
      | .idle =>
        let serves := scan.lock && !scan.frozen && !scan.reacq && !x.restore && !laneDark s l
        modLane l (fun x => { x with leave := 0, mode := if serves then .swept else .idle }) s
      | .swept => if scan.reacq then modLane l (fun x => { x with mode := .idle }) s else s
      | _ => s

/-- What facet `k` of a station has learned, in seconds: an offset in 1/64 pixel period at the sweep rate `r` (R156). -/
def facetTime (x : Rise) (k nsw : Nat) (r : Rat) : Rat :=
  if nsw = 0 ∨ r = 0 then 0 else kvGet 0 x.facets k / 64 / (nsw * r)

/-- The next mark: the predicted sweep period after this one, with the learned offset of the coming facet less that of
the current one; and its m, the fraction of a word by which it follows a word boundary (R153, R156). -/
def placeMark (segs : List Seg3) (facets nsw : Nat) (x : Rise) : Rise :=
  let d := facetTime x (if facets = 0 then 0 else (x.facet + 1) % facets) nsw x.sPred - facetTime x x.facet nsw x.sPred
  let w : Rat := (x.phase : Rat) / 64 + nsw * (chirpCount segs 1 + (1 + chirpAt segs 1) * d * x.sPred)
  { x with period := if x.sPred = 0 then 0 else 1 / x.sPred + d, nextM := (64 * (w - w.floor)).floor.toNat }

/-- The sweep's own counters restart (R153, R156, R169), the schedule computed one sweep ahead takes effect in the band
chosen for φ = 0, and the next one is computed from the rate now predicted (R154, R163); the header sent in the last
tail governs (R171). -/
def startSweep (n m : Nat) (s : State) : State :=
  let k := s.cfgGet 0x01 n 14 1
  let nsw := s.cfgGet 0x01 n 6 2
  let rate := predict (modScan n (fun x => { x with nsw := some nsw }) s) n
  let segs := chirpSegs (kvGet ({} : CalSt) s.cal.inst n).chirp
  modScan n (fun x =>
    let next := if x.table.isEmpty then none else some (schedule segs x.table nsw rate x.postdiv)
    let now := match x.schedNext with | some p => some p | none => next
    let b := match now with | some p => p.1 | none => x.band
    placeMark segs k nsw { x with
      sweeps := x.sweeps + 1, phi := 0, phase := m % 64, mark := newelFine s, facet := if k = 0 then 0 else (x.facet + 1) % k
      sPred := rate, nsw := some nsw, word := 0, gov := x.hdr, hdr := none
      band := b, fine := if b = x.band then x.fine else tableCode x.table b (20 * x.postdiv * nsw * rate * (1 + chirpAt segs 0))
      sched := match now with | some p => p.2 | none => []
      schedNext := next
      tNow := slew (advanceOf s n) x.tNow (trimWanted s n).1 }) s

/-- The sweep that a mark ends is judged: its LANE_STAT, its timestamp and its measurement (R157, R181, R194). -/
def sweepEnds (n : Nat) (s : State) : State :=
  let s := statMark n s
  if tailed s n then
    let s := if (s.st n).scan.tsSeen then s else badTimestamp n s
    surveyMark n ((s.st n).scan.sweeps + 1) s
  else surveyPause n s

/-- The sweep that a mark opens, before anything is exposed in it: calibration, counters, the lane's words, the trim
limit and the facet phase sample (R118, R154 to R160). -/
def sweepOpens (n m : Nat) (s : State) : State :=
  let s := startSweep n m (installAt n s)
  let s := if (s.st n).scan.frozen then modScan n (fun x => { x with frozen := false }) (reenter n (s.st n).scan.postdiv s) else s
  let s := markLane n s
  let s := modScan n (fun x => { x with tsSeen := !(tailed s n || standby s), pixel := pixelSweep s n }) s
  let s := match stationLane s n with
    | some l => modLane l (fun x => { x with statSeen := !(x.mode == .swept) }) s
    | none => s
  let s := if (trimWanted s n).2 then note 0x0806 (stH s n) 0 s else s
  facetSample n s

/-- What a mark exposes and samples: every flight in the order of admission, then the SWEEP loop (R9, R213). -/
def sweepPrints (n : Nat) (s : State) : State :=
  let s := rotateHalves n s
  let s := s.land.flights.foldl (fun s f => markFlight n s ((flight s f.serial).getD f)) s
  match sweepSlot s n with
  | some k => if (s.loop k).on then sampleLoop k s else s
  | none => s

/-- SOS_MARK: a station's start-of-scan mark, `m` its fraction of a word (R156). What ended is judged first, then the
lane, the trims and the marks, then exposure and consumption of every flight, then the SWEEP loop's sample. A standby
keeps its marks and times by the other device's reports and prints nothing (R346, R356). -/
def execSosMark (station m : Nat) (s : State) : Host.Outcome State Fault Refusal :=
  .next (if !s.cfg.cur.hasStation station then s
    else
      let s := sweepOpens station m (sweepEnds station s)
      if standby s then s else sweepPrints station s)

/-- SOS_TS: a driver's timestamp of a sweep arrives: t_c in 1/64 pixel period from the start of word 0 (R156, R157,
R178). -/
def execSosTs (lane sweep tc : Nat) (valid : Bool) (s : State) : Host.Outcome State Fault Refusal :=
  .next (match laneStation s lane with
    | none => s
    | some n =>
      let x := (s.st n).scan
      if x.tsSeen ∨ sweep ≠ x.sweeps % 65536 then s
      else
        let k := kvGet ({} : CalSt) s.cal.inst n
        let r : Rat := ((tc : Int) - k.sosOff - (x.phase : Int) : Int)
        let facets := s.cfgGet 0x01 n 14 1
        if !valid then s
        else
          let s := modScan n (fun x => { x with
            tsSeen := true, facets := kvMod 0 x.facets x.facet (· + r / 16), resids := (r :: x.resids).take facets }) s
          if 4 * 64 < absRat r then badTimestamp n s
          else
            let good := if absRat r ≤ 64 then x.goodSos + 1 else 0
            let s := modScan n (fun x => { x with badSos := 0, goodSos := good }) s
            if !x.sosOk && decide (64 ≤ good) then
              -- SOS is acquired, or reacquired as the self-test of SOS_LOST
              let s := modScan n (fun x => { x with sosOk := true, reacq := x.reacq && x.acquiring }) s
              stationUp n (if openOn s (laneHandle lane) 0x0802 then testEnded true (laneHandle lane) 0 s else s)
            else s)

/-- FACET_PHASE_FAULT: the facet phase error has been beyond its limit for the timer (R159). -/
def execFacetPhaseFault (station : Nat) (s : State) : Host.Outcome State Fault Refusal :=
  .next (
    let x := (s.st station).scan
    if !x.overLim || !s.cfg.cur.hasStation station then s
    else
      let s := dropSweep station (acquire station s)
      let s := modScan station (fun x => { x with reacq := true }) s
      raise 0x0803 (polygonH s station) 0 station s)

/-! ### The synthesiser (R145 to R150, R154) -/

/-- Target frequency of a station's oscillator at its sweep phase, Hz (R145). -/
def targetFreq (s : State) (n : Nat) : Rat :=
  let x := (s.st n).scan
  80 * (x.postdiv : Nat) * (nswNow s n : Nat) * x.sPred *
    (1 + chirpAt (chirpSegs (kvGet ({} : CalSt) s.cal.inst n).chirp) x.phi)

/-- code(b, f): the fine code of a band for a frequency in Hz (R145). -/
def fineCode (t : List (Nat × Nat)) (b : Nat) (f : Rat) : Nat := tableCode t b (f / 4)

/-- 2π as the angle of a full turn (log entry 8). -/
def twoPi : Rat := 2 * Config.atan2 (-1) 0

/-- Loss of lock (R147): the loss is counted, the sweep goes dark, the lane carries IDLE words at the frozen code, the
frame in exposure loses the layer and the record opens against the lane. The relock of the self-test begins at the next
mark, where the band table is entered anew (log entry 159). During a post-divider change none is run (Table 07-11). -/
def loseLock (n : Nat) (s : State) : State :=
  let changing := match stationLane s n with | some l => (s.lane l).training | none => false
  let s := modScan n (fun x => { x with lock := false, inWin := 0, lossCount := if x.lossCount = 0xFFFF#16 then x.lossCount else x.lossCount + 1#16 }) s
  if changing then s
  else
    let s := dropSweep n (modScan n (fun x => { x with testing := true, frozen := true }) s)
    match stationLane s n with
    | some l =>
      let s := modLane l (fun x => { x with mode := match x.mode with | .swept => .idle | m => m }) s
      raise 0x0801 (laneHandle l) 0 n s
    | none => s

/-- The synthesiser has locked (R146); a relock as a self-test goes on to the lane's retrain (R147). -/
def locked (n : Nat) (s : State) : State :=
  let s := modScan n (fun x => { x with lock := true, outWin := 0, frozen := false }) s
  match stationLane s n with
  | some l => if (s.st n).scan.testing && !(s.lane l).training then startTraining l false s else s
  | none => s

/-- SYNTH_LOCK: LOCK_N reference cycles in the window (R146). -/
def execSynthLock (station : Nat) (s : State) : Host.Outcome State Fault Refusal :=
  .next (if (s.st station).scan.lock || !s.cfg.cur.hasStation station then s else locked station s)

/-- SYNTH_LOSS_OF_LOCK: 8 reference cycles out of the window (R146, R147). -/
def execSynthLossOfLock (station : Nat) (s : State) : Host.Outcome State Fault Refusal :=
  .next (if (s.st station).scan.lock then loseLock station s else s)

/-- The loop's step of a reference cycle (R145); a frozen fine code stands (R147). -/
def loopStep (f wp wi lwin dco : Rat) (x : Rise) : Rise :=
  let tRef : Rat := 1 / 100000000
  let phi := x.phi + x.sPred * tRef
  let acc := x.acc + f * tRef
  let x := { x with acc := acc, phi := if 1 < phi then 1 else phi, dco := dco }
  if x.frozen then x
  else
    let e := if f = 0 then 0 else (acc - dco) / f
    let i := x.integ + wp * wi * tRef * e
    let inside := decide (absRat e ≤ lwin)
    { x with
      integ := i, fine := fineCode x.table x.band (f * (1 + (wp * e + i)))
      iSum := x.iSum + i, iN := x.iN + 1, bands := if x.bands.contains x.band then x.bands else x.bands ++ [x.band]
      inWin := if inside then x.inWin + 1 else 0, outWin := if inside then 0 else x.outWin + 1 }

/-- SYNTH_REFERENCE_CYCLE: one step of R145 at a station; `dco` is the count of oscillator cycles the TDC has measured
since the accumulator started. φ reaches 1 after the predicted sweep (R151, log entry 24). Lock is declared and lost
here too (R146), and the lanes send the words whose boundaries the oscillator has passed (R141, log entry 160). -/
def execSynthReferenceCycle (station : Nat) (dco : Rat) (s : State) : Host.Outcome State Fault Refusal :=
  .next (
    let n := station
    let x := (s.st n).scan
    if !s.cfg.cur.hasStation n then s
    else
      let lw := s.cfgGet 0x06 n 0 4
      let s := modScan n (loopStep (targetFreq s n) (twoPi * ((bitsOf lw 27 18 : Nat) * 10000))
        (twoPi * ((bitsOf lw 17 8 : Nat) * 1000)) ((bitsOf lw 7 0 : Nat) / 1000000000000) dco) s
      let y := (s.st n).scan
      let s := if !y.lock && decide (s.cfgGet 0x06 n 4 2 ≤ y.inWin) then locked n s
        else if y.lock && decide (8 ≤ y.outWin) then loseLock n s
        else s
      (List.range (wordsPassed x.postdiv x.dco dco)).foldl (fun s _ => pixelPeriod n s) s)

/-- BAND_SWITCH: the next scheduled switch takes place (R154). -/
def execBandSwitch (station : Nat) (s : State) : Host.Outcome State Fault Refusal :=
  .next (match (s.st station).scan.sched with
    | (_, b, c) :: r => modScan station (fun x => { x with band := b, fine := c, sched := r }) s
    | [] => s)

/-- BAND_TABLE_CALIBRATION_COMPLETE: a station's table has been measured while its lane is not trained and carries no
words (R148, R149): it waits for the next mark and is stored; a bad one is a fault. The lane's initial training follows,
at boot for the first time, with the synthesiser on the new table. -/
def execBandTableCalibrationComplete (station : Nat) (table : List (Nat × Nat)) (s : State) : Host.Outcome State Fault Refusal :=
  .next (
    let lanes := (List.range 16).filter fun l => laneServes s l == some station
    if !s.latestSet.hasStation station || lanes.any (fun l => (s.lane l).trained || (s.lane l).training) then s
    else if !bandTableOk table then raise 0x0805 (stH s station) 0 station s
    else
      let s := (modScan station (fun x => { x with
        tableNew := some table, table := if x.table.isEmpty then table else x.table, calibrated := true }) s).modCal fun c =>
          { c with inst := kvMod {} c.inst station fun k => { k with table := table } }
      lanes.foldl (fun s l => if (s.lane l).retired then s else startTraining l true s) (requestStore s))

/-- The mean of the integral term folded into the bands of a table that were used, at most 2 ppm. DESIGN CHOICE: the
results are rounded down to the table's 4 Hz, as the spec names no rounding (R150, log entry 161). -/
def trackTable (mean : Rat) (t : List (Nat × Nat)) (used : List Nat) : List (Nat × Nat) :=
  let lim : Rat := 2 / 1000000
  let d := clampRat (-lim) lim mean
  t.zipIdx.map fun p => if used.contains p.2 then
    ((p.1.1 : Rat) * (1 + d) |>.floor.toNat, (p.1.2 : Rat) * (1 + d) |>.floor.toNat) else p.1

/-- The integral term stands beyond a quarter of the band's span. -/
def beyondSpan (x : Rise) (mean : Rat) : Bool :=
  let p := x.table.getD x.band (0, 0)
  decide (p.1 ≠ 0) && decide (((p.2 : Rat) - p.1) / 4 < absRat (mean * p.1))

/-- BAND_TABLE_TRACK: each second of lock the integral term's mean is folded into the bands used (R150); after 10 s
beyond a quarter of a span SOS_CALIBRATE is made urgent. -/
def execBandTableTrack (station : Nat) (s : State) : Host.Outcome State Fault Refusal :=
  .next (
    let x := (s.st station).scan
    if !x.lock || x.iN == 0 then s
    else
      let mean := x.iSum / (x.iN : Nat)
      let over_ := beyondSpan x mean
      let s := modScan station (fun x => { x with
        iSum := 0, iN := 0, bands := [], table := trackTable mean x.table x.bands, iBeyond := if over_ then x.iBeyond + 1 else 0 }) s
      if over_ && decide (10 ≤ x.iBeyond + 1) then
        askUrgent 2 (stH s station) s
      else s)

end Sys2Proof.Machine
end

