-- ==== Sys2Proof/Machine/Collector.lean ====
section
/-! DEFINITION. The fault collector's own events: records closing, self-tests running out, core watchdogs, ALIVE and
the SRAM banks (R103, R326 to R336). -/

namespace Sys2Proof.Machine

open Sys2Proof

/-! ### Records and tests -/

/-- FAULT_RECORD_CLOSE: an entry whose test and reaction are over and into which nothing has merged for 1 s closes
(R329); a class 3 record closes only when cleared, a class 4 one never (R324, R325). -/
def execFaultRecordClose (entry : Nat) (s : State) : Host.Outcome State Fault Refusal :=
  .next (match kvFind s.faults.recs entry with
    | some r => if r.st = .reacting ∧ r.lastSec + 1 ≤ s.clk.opSec then closeRecord entry s else s
    | none => s)

/-- SELF_TEST_TIMEOUT: the self-test of an entry's record has run past its limit (R326); a lane's BER test has none
(R182). -/
def execSelfTestTimeout (entry : Nat) (s : State) : Host.Outcome State Fault Refusal :=
  .next (match kvFind s.faults.recs entry with
    | some r =>
      let lane := decide (1 ≤ hIndex r.handle ∧ hIndex r.handle < 17)
      if lane && (s.lane (hIndex r.handle - 1)).ber.isSome && codeOf r.code / 256 == 9 then s else testFailed entry s
    | none => s)

/-! ### Return to service (R334) -/

/-- A MNT_RETURN of a channel waits. -/
def returnWaits (h : Handle) (sel : Nat) (w : Waiter) : Bool := w.op == 0x0505 && w.cmd.handle == h && w.cmd.sel == sel

/-- The unit above is enabled. -/
def parentOn (s : State) (h : Handle) : Bool :=
  match s.cfg.cur.unit (hIndex h) with
  | some u => decide (stateRank s 16 (hIndex u.parent) ≠ 1)
  | none => false

/-- The fault code of the record that retired a channel, 0 when none is kept. -/
def retireCode (s : State) (h : Handle) (sel : Nat) : Nat :=
  match s.faults.recs.find? fun p => p.2.handle == h && p.2.sel == sel && decide (2 ≤ classOf p.2.code) with
  | some (_, r) => r.code
  | none => 0

/-- The channel itself works again: a lane may carry words and rejoins at its station's next landing (R114), an axis may
run, a node is heard, a bank slot is enabled. -/
def reviveChannel (h : Handle) (sel : Nat) (s : State) : State :=
  let i := hIndex h
  let s := if (liveOf s i).covered then setCovered i false s else s
  let s := if 1 ≤ i ∧ i < 17 then leaveDark (i - 1) (modLane (i - 1) (fun x => { x with retired := false }) s) else s
  let s := match s.cfg.cur.rank 6 h with
    | some a => modAxis a (fun x => { x with fault := false, enabled := parentOn s h }) s
    | none => s
  let s := match s.cfg.cur.rank 5 h with
    | some n => modNode n (fun x => { x with lost := false, missing := 0 }) s
    | none => s
  let s := if s.cfg.cur.typeOf h = 0x0B then retireSensor h true s else s
  match (if sel = 0 then some (slotsOf s.cfg.cur h) else (slotAt s.cfg.cur h sel).map fun k => [k]) with
  | some ks => ks.foldl (fun s k => if (s.loop k).retired then
      modLoop k (fun x => { x with retired := false, on := true, preset := true, fresh := true }) s else s) s
  | none => s

/-- The units that stayed FAULTED with a retired channel are checked again: those of its records, those it carries, and
the station above it once nothing beneath is retired (R331). -/
def releaseMerged (h : Handle) (s : State) : State :=
  let mine := (s.faults.recs.filter fun p => p.2.handle == h).flatMap fun p => p.2.merged
  let up := match s.cfg.cur.stationAbove (hIndex h) with | some n => [stH s n] | none => []
  (mine ++ (unitsOn s.cfg.cur h).map s.cfg.cur.handle ++ up).foldl
    (fun s u =>
      let kids := s.cfg.cur.indices.filter fun j => s.cfg.cur.under (hIndex u) j && j != hIndex u
      if (liveOf s (hIndex u)).st = .faulted ∧ kids.all (fun j => (liveOf s j).st.rank ≤ 2) then setUnitState u .ready 0 s
      else s) s

/-- The self-test that MNT_RETURN ran again has ended (R334). -/
def returnEnded (pass : Bool) (h : Handle) (sel : Nat) (s : State) : State :=
  if !s.mbx.waiters.any (returnWaits h sel) then s
  else
    let s := galWrite 0x14 h sel 0 (leBytes 2 (retireCode s h sel) ++ leBytes 1 (bnat !pass)) s
    if pass then
      let s := s.modFaults fun f => { f with trans := f.trans.filter fun p => !(p.1 == h.toNat && p.2.1 == sel) }
      let s := if sel = 0 ∧ hIndex h ≠ 0 then setUnitState h (if parentOn s h then .ready else .disabled) 0 s else s
      finish (returnWaits h sel) .ok [] (releaseMerged h (reviveChannel h sel s))
    else
      let i := hIndex h
      let s := if 1 ≤ i ∧ i < 17 then modLane (i - 1) (fun x => { x with retired := true, mode := .dark }) s else s
      finish (returnWaits h sel) .timeout [] s

/-! ### Cores (R14, R335, R336) -/

/-- Raises the press's CORE_STALL record to class 4. -/
def stallLockout (s : State) : State :=
  match recordOf s 0#16 0 with
  | some i => raiseClass i 4 0x0001 s
  | none => raiseAs 4 0 0x0001 0#16 0 0 s

/-- CORE_WATCHDOG_EXPIRY: a CORE_STALL record opens and the core restarts; the third stall of any core within 3,600 s
is class 4 at once (R336). -/
def execCoreWatchdogExpiry (core : Nat) (s : State) : Host.Outcome State Fault Refusal :=
  .next (
    let now := s.clk.opSec
    let recent := (s.faults.stallSec.filter fun t => decide (now ≤ t + 3600)) ++ [now]
    let s := s.modFaults fun f =>
      { f with stalled := if f.stalled.contains core then f.stalled else f.stalled ++ [core], stallSec := recent }
    let s := raise 0x0001 0#16 0 core s
    if 3 ≤ recent.length then stallLockout s else s)

/-- CORE_STALL_ESCALATION: a core has not serviced its watchdog within 1 s of the expiry (R336). -/
def execCoreStallEscalation (core : Nat) (s : State) : Host.Outcome State Fault Refusal :=
  .next (if s.faults.stalled.contains core then stallLockout s else s)

/-- ALIVE_TOGGLE: every 500 µs; `serviced` are the cores that serviced their watchdogs in the last 10 ms. A core that
does so again has recovered; ALIVE toggles while no class 3 or 4 record is ACTIVE and no core is stalled, and FAULT_N
follows the records (R335). -/
def execAliveToggle (serviced : List Nat) (s : State) : Host.Outcome State Fault Refusal :=
  .next (
    let s' := s.modFaults fun f => { f with stalled := f.stalled.filter fun c => !serviced.contains c }
    let s' := if !s.faults.stalled.isEmpty && s'.faults.stalled.isEmpty then causeGone 0#16 0x0001 s' else s'
    s'.modBoot fun b =>
      { b with
        alive := b.aliveOn && !stopActive s' && s'.faults.stalled.isEmpty && !b.alive
        faultN := b.aliveOn && !stopActive s' })

/-! ### SRAM (R103, R327) -/

/-- The uses of the SRAM (Table 05-1): each has its own space, that of stations and engines no set configures too, so
none can take another's (R102). -/
inductive SramUse where
  | sweepBuffers | bandBuffers | staging | firmware | nvmeQueues | ledgerQueue | histories | mailboxAndMirror
  deriving DecidableEq, Repr

/-- Bytes of a use (Table 05-1). -/
def sramSize : SramUse → Nat
  | .sweepBuffers => 16 * 2 * 393216
  | .bandBuffers => 16 * 1048576
  | .staging => 4 * 1048576
  | .firmware => 3 * 1048576
  | .nvmeQueues => 2 * 1048576
  | .ledgerQueue => 8192 * 128
  | .histories => 16 * 49152 + 4 * 65536
  | .mailboxAndMirror => 1048576

/-- The uses, in the table's order. -/
def sramUses : List SramUse :=
  [.sweepBuffers, .bandBuffers, .staging, .firmware, .nvmeQueues, .ledgerQueue, .histories, .mailboxAndMirror]

/-- The half that the word former reads a line of in this sweep: in the second sweep of double interlace the lower lines
come from the half before (R106, Table 05-2). -/
def fromPrev (x : Station) (line : Nat) : Bool := x.ems.dbl && x.odd && decide (16 ≤ line)

/-- What an uncorrectable error does where it is found (R103): in a band buffer a band check failure, for which the model
notes LOAD_CRC before the band is decoded and PROTECTED_CRC in its decode (DESIGN CHOICE, log entry 162); in a sweep
buffer level 0 for the 16 pixels of the word, and the layer fails at the band while the rest of the sweep prints. -/
def sramEffect (w : SramPlace) (s : State) : State :=
  match w with
  | .band n i =>
    match (s.st n).buf[i]? with
    | some b =>
      let now := (s.st n).cur.any fun c => c.serial == b.serial && c.id == b.id
      let s := if now then modSt n (fun x => { x with dec := .idle, cur := none }) s else s
      if b.gone then s else bandFails n b (if now then 0x15 else 0x10) (freeBand n b.serial b.id.band s)
    | none => s
  | .sweep n line word =>
    let prev := fromPrev (s.st n) line
    let h := if prev then (s.st n).pHalf else (s.st n).xHalf
    let h' := { h with blank := h.blank ++ [1536 * line + word] }
    let s := modSt n (fun x => if prev then { x with pHalf := h' } else { x with xHalf := h' }) s
    if h.serial = 0 then s else failLayer h.serial n h.band 0x11 s
  | .other => s

/-- The bank's self-test begins on a free spare; with none free SPARES_SPENT is raised (R327). An error that has no other
effect goes to the fault collector though the bank is under test or replaced (R103). -/
def testBank (bank : Nat) (place : SramPlace) (s : State) : State :=
  if (kvFind s.faults.banks bank).isSome then (if place = .other then raise 0x0402 0#16 0 bank s else s)
  else if s.faults.spares = 0 then raise 0x0403 0#16 0 bank s
  else
    raise 0x0402 0#16 0 bank
      (s.modFaults fun f => { f with banks := kvSet f.banks bank 1, spares := f.spares - 1 })

/-- SRAM_ERROR: a read finds a single-bit error, corrected and counted against its bank, or an uncorrectable one
(R103). -/
def execSramError (bank : Nat) (corrected : Bool) (place : SramPlace) (s : State) : Host.Outcome State Fault Refusal :=
  .next (if corrected then
      note 0x0401 0#16 0 (s.modFaults fun f => { f with corrected := kvMod 0 f.corrected bank (· + 1) })
    else testBank bank place (sramEffect place s))

/-- SRAM_BANK_TEST_COMPLETE: the bank takes back its accesses, or is retired and the spare keeps its place (R327). -/
def execSramBankTestComplete (bank : Nat) (pass : Bool) (s : State) : Host.Outcome State Fault Refusal :=
  .next (if kvFind s.faults.banks bank = some 1 then
      if pass then
        codeTestEnded true 0#16 0x0402
          (s.modFaults fun f => { f with banks := kvDel f.banks bank, spares := f.spares + 1 })
      else codeTestEnded false 0#16 0x0402 (s.modFaults fun f => { f with banks := kvSet f.banks bank 2 })
    else s)

end Sys2Proof.Machine
end

