-- ==== Sys2Proof/Machine/Links.lean ====
section
/-! DEFINITION. What happens on a beam lane and at the interlock inputs: training, sideband, lane errors, the BER test
and the gate (R111, R175 to R185). -/

namespace Sys2Proof.Machine

open Sys2Proof

/-! ### Training (R111, R113, R179) -/

/-- LINK_UP: a driver reports itself in a lane's training: its module number is checked against the lane map, and a lane
with another module is not brought into service; a driver without its tables gets them, and its head is read (R111,
R179). -/
def execLinkUp (lane module serial : Nat) (tables : Bool) (s : State) : Host.Outcome State Fault Refusal :=
  .next (
    let x := s.lane lane
    if !x.training || x.linkUp then s
    else if s.cfg.cur.mapModule lane ≠ some module ∧ s.latestSet.mapModule lane ≠ some module then
      raise 0x0903 (laneHandle lane) 0 module (modLane lane (fun x => { x with
        module := module, serial := serial, training := false, trained := false, mode := .off }) s)
    else
      let s := modLane lane (fun x => { x with linkUp := true, module := module, serial := serial, cdrLock := true }) s
      if x.initial || !tables then
        let s := modLane lane (fun x => { x with restore := true, tables := false }) (writeTables lane s)
        match laneStation s lane with
        | some n => readHead n (if x.initial then s else dropSweep n s)
        | none => s
      else modLane lane (fun x => { x with tables := true }) s)

/-- The words a lane carries after training, and what its end brings with it: a lane once without link leaves its
episode, a loss-of-lock self-test ends, an ordered retrain goes on to its BER test (R147, R179, R181). -/
def trainingDone (l : Nat) (s : State) : State :=
  let x := s.lane l
  let h := laneHandle l
  let s := modLane l (fun x => { x with
    mode := restMode s l, training := false, trained := true, initial := false, noLinkEp := false, leave := 0 }) s
  let s := match laneStation s l with
    | none => s
    | some n =>
      let ordered := x.initial || (s.st n).scan.testing || openOn s h 0x0901 || openOn s h 0x0902
      let s := if ordered then acquire n s else s
      let s := if (s.st n).scan.testing then
          testEnded true h 0 (modScan n (fun y => { y with testing := false }) s)
        else s
      if x.noLinkEp then stationReady n s else s
  if openOn s h 0x0901 || openOn s h 0x0902 || s.mbx.waiters.any (returnWaits h 0) then startBer l false s else s

/-- The first IDLE word may come: the driver is linked, the synthesiser locked, and in an initial training the tables
are committed and the reading of the head has ended (R162, R179). A standby's lane, which writes no tables, waits for
the head alone (R346). -/
def trainedNow (s : State) (l : Nat) : Bool :=
  let x := s.lane l
  let n := laneServes s l
  x.training && x.linkUp && (n.all fun n => (s.st n).scan.lock) &&
    (!x.initial || ((!x.restore || standby s) && n.all fun n => (s.st n).ems.readAt.isNone))

/-- LANE_TRAINING_COMPLETE: a lane's training produces its first IDLE word (R179). -/
def execLaneTrainingComplete (lane : Nat) (s : State) : Host.Outcome State Fault Refusal :=
  .next (if trainedNow s lane then trainingDone lane s else s)

/-- LANE_TRAINING_TIMEOUT: no first IDLE word within 5 ms of an initial training, or within 120 µs of a retrain, which
for a driver that lost its tables counts to LINK_UP only (R179, Table 08-11). -/
def execLaneTrainingTimeout (lane : Nat) (s : State) : Host.Outcome State Fault Refusal :=
  .next (
    let x := s.lane lane
    if !x.training || (x.linkUp && x.restore && !x.initial) then s
    else if x.initial then
      let s := modLane lane (fun x => { x with training := false, mode := .off, noLinkEp := true }) s
      let s := if x.noLinkEp then s else note 0x0906 (laneHandle lane) 0 s
      match laneStation s lane with
      | some n => if stationOut s n then s else stationFault n 1 0x11 s
      | none => s
    else raise 0x0905 (laneHandle lane) 0 lane (modLane lane (fun x => { x with training := false, mode := .idle }) s))

/-- LANE_TRAINING_RETRY: every 100 ms a failed initial training is tried again while the lane map names the lane
(R179). -/
def execLaneTrainingRetry (lane : Nat) (s : State) : Host.Outcome State Fault Refusal :=
  .next (
    let x := s.lane lane
    if x.trained || x.training || x.retired || !x.noLinkEp || (s.latestSet.mapModule lane).isNone then s
    else startTraining lane true s)

/-! ### Sideband (R175) -/

/-- ACK: a driver acknowledges a forward message: its place is free; after an OK to COMMIT the shadows become active at
the next mark and the driver is restored (R174, R175, R179). DESIGN CHOICE: status 1, rejected, and 2, busy, free the
place too and nothing is sent again, as the spec names no reaction to them (log entry 157). -/
def execAckMsg (lane tag status : Nat) (s : State) : Host.Outcome State Fault Refusal :=
  .next (match (s.lane lane).out.find? fun m => m.tag == tag with
    | none => s
    | some m =>
      let s := modLane lane (fun x => { x with out := x.out.filter fun y => y.tag != tag }) s
      let s := if m.kind = 3 ∧ status = 0 then
          modLane lane (fun x => { x with tables := true, restore := false, commitDue := x.shadow.isSome }) s
        else s
      pumpSide 8 lane s)

/-- SIDEBAND_ACK_TIMEOUT: no ACK within 50 µs: the message goes again with its tag, up to 3 times; then it is given up
and the lane's BER test runs (R175, Table 08-11). -/
def execSidebandAckTimeout (lane tag : Nat) (s : State) : Host.Outcome State Fault Refusal :=
  .next (match (s.lane lane).out.find? fun m => m.tag == tag with
    | none => s
    | some m =>
      if m.tries < 3 then
        modLane lane (fun x => { x with
          out := x.out.map fun y => if y.tag = tag then { y with tries := y.tries + 1 } else y
          tx := x.tx ++ m.slices }) s
      else
        let s := modLane lane (fun x => { x with out := x.out.filter fun y => y.tag != tag }) s
        startBer lane false (raise 0x0904 (laneHandle lane) 0 m.kind (pumpSide 8 lane s)))

/-- STATUS: a driver's status: clock recovery lock, the LASER_EN levels it sees and its module temperature in 1/16 °C
(Table 08-8). -/
def execStatusMsg (lane : Nat) (locked : Bool) (laser : BitVec 2) (temp : Int) (s : State) : Host.Outcome State Fault Refusal :=
  .next (modLane lane (fun x => { x with cdrLock := locked, laser := laser, temp := temp }) s)

/-! ### Lane errors (R181, R182) -/

/-- A lane's BER test ends (R182): BERT stop, the record's self-test, a return to service that waited, the LANE_BERT
activity, or a failure of a test on demand. Lane 28 is ML, whose test is MIRROR_LOST's (Table 18-8). -/
def berEnded (pass : Bool) (l : Nat) (s : State) : State :=
  let h := laneHandle l
  let returns := s.mbx.waiters.any (returnWaits h 0)
  let s := modLane l (fun x => { x with ber := none }) s
  let s := if l < 16 then sendSide l 5 [0] s else s
  let s := match laneStation s l with
    | some n => if (actOf s 7 (stH s n)).running then endAct 7 (stH s n) pass s else s
    | none => s
  let s := match recordOf s h 0 with
    | some i => if pass then testPassed i s else testFailed i s
    | none => if pass || returns then s else raiseAs 2 0 0x0901 h 0 l s
  returnEnded pass h 0 s

/-- Bits a BER test compares, and its extension again (R182). -/
def berBits : Nat := 30000000000

/-- The compared bits of a BER test are reached, with the driver's error total (R182): none is a pass, one extends the
test once, which must then be without a further one. -/
def berJudge (l errors : Nat) (s : State) : State :=
  match (s.lane l).ber with
  | none => s
  | some b =>
    if b.extended then berEnded (errors == b.base) l s
    else if errors = 1 then
      modLane l (fun x => { x with ber := some { b with extended := true, errs := 1, base := 1, bits := 0 } }) s
    else berEnded (errors == 0) l s

/-- LANE_STAT: a sweep's failed words and flags from the driver, and the BER errors since the test's start
(Table 08-11). -/
def execLaneStat (lane sweep failed flags ber : Nat) (s : State) : Host.Outcome State Fault Refusal :=
  .next (
    let x := s.lane lane
    match laneStation s lane with
    | none => s
    | some n =>
      if x.statSeen ∨ sweep ≠ (s.st n).scan.sweeps % 65536 then s
      else
        let s := modLane lane (fun x => { x with
          statSeen := true, noStat := 0, ber := x.ber.map fun b => { b with errs := ber } }) s
        let s := if x.ber.any fun b => decide (berBits ≤ b.bits) then berJudge lane ber s else s
        if 8 ≤ failed then orderRetrain lane 0x0901 failed s
        else
          let s := if bitOf flags 3 || bitOf flags 2 then failExposure n s else s
          if 0 < failed ∨ bitOf flags 2 then startBer lane false (raise 0x0901 (laneHandle lane) 0 failed s) else s)

/-- BACK_CHANNEL_LOSS: no valid back-channel character for 256 character times (R177, R181). A training, in which the
driver stops it, has none. -/
def execBackChannelLoss (lane : Nat) (s : State) : Host.Outcome State Fault Refusal :=
  .next (
    let x := s.lane lane
    if x.training || !x.trained || x.retired then s
    else orderRetrain lane 0x0902 lane (modLane lane (fun x => { x with cdrLock := false }) s))

/-- BER_TEST_COMPLETE: the compared bits of the test are reached, with the driver's error total (R182). -/
def execBerTestComplete (lane errors : Nat) (s : State) : Host.Outcome State Fault Refusal :=
  .next (berJudge lane errors s)

/-- BER_NO_WORD_TIMEOUT: a swept lane has supplied no compared word for 1 s (R182); the test pauses in DARK and TRAIN
words. -/
def execBerNoWordTimeout (lane : Nat) (s : State) : Host.Outcome State Fault Refusal :=
  .next (if (s.lane lane).ber.isSome && (s.lane lane).mode == .swept then berEnded false lane s else s)

/-! ### The interlock (R183, R184) -/

/-- The inputs that the loaded map gives a lane or an output. -/
def mappedInput (s : State) (i : Nat) : Bool := mapWord s i % 2 ^ 18 != 0

/-- The masks of a map word: LANE_MASK in bits 15 to 0, LE_MASK in 17 and 16 (Table 08-13). -/
def mapMask (s : State) (i : Nat) : BitVec 18 := BitVec.ofNat 18 (mapWord s i % 2 ^ 18)

/-- The frames an assertion meets: those of which some station exposes a band now are SPOILED and go on printing where
lanes do (R47, Table 03-6). -/
def interlockFrames (s : State) : State :=
  let met := fun (f : Flight) => (List.range 16).any fun n => (s.st n).expo.any fun p => p.1 == f.serial
  s.modLand fun l => { l with flights := l.flights.map fun f => if met f then f.spoil 0x15 else f }

/-- INTERLOCK_ASSERT: `low` are the inputs INTLK_N that are low now; each newly low one closes its lanes and LASER_EN
outputs, and is latched where its map word says so (R183, R184). -/
def execInterlockAssert (low : BitVec 8) (s : State) : Host.Outcome State Fault Refusal :=
  .next (
    let new := low &&& ~~~s.intlk.low
    let latch := (List.range 8).foldl (fun (b : BitVec 8) i =>
      if new.getLsbD i && bitOf (mapWord s i) 31 then b ||| BitVec.ofNat 8 (2 ^ i) else b) 0#8
    let shut := (List.range 8).foldl (fun (b : BitVec 18) i => if new.getLsbD i then b ||| mapMask s i else b) s.intlk.shut
    let s := s.modIntlk fun x => { x with
      low := low, closedBy := x.closedBy ||| new, shut := shut, latched := x.latched ||| latch }
    if new = 0#8 then s
    else note 0x0C01 0#16 0 (interlockFrames (darken (setLasers s))))

/-- The gate opens: a new map is loaded, LASER_EN goes back to firmware's level, and lanes leave DARK (R183, R184). -/
def gateOpens (s : State) : State :=
  leaveAllDark (setLasers (reloadMap (s.modIntlk fun x => { x with closedBy := 0#8, shut := 0#18 })))

/-- INTERLOCK_GATE_OPEN: every mapped input has been high for 10 ms; the gate opens once every latched input is
released (R184). -/
def execInterlockGateOpen (s : State) : Host.Outcome State Fault Refusal :=
  .next (
    let s := s.modIntlk fun x => { x with low := 0#8 }
    if s.intlk.latched = 0#8 then gateOpens s else s)

/-- INTERLOCK_PATH_MISMATCH: the two LASER_EN gate paths have disagreed for over 2 µs (R183). -/
def execInterlockPathMismatch (s : State) : Host.Outcome State Fault Refusal := .next (raise 0x0C02 0#16 0 0 s)

end Sys2Proof.Machine
end

