-- ==== Sys2Proof/Machine/Hosts.lean ====
section
/-! DEFINITION. The host link: band datagrams and their reassembly, ingest, extents, credit, ARP and the lanes' state
(R88, R97, R98, R133, R416 to R424). -/

namespace Sys2Proof.Machine

open Sys2Proof

/-- The handle of host lane `n`. -/
def hostH (n : Nat) : Handle := BitVec.ofNat 16 (17 + n)

/-- A BAD_DATAGRAM note against a lane (R427). -/
def badDatagram (lane : Nat) (s : State) : State := note 0x0602 (hostH lane) 0 s

/-! ### Extents (R98, R131 to R133) -/

/-- Takes a band off the spool: its run is freed and deallocated. -/
def dropDesc (id : BandId) (s : State) : State :=
  match descOf s id with
  | none => s
  | some d =>
    (issueAll .trim 0 d (dropCmds (fun q => q.op == .write && q.id == id) s)).modSpool fun p =>
      { p with descs := p.descs.filter fun x => x.id != id, usedRuns := p.usedRuns.filter fun r => r.1 != d.first }

/-- A member takes band writes. -/
def memberWrites (s : State) (c : Nat) : Bool :=
  match s.spool.members[c]? with
  | some m => !m.lost && !m.gone && !m.readOnly
  | none => false

/-- A frame of a job has closed: its bands are freed and its entry with them. -/
def frameClosed (s : State) (id : BandId) : Bool :=
  match frameEnt s id.job id.frame with
  | some f => f.closed
  | none => false

/-- A band of a frame in flight or closed is discarded after its checks, a note against the lane it arrived on (R98). -/
def duplicateBand (lane : Nat) (id : BandId) (s : State) : State := note 0x0601 (hostH lane) 0 (unstage id s)

/-- The frame's descriptors have their pages, or receive a run of them now; none while there is no such run (R131). -/
def withDescs (id : BandId) (s : State) : Option State :=
  match frameEnt s id.job id.frame with
  | none => none
  | some f =>
    if f.descPage.isSome then some s
    else (descRun s f.descPages).map fun a => s.modSpool fun p =>
      { p with dir := p.dir.map fun f => if f.job = id.job ∧ f.frame = id.frame then { f with descPage := some a } else f }

/-- A staged band that passed its checks receives its extent when a run is free on members that take writes; a band of
the same identity makes way for it (R98, R133, R138). Its frame is judged again then: it may have been admitted, or have
closed, while the band waited. -/
def placeBand (b : Staged) (data : List Byte) (s : State) : State :=
  if inFlight s b.id.job b.id.frame || frameClosed s b.id then duplicateBand b.lane b.id s
  else if !mounted s || someLost s then s
  else match withDescs b.id s, findRun s (pagesOf b.length) with
    | some s, some a =>
      if !(membersOf s.spool.sb.width a b.length).all (memberWrites s) then s
      else
        let d : BandDesc := { id := b.id, first := a, data := data, seq := b.seq }
        let s := dropDesc b.id s
        let s := s.modSpool fun p =>
          let e := a + pagesOf b.length
          { p with
            descs := p.descs ++ [d], usedRuns := p.usedRuns ++ [(a, pagesOf b.length)]
            cursor := if p.sb.pages ≤ e then p.sb.extentStart else e }
        let s := s.modIngest fun i => { i with bands := i.bands.map fun x => if x.id = b.id then { x with first := some a } else x }
        issueAll .write 0 d s
    | _, _ => s

/-- The bytes of a completely received band. -/
def Staged.data (b : Staged) : List Byte :=
  (sortBy b.frags fun x y => decide (x.1 ≤ y.1)).flatMap (·.2)

/-- The bands that wait for an extent, in arrival order. -/
def waitingBands (s : State) : List Staged := s.ingest.bands.filter fun b => b.checked && b.first.isNone

/-- The spool has no room for a band: no run of its length, or no descriptor pages for its frame (R131, R133). -/
def noRoom (s : State) (b : Staged) : Bool :=
  mounted s && ((withDescs b.id s).isNone || (findRun s (pagesOf b.length)).isNone)

/-- Every waiting band that can have an extent gets one; SPOOL_FULL is posted once per episode when one is left waiting
for room (R133). -/
def placeBands (s : State) : State :=
  let s := (waitingBands s).foldl (fun s b => placeBand b b.data s) s
  if !(waitingBands s).any (noRoom s) then s.modIngest fun i => { i with fullEpisode := false }
  else if s.ingest.fullEpisode then s
  else post 0x8306 0xFFFF#16 [] (s.modIngest fun i => { i with fullEpisode := true })

/-- BAND_ALLOCATE: a long enough free run exists again (R133). -/
def execBandAllocate (s : State) : Host.Outcome State Fault Refusal := .next (placeBands s)

/-! ### Ingest (R88, R98) -/

/-- The entry of a frame from its first band on: its band count is known then, the rest is its job's (Table 06-6; log
entry 173). -/
def enterFrame (id : BandId) (bands : Nat) (s : State) : State :=
  let e : FrameEnt := match s.jobs.find? fun j => j.id == id.job with
    | some j => { job := id.job, frame := id.frame, index := j.base + id.frame, bands := bands, gapBands := j.gapBands
                  layers := j.layers, secure := j.secure }
    | none => { job := id.job, frame := id.frame, bands := bands }
  s.modSpool fun p =>
    { p with dir := match p.dir.find? fun f => f.job == id.job && f.frame == id.frame with
      | some _ => p.dir.map fun f => if f.job = id.job ∧ f.frame = id.frame then { f with bands := bands } else f
      | none => p.dir ++ [e] }

/-- A band with every byte received goes through the ingest checks (R88); a passed one of a frame in flight or closed
is a duplicate (R98), any other takes its way to the spool. -/
def ingestBand (lane : Nat) (id : BandId) (s : State) : State :=
  match s.ingest.bands.find? fun b => b.id == id with
  | none => s
  | some b =>
    let data := b.data
    match ingestCheck false (jobJudges s) (riderOk s) data with
    | some c => rejectBand id c s
    | none =>
      if inFlight s id.job id.frame || frameClosed s id then duplicateBand lane id s
      else
        placeBands ((enterFrame id (bh data 22 2) s).modIngest fun i =>
          { i with bands := i.bands.map fun x => if x.id = id then { x with checked := true, lane := lane } else x })

/-! ### Reassembly (R420 to R422, R424) -/

/-- JOB_MISMATCH for a band whose job is unknown, at most once per second per identity. -/
def unknownJob (id : BandId) (s : State) : State :=
  let now := s.clk.opSec
  if s.ingest.rejSec.any fun r => r.1 == id && decide (now < r.2 + 1) then s
  else
    bandEvent 0x8304 id 0x05 (s.modIngest fun i =>
      { i with rejSec := (i.rejSec.filter fun r => r.1 != id && decide (now < r.2 + 1)) ++ [(id, now)] })

/-- The band bytes a datagram carries: decrypted for an encrypted job, none when the tag fails (R422). -/
def bandBytes (j : Job) (bs : List Byte) : Option (List Byte) :=
  let n := fieldAt bs 18 2
  let body := bytesAt bs 32 n
  if !j.encrypted then some body
  else
    Config.gcmOpen j.key (bytesAt bs 28 4 ++ bytesAt bs 20 3 ++ bytesAt bs 6 1 ++ bytesAt bs 12 4) (bs.take 32) body
      (bytesAt bs (32 + n) 16)

/-- A fragment joins its band (R421). -/
def addFragment (lane : Nat) (b : Staged) (off len : Nat) (data : List Byte) (s : State) : State :=
  if b.checked || b.frags.any (fun f => f.1 == off && f.2.length == data.length) then s
  else if len ≠ b.length then rejectBand b.id 0x0A s
  else if b.frags.any fun f => decide (f.1 < off + data.length) && decide (off < f.1 + f.2.length) then rejectBand b.id 0x20 s
  else
    let s := s.modIngest fun i => { i with bands := i.bands.map fun x =>
      if x.id = b.id then { x with frags := x.frags ++ [(off, data)] } else x }
    if ((b.frags.map fun f => f.2.length).sum + data.length) = b.length then ingestBand lane b.id s else s

/-- A datagram of a known job: the first of its band reserves staging and takes credit (R421, R424). -/
def bandFragment (lane : Nat) (id : BandId) (off len seq : Nat) (data : List Byte) (s : State) : State :=
  match s.ingest.bands.find? fun b => b.id == id with
  | some b => addFragment lane b off len data s
  | none =>
    if 1044480 < len then bandEvent 0x8304 id 0x0A s
    else if 4194304 + s.ingest.returned < s.ingest.used + reserveOf len then note 0x0604 (hostH lane) 0 s
    else
      let b : Staged := { id := id, length := len, seq := seq }
      addFragment lane b off len data (s.modIngest fun i =>
        { i with bands := i.bands ++ [b], used := i.used + reserveOf len })

/-- BAND_DATAGRAM: a band datagram's UDP payload on a host lane (R420, R421). -/
def execBandDatagram (lane : Nat) (bytes : List Byte) (s : State) : Host.Outcome State Fault Refusal :=
  .next (
    let f := fieldAt bytes
    let enc := bitOf (f 5 1) 0
    let n := f 18 2
    let off := f 20 4
    let len := f 24 4
    let id : BandId := { job := f 8 4, layer := f 6 1, frame := f 12 4, band := f 16 2 }
    if !s.mbx.live then s
    else if bytes.length < 33 ∨ f 0 4 ≠ 0x47524642 ∨ f 4 1 ≠ 1 ∨ n = 0 ∨ 8192 < n ∨
        bytes.length ≠ 32 + n + (if enc then 16 else 0) ∨ off % 16 ≠ 0 ∨ len < off + n ∨ (n % 16 ≠ 0 ∧ off + n ≠ len) then
      badDatagram lane s
    else
      let s := s.modIngest fun i => { i with lanes := kvSet i.lanes lane s.ring.cyc }
      match s.jobs.find? fun j => j.id == id.job && j.live with
      | none => unknownJob id s
      | some j =>
        if enc ≠ j.encrypted then badDatagram lane s
        else match bandBytes j bytes with
          | none => note 0x0603 (hostH lane) 0 s
          | some data => bandFragment lane id off len (f 28 4) data s)

/-- BAND_REASSEMBLY_TIMEOUT: a band has had no new fragment for 250 ms (R421). -/
def execBandReassemblyTimeout (job layer frame band : Nat) (s : State) : Host.Outcome State Fault Refusal :=
  .next (
    let id : BandId := { job := job, layer := layer, frame := frame, band := band }
    match s.ingest.bands.find? fun b => b.id == id with
    | some b => if b.checked then s else rejectBand id 0x21 s
    | none => s)

/-- CREDIT_DATAGRAM: the limit goes out on every lane that carried band data in the last 1 s, 62,500 ring cycles
(R424). -/
def execCreditDatagram (s : State) : Host.Outcome State Fault Refusal :=
  .next ((s.ingest.lanes.filter fun p => decide (s.ring.cyc ≤ p.2 + 62500)).foldl
    (fun s p => s.send (.credit p.1 s.ingest.returned)) s)

/-! ### Lanes (R416, R417) -/

/-- ARP_REQUEST: a request for a lane's address is answered on that lane (R417). -/
def execArpRequest (lane ip : Nat) (s : State) : Host.Outcome State Fault Refusal :=
  .next (if lane < 4 ∧ bitOf (s.cfgGet 0x15 0 (32 * lane) 1) 0 ∧ s.cfgGet 0x15 0 (32 * lane + 4) 4 = ip then
      s.send (.arpReply lane) else s)

/-- BAD_DATAGRAM: a packet outside the subset is discarded and counted (R417). -/
def execBadDatagram (lane : Nat) (s : State) : Host.Outcome State Fault Refusal := .next (badDatagram lane s)

/-- HOST_LINK_DOWN: a lane loses block lock (R416). -/
def execHostLinkDown (lane : Nat) (s : State) : Host.Outcome State Fault Refusal :=
  .next (note 0x0605 (hostH lane) 0 (s.modHost fun h => { h with up := kvSet h.up lane false }))

/-- HOST_LINK_UP: a lane that was reported down regains block lock, which is reported again with its count unchanged
(R416). -/
def execHostLinkUp (lane : Nat) (s : State) : Host.Outcome State Fault Refusal :=
  .next (
    let down := kvFind s.host.up lane == some false
    let s := s.modHost fun h => { h with up := kvSet h.up lane true }
    if down then
      post 0x8002 (hostH lane) (leBytes 2 0x0605 ++ leBytes 2 (noteVal s.faults.notes (noteKey (hostH lane) 0) 0x0605)) s
    else s)

end Sys2Proof.Machine
end

