-- ==== Sys2Proof/Machine/Newel.lean ====
section
/-! DEFINITION. The newel counter, its backup, the web following error, limit inputs and homing (R45, R207 to R209,
R212, R221 to R223). The encoder is no unit of the tree: its faults stand against the press (log entry 25). -/

namespace Sys2Proof.Machine

open Sys2Proof

/-! ### The newel counter (R207, R208) -/

/-- The counter's 48 bits of lines, fraction and residue wrap as one number (R207). -/
def wrapNewel (i : Int) : Int := (BitVec.ofInt 80 i).toInt

/-- The sign of a count in a direction (R207). -/
def countSign (s : State) (up : Bool) : Int := if up != bitOf (s.cfgGet 0x05 0 4 1) 0 then 1 else -1

/-- The newel scale: units of 2^-32 line per count. -/
def newelScale (s : State) : Int := (s.cfgGet 0x05 0 0 4 : Nat)

/-- The backup's scale; 0 while none is configured. -/
def backupScale (s : State) : Int := (s.cfgGet 0x05 0 12 4 : Nat)

/-- Every frame in flight is SPOILED for the newel (R45, R209). -/
def spoilNewel (s : State) : State := spoilAll 0x16 s

/-- R45: the newel has gone back more than 1/4 line from its highest position while frames were in flight. -/
def reversalCheck (s : State) : State :=
  if noFlights s then s.modNewel fun x => { x with high := x.pos }
  else
    let hi := max s.newel.high s.newel.pos
    let s := s.modNewel fun x => { x with high := hi }
    if 2 ^ 30 < hi - s.newel.pos then
      raise 0x0D04 0#16 0 0 (spoilNewel (s.modNewel fun x => { x with high := x.pos }))
    else s

/-- An encoder loss of NEWEL (R209): the counter goes on from a usable backup; else every frame is SPOILED and the
web is brought to rest at once. -/
def newelLoss (s : State) : State :=
  if s.newel.lost then s
  else
    let s := s.modNewel fun x => { x with lost := true, onBackup := x.usable }
    let s := raise 0x0D03 0#16 0 0 s
    if s.newel.onBackup then s else beginStop (askStop .controlled (spoilNewel s))

/-- An encoder loss of the backup: it is usable no more; the counter that ran from it has no source left. -/
def backupLoss (s : State) : State :=
  let s := s.modNewel fun x => { x with usable := false }
  if s.newel.onBackup then
    beginStop (askStop .controlled (spoilNewel (raise 0x0D03 0#16 0 1 (s.modNewel fun x => { x with onBackup := false }))))
  else s

/-- An encoder loss of either input. -/
def encoderLoss (aux : Bool) (s : State) : State := if aux then backupLoss s else newelLoss s

/-- An accepted count (R207, R209). -/
def countNewel (aux up : Bool) (s : State) : State :=
  let d := countSign s up
  let s := if aux then s.modNewel fun x => { x with
      backup := wrapNewel (x.backup + d * backupScale s)
      pos := if x.onBackup then wrapNewel (x.pos + d * backupScale s) else x.pos }
    else s.modNewel fun x => { x with
      idx := x.idx + d, pos := if x.lost || x.onBackup then x.pos else wrapNewel (x.pos + d * newelScale s) }
  reversalCheck s

/-- An illegal transition: the count is skipped; more than 4 in any 1 ms are an encoder loss (Table 10-1). -/
def illegalNewel (aux : Bool) (s : State) : State :=
  let recent := s.ring.cyc :: s.newel.illegal.filter fun c => decide (s.ring.cyc ≤ c + 62)
  let s := raise 0x0D01 0#16 0 (bnat aux) (s.modNewel fun x => { x with illegal := recent })
  if 4 < recent.length then encoderLoss aux s else s

/-- NEWEL_COUNT: an accepted transition of NEWEL or AUXENC: the counter moves by its scale, the residue kept; an illegal
transition counts nothing, overspeed is an encoder loss (R207, R208). -/
def execNewelCount (aux : Bool) (edge : NewelEdge) (s : State) : Host.Outcome State Fault Refusal :=
  .next (match edge with
    | .up => countNewel aux true s
    | .down => countNewel aux false s
    | .illegal => illegalNewel aux s
    | .overspeed => encoderLoss aux s)

/-- NEWEL_INDEX: the counts since the last index are compared with the counts per index; 0 disables the check. The next
interval is the self-test of a mismatch (Table 10-1). -/
def execNewelIndex (s : State) : Host.Outcome State Fault Refusal :=
  .next (
    let n := s.cfgGet 0x05 0 8 4
    let bad := s.newel.idxSeen && n != 0 && decide (1 < (s.newel.idx.natAbs - n) + (n - s.newel.idx.natAbs))
    let test := s.newel.idxTest
    let s := s.modNewel fun x => { x with idx := 0, idxSeen := true, idxTest := bad && !test }
    if test then codeTestEnded (!bad) 0#16 0x0D02 s
    else if bad then raise 0x0D02 0#16 0 n s
    else s)

/-- NEWEL_LOSS_OF_SIGNAL: the differential amplitude of A or B has been below its threshold for 2 µs (Table 10-1). -/
def execNewelLossOfSignal (aux : Bool) (s : State) : Host.Outcome State Fault Refusal := .next (encoderLoss aux s)

/-- NEWEL_BACKUP_CHECK: every second, while NEWEL is sound, the two advances of the second are compared (R209). -/
def execNewelBackupCheck (s : State) : Host.Outcome State Fault Refusal :=
  .next (
    let x := s.newel
    let adv := (x.pos - x.secPos).natAbs
    let diff := ((x.pos - x.secPos) - (x.backup - x.secBack)).natAbs
    let ok := decide (diff * 10000 ≤ adv * s.cfgGet 0x05 0 16 1)
    let s := s.modNewel fun x => { x with secPos := x.pos, secBack := x.backup }
    if x.lost || backupScale s == 0 then s
    else
      let s := s.modNewel fun x => { x with usable := ok }
      if ok then s else note 0x0D06 0#16 0 s)

/-- WEB_FOLLOWING_TIMEOUT: the web following error has been beyond its limit for its timer (R212). -/
def execWebFollowingTimeout (s : State) : Host.Outcome State Fault Refusal :=
  .next (if s.gov.webOver then
      let h := match webDrive s.cfg.cur with | some a => s.cfg.cur.ranked 6 a | none => 0#16
      raise 0x0D05 h 0 0 (s.modGov fun g => { g with webOver := false })
    else s)

/-! ### Limits and homing (R221 to R223) -/

/-- The homing block of axis `a` (Table 10-4): a field at an offset within it. -/
def homeField (s : State) (a o k : Nat) : Nat := s.cfgGet 0x09 a (60 + o) k

/-- The direction an axis homes in. -/
def approach (s : State) (a : Nat) : Int := if bitOf (homeField s a 6 1) 0 then 1 else -1

/-- The direction an axis moves in now: toward a move's target, else as its command goes. -/
def axisDir (x : Axis) : Int :=
  match x.move with
  | some (t, _) => if x.gear.cmd / 65536 < t then 1 else if t < x.gear.cmd / 65536 then -1 else 0
  | none => if x.gear.st = .free then (if x.gear.ff < 0 then -1 else if 0 < x.gear.ff then 1 else 0)
            else if x.gear.ff < 0 then -1 else if 0 < x.gear.ff then 1 else 0

/-- The axes whose homing block names an input. -/
def axesOf (s : State) (h : Handle) : List Nat :=
  (List.range (min 64 (s.cfg.cur.ofType 6).length)).filter fun a => [0, 2, 4].any fun o => homeField s a o 2 == h.toNat

/-- A MOT_HOME of axis `a` waits. -/
def homeWaits (s : State) (a : Nat) (w : Waiter) : Bool :=
  w.op == 0x0403 && w.cmd.handle == s.cfg.cur.ranked 6 a

/-- Homing of axis `a` has failed: it stops FREE and not HOMED, and its command answers TIMEOUT (R223). -/
def homeFailed (a : Nat) (s : State) : State :=
  finish (homeWaits s a) .timeout []
    (modAxis a (fun x => { x with home := .none, homed := false, gear := { x.gear with st := .free } }) s)

/-- An input of an axis's block chatters during homing (Table 10-5). -/
def homeChatter (a : Nat) (h : Handle) (s : State) : State :=
  if (s.axis a).homeDiv = 1 then
    modAxis a (fun x => { x with home := .retry, homeDiv := 4, homeEdge := x.gear.cmd / 65536, homeTravel := 0 }) s
  else raise 0x1001 h 0 a (homeFailed a s)

/-- The home edge: the captured position becomes home_offset and the axis is HOMED (R222). -/
def homeDone (a : Nat) (h : Handle) (capture : Int) (s : State) : State :=
  let retried := decide ((s.axis a).homeDiv ≠ 1)
  let d := signed 32 (homeField s a 24 4) - capture
  let s := modAxis a (fun x => { x with
    home := .none, homed := true, pos := x.pos + d, gear := { x.gear with cmd := x.gear.cmd + 65536 * d } }) s
  let s := finish (homeWaits s a) .ok [] s
  if retried then note 0x1005 h 0 s else s

/-- An accepted transition of an input of axis `a`'s block while it homes (R222, Table 10-5). -/
def homeInput (a : Nat) (h : Handle) (level : Bool) (capture : Int) (s : State) : State :=
  let f := fun o => homeField s a o 2
  let isHome := f 0 == h.toNat
  let neg := approach s a < 0
  let near := f (if neg then 2 else 4) == h.toNat
  let far := f (if neg then 4 else 2) == h.toNat
  let homeH : Handle := BitVec.ofNat 16 (f 0)
  let x := s.axis a
  if level && far && !isHome then raise 0x1002 h 0 a (homeFailed a s)
  else match x.home with
    | .fast =>
      if level && isHome then modAxis a (fun x => { x with home := .backoff, homeEdge := capture }) s
      else if level && near then raise 0x1003 homeH 0 a (homeFailed a s)
      else s
    | .backoff =>
      if level && near && !isHome then raise 0x1002 h 0 a (homeFailed a s)
      else if !level && isHome then modAxis a (fun x => { x with homeEdge := capture }) s
      else s
    | .slow =>
      if level && isHome then homeDone a h capture s
      else if level && near then raise 0x1003 homeH 0 a (homeFailed a s)
      else s
    | _ => s

/-- An accepted limit in the direction of motion: the axis stops, FREE, with a class 3 fault (R221). -/
def limitTrip (a : Nat) (h : Handle) (s : State) : State :=
  let dir := axisDir (s.axis a)
  if (dir < 0 ∧ homeField s a 2 2 = h.toNat) ∨ (0 < dir ∧ homeField s a 4 2 = h.toNat) then
    let ax := s.cfg.cur.ranked 6 a
    let s := modAxis a (fun x => { x with move := none, gear := { x.gear with st := .free } }) s
    raise 0x1004 ax 0 (hIndex h) (finish (waitingOn 0x0408 ax) .conflict [] s)
  else s

/-- LIMIT_INPUT_ACCEPTED: a limit or home input's new level has held for its debounce time; `capture` is the axis
position at the first sample of that level (R221). DESIGN CHOICE: a chatter that has been told empties the input's list of
transitions, so that four new ones are needed before it is told again; the spec does not say (R221, log entry 182). -/
def execLimitInputAccepted (input : Handle) (level : Bool) (capture : Int) (s : State) : Host.Outcome State Fault Refusal :=
  .next (
    let i := hIndex input
    let now := s.ring.cyc
    let edges := now :: (kvGet [] s.ring.edges i).filter fun c => decide (now ≤ c + 3125)
    let chatter := decide (4 ≤ edges.length)
    let homing := (axesOf s input).filter fun a => (s.axis a).home != .none
    let s := s.modRing fun r => { r with
      inputs := kvSet r.inputs i level, edges := kvSet r.edges i (if chatter then [] else edges) }
    let s := if chatter && homing.isEmpty then note 0x1005 input 0 s else s
    (axesOf s input).foldl
      (fun s a =>
        if (s.axis a).home = .none then (if level then limitTrip a input s else s)
        else if chatter then homeChatter a input s
        else homeInput a input level capture s) s)

end Sys2Proof.Machine
end

