-- ==== Sys2Proof/Machine/Drive.lean ====
section
/-! DEFINITION. Motor commutation and field control: six-step, FOC, DTC, the estimators and the axis faults (11). Times
of the six-step drive and the modulator are in 10 ns; currents in A, voltages in V, fluxes in Wb, torques in mN m. -/

namespace Sys2Proof.Machine

open Sys2Proof

/-! ### An axis's parameters (Tables 11-1, 11-2, 11-6) -/

/-- The axes of the current set. -/
def axesOn (s : State) : List Nat := List.range (min 64 (s.cfg.cur.ofType 6).length)

/-- A field of axis `a`'s entry. -/
def axF (s : State) (a o k : Nat) : Nat := s.cfgGet 0x09 a o k

/-- Bits of axis `a`'s drive word. -/
def driveBits (s : State) (a hi lo : Nat) : Nat := bitsOf (axF s a 0 4) hi lo

/-- MODE: 0 six-step, 1 FOC, 2 DTC. -/
def axMode (s : State) (a : Nat) : Nat := driveBits s a 31 30

/-- Pole pairs. -/
def poles (s : State) (a : Nat) : Rat := (driveBits s a 27 24 : Nat)

/-- Rated current, A. -/
def ratedI (s : State) (a : Nat) : Rat := (axF s a 114 2 : Rat) / 100

/-- Counts per revolution. -/
def cpr (s : State) (a : Nat) : Rat := (axF s a 120 4 : Nat)

/-- Rated speed, rev/s: a motor constant that no block carries (log entry 9). -/
def ratedSpeed (a : Nat) : Rat := Config.axisGain a 11

/-- The handle of axis `a`. -/
def axH (s : State) (a : Nat) : Handle := s.cfg.cur.ranked 6 a

/-- The main web drive. -/
def isWeb (s : State) (a : Nat) : Bool := webDrive s.cfg.cur == some a

/-- The station whose polygon axis `a` is. -/
def polygonStation (s : State) (a : Nat) : Option Nat := s.cfg.cur.stationList.find? fun n => polygonOf s.cfg.cur n == some a

/-- The node and record position that carry axis `a` (Table 21-4, block RING). -/
def axRecord (s : State) (a : Nat) : Option (Nat × Nat) :=
  match s.cfg.cur.rank 5 (BitVec.ofNat 16 (axF s a 92 2)) with
  | none => none
  | some n =>
    ((List.range (s.cfgGet 0x0C n 9 1)).find? fun r =>
      let w := s.cfgGet 0x0C n (10 + 2 * r) 2
      bitsOf w 15 12 == 1 && bitsOf w 7 0 == axF s a 94 1).map fun r => (n, r)

/-- Key of a node parameter of a record. -/
def paramKey (rec num : Nat) : Nat := rec * 65536 + num

/-- A per count of axis `a`'s current samples: CURRENT_SCALE as read from its node (R257). -/
def curScale (s : State) (a : Nat) : Rat :=
  match axRecord s a with
  | some (n, r) => ((kvGet 0 (s.node n).read (paramKey r 0x0102) : Nat) : Rat) / 1000000
  | none => 0

/-- Phase current `k` of an axis. -/
def Axis.i (x : Axis) (k : Nat) : Rat := x.cur.getD k 0

/-- i_alpha and i_beta (R231). -/
def Axis.iAB (x : Axis) : Rat × Rat := (x.i 0, (x.i 0 + 2 * x.i 1) / Config.sqrt 3)

/-- |i|² of the current vector. -/
def Axis.iSq (x : Axis) : Rat := x.iAB.1 ^ 2 + x.iAB.2 ^ 2

/-- Electrical angular speed, rad/s. -/
def omegaE (s : State) (a : Nat) : Rat := twoPi * poles s a * (s.axis a).speed

/-- The sign of a current for dead-time compensation, linear below 2% of the rated current (R225). -/
def deadSign (rated i : Rat) : Rat :=
  let w := rated / 50
  if absRat i < w then i / w else if i < 0 then -1 else 1

/-! ### Axis faults (R241, R242, Table 11-7) -/

/-- The self-test of an axis's record has ended; on the main web drive OVERCURRENT and FEEDBACK_LOSS fail to class 3. -/
def axisTestEnded (pass : Bool) (a code : Nat) (s : State) : State :=
  let s := modAxis a (fun x => { x with test := none }) s
  if pass then codeTestEnded true (axH s a) code s
  else if isWeb s a && (code == 0x0E01 || code == 0x0E06) then
    match s.faults.recs.find? fun p => p.2.isOpen && p.2.handle == axH s a && codeOf p.2.code == code with
    | some (i, _) => stopAxis a (raiseClass i 3 code s)
    | none => s
  else codeTestEnded false (axH s a) code s

/-- An axis error with a self-test: the test starts, or one that runs for it fails. OVERCURRENT takes the stage off
until the test puts it back. -/
def axisError (a code : Nat) (s : State) : State :=
  match (s.axis a).test with
  | some (c, _) => if c = code then axisTestEnded false a code s else s
  | none =>
    if (s.axis a).fault then s
    else
      let s := raise code (axH s a) 0 a (modAxis a (fun x => { x with test := some (code, s.ring.cyc) }) s)
      if code = 0x0E01 then (modAxis a (fun x => { x with enabled := false }) s).send (.axis a 0 []) else s

/-- Takes a running self-test on: OVERCURRENT re-enables after 10 ms and passes 100 ms later, FEEDBACK_LOSS passes after
100 ms, DC_LINK is judged after 10 ms. -/
def axisTestTick (a : Nat) (s : State) : State :=
  match (s.axis a).test with
  | none => s
  | some (code, t0) =>
    let dt := s.ring.cyc - t0
    if code = 0x0E01 then
      if dt = 625 then modAxis a (fun x => { x with enabled := true }) s
      else if 625 + 6250 ≤ dt then axisTestEnded true a code s else s
    else if code = 0x0E0C then
      if 625 ≤ dt then axisTestEnded ((s.axis a).vdcOut == 0) a code s else s
    else if 6250 ≤ dt then axisTestEnded true a code s
    else s

/-- Peak-current trip level, A: 2.5 × the rated current, halved during the OVERCURRENT self-test (R257). -/
def tripLevel (s : State) (a : Nat) : Rat :=
  let t := ratedI s a * 5 / 2
  match (s.axis a).test with
  | some (c, _) => if c = 0x0E01 then t / 2 else t
  | none => t

/-! ### Winding temperature (R237) -/

/-- The reading of the winding sensor, °C; none while there is none or it is broken. -/
def windingSensor (s : State) (a : Nat) : Option Rat :=
  let h : Handle := BitVec.ofNat 16 (axF s a 50 2)
  if h = 0xFFFF#16 then none
  else
    let src := (List.range 128).find? fun k => s.cfgGet 0x10 (k + 4) 0 2 == h.toNat
    let broken := match src with | some k => (kvGet ({} : TSrc) s.therm.src (12 + k)).broken | none => false
    if broken then none
    else some (((kvGet (0 : Int) s.ring.sensors (hIndex h) : Int) : Rat) * sensorScale s.cfg.cur h)

/-- The resistance in force, ohm: r_s20 until the model has run. -/
def resist (s : State) (a : Nat) : Rat :=
  let x := s.axis a
  if x.rs = 0 then (axF s a 40 4 : Rat) / 1000000 else x.rs

/-- The current that holds the winding at t_warn while it is above, A; none below (R237). -/
def currentCap (s : State) (a : Nat) : Option Rat :=
  let x := s.axis a
  if !x.warn then none
  else
    let room := (axF s a 52 2 : Rat) / 10 - (x.tw - x.rise)
    let rth : Rat := (axF s a 46 2 : Rat) / 100
    let r := resist s a
    if rth = 0 ∨ r = 0 ∨ room ≤ 0 then some 0 else some (Config.sqrt (room / rth / (3 / 2 * r)))

/-- One millisecond of an axis's winding model. -/
def windingStep (a : Nat) (s : State) : State :=
  let x := s.axis a
  let r := resist s a
  let tau : Rat := (axF s a 48 2 : Rat) / 10
  let p := 3 / 2 * r * x.iSq
  let rise := if tau = 0 then x.rise else x.rise + ((axF s a 46 2 : Rat) / 100 * p - x.rise) / tau / 1000
  match windingSensor s a with
  | none => modAxis a (fun x => { x with rise := rise }) s
  | some t =>
    let tw := t + rise
    let r20 : Rat := (axF s a 40 4 : Rat) / 1000000
    let warn := decide ((axF s a 52 2 : Rat) / 10 < tw)
    let s := modAxis a (fun x => { x with
      rise := rise, tw := tw, rs := r20 * (1 + (axF s a 44 2 : Rat) / 1000000 * (tw - 20)), warn := warn }) s
    if (axF s a 54 2 : Rat) / 10 < tw then
      if x.fault then s
      else
        let s := raiseAs (if isWeb s a then 3 else 2) 0 0x0E07 (axH s a) 0 a s
        if isWeb s a then modAxis a (fun x => { x with fault := true }) s else s
    else if warn && !x.warn then note 0x0E07 (axH s a) 0 s
    else s

/-- WINDING_MODEL_UPDATE: every 1 ms (R237). An axis that configures no trip temperature has no model. -/
def execWindingModelUpdate (s : State) : Host.Outcome State Fault Refusal :=
  .next (((axesOn s).filter fun a => axF s a 54 2 != 0).foldl (fun s a => windingStep a s) s)

/-! ### Six-step (R227 to R230) -/

/-- Sends a commutation: instant, step, chop duty. -/
def sendComm (a : Nat) (t : Rat) (sector : Nat) (duty : Rat) (s : State) : State :=
  s.send (.axis a 4 [t, (sector % 6 : Nat), duty])

/-- Sectors of a revolution. -/
def sectors (s : State) (a : Nat) : Nat := 6 * max 1 (driveBits s a 27 24)

/-- A zero crossing at `t` schedules the next commutation (R227); one within the blanking is ignored. -/
def crossing (a t : Nat) (s : State) : State :=
  let x := s.axis a
  let blankEnd := x.comm + 2 * x.theta * (axF s a 22 1 : Rat) / 256
  if x.phase ≠ .running ∨ (t : Rat) < blankEnd then s
  else
    let zcs : List Nat := t :: x.zcs.take 6
    let th : Rat := if zcs.length = 7 then ((t : Rat) - (zcs.getD 6 0 : Nat)) / 12 else x.theta
    let tc := (t : Rat) - (axF s a 20 2 : Nat) + th - kvGet 0 x.off x.sector
    let tc := max tc (t + 4000)
    let k := (x.sector + 1) % sectors s a
    let sp : Rat := if th = 0 then 0 else 100000000 / (12 * th) / max 1 (poles s a)
    sendComm a tc k x.duty (modAxis a (fun x => { x with
      zcs := zcs, theta := th, comm := tc, sector := k, misses := 0, speed := sp }) s)

/-- The facet lock of a polygon's station falls with its commutation (R242). -/
def loseFacet (a : Nat) (s : State) : State :=
  match polygonStation s a with
  | some n => modScan n (fun x => { x with facetLock := false }) s
  | none => s

/-- COMMUTATION_MISS: no valid crossing by 1.5 × 2Θ: the commutation is made as predicted; the second miss in a row is
COMMUTATION_LOST, whose test is the catch (R227, Table 11-7). -/
def execCommutationMiss (axis : Nat) (s : State) : Host.Outcome State Fault Refusal :=
  .next (
    let x := s.axis axis
    if axMode s axis ≠ 0 ∨ x.phase ≠ .running then s
    else
      let t := x.comm + 2 * x.theta
      let k := (x.sector + 1) % sectors s axis
      let s := loseFacet axis (sendComm axis t k x.duty
        (modAxis axis (fun x => { x with comm := t, sector := k, misses := x.misses + 1, zcs := [] }) s))
      if 2 ≤ x.misses + 1 then
        (modAxis axis (fun x => { x with phase := .catching, catches := 0, misses := 0 })
          (raise 0x0E03 (axH s axis) 0 axis s)).send (.axis axis 5 [])
      else s)

/-- A start begins with a catch (R228). -/
def beginStart (a : Nat) (s : State) : State :=
  (modAxis a (fun x => { x with phase := .catching }) s).send (.axis a 5 [])

/-- A start has failed; the third is START_FAIL (R228). -/
def startFailed (a : Nat) (s : State) : State :=
  let n := (s.axis a).starts + 1
  let s := (modAxis a (fun x => { x with phase := .coast, starts := n, duty := 0 }) s).send (.axis a 0 [])
  if 3 ≤ n then raise 0x0E04 (axH s a) 0 n s else s

/-- SIX_STEP_START: a phase of a start ends: the alignment time, the open-loop ramp (`ok`: crossings arrive as
predicted; not: f_hand is reached without), the handover (`ok`: its twelfth crossing), or a coast (R228, R229). -/
def execSixStepStart (axis : Nat) (ok : Bool) (s : State) : Host.Outcome State Fault Refusal :=
  .next (if axMode s axis ≠ 0 ∨ (s.axis axis).fault then s
    else match (s.axis axis).phase with
      | .align => (modAxis axis (fun x => { x with phase := .ramp }) s).send (.axis axis 4 [(axF s axis 10 2 : Nat)])
      | .ramp => if ok then modAxis axis (fun x => { x with phase := .handover }) s else startFailed axis s
      | .handover =>
        if ok then modAxis axis (fun x => { x with phase := .running, starts := 0, catches := 0, misses := 0, zcs := [] }) s
        else startFailed axis s
      | .coast => beginStart axis s
      | _ => s)

/-- CATCH: the observation of a catch ends (R229, Table 11-3). -/
def execCatchWindow (axis : Nat) (seen : CatchSeen) (s : State) : Host.Outcome State Fault Refusal :=
  .next (if (s.axis axis).phase ≠ .catching then s
    else
      let h := axH s axis
      match seen with
      | .rest =>
        codeTestEnded false h 0x0E03
          ((modAxis axis (fun x => { x with phase := .align, catches := 0 }) s).send (.axis axis 6 [(axF s axis 4 2 : Nat)]))
      | .forward theta sector =>
        let w := twoPi * (100000000 / (12 * (theta : Rat)))
        let v := (s.axis axis).vdc
        let duty := if v = 0 then 0 else clampRat 0 1 (Config.axisGain axis 5 * w / v)
        codeTestEnded true h 0x0E03 (modAxis axis (fun x => { x with
          phase := .running, theta := theta, sector := sector % sectors s axis, duty := duty, iw := duty, starts := 0,
          catches := 0, misses := 0, zcs := [], comm := 1600 * (s.ring.cyc : Rat) }) s)
      | .reverse =>
        codeTestEnded false h 0x0E03 ((modAxis axis (fun x => { x with phase := .coast }) s).send (.axis axis 0 []))
      | .unclear =>
        let n := (s.axis axis).catches + 1
        let s := (modAxis axis (fun x => { x with phase := .coast, catches := n }) s).send (.axis axis 0 [])
        let s := codeTestEnded false h 0x0E03 s
        if 3 ≤ n then raise 0x0E05 h 0 n s else s)

/-- OFFSET_LEARN_UPDATE: once per revolution of a polygon; `resid` are the residuals of its sectors over the revolution,
10 ns (R230). Each offset moves by 1/64 of its residual, then the mean is taken off. -/
def execOffsetLearnUpdate (axis : Nat) (resid : List Int) (s : State) : Host.Outcome State Fault Refusal :=
  .next (match polygonStation s axis with
    | none => s
    | some n =>
      let training := match stationLane s n with | some l => (s.lane l).training | none => false
      if !(s.st n).scan.sosOk || training || resid.length != sectors s axis then s
      else
        let moved := resid.zipIdx.map fun p => kvGet 0 (s.axis axis).off p.2 + (p.1 : Rat) / 64
        let mean := moved.sum / (moved.length : Nat)
        modAxis axis (fun x => { x with off := moved.zipIdx.foldl (fun t p => kvSet t p.2 (p.1 - mean)) [] }) s)

/-- The speed a follower is asked for, rev/s: a polygon's sweeps over its facets, else counts over counts per
revolution; a FREE polygon of a press that may run is held at its idle rate (R452). -/
def polygonIdles (s : State) : Bool :=
  s.land.run != .none || s.land.stopReq == .none || s.land.stopReq == .threadCmd

/-- The reference of an axis's speed loop, rev/s. -/
def speedRef (s : State) (a : Nat) : Rat :=
  let g := (s.axis a).gear
  match polygonStation s a with
  | some n =>
    let k : Rat := s.cfgGet 0x01 n 14 1
    if k = 0 then 0
    else if g.st = .free then (if s.land.mode = .thread ∧ polygonIdles s then idleRate s n / k else 0)
    else g.ff / 65536 / k
  | none => if cpr s a = 0 then 0 else g.ff / 65536 / cpr s a

/-- The speed loop of a six-step axis sets its chop duty (R227); a start begins when the axis is asked to turn. -/
def sixStep (a : Nat) (s : State) : State :=
  let x := s.axis a
  let w := speedRef s a
  if !x.enabled || x.fault then s
  else if x.phase = .rest then (if w = 0 then s else beginStart a s)
  else if x.phase = .running then
    let e := w - x.speed
    let u := Config.axisGain a 1 * e + x.iw
    let d := if w = 0 then 0 else clampRat 0 1 u
    modAxis a (fun x => { x with duty := d, iw := if w = 0 then 0 else x.iw + Config.axisGain a 2 * 16 / 1000000 * e + (d - u) }) s
  else s

/-! ### Field-oriented control (R231 to R234) -/

/-- Space vector modulation: the dwells and the phase high times in 10 ns of a 32 µs period, and whether the vector was
scaled (R232, Table 11-4). -/
def svm (ua ub vdc : Rat) : List Rat × Rat :=
  let T : Rat := 3200
  let len := Config.sqrt (ua ^ 2 + ub ^ 2)
  let th := Config.atan2 ua ub
  let th := if th < 0 then th + twoPi else th
  let sec := twoPi / 6
  let n := if sec = 0 then 1 else (th / sec).floor + 1
  let t' := th - ((n - 1 : Int) : Rat) * sec
  let m := if vdc = 0 then 0 else Config.sqrt 3 * len / vdc
  let t1 := m * T * Config.sin (sec - t')
  let t2 := m * T * Config.sin t'
  let k := if T < t1 + t2 then T / (t1 + t2) else 1
  let t1 := t1 * k
  let t2 := t2 * k
  let h := (T - t1 - t2) / 2
  let high := match n with
    | 1 => [t1 + t2 + h, t2 + h, h]
    | 2 => [t1 + h, t1 + t2 + h, h]
    | 3 => [h, t1 + t2 + h, t2 + h]
    | 4 => [h, t1 + h, t1 + t2 + h]
    | 5 => [t2 + h, h, t1 + t2 + h]
    | _ => [t1 + t2 + h, h, t1 + h]
  (high, k)

/-- Phases by rising high time: smallest, middle, largest. -/
def byHigh (ts : List Rat) : List Nat :=
  sortBy ([0, 1, 2] : List Nat) fun a b => decide (ts.getD a 0 ≤ ts.getD b 0)

/-- A sample of axis `a` is skipped: counted, and a WINDOW_SKIP note beyond 8 in any 1 s (R234). -/
def skipSample (a : Nat) (s : State) : State :=
  let now := s.ring.cyc
  let l := now :: (s.axis a).skips.filter fun c => decide (now < c + 62500)
  let s := modAxis a (fun x => { x with skips := l }) s
  if 8 < l.length then note 0x0E09 (axH s a) 0 s else s

/-- Edges of a period: rise and fall of each phase, 10 ns, pulses centred but for their shift. -/
def edgesOf (ts : List Rat) (shift : Nat → Rat) : List Rat :=
  [0, 1, 2].flatMap fun k => [(3200 - ts.getD k 0) / 2 + shift k, (3200 + ts.getD k 0) / 2 + shift k]

/-- The period of a single shunt (R233): a leading window shorter than T_MIN is opened by shifting the pulse that closes
it later, the next period undoes that and samples on the trailing side. -/
def singleShunt (a : Nat) (ts : List Rat) (s : State) : State :=
  let x := s.axis a
  let tm : Rat := driveBits s a 23 16
  match byHigh ts with
  | [lo, mid, hi] =>
    let t := fun k => ts.getD k 0
    if x.shifts ≠ [] then
      let sh := fun k => -(x.shifts.foldl (fun r p => if p.1 = k then r + p.2 else r) 0)
      let e := edgesOf ts sh
      let s1 := e.getD (2 * lo + 1) 0 + tm - 10
      let s2 := e.getD (2 * mid + 1) 0 + tm - 10
      (modAxis a (fun x => { x with shifts := [], duties := ts }) s).send (.axis a 2 (e ++ [s1, s2]))
    else
      let room := fun k => (3200 - t k) / 2
      let w1 := (t hi - t mid) / 2
      let d1 := if w1 < tm then min (tm - w1) (room mid) else 0
      let w2 := (t mid - t lo) / 2 - d1
      let d2 := if w2 < tm then min (tm - w2) (room lo) else 0
      let ok := decide (tm ≤ w1 + d1) && decide (tm ≤ w2 + d2)
      let sh := fun k => if k = mid then d1 else if k = lo then d2 else 0
      let e := edgesOf ts sh
      let s1 := e.getD (2 * hi) 0 + tm - 10
      let s2 := e.getD (2 * mid) 0 + tm - 10
      let s := modAxis a (fun x => { x with
        shifts := (if d1 = 0 then [] else [(mid, d1)]) ++ (if d2 = 0 then [] else [(lo, d2)]), duties := ts, dropNext := !ok }) s
      let s := if ok then s else skipSample a s
      s.send (.axis a 2 (e ++ (if ok then [s1, s2] else [])))
  | _ => s

/-- The period of low-side shunts (R234): a window too narrow is opened by taking the same high time from all phases, or
by carrying the rest of one phase's into the next period. -/
def lowSide (a : Nat) (ts : List Rat) (s : State) : State :=
  let x := s.axis a
  let tm : Rat := driveBits s a 23 16
  let back := ts.zipIdx.map fun p => if p.2 = x.shiftPh then p.1 + x.carry else p.1
  let fits := back.all fun t => decide (t ≤ 3200)
  let ts := if fits then back else ts
  let s := modAxis a (fun x => { x with carry := 0, dropNext := !fits }) s
  let s := if fits then s else skipSample a s
  match byHigh ts with
  | [lo, mid, _] =>
    let e := ts.getD mid 0 - (3200 - tm)
    let (ts, c) :=
      if e ≤ 0 then (ts, (0 : Rat))
      else if e ≤ ts.getD lo 0 then (ts.map (· - e), 0)
      else
        let g := ts.getD lo 0
        (ts.zipIdx.map fun p => if p.2 = mid then p.1 - e else p.1 - g, e - g)
    let ed := edgesOf ts fun _ => 0
    (modAxis a (fun x => { x with carry := c, shiftPh := mid, duties := ts }) s).send
      (.axis a 2 (ed ++ [ed.getD (2 * mid + 1) 0 + tm - 10]))
  | _ => s

/-- A limit on the torque-producing current: the axis's, and the one that holds the winding at t_warn (R231, R237). -/
def iLimit (s : State) (a : Nat) : Rat :=
  match currentCap s a with
  | some c => min c (Config.axisGain a 8)
  | none => Config.axisGain a 8

/-- One PWM period of a FOC axis (R231). -/
def focStep (a : Nat) (s : State) : State :=
  let x := s.axis a
  let T : Rat := 32 / 1000000
  let p := poles s a
  let om := omegaE s a
  let g := Config.axisGain a
  let (ia, ib) := x.iAB
  let turn : Rat := if cpr s a = 0 then 0 else (x.pos : Rat) / cpr s a
  let th := p * twoPi * (turn - turn.floor) + om * (5 / 2) * T
  let c := Config.cos th
  let sn := Config.sin th
  let id := ia * c + ib * sn
  let iq := -ia * sn + ib * c
  let wRef := speedRef s a + g 0 * ((x.gear.cmd : Rat) / 65536 - x.pos)
  let we := wRef - x.speed
  let tPi := g 1 * we + x.iw
  let tRef := tPi + g 10 * (s.gov.accel * 1200 * 256 * x.gear.ratio / 65536)
  let kt := 3 / 2 * p * g 5
  let lim := iLimit s a
  let iqRef := if kt = 0 then 0 else clampRat (-lim) lim (tRef / kt)
  let iw := x.iw + g 2 * T * we + (iqRef * kt - tRef)
  let ed := g 9 - id
  let eq := iqRef - iq
  let ud := g 3 * ed + x.id - om * g 7 * iq
  let uq := g 3 * eq + x.iq + om * (g 6 * id + g 5)
  let ua := ud * c - uq * sn
  let ub := ud * sn + uq * c
  let (ts, k) := svm ua ub x.vdc
  let dead : Rat := driveBits s a 15 8
  let ts := ts.zipIdx.map fun q => q.1 + deadSign (ratedI s a) (x.i q.2) * dead
  let s := modAxis a (fun x => { x with
    id := x.id + g 4 * T * ed + (k * ud - ud), iq := x.iq + g 4 * T * eq + (k * uq - uq), iw := iw, trq := tRef
    sat := decide (k ≠ 1), pred := Config.currentModel a x.cur (k * ua, k * ub) om }) s
  match driveBits s a 29 28 with
  | 2 => singleShunt a ts s
  | 1 => lowSide a ts s
  | _ => (modAxis a (fun x => { x with duties := ts }) s).send (.axis a 2 (edgesOf ts (fun _ => 0) ++ [1600]))

/-- FOC_PWM_PERIOD: every 32 µs each enabled FOC axis computes its currents and duties (R231). -/
def execFocPwmPeriod (s : State) : Host.Outcome State Fault Refusal :=
  .next (((axesOn s).filter fun a => axMode s a == 1 && (s.axis a).enabled && !(s.axis a).fault).foldl
    (fun s a => focStep a s) s)

/-- VOLTAGE_LIMIT: the axis's voltage has stayed saturated for 100 ms (R231). -/
def execVoltageLimit (axis : Nat) (s : State) : Host.Outcome State Fault Refusal :=
  .next (if (s.axis axis).sat then note 0x0E08 (axH s axis) 0 s else s)

/-! ### Direct torque control (R235, R236, R238, R239) -/

/-- V1 to V6 as abc bits. -/
def vecOf (k : Int) : Nat := [4, 6, 2, 3, 1, 5].getD ((k - 1) % 6).toNat 4

/-- Phases that differ between two vectors. -/
def vecDiff (u v : Nat) : Nat := ([0, 1, 2].filter fun b => bitOf u b != bitOf v b).length

/-- The voltage vector of a switch state, dead time taken off each phase (R225). -/
def vecVolts (s : State) (a v : Nat) : Rat × Rat :=
  let x := s.axis a
  let dead : Rat := driveBits s a 15 8
  let ph := fun k => (if bitOf v (2 - k) then x.vdc else 0) - deadSign (ratedI s a) (x.i k) * dead / 1600 * x.vdc
  ((2 * ph 0 - ph 1 - ph 2) / 3, (ph 1 - ph 2) / Config.sqrt 3)

/-- The flux of the current model (R235). -/
def fluxCm (s : State) (a : Nat) : Rat × Rat :=
  let x := s.axis a
  let turn : Rat := if cpr s a = 0 then 0 else (x.pos : Rat) / cpr s a
  let th := poles s a * twoPi * (turn - turn.floor)
  let c := Config.cos th
  let sn := Config.sin th
  let (ia, ib) := x.iAB
  let d := Config.axisGain a 6 * (ia * c + ib * sn) + Config.axisGain a 5
  let q := Config.axisGain a 7 * (-ia * sn + ib * c)
  (d * c - q * sn, d * sn + q * c)

/-- The voltage model one cycle on: the vector that was applied, the drop across κ R_s, the leak at 0.2 Hz (R235). -/
def fluxStep (s : State) (a v : Nat) (psi : Rat × Rat) : Rat × Rat :=
  let T : Rat := 16 / 1000000
  let x := s.axis a
  let (va, vb) := vecVolts s a v
  let (ia, ib) := x.iAB
  let r := resist s a * x.kappa
  let leak := twoPi / 5
  (psi.1 + (va - r * ia) * T - leak * psi.1 * T, psi.2 + (vb - r * ib) * T - leak * psi.2 * T)

/-- The leak's gain and phase error at omega_e put right (R235). -/
def unleak (om : Rat) (psi : Rat × Rat) : Rat × Rat :=
  if om = 0 then psi
  else
    let k := twoPi / 5 / om
    (psi.1 + k * psi.2, psi.2 - k * psi.1)

/-- The two models blended: current model below 5% of rated speed, voltage model above 7% (R235). -/
def blendFlux (r : Rat) (vm cm : Rat × Rat) : Rat × Rat :=
  let k := clampRat 0 1 ((r - 1 / 20) * 50)
  (cm.1 + (vm.1 - cm.1) * k, cm.2 + (vm.2 - cm.2) * k)

/-- Speed as a share of the rated speed. -/
def speedShare (s : State) (a : Nat) : Rat := if ratedSpeed a = 0 then 0 else absRat (s.axis a).speed / ratedSpeed a

/-- The torque reference of a DTC axis, mN m: the main web drive's speed loop on the newel (R212), else its tension
loop's; limited to T_max and to the winding's current (R236, R237). -/
def torqueRef (a : Nat) (s : State) : State :=
  let x := s.axis a
  let tm : Rat := (axF s a 36 4 : Nat)
  let tm := match currentCap s a with
    | some c => min tm (3 / 2 * poles s a * ((axF s a 28 4 : Rat) / 1000000) * c * 1000)
    | none => tm
  if isWeb s a then
    let e := s.gov.speed - newelSpeed s
    let u := Config.axisGain a 1 * e + x.iw + Config.axisGain a 10 * s.gov.accel
    let t := clampRat (-tm) tm u
    modAxis a (fun x => { x with tRef := t, iw := x.iw + Config.axisGain a 2 * 16 / 1000000 * e + (t - u) }) s
  else modAxis a (fun x => { x with tRef := clampRat (-tm) tm x.tRef }) s

/-- The cross-check window (R238): steady speed and load; over its last second the resistance error is summed. -/
def crossWindow (a : Nat) (vm cm : Rat × Rat) (s : State) : State :=
  let x := s.axis a
  let n := x.winN + 1
  let sum := x.winSum + x.speed
  let mean := sum / (n : Nat)
  let steady := decide (absRat (x.speed - mean) ≤ absRat mean / 100) && decide (1 / 10 < speedShare s a) &&
    decide ((ratedI s a / 10) ^ 2 < x.iSq) && x.gear.blend.isNone && s.gov.accel == 0
  if !steady then modAxis a (fun x => { x with winN := 0, winSum := 0, drSum := 0 }) s
  else
    let (ia, ib) := x.iAB
    let d := omegaE s a * ((vm.2 - cm.2) * ia - (vm.1 - cm.1) * ib) / x.iSq
    modAxis a (fun x => { x with winN := n, winSum := sum, drSum := if 62500 < n then x.drSum + d else 0 }) s

/-- One ring cycle of a DTC axis: estimators, comparators, vector (R235, R236). -/
def dtcStep (a : Nat) (s : State) : State :=
  let s := torqueRef a s
  let x := s.axis a
  let om := omegaE s a
  let psi := fluxStep s a (x.vecs.getD 2 0) (x.psiA, x.psiB)
  let vm := unleak om psi
  let cm := fluxCm s a
  let s := crossWindow a vm cm s
  let now := blendFlux (speedShare s a) vm cm
  let (ia, ib) := x.iAB
  let trq := fun (f : Rat × Rat) => 3 / 2 * poles s a * (f.1 * ib - f.2 * ia) * 1000
  let ahead := fluxStep s a (x.vecs.getD 0 0) (fluxStep s a (x.vecs.getD 1 0) now)
  let ref : Rat := (axF s a 28 4 : Rat) / 1000000
  let dp := ref * (axF s a 32 2 : Rat) / 1000
  let dt : Rat := (axF s a 116 4 : Rat) * (axF s a 34 2 : Rat) / 1000
  let ePsi := ref - Config.sqrt (ahead.1 ^ 2 + ahead.2 ^ 2)
  let eT := x.tRef - trq ahead
  let dPsi := if dp < ePsi then true else if ePsi < -dp then false else x.dPsi
  let dT : Int := if dt < eT then 1 else if eT < -dt then -1
    else if x.dT = 1 ∧ eT ≤ 0 then 0 else if x.dT = -1 ∧ 0 ≤ eT then 0 else x.dT
  let th := Config.atan2 ahead.1 ahead.2
  let k : Int := if twoPi = 0 then 1 else ((th + twoPi / 12) / (twoPi / 6)).floor + 1
  let v :=
    if dT = 0 then (if vecDiff 7 x.vec < vecDiff 0 x.vec then 7 else 0)
    else vecOf (k + dT * (if dPsi then 1 else 2))
  (modAxis a (fun x => { x with
    psiA := psi.1, psiB := psi.2, torque := trq now, dPsi := dPsi, dT := dT, vec := v
    vecs := (v :: x.vecs).take 3 }) s).send (.axis a 3 [(v : Nat)])

/-- ESTIMATOR_CROSS_CHECK: a 2 s window completes and corrects κ, by at most 2%, within 0.80 to 1.25 (R238). -/
def execEstimatorCrossCheck (axis : Nat) (s : State) : Host.Outcome State Fault Refusal :=
  .next (
    let x := s.axis axis
    let r := resist s axis * x.kappa
    if axMode s axis ≠ 2 ∨ x.winN < 125000 ∨ r = 0 then s
    else
      let dr := x.drSum / ((x.winN - 62500 : Nat) : Rat)
      let f := clampRat (49 / 50) (51 / 50) (1 - dr / r / 2)
      let k := x.kappa * f
      let k' := clampRat (4 / 5) (5 / 4) k
      let s := modAxis axis (fun x => { x with kappa := k', lastCross := s.clk.opSec, winN := 0, winSum := 0, drSum := 0 }) s
      if k' = k then s else note 0x0E0B (axH s axis) 0 s)

/-- KAPPA_SAVE: every hour κ goes to the calibration store (R238). -/
def execKappaSave (s : State) : Host.Outcome State Fault Refusal :=
  .next (requestStore (((axesOn s).filter fun a => axMode s a == 2).foldl
    (fun s a => modAxis a (fun x => { x with kappaSaved := x.kappa }) s) s))

/-- ESTIMATOR_STALE: 72 h of operating seconds without a successful cross-check (R239). -/
def execEstimatorStale (axis : Nat) (s : State) : Host.Outcome State Fault Refusal :=
  .next (if axMode s axis = 2 ∧ (s.axis axis).lastCross + 259200 ≤ s.clk.opSec then note 0x0E0A (axH s axis) 0 s else s)

/-! ### Stop and following (R240, R241) -/

/-- STAGE_DISABLE: in a controlled stop an axis has been below 0.5% of its rated speed for 100 ms (R240). -/
def execStageDisable (axis : Nat) (s : State) : Host.Outcome State Fault Refusal :=
  .next (if s.gov.stopping ∧ s.land.stopReq ≠ .threadCmd ∧ 200 * absRat (s.axis axis).speed < ratedSpeed axis then
      (modAxis axis (fun x => { x with enabled := false, phase := .rest, duty := 0 }) s).send (.axis axis 0 [])
    else s)

/-- AXIS_FOLLOWING_TIMEOUT: a position following error beyond the axis limit for its timer: class 3 for a GEARED axis,
class 2 for another (Table 11-7). -/
def execAxisFollowingTimeout (axis : Nat) (s : State) : Host.Outcome State Fault Refusal :=
  .next (
    let x := s.axis axis
    let err := absRat ((x.gear.cmd : Rat) / 65536 - x.pos)
    if (axF s axis 108 4 : Rat) < err ∧ axF s axis 108 4 ≠ 0 ∧ x.fault = false then
      raiseAs (if x.gear.st = .geared then 3 else 2) 0 0x0E02 (axH s axis) 0 axis
        (modAxis axis (fun x => { x with fault := true }) s)
    else s)

end Sys2Proof.Machine
end

