-- ==== Sys2Proof/Machine/Ringside.lean ====
section
/-! DEFINITION. The node ring: the cycle, up records, node parameters, enumeration, breaks, and what the axis engine,
the profile generator and the steppers do in every cycle (10, 12). -/

namespace Sys2Proof.Machine

open Sys2Proof

/-! ### Nodes -/

/-- The nodes of the current set: block index of each NODE unit. -/
def nodesOn (s : State) : List Nat := List.range (min 64 (s.cfg.cur.ofType 5).length)

/-- The handle of node `n`. -/
def nodeH (s : State) (n : Nat) : Handle := s.cfg.cur.ranked 5 n

/-- Handle of a ring port's lane unit: NRE, NRW (Table 02-1). -/
def ringPortH (p : Nat) : Handle := BitVec.ofNat 16 (30 + p)

/-- A unit may still be reported: it is not FAULTED or RETIRED already. -/
def reportable (s : State) (h : Handle) : Bool := decide ((liveOf s (hIndex h)).st.rank ≤ 2)

/-- Raises an error against a unit that is not out of service already. -/
def raiseOnce (code : Nat) (h : Handle) (detail : Nat) (s : State) : State :=
  if reportable s h then raise code h 0 detail s else s

/-! ### Up records (Tables 12-4 to 12-6) -/

/-- Three phase currents of a record in A: a phase not sampled is formed from the other two, and taken from the model
when two are missing (R231, R233, R234). -/
def phaseCurrents (scale : Rat) (pred : List Rat) (cs : List (Option Int)) : List Rat :=
  let v := fun k => (cs.getD k none).map fun i => (i : Rat) * scale
  match v 0, v 1, v 2 with
  | some a, some b, some c => [a, b, c]
  | some a, some b, none => [a, b, -a - b]
  | some a, none, some c => [a, -a - c, c]
  | none, some b, some c => [-b - c, b, c]
  | _, _, _ => pred

/-- All three inline samples arrived and do not sum to zero within 5% of the rated current (R231). -/
def sumWrong (s : State) (a : Nat) (u : AxisUp) : Bool :=
  driveBits s a 29 28 == 0 && axMode s a == 1 &&
    match u.currents with
    | [some x, some y, some z] => decide (ratedI s a / 20 < absRat (((x + y + z : Int) : Rat) * curScale s a))
    | _ => false

/-- A motor record: currents, DC link, encoder, crossing, and what they show of Table 11-7. -/
def axisRecord (u : AxisUp) (s : State) : State :=
  let a := u.axis
  let x := s.axis a
  let cs := if u.fresh then (if x.dropNext then x.pred else phaseCurrents (curScale s a) x.pred u.currents) else x.cur
  let vdc : Rat := (u.vdc : Rat) / 100
  let d := signed 32 ((u.enc + 2 ^ 32 - x.enc % 2 ^ 32) % 2 ^ 32)
  let c := cpr s a
  let enc := x.encSeen && axMode s a != 0
  let lo : Rat := (axF s a 124 2 : Rat) / 10
  let hi : Rat := (axF s a 126 2 : Rat) / 10
  let out := decide (hi ≠ 0) && (decide (vdc < lo) || decide (hi < vdc))
  let high := cs.any fun i => decide (tripLevel s a < absRat i)
  let s := modAxis a (fun x => { x with
    cur := cs, vdc := vdc, enc := u.enc, encSeen := true, pos := if enc then x.pos + d else x.pos
    speed := if enc && decide (c ≠ 0) then (d : Rat) / c * 62500 else x.speed
    vdcOut := if out then x.vdcOut + 1 else 0, overN := if u.fresh then (if high then x.overN + 1 else 0) else x.overN }) s
  if x.fault || !x.enabled then s
  else
    let s := match u.zc with
      | some (t, _, _) => if axMode s a = 0 then crossing a (1600 * (s.ring.cyc - 1) + t) s else s
      | none => s
    let s := if sumWrong s a u then raise 0x1502 (axH s a) 0 a s else s
    let s := if u.trip || decide (3 ≤ (s.axis a).overN) then axisError a 0x0E01 s else s
    let quarter := enc && decide (c ≠ 0) && decide (c / (4 * max 1 (poles s a)) < (d.natAbs : Nat))
    let s := if u.encErr || quarter then axisError a 0x0E06 s else s
    if (s.axis a).vdcOut = 63 then axisError a 0x0E0C s else s

/-- A stepper record's flags (Table 12-5). -/
def stepperRecord (k flags : Nat) (s : State) : State :=
  let h := s.cfg.cur.ranked 7 k
  let s := if bitOf flags 0 then raiseOnce 0x0F01 h k s else s
  let s := if bitOf flags 1 then raiseOnce 0x0F02 h k s else s
  if bitOf flags 2 then raiseOnce 0x0F03 h k s else s

/-- A heater zone record (R264, Table 12-5). -/
def heaterRecord (i flags : Nat) (s : State) : State :=
  let h := s.cfg.cur.handle i
  let s := if bitOf flags 0 then raiseOnce 0x1301 h i s else s
  if bitOf flags 1 || bitOf flags 2 then raiseOnce 0x1302 h i s else s

/-- An HV module record: arc and overcurrent start its self-test, or fail the one that runs (R265). -/
def hvRecord (i : Nat) (dc cur ac : Int) (flags : Nat) (s : State) : State :=
  let h := s.cfg.cur.handle i
  let s := s.modRing fun r => { r with hv := kvSet r.hv i (dc, cur, ac) }
  let code := if bitOf flags 0 then 0x1303 else if bitOf flags 1 then 0x1304 else 0
  if code = 0 then s
  else if (kvFind s.ring.hvTest i).isSome then
    testEnded false h 0 (s.modRing fun r => { r with hvTest := kvDel r.hvTest i })
  else if reportable s h then raise code h 0 i (s.modRing fun r => { r with hvTest := kvSet r.hvTest i s.ring.cyc })
  else s

/-- HV modules that have run 1 s without arc or overcurrent pass (Table 17-3). -/
def hvTick (s : State) : State :=
  (s.ring.hvTest.filter fun p => decide (p.2 + 62500 ≤ s.ring.cyc)).foldl
    (fun s p => testEnded true (s.cfg.cur.handle p.1) 0 (s.modRing fun r => { r with hvTest := kvDel r.hvTest p.1 })) s

/-- A break of the ring: it runs as a line, and the segment's loop test starts (R259). -/
def ringBreak (port detail : Nat) (s : State) : State :=
  raiseOnce 0x1101 (ringPortH port) detail (s.modRing fun r => { r with broken := true })

/-- A valid up record of a node. -/
def nodeRecord (u : NodeUp) (s : State) : State :=
  let n := u.node
  let x := s.node n
  let h := nodeH s n
  let s := modNode n (fun x => { x with
    missing := 0, ready := u.ready, hold := u.hold, safe := u.safe, code := u.code, last := u }) s
  let s := if u.code ≠ 0 ∧ x.code = 0 then raiseOnce 0x1207 h u.code s else s
  let s := if (x.last.linkA && !u.linkA) || (x.last.linkB && !u.linkB) then ringBreak 0 n s else s
  let s := u.axes.foldl (fun s r => axisRecord r s) s
  let s := u.steppers.foldl (fun s r => stepperRecord r.1 r.2 s) s
  let s := u.sols.foldl (fun s r => if r.2 = 3 then raiseOnce 0x1305 (s.cfg.cur.ranked 0x0C r.1) r.1 s else s) s
  let s := u.heaters.foldl (fun s r => heaterRecord r.1 r.2 s) s
  let s := u.hvs.foldl (fun s r => hvRecord r.1 r.2.1 r.2.2.1 r.2.2.2.1 r.2.2.2.2 s) s
  s.modRing fun r => { r with sensors := u.sensors.foldl (fun t p => kvSet t p.1 p.2) r.sensors }

/-- A node's up record is absent or invalid: a note each cycle, the loop test from the fourth in a row, lost at the
eighth; the model stands in for its motor currents (R260). -/
def recordMissing (n : Nat) (s : State) : State :=
  let h := nodeH s n
  let k := (s.node n).missing + 1
  let s := note 0x1201 h 0 (modNode n (fun x => { x with missing := k }) s)
  let s := (unitsOn s.cfg.cur h).foldl (fun s i => match s.cfg.cur.rank 6 (s.cfg.cur.handle i) with
    | some a => modAxis a (fun x => { x with cur := x.pred }) s
    | none => s) s
  if k = 4 then raise 0x1201 h 0 n s
  else if k = 8 then retireNode h (raise 0x1202 h 0 n s)
  else s

/-- The records of a cycle: those that returned, and the nodes whose did not. -/
def nodeRecords (ups : List NodeUp) (s : State) : State :=
  let live := (s.ring.nodes.filter fun p => p.2.slot && !p.2.lost).map (·.1)
  if !s.ring.cyclic then s
  else live.foldl (fun s n => match ups.find? fun u => u.node == n with
    | some u => nodeRecord u s
    | none => recordMissing n s) s

/-! ### Parameters and the mailbox window (R254, R257) -/

/-- The RW parameters of record `r` of node `n`, as the current set has them (Table 12-12). -/
def recordParams (s : State) (n r : Nat) : List (Nat × Nat × Nat) :=
  let w := s.cfgGet 0x0C n (10 + 2 * r) 2
  let ch := bitsOf w 7 0
  let nh := (nodeH s n).toNat
  let on := fun (blk cnt o k c1 : Nat) => (List.range cnt).find? fun e => s.cfgGet blk e o k == nh && s.cfgGet blk e c1 1 == ch
  let chan := fun (t : Nat) => (List.range 512).find? fun e =>
    s.cfgGet 0x0E e 2 2 == nh && s.cfgGet 0x0E e 4 1 == ch && s.cfg.cur.typeOf (BitVec.ofNat 16 (s.cfgGet 0x0E e 0 2)) == t
  match bitsOf w 15 12 with
  | 1 => match on 0x09 64 92 2 94 with
    | some a => [(r, 0x0101, axMode s a), (r, 0x0103, driveBits s a 15 8), (r, 0x0104, (tripLevel s a * 1000).floor.toNat),
        (r, 0x0105, axF s a 22 1), (r, 0x0106, axF s a 20 2), (r, 0x0107, axF s a 124 4), (r, 0x0108, axF s a 95 1)]
    | none => []
  | 2 => match on 0x0A 32 0 2 2 with
    | some k => [(r, 0x0201, s.cfgGet 0x0A k 10 1), (r, 0x0202, s.cfgGet 0x0A k 12 2)]
    | none => []
  | 3 => match on 0x0D 64 0 2 2 with
    | some k =>
      let p := s.cfgGet 0x0D k 3 1
      [(r, 0x0301, s.cfgGet 0x0D k 4 2), (r, 0x0302, s.cfgGet 0x0D k 6 2), (r, 0x0303, s.cfgGet 0x0D k 8 2),
        (r, 0x0304, if p = 0xFF then 0xFF else s.cfgGet 0x0D p 2 1), (r, 0x0305, s.cfgGet 0x0D k 10 2)]
    | none => []
  | 4 => match chan 0x0D with
    | some e =>
      let lo := if s.cfgGet 0x0E e 5 1 = 0 then 45 else s.cfgGet 0x0E e 5 1
      let hi := if s.cfgGet 0x0E e 6 2 = 0 then 65 else s.cfgGet 0x0E e 6 2
      [(r, 0x0401, 500000 / hi + 65536 * (500000 / lo))]
    | none => []
  | 5 => match chan 0x0E with
    | some e =>
      let v := if s.cfgGet 0x0E e 5 1 = 0 then 10 else s.cfgGet 0x0E e 5 1
      [(r, 0x0501, s.cfgGet 0x0E e 6 2), (r, 0x0502, 100 * v)]
    | none => []
  | _ => []

/-- Every RW parameter of node `n`. -/
def wantedParams (s : State) (n : Nat) : List (Nat × Nat × Nat) :=
  (0xFF, 0x0002, s.cfgGet 0x0C n 30 2) :: (List.range (s.cfgGet 0x0C n 9 1)).flatMap (recordParams s n)

/-- The RO parameters of node `n`: record and number. -/
def wantedReads (s : State) (n : Nat) : List (Nat × Nat) :=
  (0xFF, 0x0001) :: (List.range (s.cfgGet 0x0C n 9 1)).filterMap fun r =>
    match bitsOf (s.cfgGet 0x0C n (10 + 2 * r) 2) 15 12 with
    | 1 => some (r, 0x0102)
    | 6 => some (r, 0x0601)
    | _ => none

/-- Every RW parameter of a node has been written since its ASSIGN (R257). -/
def paramsDone (s : State) (n : Nat) : Bool := (wantedParams s n).all fun p => (s.node n).params.contains p

/-- ENABLE of a node (R257): first set once its parameters are written, cleared when no unit on it is in service; a node
in its safe action is shown 0 and then 1 (R261). -/
def nodeEnable (n : Nat) (s : State) : State :=
  let x := s.node n
  let on := (unitsOn s.cfg.cur (nodeH s n)).any fun i => (liveOf s i).st.rank == 0 || (liveOf s i).st.rank == 2
  let e := x.slot && !x.lost && x.ready && on && (x.enable || paramsDone s n)
  modNode n (fun x => { x with enable := if x.safe then e && !x.enable else e }) s

/-- Sends a node a mailbox request. -/
def nodeAsk (n op : Nat) (arg : Nat × Nat × Nat) (s : State) : State :=
  let tag := s.ring.cyc % 256
  (modNode n (fun x => { x with req := some (op, tag), reqArg := arg, turns := 0 }) s).send
    (.nodeReq n op tag [arg.1, arg.2.1, arg.2.2])

/-- The mailbox window's turn in this cycle (R254): a request unanswered after 3 turns is an error, the next read or
write goes out, a write only while ENABLE is clear. -/
def mailboxTurn (s : State) : State :=
  let cnt := (nodesOn s).length
  let n := s.ring.cyc % max 4 cnt
  let x := s.node n
  let s := s.modRing fun r => { r with turn := n }
  if !s.ring.cyclic || !x.slot || x.lost then s
  else match x.req with
    | some _ =>
      if 3 ≤ x.turns + 1 then raise 0x1206 (nodeH s n) 0 n (modNode n (fun x => { x with req := none, turns := 0 }) s)
      else modNode n (fun x => { x with turns := x.turns + 1 }) s
    | none =>
      match (wantedReads s n).find? fun p => (kvFind x.read (paramKey p.1 p.2)).isNone with
      | some p => nodeAsk n 4 (p.1, p.2, 0) s
      | none =>
        if x.enable then s
        else match (wantedParams s n).find? fun p => !x.params.contains p with
          | some p => nodeAsk n 3 p s
          | none => s

/-- NODE_MAILBOX_REPLY: a node's reply: its request's tag, the status, and the value of a PARAM_READ (R254, R257). A busy
or rejected request is made again at a later turn. -/
def execNodeMailboxReply (node tag status value : Nat) (s : State) : Host.Outcome State Fault Refusal :=
  .next (match (s.node node).req with
    | none => s
    | some (op, t) =>
      if t ≠ tag then s
      else
        let arg := (s.node node).reqArg
        modNode node (fun x => { x with
          req := none, turns := 0
          params := if op = 3 ∧ status = 0 then
              (x.params.filter fun p => !(p.1 == arg.1 && p.2.1 == arg.2.1)) ++ [arg]
            else x.params
          read := if op = 4 ∧ status = 0 then kvSet x.read (paramKey arg.1 arg.2.1) value else x.read }) s)

/-! ### Ports, enumeration, loop tests (R244, R251 to R253, R258, R259) -/

/-- RING_PORT_DOWN: a port goes down; frames turn at the break (R244, R259). -/
def execRingPortDown (port : Nat) (s : State) : Host.Outcome State Fault Refusal :=
  .next (ringBreak port port (s.modRing fun r => { r with up := kvSet r.up port false }))

/-- RING_PORT_UP: 1,024 valid characters in a row (R244). -/
def execRingPortUp (port : Nat) (s : State) : Host.Outcome State Fault Refusal :=
  .next (s.modRing fun r => { r with up := kvSet r.up port true })

/-- The identity of a position is the layout's (R253, Table 21-4). -/
def layoutFits (s : State) (n : Nat) (p : RingPos) : Bool :=
  p.vendor == s.cfgGet 0x0C n 0 2 && p.channels == (List.range 6).map fun k => s.cfgGet 0x0C n (2 + k) 1

/-- Every unit on a node without a slot is FAULTED (R253). -/
def noSlot (n : Nat) (s : State) : State :=
  (unitsOn s.cfg.cur (nodeH s n)).foldl (fun s i => setUnitState (s.cfg.cur.handle i) .faulted 2 s) s

/-- Gives a position its node, or its fault (R252, R253). -/
def assignNode (cw n pos : Nat) (p : RingPos) (s : State) : State :=
  if n ≥ (nodesOn s).length then note 0x1205 (ringPortH 0) 0 s
  else if layoutFits s n p then
    let mean : Int := p.diffs.sum / ((max 1 p.diffs.length : Nat) : Int)
    modNode n (fun x => { x with
      pos := pos, slot := true, ready := false, enable := false, missing := 0, lost := false, req := none, turns := 0
      params := [], read := [], kind := p.channels, delay := ((8 * (cw : Int) + mean) / 2).toNat, last := {} }) s
  else noSlot n (raise 0x1203 (nodeH s n) 0 n (modNode n (fun x => { x with pos := pos, slot := false, ready := false }) s))

/-- RING_ENUMERATION: the loop times in ns and what stands at each position in order (R252, R253, R255). The layout names
positions by its block index, a standby taking none of them. -/
def execRingEnumeration (cw ccw : Nat) (found : List RingPos) (s : State) : Host.Outcome State Fault Refusal :=
  .next (
    let L := max cw ccw
    let nodes := (found.zipIdx).filter fun p => !p.1.controller
    let s := s.modRing fun r => { r with
      loopNs := L, cyclic := false, outService := false, nodes := r.nodes.map fun p => (p.1, { p.2 with slot := false }) }
    let s := nodes.zipIdx.foldl (fun s p => assignNode cw p.2 p.1.2 p.1.1 s) s
    let s := (nodesOn s).foldl (fun s n =>
      if n < nodes.length then s else noSlot n (raise 0x1204 (nodeH s n) 0 n s)) s
    if 10 < (cw - ccw) + (ccw - cw) ∨ found.any (fun p => p.diffs.length < 8) then
      raise 0x1103 (ringPortH 0) 0 L (s.modRing fun r => { r with outService := true })
    else if 16000 < 2 * L + 3000 ∨ 135000 < (17 + slotArea s.cfg.cur) * 32 + 10 * L then
      raise 0x1102 (ringPortH 0) 0 L (s.modRing fun r => { r with outService := true })
    else s.modRing fun r => { r with cyclic := true, broken := !(kvGet false r.up 0 && kvGet false r.up 1) })

/-- LOOP_TEST_READ: after 1,024 cycles the ends' counts are read: of a node's two segments, or of the broken segment of
the ring; each end must have received 1,024 valid blocks and none missing or invalid (R258 to R260). -/
def execLoopTestRead (target : Option Nat) (ends : List (Nat × Nat)) (s : State) : Host.Outcome State Fault Refusal :=
  .next (
    let pass := !ends.isEmpty && ends.all fun e => e.1 == 1024 && e.2 == 0
    match target with
    | some n =>
      let h := nodeH s n
      returnEnded pass h 0 (testEnded pass h 0 s)
    | none =>
      [0, 1].foldl (fun s p =>
        let h := ringPortH p
        returnEnded pass h 0 (if openOn s h 0x1101 then codeTestEnded pass h 0x1101 s else s)) s)

/-! ### The profile and the followers (R210 to R219, R404) -/

/-- The profile position and the web following error (R212). At rest the profile stands where the web does. -/
def profileTick (before : State) (s : State) : State :=
  let at' := fun t => (planAt (isCycloid s.cfg.cur) (planSegs before) t).2.2
  let pp := s.gov.profPos + 1200 * (at' (timeNow s) - at' (timeNow before))
  let pp := if s.gov.speed = 0 ∧ s.gov.target = 0 then newelLines s else pp
  s.modGov fun g => { g with
    profPos := pp, webOver := decide ((s.cfgGet 0x05 0 24 2 : Rat) < absRat (pp - newelLines s)) }

/-- R2, R45: the web, measured over 16 ms, has fallen below 24 in/s while the plan is faster: frames in flight are
SPOILED with a class 3 fault, and the press is in THREAD at once. -/
def webSpeedCheck (s : State) : State :=
  if s.ring.cyc % 1000 ≠ 0 then s
  else
    let v : Rat := ((s.newel.pos - s.newel.webPos : Int) : Rat) / (2 ^ 32 : Nat) / 1200 * (125 / 2)
    let s := s.modNewel fun x => { x with webPos := x.pos }
    if s.land.mode != .thread && decide (v < 24) && decide (24 ≤ s.gov.speed) && (!s.newel.lost || s.newel.onBackup) then
      fallToThread (if noFlights s then s else raise 0x0D04 0#16 0 0 (spoilNewel s))
    else s

/-- A speed moved toward another by at most `a` counts/s² in a cycle; 0 is no limit. -/
def approachSpeed (v w a : Rat) : Rat :=
  let d := a * 16 / 1000000
  if a = 0 then w else if absRat (w - v) ≤ d then w else if v < w then v + d else v - d

/-- The speed a FREE axis goes at, counts/s, by its homing step or its move (R222, R404). -/
def freeSpeed (s : State) (a : Nat) : Rat :=
  let x := s.axis a
  let v := x.gear.ff / 65536
  let dir : Rat := ((approach s a : Int) : Rat)
  let fast : Rat := (homeField s a 8 4 : Rat) / x.homeDiv
  let slow : Rat := (homeField s a 12 4 : Rat) / x.homeDiv
  let acc : Rat := axF s a 96 4
  match x.home with
  | .fast => approachSpeed v (dir * fast) acc
  | .slow => approachSpeed v (dir * slow) acc
  | .backoff | .retry => approachSpeed v (-dir * slow) acc
  | .none =>
    match x.move with
    | some (t, sp) =>
      let left := (t : Rat) - (x.gear.cmd : Rat) / 65536
      let brake := decide (acc ≠ 0) && decide (absRat left ≤ v ^ 2 / (2 * acc)) && decide (0 < v * left)
      let w : Rat := if left < 0 then -(sp : Nat) else (sp : Nat)
      approachSpeed v (if brake then 0 else w) acc
    | none => approachSpeed v 0 (axF s a 100 4)

/-- A FREE axis's own motion in a cycle. -/
def freeMotion (a : Nat) (s : State) : State :=
  let x := s.axis a
  let v := freeSpeed s a
  let step := v * 16 / 1000000
  let c0 := x.gear.cmd
  let c1 := c0 + (step * 65536).floor
  let there : Bool := match x.move with
    | some (t, _) => x.home == .none && decide (absRat ((t : Rat) - (c0 : Rat) / 65536) ≤ max 1 (absRat step))
    | none => false
  match x.move with
  | some (t, _) =>
    if there then
      finish (waitingOn 0x0408 (axH s a)) .ok []
        (modAxis a (fun x => { x with move := none, gear := { x.gear with cmd := 65536 * t, ff := 0 } }) s)
    else modGear a (fun g => { g with cmd := c1, ff := v * 65536 }) s
  | none => modGear a (fun g => { g with cmd := c1, ff := v * 65536 }) s

/-- Homing's own checks in a cycle: travel, the ends of a back-off, and what stops it (R222, R223). -/
def homeTick (a : Nat) (s : State) : State :=
  let x := s.axis a
  let p := x.gear.cmd / 65536
  let homeH : Handle := BitVec.ofNat 16 (homeField s a 0 2)
  let far := decide (homeField s a 16 4 ≤ (p - x.homeEdge).natAbs)
  let step := (absRat (x.gear.ff / 65536) * 16 / 1000000)
  if x.home = .none then s
  else if s.intlk.low ≠ 0#8 || stopActive s then homeFailed a s
  else match x.home with
    | .backoff => if !inputLevel s homeH.toNat && far then modAxis a (fun x => { x with home := .slow }) s else s
    | .retry => if far then modAxis a (fun x => { x with home := .fast }) s else s
    | _ =>
      let n := x.homeTravel + step.ceil.toNat
      let s := modAxis a (fun x => { x with homeTravel := n }) s
      if homeField s a 20 4 < n then raise 0x1003 homeH 0 a (homeFailed a s) else s

/-- Answers commands whose axis no longer does what they asked. -/
def orphanWaiters (a : Nat) (s : State) : State :=
  let x := s.axis a
  let s := if x.home = .none then finish (homeWaits s a) .timeout [] s else s
  if x.move.isNone then finish (waitingOn 0x0408 (axH s a)) .conflict [] s else s

/-- A REGEAR of a unit has ended (R214). -/
def regearEnds (h : Handle) (r : Option Bool) (s : State) : State :=
  match r with
  | some ok => finish (fun w => w.op == 0x0404 && w.cmd.handle == h) (if ok then .ok else .timeout) [] s
  | none => s

/-- One cycle of a motor axis as a follower. -/
def axisFollow (a : Nat) (s : State) : State :=
  let cyc := isCycloid s.cfg.cur
  let x := newelLines s
  let (g, r) := (s.axis a).gear.regearAt x (newelUnits s)
  let s := regearEnds (axH s a) r (modGear a (fun _ => g) s)
  let stopped := s.gov.stopping && s.land.stopReq != .threadCmd
  let s := if stopped then modAxis a (fun x => { x with move := none }) s else s
  if g.st = .free then orphanWaiters a (homeTick a (freeMotion a s))
  else orphanWaiters a (modGear a (fun g => g.cycle cyc x s.newel.dn (newelUnits s)) s)

/-- The half-step target of a stepper. -/
def halfSteps (g : Gear) : Int := roundHalf ((g.cmd : Rat) / 32768)

/-- Speed shares, percent of v_ax, at which a privileged stepper goes to the next coarser band (Table 10-3). -/
def nextBand (band : Nat) (share : Rat) : Nat :=
  if band = 0 then (if 25 < share then 1 else 0)
  else if band = 1 then (if 50 < share then 2 else if share < 23 then 0 else 1)
  else if band = 2 then (if 75 < share then 3 else if share < 48 then 1 else 2)
  else (if share < 73 then 2 else 3)

/-- Grid of a band, in μ units. -/
def bandGrid (band : Nat) : Int := match band with | 0 => 1 | 1 => 16 | 2 => 64 | _ => 256

/-- The nearest grid point, ties toward the lower (R220). -/
def quantise (grid m : Int) : Int := let r := m % grid; if 2 * r ≤ grid then m - r else m - r + grid

/-- One cycle of a stepper: its delayed target, at most 8 half-steps a cycle, and a privileged one's resolution, which
changes where the path reaches a whole full step (R219, R220). -/
def stepperTick (k : Nat) (s : State) : State :=
  let x := kvGet ({} : Stepper) s.steppers k
  let (g, r) := x.gear.regearAt (newelLines s) (newelUnits s)
  let g := g.cycle (isCycloid s.cfg.cur) (newelLines s) s.newel.dn (newelUnits s)
  let want := halfSteps g
  let t := max (x.t - 8) (min (x.t + 8) want)
  let exact := 128 * x.t
  let old := 128 * x.tPrev
  let filt := ((t - x.t).natAbs :: x.filt).take 16
  let vmax : Rat := s.cfgGet 0x0A k 4 4
  let share : Rat := if vmax = 0 then 0 else ((filt.sum : Nat) : Rat) / (filt.length : Nat) / 2 * 62500 * 100 / vmax
  let privileged := bitOf (s.cfgGet 0x0A k 3 1) 0
  let crosses := decide (old / 256 ≠ exact / 256) || exact % 256 == 0 || old % 256 == 0
  let band := if privileged && crosses then nextBand x.grid share else x.grid
  let mu := if privileged then quantise (bandGrid band) exact else exact
  let s := s.modSteppers fun l => kvMod {} l k fun x =>
    { x with gear := g, tPrev := x.t, t := t, mu := mu, grid := if privileged then band else 0, filt := filt }
  (regearEnds (s.cfg.cur.ranked 7 k) r s).send (.stepper k mu (s.cfgGet 0x0A k 8 2))

/-- A jog's distance runs down; its descent begins where it just suffices, and the jog answers at rest (R404). -/
def jogTick (s : State) : State :=
  match s.gov.jogLeft with
  | none => s
  | some d =>
    if s.gov.stopping then finish (waitingOp 0x0402) .conflict [] (s.modGov fun g => { g with jogLeft := none })
    else
      let d := d - s.newel.dn.natAbs
      let v := s.gov.speed
      let r := rampSeg s.cfg.cur v 0 0
      let need := absRat v / 2 * r.dur * 1200 * 256
      let s := s.modGov fun g => { g with jogLeft := some d }
      if s.gov.target = 0 then
        (if holding s then finish (waitingOp 0x0402) .ok [] (s.modGov fun g => { g with jogLeft := none, jog := 0 }) else s)
      else if (d : Rat) ≤ need then planTo 0 s
      else s

/-- Riders' fires that have reached their line are scheduled; one that the overlap rule refuses is skipped (R116, R118,
R263). -/
def solTick (k : Nat) (s : State) : State :=
  let line := newelLine s
  let now := (s.sol k).due.filter fun p => decide (p.1 ≤ line)
  let s := if now.isEmpty then s else s.modSols fun t => kvMod {} t k fun x => { x with due := x.due.filter fun p => !decide (p.1 ≤ line) }
  now.foldl (fun s p => match fireSol k (nextCycle s) p.2 0 s with
    | some t => t
    | none => note 0x1306 (s.cfg.cur.ranked 0x0C k) 0 s) s

/-- An axis's own cycle: the self-test that runs, six-step speed, DTC; a stage taken off by a stop is put on again by the
run sequence (R240, R453). -/
def axisTick (a : Nat) (s : State) : State :=
  let s := axisFollow a (axisTestTick a s)
  let x := s.axis a
  let s := if s.land.run = .ramp ∧ x.fault = false ∧ x.test.isNone ∧ (liveOf s (hIndex (axH s a))).st = .ready then
      modAxis a (fun x => { x with enabled := true }) s
    else s
  match axMode s a with
  | 0 => sixStep a s
  | 2 => if (s.axis a).enabled && !(s.axis a).fault then dtcStep a s else s
  | _ => s

/-! ### The frames (R246, R345, R349) -/

/-- CLAIM_OUT falls and is not raised again before a power cycle (R349). -/
def dropClaim (s : State) : State :=
  setLasers (darken (s.modPair fun p => { p with claimOut := false, dropped := true }))

/-- The cycle frame goes out on both lanes while the device is master; two cycles without one drop the claim (R246,
R349). -/
def launch (s : State) : State :=
  if !s.pair.claimOut then s
  else if s.ring.cyclic && !s.ring.outService then
    (s.modPair fun p => { p with noMaster := 0 }).send (.cycleFrame s.ring.cyc s.ring.safe)
  else if s.ring.outService then
    let s := s.modPair fun p => { p with noMaster := p.noMaster + 1 }
    if 2 ≤ s.pair.noMaster then dropClaim s else s
  else s

/-- PAIR_EN (Table 18-2). -/
def pairEn (s : State) : Bool := bitOf (s.cfgGet 0x11 0 0 4) 31

/-- The flags of the device's mirror frame (Table 18-5); ACTIVE goes with its claim. -/
def mirrorFlags (s : State) : BitVec 8 :=
  let b := fun (i : Nat) (x : Bool) => bnat x * 2 ^ i
  BitVec.ofNat 8 (b 0 s.pair.claimOut + b 1 s.pair.claimOut + b 2 (s.pair.st == .synced) + b 3 s.faults.lockout +
    b 4 (s.pair.handover && noFlights s) + b 5 (s.boot.pairSlot == 1))

/-- The mirror frame of the cycle: HELLO until the peer is met, then CYCLIC. A device that has dropped its claim and a
standby in LOCKOUT send none (R343, R345, R349, R355). -/
def sendMirror (s : State) : State :=
  if !pairEn s || s.pair.dropped || (s.faults.lockout && !s.pair.claimOut) then s
  else
    (s.modPair fun p => { p with txSeq := (p.txSeq + 1) % 2 ^ 32 }).send
      (.mirror (if s.pair.helloDone then 2 else 1) s.ring.cyc s.pair.txSeq s.pair.rxSeq (mirrorFlags s))

/-- The mirror is lost: MIRROR_LOST against ML, whose self-test is a BER test (Table 18-8); a standby is UNSYNCED, a
planned handover is off. -/
def mirrorLost (s : State) : State :=
  let s := raise 0x1601 (BitVec.ofNat 16 29) 0 0 (modLane 28 (fun x => { x with ber := some { cmd := false } }) s)
  let s := if s.pair.st = .syncing ∨ s.pair.st = .synced then setPair .unsynced s else s
  finish (waitingOp 0x0C02) .conflict [] (s.modPair fun p => { p with peerSynced := false, handover := false })

/-- The cycle's mirror frame has arrived or is missed (R345, R347). The active device loses the mirror at the third miss
in a row, a standby that has not claimed by then at the next (Table 18-8). -/
def pairTick (s : State) : State :=
  if !pairEn s || !s.pair.seenPeer then s
  else
    let got := s.pair.got
    let s := s.modPair fun p =>
      { p with
        mirrorUp := got, got := false, missRun := if got then 0 else p.missRun + 1
        missed := if got || p.missed == 0xFFFF#16 then p.missed else p.missed + 1 }
    if s.pair.missRun = (if s.pair.claimOut then 3 else 4) then mirrorLost s else s

/-- A planned handover whose frames have drained ends the device's claim: the frame with HANDOVER and the master frame of
the cycle are out; it becomes standby and begins with HELLO again (R357). -/
def handOver (s : State) : State :=
  if s.pair.handover && s.pair.claimOut && s.pair.peerSynced && noFlights s then
    let s := s.modPair fun p =>
      { p with claimOut := false, handover := false, helloDone := false, snapDone := false, peerSynced := false }
    finish (waitingOp 0x0C02) .ok [] (setPair .unsynced (setLasers (darken s)))
  else s

/-- In LOCKOUT, once the controlled stop has brought the web to rest, every node goes to its safe action (R325). -/
def lockoutSafe (s : State) : State :=
  if s.faults.lockout && holding s && decide (s.gov.speed = 0) then s.modRing fun r => { r with safe := true } else s

/-- What a cycle brings in: the newel's advance since the last and the nodes' records (R213, R246, R260). -/
def ringIn (ups : List NodeUp) (s : State) : State :=
  hvTick (nodeRecords ups (s.modNewel fun x =>
    { x with dn := x.pos / (2 ^ 24 : Nat) - x.prevCyc, prevCyc := x.pos / (2 ^ 24 : Nat) }))

/-- What the web does in a cycle; `before` is the state that the cycle began in. -/
def ringWeb (before s : State) : State :=
  let s := beginStop (threadCheck (webSpeedCheck (profileTick before (advancePlan s))))
  jogTick (if s.land.run = .none then s else runStep [] 0 s)

/-- What follows the web in a cycle: axes, steppers, loops, fires. -/
def ringFollow (s : State) : State :=
  let s := (axesOn s).foldl (fun s a => axisTick a s) s
  let s := (List.range (min 32 (s.cfg.cur.ofType 7).length)).foldl (fun s k => stepperTick k s) s
  let s := runLoops s.ring.cyc s
  (s.sols.map (·.1)).foldl (fun s k => solTick k s) s

/-- What a cycle sends: the nodes' enables, the mailbox window, the mirror and cycle frames; and a look at the units that
fan-outs wait for. -/
def ringOut (s : State) : State :=
  let s := (nodesOn s).foldl (fun s n => nodeEnable n s) s
  wakeFans (handOver (launch (sendMirror (lockoutSafe (mailboxTurn s)))))

/-- RING_CYCLE: ring cycle boundary; `ups` are the nodes' up records that returned valid (R246). Records, the newel's
advance, the profile, the followers and axes, loops, fires, the window, the frames. A standby only keeps count and sends
its mirror frame (R346). -/
def execRingCycle (ups : List NodeUp) (s : State) : Host.Outcome State Fault Refusal :=
  .next (
    let t := pairTick (s.modRing fun r => { r with cyc := r.cyc + 1 })
    if standby t then sendMirror t else ringOut (ringFollow (ringWeb s (ringIn ups t))))

end Sys2Proof.Machine
end

