-- ==== Sys2Proof/Machine/Clocks.lean ====
section
/-! DEFINITION. Reset and the clocks: what a reset keeps, wake-up, the divider staircase, failures in service, lane PLLs
and clock meter 1 (14, R32, R310, R413, R435, R436, R438). -/

namespace Sys2Proof.Machine

open Sys2Proof

/-! ### Reset -/

/-- What a reset keeps (Table 01-2): the MRAM, what stands on the spool's media, the QSPI images, and the levels the
board drives into input pins; and the model's own queue, outbox and count. Everything else is as after reset (R435). -/
def resetDevice (s : State) : State :=
  { State.reset with
    pending := s.pending, outbox := s.outbox, free := s.free
    clk := { opSec := s.clk.opSec, powerCycle := s.clk.powerCycle }
    boot := { pairSlot := s.boot.pairSlot, bootMode := s.boot.bootMode }
    cfg := { slotA := s.cfg.slotA, slotB := s.cfg.slotB, highVer := s.cfg.highVer }
    land := { nextSerial := s.land.nextSerial }
    spool :=
      { sb := s.spool.sb, xtsKey := s.spool.xtsKey, dir := s.spool.storedDir, descs := s.spool.stored
        storedDir := s.spool.storedDir, stored := s.spool.stored, storedRuns := s.spool.storedRuns
        regionWrite := s.spool.regionWrite, regionRecs := s.spool.regionRecs }
    intlk := { low := s.intlk.low, closedBy := s.intlk.low, shut := if s.intlk.low = 0#8 then 0#18 else 0x3FFFF#18 }
    power := { log := s.power.log }
    pair := { claimIn := s.pair.claimIn, peerAlive := s.pair.peerAlive }
    gal :=
      { recs := s.gal.recs, nextSeq := s.gal.nextSeq, lost := s.gal.lost
        near := decide (31744 ≤ s.gal.recs.length), full := decide (32768 ≤ s.gal.recs.length) }
    ledger := { acked := s.ledger.acked, tail := s.ledger.tail, tailCycle := s.ledger.tailCycle, tailValid := s.ledger.tailValid }
    auth := { keys := s.auth.keys, digests := s.auth.digests }
    cal :=
      { seqNo := s.cal.seqNo, slotIsB := s.cal.slotIsB, aValid := s.cal.aValid, bValid := s.cal.bValid
        slotA := s.cal.slotA, slotB := s.cal.slotB } }

/-- The device leaves reset: a new power cycle is counted, saturating (R310, Table 00-5), and FOSC is enabled. -/
def leaveReset (s : State) : State :=
  (s.modClk fun c => { c with powerCycle := min 0xFFFFFFFF (c.powerCycle + 1) }).modBoot fun b => { b with porst := false }

/-- A reset as though PORST_N had been asserted and released; the straps keep what they were sampled at (R310, R413,
R436). -/
def selfReset (s : State) : State := leaveReset (resetDevice s)

/-- PORST_N_ASSERT: PORST_N has been low for 10 µs (R438). -/
def execPorstNAssert (s : State) : Host.Outcome State Fault Refusal := .next (resetDevice s)

/-- PORST_N_RELEASE: the straps are sampled (R436) and the boot ROM starts on FOSC (R289); with TEST_EN high the device
enters its factory test, of which the spec says nothing. BOOT_MODE 0b10 and 0b11 read no image. -/
def execPorstNRelease (pairSlot bootMode : Nat) (testEn : Bool) (s : State) : Host.Outcome State Fault Refusal :=
  if !s.boot.porst then .next s
  else if testEn then .fault .factoryTest
  else .next ((leaveReset s).modBoot fun b =>
    { b with
      pairSlot := pairSlot % 2, bootMode := bootMode % 4, stage := if 2 ≤ bootMode % 4 then .none else .rom })

/-- DEVICE_RESET: 1 ms after PWR_RESET's response the device resets as for PORST_N (R413). -/
def execDeviceReset (s : State) : Host.Outcome State Fault Refusal := .next (if s.boot.resetDue then selfReset s else s)

/-! ### Domains (R286, R288) -/

/-- The ladder of dividers, largest first (R288). -/
def ladder : List Nat := [96, 48, 32, 24, 16, 12, 8, 6, 4, 3, 2, 1]

/-- The divider a domain has on the root: 0 SLOW to 6 CODEC (Table 14-2). -/
def rootDiv (d : Nat) : Nat := [96, 24, 6, 3, 2, 12, 4].getD d 0

/-- The divider a domain has on FOSC, 0 stopped (Table 14-4). -/
def foscDiv (d : Nat) : Nat := [8, 2, 2, 2, 1, 0, 0].getD d 0

/-- Domain `d`. -/
def domain (c : Clk) (d : Nat) : Domain := kvGet {} c.domains d

/-- The domains run from the root: it is locked, or holds over after a failure in service (R291, R293). -/
def wantsRoot (c : Clk) : Bool := c.rootLocked || c.holdOver

/-- The next rung from `d` toward `t`; a stop goes up to ÷96 first. -/
def rungToward (d t : Nat) : Nat :=
  if t = 0 ∨ d < t then (ladder.filter fun r => decide (d < r)).getLast?.getD 96
  else ((ladder.filter fun r => decide (r < d)).head?).getD 1

/-- The smallest rung of the new source whose frequency does not exceed the old one's: the root is 12 times FOSC
(R288). -/
def restartRung (toRoot : Bool) (d : Nat) : Nat :=
  ((ladder.filter fun r => if toRoot then decide (12 * d ≤ r) else decide (d ≤ 12 * r)).getLast?).getD 96

/-- A domain is where it should be. -/
def domainThere (c : Clk) (d : Nat) : Bool :=
  let x := domain c d
  x.div == x.target && (x.div == 0 || x.onRoot == wantsRoot c)

/-- One step of a domain: a start at ÷96, a source change, a stop, or a rung (R288). -/
def domainStep (toRoot : Bool) (x : Domain) : Domain :=
  if x.div = 0 then { x with div := 96, onRoot := toRoot }
  else if x.target = 0 then (if x.div = 96 then { x with div := 0 } else { x with div := rungToward x.div 0 })
  else if x.onRoot ≠ toRoot then { x with div := restartRung toRoot x.div, onRoot := toRoot }
  else { x with div := rungToward x.div x.target }

/-- Sets every domain's target. -/
def aimDomains (f : Nat → Nat) (c : Clk) : Clk :=
  { c with domains := (List.range 7).map fun d => (d, { domain c d with target := f d }) }

/-- DIVIDER_STEP: one step of the staircase, of the first domain in order that is not where it should be (R288). -/
def execDividerStep (s : State) : Host.Outcome State Fault Refusal :=
  .next (if s.boot.porst then s
    else s.modClk fun c =>
      match (List.range 7).find? fun d => !domainThere c d with
      | none => c
      | some d =>
        let c := { c with domains := kvMod {} c.domains d (domainStep (wantsRoot c)) }
        { c with stairDone := c.stairDone || (c.rootLocked && (List.range 7).all fun d => domainThere c d) })

/-- A thermal throttle moves CORE's target; outside Table 14-2 it has none to move (R288, R315). -/
def throttleCore (div : Nat) (s : State) : State :=
  if s.clk.stairDone then s.modClk fun c => { c with domains := kvMod {} c.domains 4 fun x => { x with target := div } } else s

/-! ### Wake-up (R289 to R292) -/

/-- The clocks wake up: out of reset, with neither success nor failure so far. -/
def waking (s : State) : Bool := !s.boot.porst && s.boot.cause == 0#4 && !s.clk.stairDone

/-- FOSC_CHECK: the 1 ms check of FOSC against SOSC. The first good one puts the domains on Table 14-4 and the boot ROM
enables XTAL0 (R289, R290); the fourth bad one in a row holds the device in reset. -/
def execFoscCheck (khz : Nat) (s : State) : Host.Outcome State Fault Refusal :=
  .next (if s.boot.porst then s
    else if 160000 ≤ khz ∧ khz ≤ 240000 then
      if s.clk.foscGood then s.modClk fun c => { c with foscFails := 0 }
      else s.modClk fun c =>
        { c with
          foscFails := 0, foscGood := true, xtalOn := true
          domains := (List.range 7).map fun d => (d, { div := foscDiv d, target := foscDiv d }) }
    else if 3 ≤ s.clk.foscFails then resetDevice s
    else s.modClk fun c => { c with foscFails := c.foscFails + 1 })

/-- The limp state is decided: firmware will start in it (R292). -/
def clocksFail (cause : BitVec 4) (s : State) : State := s.modBoot fun b => { b with cause := cause }

/-- XTAL0_START_TIMEOUT: XTAL0 has not been declared oscillating within 20 ms of being enabled (R290). -/
def execXtal0StartTimeout (s : State) : Host.Outcome State Fault Refusal :=
  .next (if waking s && s.clk.xtalOn && !s.clk.xtalGood then clocksFail 1#4 s else s)

/-- ROOT_LOCK: the root has held its window for 1,024 reference cycles; the domains move to Table 14-2 (R285, R291). -/
def execRootLock (s : State) : Host.Outcome State Fault Refusal :=
  .next (if waking s && s.clk.xtalGood && !s.clk.rootLocked then
      s.modClk fun c => aimDomains rootDiv { c with rootLocked := true }
    else s)

/-- A lock attempt has failed: the domains that had moved return to Table 14-4; after the fourth the device goes limp
(R291). -/
def rootFails (s : State) : State :=
  let s := s.modClk fun c => aimDomains foscDiv { c with rootLocked := false, rootTries := c.rootTries + 1 }
  if 4 ≤ s.clk.rootTries then clocksFail 2#4 s else s

/-- ROOT_ATTEMPT_TIMEOUT: an attempt has not locked within 2 ms (R291). -/
def execRootAttemptTimeout (s : State) : Host.Outcome State Fault Refusal :=
  .next (if waking s && s.clk.xtalGood && !s.clk.rootLocked then rootFails s else s)

/-! ### Failures in service (R293, R294) -/

/-- The class 4 record of a root failure; before firmware runs it waits for the firmware's start (Table 24-3). -/
def rootLockout (code : Nat) (s : State) : State := if s.mbx.live then raise code 0#16 0 0 s else s

/-- XTAL0 stops, or the root loses lock: in service the root holds over and LOCKOUT is raised (R293), a later loss of
XTAL0 merging into its record (Table 14-10); before the staircase is complete it is a failed attempt (R291). -/
def rootLost (code : Nat) (s : State) : State :=
  if s.boot.porst || s.boot.cause != 0#4 then s
  else if s.clk.stairDone then
    if s.clk.holdOver then (if code = 0x0103 then rootLockout code s else s)
    else rootLockout code (s.modClk fun c => { c with holdOver := true, rootLocked := false, xtalGood := code != 0x0103 })
  else if s.clk.rootLocked then rootFails s
  else s

/-- XTAL0_LOST: no edge for 1 µs, or a count outside the window (R293). -/
def execXtal0Lost (s : State) : Host.Outcome State Fault Refusal := .next (rootLost 0x0103 s)

/-- ROOT_UNLOCK: the phase error has left its window for 8 cycles (R285, R293). -/
def execRootUnlock (s : State) : Host.Outcome State Fault Refusal := .next (rootLost 0x0104 s)

/-- XTAL0_GATE: a gate of meter 0. Sixteen good counts in a row declare XTAL0 oscillating (R290); in service a bad one is
the loss of XTAL0 (R293). -/
def execXtal0Gate (count : Nat) (s : State) : Host.Outcome State Fault Refusal :=
  .next (
    let good := decide (115 ≤ count ∧ count ≤ 141)
    if s.boot.porst || !s.clk.xtalOn then s
    else if s.clk.stairDone then (if good then s else rootLost 0x0103 s)
    else if s.boot.cause != 0#4 then s
    else s.modClk fun c =>
      let k := if good then min 16 (c.xtalGates + 1) else 0
      { c with xtalGates := k, xtalGood := c.xtalGood || decide (16 ≤ k) })

/-- XTAL1_CHECK: a second of operation, counted by XTAL1 or, once it has failed its check, by SLOW without a step
(R294). -/
def execXtal1Check (ok : Bool) (s : State) : Host.Outcome State Fault Refusal :=
  .next (if s.boot.porst then s
    else
      let s := s.modClk fun c => { c with opSec := (c.opSec + 1) % 2 ^ 40 }
      if ok || s.clk.xtal1Fail then s
      else
        let s := s.modClk fun c => { c with xtal1Fail := true }
        if s.mbx.live then raise 0x0105 0#16 0 0 s else s)

/-! ### Lane PLLs (R287) -/

/-- The lanes of a PLL's group by INDEX: host, mirror, spool; the ring's stands against its east port. -/
def pllGroup (pll : Nat) : List Nat :=
  match pll with
  | 0 => (List.range 4).map (17 + ·)
  | 1 => [29]
  | 2 => (List.range 8).map (21 + ·)
  | _ => [30]

/-- LANE_PLL_LOCK_TIMEOUT: a lane PLL has not locked 1 ms after it was enabled: it is reset and enabled again, up to 3
times, then left down (R287); a retry stops when the root has failed (Table 14-10). -/
def execLanePllLockTimeout (pll : Nat) (s : State) : Host.Outcome State Fault Refusal :=
  .next (
    let x := kvGet ({} : Pll) s.clk.plls pll
    if !s.mbx.live || s.boot.stage != .running || decide (3 < pll) || x.down || s.clk.holdOver then s
    else if x.tries < 3 then s.modClk fun c => { c with plls := kvSet c.plls pll { x with tries := x.tries + 1 } }
    else
      let s := s.modClk fun c => { c with plls := kvSet c.plls pll { x with down := true } }
      (pllGroup pll).foldl (fun s i => raiseAs (if pll = 3 then 3 else 2) 0 0x0106 (BitVec.ofNat 16 i) 0 pll s) s)

/-! ### Meter 1 (R295) -/

/-- CLOCK_METER_DONE: meter 1's gate completes with a count: DONE, COUNT and OVF stand, and DIAG_METER is answered
(R295, R413). -/
def execClockMeterDone (count : Nat) (s : State) : Host.Outcome State Fault Refusal :=
  .next (if !s.clk.meterBusy then s
    else
      let ovf := decide (0xFFFFFFFF < count)
      let c := BitVec.ofNat 32 (min 0xFFFFFFFF count)
      let s := s.modClk fun k =>
        { k with
          meterBusy := false, meterCount := c
          meterWord := (k.meterWord &&& 0x1FFFFFFF#32) ||| 0x40000000#32 ||| (if ovf then 0x20000000#32 else 0#32) }
      finish (waitingOp 0x0B04) .ok (leBytes 4 c.toNat ++ leBytes 1 (bnat ovf)) s)

end Sys2Proof.Machine
end

