-- ==== Sys2Proof/Machine/Rails.lean ====
section
/-! DEFINITION. Power rails: judgements, the up and down sequences, failures, reset outputs, the power-fail sequence, the
power log and the PWR_ commands (15, R413). -/

namespace Sys2Proof.Machine

open Sys2Proof

/-! ### Going down -/

/-- A rail that is down counts as OFF, or as HELD when an ancestor failed (R305, R306). -/
def railDown (r : Nat) (s : State) : State :=
  let held := (s.rail r).toHeld
  setRail r (if held then .held else .off) (modRail r (fun x => { x with toHeld := false, wanted := false }) s)

/-! ### The power log (R311) -/

/-- Phase of a failure (Table 15-6). -/
def powerPhase (s : State) : Nat :=
  if s.boot.pfail then 3 else match s.power.seq with | .up => 0 | .none => 1 | .down => 2

/-- The first failure of the power cycle rewrites its entry (R311). -/
def logFailure (r cause : Nat) (s : State) : State :=
  let x := s.rail r
  s.modPower fun p => { p with log := match p.log with
    | e :: rest =>
      if e.cycle = s.clk.powerCycle ∧ e.rail = 0xFF then
        { e with sec := s.clk.opSec, rail := r, cause := cause, phase := powerPhase s, reading := x.mv
                 status := if railPm s r then x.word else 0 } :: rest
      else e :: rest
    | [] => [] }

/-- The sequencer's start opens the cycle's entry (R311). -/
def openLog (s : State) : State :=
  s.modPower fun p => { p with log := ({ cycle := s.clk.powerCycle, sec := s.clk.opSec } :: p.log).take 64 }

/-- The 32 bytes of a power log entry (Table 15-6). -/
def PLog.bytes (e : PLog) : List Byte :=
  let b := leBytes 4 e.cycle ++ leBytes 5 e.sec ++ leBytes 1 e.rail ++ leBytes 1 e.cause ++ leBytes 1 e.phase ++
    leBytes 2 e.reading ++ leBytes 2 e.status ++ leBytes 12 0
  b ++ leBytes 4 (crc32c b).toNat

/-! ### Sequences (R304, R306) -/

/-- Number of used rails in a state. -/
def railCount (s : State) (st : RailState) : Nat := ((usedRails s).filter fun r => (s.rail r).st == st).length

/-- The up sequence is complete: every rail it wants is GOOD, FAILED or HELD; PWR_SEQ is posted (R304). -/
def upDone (s : State) : State :=
  if s.power.seq ≠ .up then s
  else if (usedRails s).any fun r => (s.rail r).wanted && ((s.rail r).st == .off || (s.rail r).st == .rising || (s.rail r).st == .falling) then s
  else
    let s := s.modPower fun p => { p with seq := .none, rails := p.rails.map fun x => (x.1, { x.2 with wanted := false }) }
    let s := post 0x8A01 0xFFFF#16
      (leBytes 1 (railCount s .good) ++ leBytes 1 (railCount s .failed) ++ leBytes 1 (railCount s .held)) s
    finish (fun w => w.op == 0x0A02 || w.op == 0x0A04) .ok [] s

/-- The down sequence is complete: no rail is on or falling. -/
def downDone (s : State) : State :=
  if s.power.seq = .down ∧ (usedRails s).all (fun r => [RailState.off, .failed, .held].contains (s.rail r).st) then
    finish (waitingOp 0x0A03) .ok [] (s.modPower fun p => { p with seq := .none })
  else s

/-- The down order goes on, and the sequence ends with it (R306). -/
def goDown (s : State) : State :=
  downDone (disableReady s)

/-- A rail has fallen: the rails above it may follow. -/
def fallen (r : Nat) (s : State) : State := upDone (goDown (railDown r s))

/-- A rail fails: it is disabled and FAILED; what depends on it is taken down in the down order and HELD, rails RISING at
once and rails not yet enabled without starting (R305). The first failure of the cycle is logged. -/
def railFails (r cause : Nat) (s : State) : State :=
  let s := logFailure r cause s
  let s := raiseAs (if railEssential s r then 3 else 2) 0 (0x0200 + cause) (railH s r) 0 r s
  upDone (goDown (dropRail r s))

/-! ### Judgements (R299, R300, R303, R305) -/

/-- A voltage lies in the rail's window. -/
def railWindow (s : State) (r mv : Nat) : Bool := decide (railF s r 10 2 ≤ mv) && decide (mv ≤ railF s r 12 2)

/-- The voltage of a rail is judged: RISING it is GOOD in its window; GOOD it fails after `limit` judgements in a row
outside; FALLING it is down below off_threshold (R303, R305, R306). -/
def judgeRail (r mv limit : Nat) (clean : Bool) (s : State) : State :=
  let s := modRail r (fun x => { x with mv := mv }) s
  match (s.rail r).st with
  | .rising => if railWindow s r mv && clean then upDone (setRail r .good s) else s
  | .good =>
    if railWindow s r mv then modRail r (fun x => { x with badJudge := 0 }) s
    else
      let k := (s.rail r).badJudge + 1
      if limit ≤ k then railFails r 2 s else modRail r (fun x => { x with badJudge := k }) s
  | .falling => if mv < railF s r 14 2 ∧ railBlind s r = false then fallen r s else s
  | _ => s

/-- RAIL_JUDGEMENT: the local channels' means of four conversions, mV at the pin, by channel; a rail's voltage is the
pin's times its scale (R299). A TIMED rail has no sense; with the ADC bad no sense is used (R307, R312). -/
def execRailJudgement (pins : List (Nat × Rat)) (s : State) : Host.Outcome State Fault Refusal :=
  .next (if s.power.adcBad || !s.mbx.live || s.boot.stage != .running then s
    else (usedRails s).foldl
      (fun s r =>
        if railPm s r || railTimed s r then s
        else match pins.find? fun p => p.1 == railF s r 0 1 % 16 with
          | some p => judgeRail r (p.2 * (railF s r 24 2 : Nat) / 256).floor.toNat 4 true s
          | none => s) s)

/-- The rail of a PMBus page. -/
def pageRail (s : State) (device page : Nat) : Option Nat :=
  (usedRails s).find? fun r => railPm s r && railF s r 0 1 / 8 % 8 == device && railF s r 0 1 % 4 == page

/-- A STATUS_WORD shows a status fault (R300): bits 15, 14, 11, 5 and 4, and OFF while the rail should be on. -/
def statusFault (word : Nat) (on_ : Bool) : Bool :=
  bitOf word 15 || bitOf word 14 || bitOf word 11 || bitOf word 5 || bitOf word 4 || (on_ && bitOf word 6)

/-- A STATUS_WORD is judged: a status fault fails a rail that is on. While it still rises, POWER_GOOD# and OFF alone only
keep it out of its window (R303, R305). -/
def judgeStatus (r word : Nat) (s : State) : State :=
  let s := modRail r (fun x => { x with word := word, noAns := false }) s
  match (s.rail r).st with
  | .good => if statusFault word true then railFails r 4 s else s
  | .rising => if bitOf word 15 || bitOf word 14 || bitOf word 5 || bitOf word 4 then railFails r 4 s else s
  | _ => s

/-- A page has no answer: a rail that is on fails (R300, R305). -/
def noAnswer (r : Nat) (s : State) : State :=
  let s := modRail r (fun x => { x with noAns := true }) s
  if (s.rail r).st = .good ∨ (s.rail r).st = .rising then railFails r 3 s else s

/-- The voltage of a Linear16 reading in mV: mantissa × 2^exponent (R300). -/
def linear16 (s : State) (device page m : Nat) : Nat :=
  let e := signed 8 (s.cfgGet 0x0F (64 + device) (4 + page) 1)
  ((m : Rat) * 1000 / (2 ^ (-e).toNat : Nat)).floor.toNat

/-- PMBUS_POLL: READ_VOUT and STATUS_WORD of a page, none when it has no answer (R300). -/
def execPmbusPoll (device page : Nat) (answer : Option (Nat × Nat)) (s : State) : Host.Outcome State Fault Refusal :=
  .next (if !s.mbx.live || s.boot.stage != .running then s
    else match pageRail s device page, answer with
      | none, _ => s
      | some r, none => noAnswer r s
      | some r, some (m, w) =>
        let s := judgeStatus r w s
        judgeRail r (linear16 s device page m) 2 (!statusFault w true) s)

/-- PMB_ALERT: the STATUS_WORD of every configured page is read (R300). -/
def execPmbAlert (reads : List (Nat × Nat × Option Nat)) (s : State) : Host.Outcome State Fault Refusal :=
  .next (if !s.mbx.live || s.boot.stage != .running then s
    else reads.foldl
      (fun s x => match pageRail s x.1 x.2.1, x.2.2 with
        | none, _ => s
        | some r, none => noAnswer r (s.send (.rail r 3))
        | some r, some w => judgeStatus r w (s.send (.rail r 3))) s)

/-! ### Enables and timers -/

/-- A rail is startable but for its parents' on_delay: wanted, OFF, and every parent GOOD (R304). -/
def startable (s : State) (r : Nat) : Bool :=
  s.power.seq == .up && !s.boot.pfail && (s.rail r).wanted && (s.rail r).st == .off &&
    (parentRails s r).all fun p => (s.rail p).st == .good

/-- RAIL_ENABLE: of the rails whose parents' on_delay has run, the first startable one is enabled (R304). -/
def execRailEnable (ready : List Nat) (s : State) : Host.Outcome State Fault Refusal :=
  .next (match (upOrder s ((usedRails s).filter fun r => ready.contains r && startable s r)).head? with
    | some r => (setRail r .rising s).send (.rail r 1)
    | none => s)

/-- RISE_TIMEOUT: a rail's rise_timeout runs out: a TIMED rail is GOOD, any other still RISING fails (R303, R305). -/
def execRiseTimeout (rail : Nat) (s : State) : Host.Outcome State Fault Refusal :=
  .next (if (s.rail rail).st ≠ .rising ∨ usedRail s rail = false then s
    else if railTimed s rail then upDone (setRail rail .good s)
    else railFails rail 1 s)

/-- FALL_TIMEOUT: a rail has not fallen within its fall_timeout: it counts as OFF, with a fault (R306). -/
def execFallTimeout (rail : Nat) (s : State) : Host.Outcome State Fault Refusal :=
  .next (if (s.rail rail).st ≠ .falling ∨ railBlind s rail then s
    else fallen rail (raise 0x0205 (railH s rail) 0 rail (logFailure rail 5 s)))

/-- OFF_DELAY_EXPIRY: the fall-back's off_delay has run since the disable (R307). -/
def execOffDelayExpiry (rail : Nat) (s : State) : Host.Outcome State Fault Refusal :=
  .next (if (s.rail rail).st = .falling ∧ railBlind s rail then fallen rail s else s)

/-- RESET_OUTPUT_RELEASE: an output's rails have been GOOD for STRETCH (R308): it is released, and lanes whose
synthesiser is calibrated begin their initial training (R179, Table 24-1). -/
def execResetOutputRelease (output : Nat) (s : State) : Host.Outcome State Fault Refusal :=
  .next (if 4 ≤ output ∨ resetReady s output = false ∨ kvGet false s.power.rst output then s
    else
      let s := s.modPower fun p => { p with rst := kvSet p.rst output true }
      s.cfg.cur.stationList.foldl
        (fun s n => match stationLane s n with
          | some l =>
            if (s.lane l).trained || (s.lane l).training || (s.lane l).retired || !(s.st n).scan.calibrated then s
            else startTraining l true s
          | none => s) s)

/-- ADC_REFERENCE_CHECK: the internal reference channel has been outside ±2% for 1 s: rails on local channels fall back
(R307, R312). -/
def execAdcReferenceCheck (s : State) : Host.Outcome State Fault Refusal :=
  .next (if s.power.adcBad || !s.mbx.live then s
    else raise 0x0206 0#16 0 0 (s.modPower fun p => { p with adcBad := true }))

/-- The sequencer starts (R300, R304, R311): every OFF rail is wanted. -/
def startUp (s : State) : State :=
  upDone (s.modPower fun p => { p with
    seq := .up, rails := (usedRails s).foldl (fun t r => kvMod {} t r fun x => { x with wanted := x.st == .off }) p.rails })

/-- The sequencer's start at boot: the log entry, and ON_OFF_CONFIG to every page (R300, R311). -/
def bootPower (s : State) : State :=
  startUp (((usedRails s).filter (railPm s)).foldl (fun s r => s.send (.rail r 2)) (openLog s))

/-! ### Power failure (R309, R310) -/

/-- An OPEN entry as the tail keeps it: stations whose last band has been decoded with their check value (R84, R371). -/
def tailRec (s : State) (r : LedgerRec) : LedgerRec :=
  match s.land.flights.find? fun f => f.serial == r.serial with
  | some f => { closeRec s f r with state := .open, cause := 0, closed := 0 }
  | none => r

/-- The ledger tail: entries OPEN, or closed but neither written nor acknowledged, oldest first, at most 4,096
(R371). -/
def tailOf (s : State) : List LedgerRec :=
  ((s.ledger.queue.filter fun r =>
    !r.isClosed || (decide (s.spool.regionWrite ≤ r.serial) && decide (s.ledger.acked < r.serial))).map (tailRec s)).take 4096

/-- The log entry of a cycle that PFW_N ends without a rail failure (R311). -/
def logPowerFail (s : State) : State :=
  s.modPower fun p => { p with log := match p.log with
    | e :: rest => if e.cycle = s.clk.powerCycle ∧ e.rail = 0xFF then { e with phase := 3 } :: rest else e :: rest
    | [] => [] }

/-- PFW_N: a power-fail warning recognised once firmware runs (R309, Table 24-3): admission stops, writes under way are
abandoned, lasers go dark, the ring is told to be safe, records are saved, and the rails go down. It is not revoked, and
a second one has no effect. -/
def execPfwN (s : State) : Host.Outcome State Fault Refusal :=
  .next (if !s.mbx.live || s.boot.pfail then s
    else
      let s := s.modBoot fun b => { b with pfail := true }
      let s := s.modCfg fun c => { c with writing := false }
      let s := s.modCal fun c => { c with writing := false, again := false }
      let s := (setLasers (darken s)).modRing fun r => { r with safe := true }
      let n := s.gal.buf.length
      let tail := tailOf s
      let s := galFlush (galWrite 0x03 0#16 0 0 (leBytes 4 n ++ leBytes 4 tail.length) s)
      let s := s.modLedger fun l => { l with tail := tail, tailCycle := s.clk.powerCycle, tailValid := true }
      let s := s.modFaults fun f => { f with notes := noteCount f.notes (noteKey 0#16 0) 0x0207 }
      goDown ((logPowerFail s).modPower fun p => { p with seq := .down }))

/-- POWER_FAIL_RESET: the device is still powered and PFW_N has been high for 100 ms (R310). -/
def execPowerFailReset (s : State) : Host.Outcome State Fault Refusal := .next (if s.boot.pfail then selfReset s else s)

/-! ### The PWR_ commands (R413) -/

/-- The rail a RAIL unit is. -/
def railOf (s : State) (h : Handle) : Option Nat := s.cfg.cur.rank 0x0A h

/-- Code of a rail state, in the order of Table 15-3. -/
def RailState.code : RailState → Nat
  | .off => 0
  | .rising => 1
  | .good => 2
  | .failed => 3
  | .held => 4
  | .falling => 5

/-- PWR_STATUS's effect. -/
def bodyPwrStatus (m : Cmd) (s : State) : Reply :=
  match railOf s m.handle with
  | none => refuse .range s
  | some r =>
    let x := s.rail r
    .done .ok (leBytes 1 x.st.code ++ leBytes 1 0 ++ leBytes 2 x.mv ++ leBytes 2 x.word) s

/-- PWR_STATUS. -/
def execPwrStatus (m : Cmd) (s : State) : Host.Outcome State Fault Refusal :=
  .next (runCmd opPwrStatus noTicket m (bodyPwrStatus m) s)

/-- PWR_RAIL_RESTART's own checks and effect: R304 from that rail downward (R305, Table 15-9). -/
def bodyPwrRailRestart (m : Cmd) (s : State) : Reply :=
  match railOf s m.handle with
  | none => refuse .range s
  | some r =>
    if (s.rail r).st ≠ .failed then refuse .range s
    else if s.power.seq = .down then refuse .conflict s
    else if (usedRails s).any fun p => p != r && (s.rail p).st == .failed && railBelow s.cfg.cur 48 p r then refuse .conflict s
    else
      let s := setRail r .off (modRail r (fun x => { x with wanted := true, noAns := false }) s)
      let s := (railDependants s r).foldl
        (fun s q =>
          let blocked := (usedRails s).any fun p => (s.rail p).st == .failed && p != q && railBelow s.cfg.cur 48 p q
          if (s.rail q).st = .held ∧ !blocked then setRail q .off (modRail q (fun x => { x with wanted := true }) s) else s) s
      .later (s.modPower fun p => { p with seq := .up })

/-- PWR_RAIL_RESTART. -/
def execPwrRailRestart (m : Cmd) (s : State) : Host.Outcome State Fault Refusal :=
  .next (runCmd opPwrRailRestart noTicket m (bodyPwrRailRestart m) s)

/-- The web moves: the newel's planned speed, or a jog. -/
def webMoves (s : State) : Bool := decide (s.gov.speed ≠ 0) || decide (s.gov.jog ≠ 0)

/-- PWR_DOWN's own checks: a frame in flight or a moving web is a conflict; a sequence is busy, but for the down sequence
itself (Table 15-9). -/
def bodyPwrDown (s : State) : Reply :=
  if !noFlights s || webMoves s then refuse .conflict s
  else if s.power.seq = .up then refuse .busy s
  else .later ((unmountSpool s).modPower fun p => { p with seq := .down })

/-- PWR_DOWN: the rails go down in order once it has started (R306). -/
def execPwrDown (m : Cmd) (s : State) : Host.Outcome State Fault Refusal :=
  .next (goDown (runCmd opPwrDown noTicket m bodyPwrDown s))

/-- PWR_UP's own checks. -/
def bodyPwrUp (s : State) : Reply := if s.power.seq ≠ .none then refuse .busy s else .later s

/-- PWR_UP: R304 for every OFF rail. -/
def execPwrUp (m : Cmd) (s : State) : Host.Outcome State Fault Refusal :=
  .next (
    let t := runCmd opPwrUp noTicket m bodyPwrUp s
    if t.mbx.waiters.any (waitingOp 0x0A04) ∧ t.power.seq = .none then startUp t else t)

/-- PWR_LOG_READ's own checks and effect. -/
def bodyPwrLogRead (m : Cmd) (s : State) : Reply :=
  match s.power.log[m.u 0 1]? with
  | some e => .done .ok e.bytes s
  | none => refuse .range s

/-- PWR_LOG_READ. -/
def execPwrLogRead (m : Cmd) (s : State) : Host.Outcome State Fault Refusal :=
  .next (runCmd opPwrLogRead noTicket m (bodyPwrLogRead m) s)

/-- PWR_RESET's own checks and effect: the reset follows its response by 1 ms. -/
def bodyPwrReset (m : Cmd) (s : State) : Reply :=
  if m.u 0 4 ≠ 0x5120 then refuse .range s else .done .ok [] ((unmountSpool s).modBoot fun b => { b with resetDue := true })

/-- PWR_RESET. -/
def execPwrReset (m : Cmd) (s : State) : Host.Outcome State Fault Refusal :=
  .next (runCmd opPwrReset noTicket m (bodyPwrReset m) s)

end Sys2Proof.Machine
end

