-- ==== Sys2Proof/Machine/Heat.lean ====
section
/-! DEFINITION. The thermal manager: sources and their stages, broken sensors, slow requests, stop and trip (16).
Temperatures are in 1/16 °C. Source 0 to 7 are the die sensors, 8 + i is entry i of the thermal source table, and 140 is
the die as a whole, whose value is T_j. -/

namespace Sys2Proof.Machine

open Sys2Proof

/-! ### Sources (R314) -/

/-- A source's state. -/
def source (s : State) (k : Nat) : TSrc := kvGet {} s.therm.src k

/-- Changes a source's state. -/
def modSource (k : Nat) (f : TSrc → TSrc) (s : State) : State := s.modTherm fun t => { t with src := kvMod {} t.src k f }

/-- A threshold of table entry `i`, configured in 0.5 °C. -/
def entryT (s : State) (i off : Nat) : Int := signed 16 (s.cfgGet 0x10 i off 2) * 8

/-- Table entry `i` is used. -/
def entryUsed (s : State) (i : Nat) : Bool := i < 132 && bitOf (s.cfgGet 0x10 i 2 1) 0

/-- The source exists: a die sensor, the die, or a used entry. -/
def sourceUsed (s : State) (k : Nat) : Bool := k < 8 || k == 140 || (decide (8 ≤ k) && entryUsed s (k - 8))

/-- Where a source enters its slow stage (R315). -/
def slowAt (s : State) (k : Nat) : Int := if k = 140 ∨ k < 8 then 1568 else entryT s (k - 8) 4

/-- Where it enters stop. -/
def stopAt (s : State) (k : Nat) : Int := if k = 140 ∨ k < 8 then 1632 else entryT s (k - 8) 6

/-- Where it enters trip. -/
def tripAt (s : State) (k : Nat) : Int := if k = 140 ∨ k < 8 then 1728 else entryT s (k - 8) 8

/-- Below which it may leave slow (R315). -/
def slowExit (s : State) (k : Nat) : Int := if k = 140 ∨ k < 8 then 1520 else entryT s (k - 8) 10

/-- Below which it may leave stop and trip: T_resume (R320). -/
def resumeAt (s : State) (k : Nat) : Int := if k = 140 ∨ k < 8 then 1440 else entryT s (k - 8) 10

/-- What a source counts as: its reading, or when broken 1 °C above its stop threshold (R316); none before it has one. -/
def valueOf (s : State) (k : Nat) : Option Int :=
  let x := source s k
  if x.broken then some (stopAt s k + 16) else x.raw

/-- T_j: the highest among the on-die sensors (R314). -/
def tj (s : State) : Option Int :=
  ((List.range 8).filterMap (valueOf s)).foldl (fun m v => match m with | none => some v | some w => some (max v w)) none

/-- What a source, or the die, counts as. -/
def levelOf (s : State) (k : Nat) : Option Int := if k = 140 then tj s else valueOf s k

/-- The group a sensor is judged with: on-die, remote or node. -/
def groupOf (k : Nat) : Nat := if k < 8 then 0 else if k < 12 then 1 else 2

/-- The median of a list of readings. -/
def median (l : List Int) : Int := (sortBy l fun a b => decide (a ≤ b)).getD (l.length / 2) 0

/-- A reading lies in the range of a sensor (R316). -/
def inRange (v : Int) : Bool := decide (-880 ≤ v) && decide (v ≤ 2400)

/-- A reading is plausible: within 10 °C of the median of the sensor's group (R316). -/
def plausible (s : State) (k : Nat) : Bool :=
  match (source s k).raw with
  | none => false
  | some v =>
    let g := (s.therm.src.filter fun p => p.1 < 140 && groupOf p.1 == groupOf k).filterMap fun p => p.2.raw
    inRange v && decide ((v - median g).natAbs ≤ 160)

/-! ### Broken sensors (R316) -/

/-- A sensor breaks: a class 1 transient whose self-test is the plausibility check. -/
def breakSource (k : Nat) (s : State) : State :=
  if (source s k).broken ∨ sourceUsed s k = false ∨ k = 140 then s
  else raise 0x0305 (sourceH s.cfg.cur k) 0 k (modSource k (fun x => { x with broken := true, okN := 0 }) s)

/-- A broken sensor's check goes on: 10 s of plausible readings pass it. -/
def checkSource (k : Nat) (s : State) : State :=
  let x := source s k
  if !x.broken || x.retired then s
  else
    let n := if plausible s k then x.okN + 1 else 0
    if n < 10000 then modSource k (fun x => { x with okN := n }) s
    else codeTestEnded true (sourceH s.cfg.cur k) 0x0305 (modSource k (fun x => { x with broken := false, okN := 0 }) s)

/-- A source takes a reading; none is an open or shorted diode, or a lost node. -/
def readSource (k : Nat) (v : Option Int) (s : State) : State :=
  let s := modSource k (fun x => { x with raw := v }) s
  let s := if (v.map inRange).getD false then s else breakSource k s
  checkSource k s

/-! ### Stages (R315, R317 to R320) -/

/-- Down to the 0.5 in/s grid, never below 25 in/s. -/
def slowGrid (v : Rat) : Rat := max 25 (((2 * v).floor : Rat) / 2)

/-- A record on the source's unit awaits its acknowledgement (R320). -/
def awaitsAck (s : State) (k : Nat) : Bool :=
  match recordOf s (sourceH s.cfg.cur k) 0 with
  | some i => !(kvGet ({} : FRec) s.faults.recs i).acked
  | none => false

/-- A source that has been cool for 60 s and whose fault is acknowledged leaves stop and trip; leaving trip lifts the
DARK state (R184, R320). -/
def leaveHot (k : Nat) (s : State) : State :=
  let x := source s k
  if x.hot = 0 ∨ x.cool = false then s
  else
    let h := sourceH s.cfg.cur k
    let acked := !awaitsAck s k
    let s := match recordOf s h 0 with
      | some i =>
        if codeOf (kvGet ({} : FRec) s.faults.recs i).code / 256 = 3 then
          closeIfCleared i (s.modFaults fun f => { f with recs := kvMod {} f.recs i fun r => { r with causeGone := true } })
        else s
      | none => s
    if !acked then s
    else
      let s := modSource k (fun x => { x with hot := 0, cool := false }) s
      let s := if k = 140 then s.modTherm fun t => { t with dieTrip := false } else s
      if x.hot = 5 then setLasers (leaveAllDark s) else s

/-- Every hot source that may leave does. -/
def leaveAllHot (s : State) : State := (s.therm.src.map (·.1)).foldl (fun s k => leaveHot k s) s

/-- The slow stage is entered: 0.8 × the planned speed is named (R317). -/
def enterSlow (k : Nat) (s : State) : State :=
  if (source s k).slow then s
  else
    raise 0x0302 (sourceH s.cfg.cur k) 0 k
      (addReq k (slowGrid (s.gov.speed * 4 / 5)) (modSource k (fun x => { x with slow := true }) s))

/-- The stop stage is entered: class 3 (R318). -/
def enterStop (k : Nat) (s : State) : State :=
  if 4 ≤ (source s k).hot then s
  else raise 0x0303 (sourceH s.cfg.cur k) 0 k (modSource k (fun x => { x with hot := 4, cool := false }) s)

/-- The trip stage is entered: class 3 with the effects of precedence 2 (R319). -/
def enterTrip (k : Nat) (s : State) : State :=
  if (source s k).hot = 5 then s
  else
    let s := raise 0x0304 (sourceH s.cfg.cur k) 0 k (modSource k (fun x => { x with hot := 5, cool := false }) s)
    beginStop (askStop .controlled (setLasers (darken (spoilAll 0x14 s))))

/-- A source's level is judged against its slow, stop and trip thresholds (R315). -/
def judgeLevel (k : Nat) (s : State) : State :=
  match levelOf s k with
  | none => s
  | some v =>
    let s := if slowAt s k ≤ v then enterSlow k s else s
    let s := if stopAt s k ≤ v then enterStop k s else s
    let s := if tripAt s k ≤ v ∨ (k = 140 ∧ s.therm.dieTrip) then enterTrip k s else s
    if resumeAt s k ≤ v then modSource k (fun x => { x with cool := false }) s else s

/-- CORE's divider in a throttle stage (R315). -/
def throttleDiv (n : Nat) : Nat := if n = 0 then 2 else if n = 1 then 4 else 8

/-- The die takes a throttle stage. -/
def setThrottle (n : Nat) (s : State) : State := throttleCore (throttleDiv n) (modSource 140 (fun x => { x with thr := n }) s)

/-- The throttle stages of T_j are entered (R315). -/
def judgeThrottle (s : State) : State :=
  match tj s with
  | none => s
  | some v =>
    let n := if 1544 ≤ v then 2 else if 1520 ≤ v then 1 else 0
    if (source s 140).thr < n then raise 0x0301 0#16 0 n (setThrottle n s) else s

/-- The node that carries a sensor is lost (R260). -/
def sensorLost (s : State) (h : Handle) : Bool :=
  match nodeOf s.cfg.cur (hIndex h) with
  | some nh => match s.cfg.cur.rank 5 nh with | some n => (s.node n).lost | none => false
  | none => false

/-- The sources of the table take their readings: remote diodes from `td`, node sensors from their channels (R314). -/
def readEntries (td : List (Option Int)) (s : State) : State :=
  ((List.range 132).filter (entryUsed s)).foldl
    (fun s i =>
      if i < 4 then readSource (8 + i) (td.getD i none) s
      else
        let h := sourceH s.cfg.cur (8 + i)
        if sensorLost s h then readSource (8 + i) none s
        else match kvFind s.ring.sensors (hIndex h) with
          | some c => readSource (8 + i) (some ((c : Rat) * sensorScale s.cfg.cur h * 16).floor) s
          | none => s) s

/-- Sources that a commit has removed are no longer evaluated (R314). -/
def dropUnused (s : State) : State :=
  let gone := (s.therm.src.filter fun p => !sourceUsed s p.1).map (·.1)
  gone.foldl (fun s k => dropReq k (s.modTherm fun t => { t with src := kvDel t.src k })) s

/-- THERMAL_EVALUATE: the 1 ms evaluation of every source on its latest reading (R314 to R319). -/
def execThermalEvaluate (die : List Int) (td : List (Option Int)) (s : State) : Host.Outcome State Fault Refusal :=
  .next (if !s.mbx.live then s
    else
      let s := dropUnused s
      let s := (List.range 8).foldl (fun s k => match die[k]? with
        | some v => readSource k (some v) s
        | none => s) s
      let s := judgeThrottle (readEntries td s)
      leaveAllHot ((140 :: ((List.range 132).filter (entryUsed s)).map (8 + ·)).foldl (fun s k => judgeLevel k s) s))

/-- A source's reading lies below a threshold. -/
def levelBelow (s : State) (k : Nat) (t : Int) : Bool := match levelOf s k with | some v => decide (v < t) | none => false

/-- THERMAL_STAGE_EXIT: a source has stayed below the exit of a stage for its time: 1 and 2 the throttle stages, 3 slow,
4 stop and trip (R315, R320). -/
def execThermalStageExit (source stage : Nat) (s : State) : Host.Outcome State Fault Refusal :=
  .next (
    let x := Sys2Proof.Machine.source s source
    match stage with
    | 1 => if source = 140 ∧ x.thr = 1 ∧ levelBelow s 140 1472 then setThrottle 0 s else s
    | 2 => if source = 140 ∧ x.thr = 2 ∧ levelBelow s 140 1520 then setThrottle 1 s else s
    | 3 => if x.slow ∧ levelBelow s source (slowExit s source) then
        dropReq source (modSource source (fun x => { x with slow := false }) s) else s
    | 4 => if x.hot ≠ 0 ∧ levelBelow s source (resumeAt s source) then
        leaveHot source (modSource source (fun x => { x with cool := true }) s) else s
    | _ => s)

/-- SLOW_STEP: 30 s more at or above the slow threshold: a further factor of 0.8 (R317). -/
def execSlowStep (source : Nat) (s : State) : Host.Outcome State Fault Refusal :=
  .next (
    let x := Sys2Proof.Machine.source s source
    if x.slow ∧ levelBelow s source (slowAt s source) = false then
      match s.gov.reqs.find? fun r => r.1 == source with
      | some r => addReq source (slowGrid (r.2 * 4 / 5)) s
      | none => s
    else s)

/-- DIE_TRIP_COMPARATOR: an on-die comparator crosses 108 °C: the gate's DARK and LASER_EN paths act at once (R319); the
next evaluation enters the trip stage. -/
def execDieTripComparator (sensor : Nat) (reading : Int) (s : State) : Host.Outcome State Fault Refusal :=
  .next (if 8 ≤ sensor ∨ reading < 1728 then s
    else
      let s := modSource sensor (fun x => { x with raw := some reading }) s
      setLasers (darken (s.modTherm fun t => { t with dieTrip := true })))

/-- SENSOR_STUCK: a raw reading has not changed for 10 s (R316). -/
def execSensorStuck (source : Nat) (s : State) : Host.Outcome State Fault Refusal :=
  .next (if s.mbx.live then breakSource source s else s)

/-- The thermal status word (Table 16-4). -/
def thermWord (s : State) : BitVec 32 :=
  let stage := s.therm.src.foldl (fun m p => max m (max p.2.hot (max (if p.2.slow then 3 else 0) p.2.thr))) 0
  let wait := s.therm.src.any fun p => decide (4 ≤ p.2.hot) && awaitsAck s p.1
  let broken := (s.therm.src.filter fun p => p.2.broken).length
  let t := match tj s with | some v => (BitVec.ofInt 16 v).toNat | none => 0
  BitVec.ofNat 32 (stage * 2 ^ 29 + bnat wait * 2 ^ 28 + broken * 2 ^ 16 + t)

end Sys2Proof.Machine
end

