-- ==== Sys2Proof/Machine/Panel.lean ====
section
/-! DEFINITION. The operator panel and the token port: key matrix, LED chain, buzzer, touch panel, USB (22, R413, R428 to
R431). -/

namespace Sys2Proof.Machine

open Sys2Proof

/-- Firmware runs and the device is not limp. -/
def running (s : State) : Bool := s.boot.stage == .running && !s.boot.porst

/-- A byte of the PANEL block. -/
def panelF (s : State) (o : Nat) : Nat := s.cfgGet 0x15 1 o 1

/-- TOUCH_EN. -/
def touchEn (s : State) : Bool := bitOf (panelF s 7) 0

/-- USB_EN. -/
def usbEn (s : State) : Bool := bitOf (panelF s 7) 1

/-! ### Keys (R428) -/

/-- The key at row `r`, column `c` of the debounced matrix is pressed. -/
def keyAt (k : BitVec 64) (r c : Nat) : Bool := k.getLsbD (8 * r + c)

/-- Pressing the key at row `r`, column `c` closes a rectangle whose three other corners are pressed. -/
def fourthCorner (k : BitVec 64) (r c : Nat) : Bool :=
  (List.range 8).any fun r' => r' != r &&
    (List.range 8).any fun c' => c' != c && keyAt k r c' && keyAt k r' c && keyAt k r' c'

/-- One scan of key `i`: after 20 scans at its new level it changes, but for a fourth corner, which keeps its state. -/
def scanKey (down : BitVec 64) (s : State) (i : Nat) : State :=
  let p := s.panel
  let lvl := down.getLsbD i
  if lvl = p.keys.getLsbD i then s.modPanel fun p => { p with scan := kvDel p.scan i }
  else
    let n := min 20 (kvGet 0 p.scan i + 1)
    if n < 20 ∨ (lvl && fourthCorner p.keys (i / 8) (i % 8)) then s.modPanel fun p => { p with scan := kvSet p.scan i n }
    else
      post 0x8D01 0xFFFF#16 (leBytes 1 (i / 8) ++ leBytes 1 (i % 8) ++ leBytes 1 (bnat lvl))
        (s.modPanel fun p => { p with keys := p.keys ^^^ BitVec.ofNat 64 (2 ^ i), scan := kvDel p.scan i })

/-- KEY_SCAN: one scan of the whole matrix: the keys read as pressed, bit 8 row + column. -/
def execKeyScan (down : BitVec 64) (s : State) : Host.Outcome State Fault Refusal :=
  .next (if running s then (List.range 64).foldl (scanKey down) s else s)

/-! ### LED chain and buzzer (R413, R429) -/

/-- Logical LED `n` is lit now: step below its brightness, and not in the dark half of a blink period. -/
def ledLit (p : Panel) (n : Nat) : Bool :=
  decide (p.step < p.bright.getD n 0) &&
    !(p.blink.getLsbD n && decide (0 < p.period) && decide (256 * p.period ≤ p.tick % (512 * p.period)))

/-- The bits of the chain: LED `n` at the chain bit of the LED map. -/
def ledBits (s : State) : BitVec 16 :=
  (List.range 16).foldl
    (fun w n => if ledLit s.panel n && decide (panelF s (8 + n) < 16) then setBit w (panelF s (8 + n)) else w) 0#16

/-- LED_PWM_STEP: the chain is shifted and latched for this step, and the step advances. -/
def execLedPwmStep (s : State) : Host.Outcome State Fault Refusal :=
  .next (if !running s then s
    else
      let b := ledBits s
      (s.modPanel fun p => { p with chain := b, step := (p.step + 1) % 256, tick := p.tick + 1 }).send (.leds b))

/-- PNL_LED's effect; the blink periods count from it. -/
def bodyPnlLed (m : Cmd) (s : State) : Reply :=
  .done .ok [] (s.modPanel fun p => { p with
    bright := (m.bytes 0 16).map (·.toNat), blink := BitVec.ofNat 16 (m.u 16 2), period := m.u 18 1, tick := p.step })

/-- PNL_LED. -/
def execPnlLed (m : Cmd) (s : State) : Host.Outcome State Fault Refusal :=
  .next (runCmd opPnlLed noTicket m (bodyPnlLed m) s)

/-- PNL_BUZZER's own check and effect: duration 0 is off. -/
def bodyPnlBuzzer (m : Cmd) (s : State) : Reply :=
  if !between 100 8000 (m.u 0 2) then refuse .range s
  else .done .ok [] (s.modPanel fun p => { p with buzz := if m.u 2 2 = 0 then 0 else m.u 0 2 })

/-- PNL_BUZZER. -/
def execPnlBuzzer (m : Cmd) (s : State) : Host.Outcome State Fault Refusal :=
  .next (runCmd opPnlBuzzer noTicket m (bodyPnlBuzzer m) s)

/-- BUZZER_DURATION_END: the buzzer's duration has run out. -/
def execBuzzerDurationEnd (s : State) : Host.Outcome State Fault Refusal := .next (s.modPanel fun p => { p with buzz := 0 })

/-- The 8 bytes of the key matrix, row-major. -/
def keyBytes (k : BitVec 64) : List Byte := leBytes 8 k.toNat

/-- PNL_STATUS. -/
def execPnlStatus (m : Cmd) (s : State) : Host.Outcome State Fault Refusal :=
  .next (runCmd opPnlStatus noTicket m
    (fun s => .done .ok (keyBytes s.panel.keys ++ leBytes 1 (bnat s.panel.token) ++ leBytes 1 (bnat s.panel.vbusOver)) s) s)

/-! ### Touch panel (R430) -/

/-- A touch report read: the press state under the mask, x and y; PNL_TOUCH is posted when the status changes, and while
pressed at most once per 10 ms. -/
def touchReport (bs : List Byte) (s : State) : State :=
  let bs := padTo (panelF s 2) bs
  let down := fieldAt bs (panelF s 5) 1 &&& panelF s 6 != 0
  let x := fieldAt bs (panelF s 3) 2
  let y := fieldAt bs (panelF s 4) 2
  let tell := down != s.panel.pressed || (down && decide (s.panel.touchCyc + 625 ≤ s.ring.cyc))
  let s := s.modPanel fun p => { p with
    pressed := down, tx := x, ty := y, touchCyc := if tell then s.ring.cyc else p.touchCyc }
  if tell then post 0x8D02 0xFFFF#16 (leBytes 2 x ++ leBytes 2 y ++ leBytes 1 (bnat down)) s else s

/-- TOUCH_INTERRUPT: PNL_INT_N falls: the report is read, none when neither the read nor its two retries are
acknowledged. -/
def execTouchInterrupt (report : Option (List Byte)) (s : State) : Host.Outcome State Fault Refusal :=
  .next (if !running s || !touchEn s || s.panel.stuck then s
    else
      let s := s.send .touchRead
      match report with
      | some bs => touchReport bs s
      | none => s)

/-- TOUCH_STUCK: PNL_INT_N has been low for 100 ms after a completed read: noted, and the line is ignored. -/
def execTouchStuck (s : State) : Host.Outcome State Fault Refusal :=
  .next (if !running s || !touchEn s || s.panel.stuck then s
    else note 0x0608 0#16 0 (s.modPanel fun p => { p with stuck := true }))

/-- TOUCH_INTERRUPT_RELEASE: PNL_INT_N rises: the line is watched again. -/
def execTouchInterruptRelease (s : State) : Host.Outcome State Fault Refusal :=
  .next (s.modPanel fun p => { p with stuck := false })

/-! ### USB (R431) -/

/-- A USB record and PNL_TOKEN: 0 plugged, 1 unplugged, 2 over-current. -/
def usbRecord (what vendor product : Nat) (s : State) : State :=
  post 0x8D03 0xFFFF#16 (leBytes 1 what)
    (galWrite 0x60 0#16 0 0 (leBytes 1 what ++ leBytes 1 0 ++ leBytes 2 vendor ++ leBytes 2 product) s)

/-- USB_ATTACH: a device is attached while VBUS is on; one that is no CCID device is left unconfigured and noted. -/
def execUsbAttach (vendor product : Nat) (ccid : Bool) (s : State) : Host.Outcome State Fault Refusal :=
  .next (if !running s || !s.panel.vbus || s.panel.plugged.isSome then s
    else
      let s := usbRecord 0 vendor product
        (s.modPanel fun p => { p with plugged := some (vendor % 65536, product % 65536), token := ccid })
      if ccid then s else note 0x0607 0#16 0 s)

/-- USB_DETACH: the attached device is gone; a signature under way is not produced (Table 19-12). -/
def execUsbDetach (s : State) : Host.Outcome State Fault Refusal :=
  .next (match s.panel.plugged with
    | some (v, p) => usbRecord 1 v p (s.modPanel fun x => { x with plugged := none, token := false })
    | none => s)

/-- USB_OVER_CURRENT: USB_OC_N low for 1 ms: VBUS goes off, and a signature under way fails with NOT_AUTHORISED
(Table 22-5). -/
def execUsbOverCurrent (s : State) : Host.Outcome State Fault Refusal :=
  .next (if !running s || !s.panel.vbus then s
    else
      let d := s.panel.plugged.getD (0, 0)
      let s := usbRecord 2 d.1 d.2 (s.modPanel fun p => { p with
        vbus := false, vbusOver := true, token := false, plugged := none })
      finish (waitingOp 0x0809) .notAuthorised [] (s.modAuth fun a => { a with signing := none }))

/-- VBUS_RESTORE: USB_OC_N has been high for 1 s: VBUS is restored, at most 3 times in any 60 s; then it stays off until
the next power cycle. -/
def execVbusRestore (s : State) : Host.Outcome State Fault Refusal :=
  .next (if !running s || !s.panel.vbusOver || s.panel.vbusDead || !usbEn s then s
    else
      let now := s.clk.opSec
      let recent := s.panel.restores.filter fun t => decide (now < t + 60)
      if 3 ≤ recent.length then s.modPanel fun p => { p with vbusDead := true, restores := recent }
      else s.modPanel fun p => { p with vbus := true, vbusOver := false, restores := recent ++ [now] })

end Sys2Proof.Machine
end

