-- ==== Sys2Proof/Machine/Auth.lean ====
section
/-! DEFINITION. Authority: challenges, tickets, grants, role keys, the approved digest list and the token (19, R372 to
R378, R411, R432). -/

namespace Sys2Proof.Machine

open Sys2Proof

/-! ### Challenges -/

/-- The challenge as issued: 32 bytes. -/
def challengeBytes (c : Nat) : List Byte := leBytes 32 c

/-- AUTH_CHALLENGE's effect: a new random challenge replaces any earlier one (R374); its value is free (log entry 3). -/
def bodyAuthChallenge (s : State) : Reply :=
  let (x, s) := s.draw
  let c := x % 2 ^ 256
  .done .ok (challengeBytes c ++ leBytes 8 Config.deviceSerial.toNat) (s.modAuth fun a => { a with challenge := some c })

/-- AUTH_CHALLENGE. -/
def execAuthChallenge (m : Cmd) (s : State) : Host.Outcome State Fault Refusal :=
  .next (runCmd opAuthChallenge noTicket m bodyAuthChallenge s)

/-- CHALLENGE_EXPIRY: 60 s after its issue (R374). -/
def execChallengeExpiry (s : State) : Host.Outcome State Fault Refusal :=
  .next (s.modAuth fun a => { a with challenge := none })

/-- GRANT_EXPIRY: 10 s unused (R375). -/
def execGrantExpiry (s : State) : Host.Outcome State Fault Refusal := .next (s.modAuth fun a => { a with grant := none })

/-- AUTH_BACKOFF_END: 60 s after the third denial (R375). -/
def execAuthBackoffEnd (s : State) : Host.Outcome State Fault Refusal :=
  .next (s.modAuth fun a => { a with backoff := none, denials := [] })

/-! ### Tickets (R374, R375, Table 19-7) -/

/-- What a ticket claims. -/
structure Ticket where
  /-- role -/
  role : Nat
  /-- key index -/
  key : Nat
  /-- opcode to be authorised -/
  op : Nat
  /-- args, as their 8 bytes spell -/
  args : Nat
  /-- signature, r -/
  r : Nat
  /-- signature, s -/
  t : Nat
  deriving DecidableEq, Repr

/-- Bytes 40 to 51 of the ticket message. -/
def Ticket.tail (k : Ticket) : List Byte := leBytes 1 k.role ++ leBytes 1 k.key ++ leBytes 2 k.op ++ leBytes 8 k.args

/-- The ticket message over a challenge. -/
def Ticket.message (c : Nat) (k : Ticket) : List Byte := challengeBytes c ++ leBytes 8 Config.deviceSerial.toNat ++ k.tail

/-- Why a ticket is denied (Table 19-8), none when it is valid. -/
def denial (s : State) (k : Ticket) : Option Nat :=
  match s.auth.challenge with
  | none => some 1
  | some c =>
    match keyOf s k.role k.key with
    | none => some 2
    | some x =>
      if !Config.ecdsaVerify x.pub (Config.sha256 (k.message c)).toNat k.r k.t then some 3
      else if galFull s.gal && k.op != 0x0604 then some 5
      else none

/-- A denial is recorded; the third within 60 s starts the backoff (R375). -/
def deny (why : Nat) (k : Ticket) (s : State) : State :=
  let now := s.clk.opSec
  let s := note 0x1701 0#16 0 (galWrite 0x31 0#16 0 why k.tail s)
  let ds := (s.auth.denials.filter fun t => decide (now < t + 60)) ++ [now]
  let s := s.modAuth fun a => { a with denials := ds }
  if 3 ≤ ds.length then note 0x1702 0#16 0 (s.modAuth fun a => { a with backoff := some now }) else s

/-- A ticket is presented: the challenge is used up, and a grant made or the ticket denied; the status and the reason. -/
def present (k : Ticket) (s : State) : Status × List Byte × State :=
  let d := denial s k
  let s := s.modAuth fun a => { a with challenge := none }
  match d with
  | some why => (.notAuthorised, leBytes 1 why, deny why k s)
  | none =>
    let s := galWrite 0x30 0#16 0 0 k.tail s
    (.ok, [], galFlush (s.modAuth fun a => { a with grant := some { role := k.role, op := k.op, args := k.args } }))

/-- AUTH_TICKET's own check and effect. -/
def bodyAuthTicket (m : Cmd) (s : State) : Reply :=
  if s.auth.backoff.isSome then refuse .busy s
  else
    let k : Ticket :=
      { role := m.u 32 1, key := m.u 33 1, op := m.u 34 2, args := m.u 36 8
        r := beNat (m.bytes 0 32), t := beNat (m.bytes 48 32) }
    let (st, p, s) := present k s
    .done st p s

/-- AUTH_TICKET. -/
def execAuthTicket (m : Cmd) (s : State) : Host.Outcome State Fault Refusal :=
  .next (runCmd opAuthTicket noTicket m (bodyAuthTicket m) s)

/-! ### The token (R411, R432) -/

/-- The ticket an AUTH_TOKEN_SIGN asks for, with a signature. -/
def tokenTicket (m : Cmd) (r t : Nat) : Ticket :=
  { role := m.u 0 1, key := m.u 1 1, op := m.u 2 2, args := m.u 4 8, r := r, t := t }

/-- The APDU that asks the token for the signature (R432, step 3). -/
def signApdu (c : Nat) (k : Ticket) : List Byte :=
  [0x80#8, 0x54#8] ++ leBytes 1 k.role ++ leBytes 1 k.key ++ [52#8] ++ k.message c ++ [64#8]

/-- AUTH_TOKEN_SIGN's own checks and effect: the message goes to the token; it responds when the signature is there. -/
def bodyAuthTokenSign (m : Cmd) (s : State) : Reply :=
  if s.auth.backoff.isSome || s.auth.signing.isSome then refuse .busy s
  else if !s.panel.token then refuse .timeout s
  else match s.auth.challenge with
    | none => .done .notAuthorised (leBytes 1 1) (deny 1 (tokenTicket m 0 0) s)
    | some c => .later ((s.modAuth fun a => { a with signing := some m }).send (.apdu (signApdu c (tokenTicket m 0 0))))

/-- AUTH_TOKEN_SIGN. -/
def execAuthTokenSign (m : Cmd) (s : State) : Host.Outcome State Fault Refusal :=
  .next (runCmd opAuthTokenSign noTicket m (bodyAuthTokenSign m) s)

/-- The signature command ends. -/
def signEnds (st : Status) (p : List Byte) (s : State) : State :=
  finish (waitingOp 0x0809) st p (s.modAuth fun a => { a with signing := none })

/-- TOKEN_SIGNATURE_RESPONSE: the token's r and s and its status word: a signature is applied as AUTH_TICKET would; any
status word but 0x9000 is NOT_AUTHORISED. -/
def execTokenSignatureResponse (r t sw : Nat) (s : State) : Host.Outcome State Fault Refusal :=
  .next (match s.auth.signing with
    | none => s
    | some m =>
      if !s.panel.token then s
      else if sw ≠ 0x9000 then signEnds .notAuthorised [] s
      else if s.auth.backoff.isSome then signEnds .busy [] s
      else
        let (st, p, s) := present (tokenTicket m r t) s
        signEnds st p s)

/-- TOKEN_SIGN_TIMEOUT: no signature within 30 s. -/
def execTokenSignTimeout (s : State) : Host.Outcome State Fault Refusal := .next (signEnds .timeout [] s)

/-! ### Role keys (R372, R373) -/

/-- Keys a role may have. -/
def roleSize (role : Nat) : Nat := match role with | 1 => 4 | 2 | 3 => 8 | _ => 0

/-- Keys installed for a role. -/
def roleKeys (s : State) (role : Nat) : Nat := (s.auth.keys.filter fun k => k.role == role).length

/-- The role a key change needs: an operator's a service ticket, any other a regulator's (Table 19-6). -/
def keyNeed (role : Nat) : Nat := if role = 3 then 2 else 1

/-- The first regulator key needs no ticket (R373). -/
def firstKey (role : Nat) (s : State) : Bool := role == 1 && roleKeys s 1 == 0

/-- A change of the keys is recorded. -/
def keyChange (role index what ident : Nat) (s : State) : State :=
  galWrite 0x32 0#16 0 0 (leBytes 1 role ++ leBytes 1 index ++ leBytes 1 what ++ leBytes 5 0 ++ leBytes 8 ident) s

/-- The command's proof of possession holds over the current challenge (R373). -/
def possession (m : Cmd) (s : State) : Bool :=
  match s.auth.challenge with
  | some c =>
    Config.ecdsaVerify (m.u 16 64) (Config.sha256 (challengeBytes c ++ m.bytes 0 80)).toNat
      (beNat (m.bytes 80 32)) (beNat (m.bytes 112 32))
  | none => false

/-- AUTH_KEY_INSTALL's own checks and effect. -/
def bodyAuthKeyInstall (m : Cmd) (s : State) : Reply :=
  let role := m.u 0 1
  let index := m.u 1 1
  if roleSize role ≤ index then refuse .range s
  else if firstKey role s && !((m.path == .spi || s.panel.token) && possession m s) then refuse .notAuthorised s
  else if roleSize role ≤ roleKeys s role then refuse .refusedFull s
  else if (keyOf s role index).isSome then refuse .conflict s
  else
    let k : Key := { role := role, index := index, ident := m.u 8 8, pub := m.u 16 64 }
    .done .ok [] (keyChange role index 0 (m.u 8 8) (s.modAuth fun a => { a with keys := a.keys ++ [k] }))

/-- AUTH_KEY_INSTALL. -/
def execAuthKeyInstall (m : Cmd) (s : State) : Host.Outcome State Fault Refusal :=
  .next (runCmd opAuthKeyInstall
    (fun s => if firstKey (m.u 0 1) s then 0 else keyNeed (m.u 0 1)) m (bodyAuthKeyInstall m) s)

/-- AUTH_KEY_REMOVE's own checks and effect: the last regulator key stays. -/
def bodyAuthKeyRemove (m : Cmd) (s : State) : Reply :=
  let role := m.u 0 1
  let index := m.u 1 1
  match keyOf s role index with
  | none => refuse .range s
  | some k =>
    if role = 1 ∧ roleKeys s 1 = 1 then refuse .conflict s
    else .done .ok [] (keyChange role index 1 k.ident
      (s.modAuth fun a => { a with keys := a.keys.filter fun x => !(x.role == role && x.index == index) }))

/-- AUTH_KEY_REMOVE. -/
def execAuthKeyRemove (m : Cmd) (s : State) : Host.Outcome State Fault Refusal :=
  .next (runCmd opAuthKeyRemove (fun _ => keyNeed (m.u 0 1)) m (bodyAuthKeyRemove m) s)

/-! ### The approved list (R373, R378) -/

/-- A list on which a QSPI image appears. -/
def bootable (s : State) (l : List Nat) : Bool := s.auth.qspi.any fun q => match q with | some d => l.contains d | none => false

/-- The list is stored and recorded; it takes effect at the next boot. -/
def putDigests (l : List Nat) (s : State) : State :=
  galWrite 0x33 0#16 0 l.length (digestBytes (Config.sha256 (l.flatMap digestBytes)).toNat)
    (s.modAuth fun a => { a with digests := l })

/-- The digest of a payload. -/
def cmdDigest (m : Cmd) : Nat := beNat (m.bytes 0 32)

/-- AUTH_DIGEST_ADD's own checks and effect. -/
def bodyAuthDigestAdd (m : Cmd) (s : State) : Reply :=
  let l := s.auth.digests
  let d := cmdDigest m
  if l.contains d then refuse .conflict s
  else if 16 ≤ l.length then refuse .refusedFull s
  else if !bootable s (l ++ [d]) then refuse .conflict s
  else .done .ok [] (putDigests (l ++ [d]) s)

/-- AUTH_DIGEST_ADD. -/
def execAuthDigestAdd (m : Cmd) (s : State) : Host.Outcome State Fault Refusal :=
  .next (runCmd opAuthDigestAdd (fun _ => 1) m (bodyAuthDigestAdd m) s)

/-- AUTH_DIGEST_REMOVE's own checks and effect. -/
def bodyAuthDigestRemove (m : Cmd) (s : State) : Reply :=
  let l := s.auth.digests
  let d := cmdDigest m
  if !l.contains d then refuse .range s
  else if l.length = 1 ∨ bootable s (l.filter (· != d)) = false then refuse .conflict s
  else .done .ok [] (putDigests (l.filter (· != d)) s)

/-- AUTH_DIGEST_REMOVE. -/
def execAuthDigestRemove (m : Cmd) (s : State) : Host.Outcome State Fault Refusal :=
  .next (runCmd opAuthDigestRemove (fun _ => 1) m (bodyAuthDigestRemove m) s)

/-- AUTH_DIGEST_CLEAR: the list is emptied: COMMISSIONING from the next boot. -/
def execAuthDigestClear (m : Cmd) (s : State) : Host.Outcome State Fault Refusal :=
  .next (runCmd opAuthDigestClear (fun _ => 1) m (fun s => .done .ok [] (putDigests [] s)) s)

/-- AUTH_STATUS's effect. -/
def bodyAuthStatus (s : State) : Reply :=
  let left := match s.auth.backoff with | some t => 60 - (s.clk.opSec - t) | none => 0
  .done .ok (leBytes 1 (bnat s.auth.commissioning) ++ leBytes 1 s.auth.digests.length ++ leBytes 1 (roleKeys s 1) ++
    leBytes 1 (roleKeys s 2) ++ leBytes 1 (roleKeys s 3) ++ leBytes 1 (bnat s.auth.grant.isSome) ++ leBytes 2 left) s

/-- AUTH_STATUS. -/
def execAuthStatus (m : Cmd) (s : State) : Host.Outcome State Fault Refusal :=
  .next (runCmd opAuthStatus noTicket m bodyAuthStatus s)

end Sys2Proof.Machine
end

