-- ==== Sys2Proof/Machine/Flags.lean ====
section
/-! DEFINITION. The status words that the device shows: boot and mailbox status, IRQ_N, the management SPI's registers,
and the words of emitters and stations (R189, R395, R396, Tables 07-5, 09-5, 20-6 to 20-10). -/

namespace Sys2Proof.Machine

open Sys2Proof

/-- Code of BOOT_STATUS.STAGE (Table 20-7). -/
def Stage.code : Stage → Nat
  | .rom => 0
  | .accepted => 1
  | .running => 2
  | .limp => 3
  | .none => 4

/-- BOOT_STATUS (Table 20-7). -/
def bootStatus (s : State) : Nat :=
  let b := s.boot
  b.stage.code * 2 ^ 28 + (if b.stage = .limp then b.cause.toNat * 2 ^ 24 else 0) + b.imageSlot % 2 * 2 ^ 23 +
    bnat s.auth.commissioning * 2 ^ 22 + b.pairSlot % 2 * 2 ^ 21 + b.refused.toNat

/-- MBX_STATUS (Table 20-9). -/
def mbxStatus (s : State) : Nat :=
  let b := s.mbx
  bnat b.spiErr * 8 + bnat (!b.evtRing.isEmpty) * 4 + bnat (!b.outRing.isEmpty) * 2 + bnat (decide (b.inRing.length < 64))

/-- IRQ_N is driven low: a status bit is set whose enable is set in MBX_CTRL (Table 20-9). -/
def irqLow (s : State) : Bool := s.mbx.live && decide (mbxStatus s &&& s.mbx.ctrl.toNat % 16 ≠ 0)

/-- A management SPI register as it reads (Table 20-6): DEV_ID and BOOT_STATUS always, the others 0 until firmware
serves the mailbox; an unmapped address reads 0. -/
def spiRegister (s : State) (a : Nat) : Nat :=
  let b := s.mbx
  if a = 0x0000 then 0x51200001
  else if a = 0x0004 then bootStatus s
  else if !b.live then 0
  else if a = 0x0008 then b.ctrl.toNat
  else if a = 0x000C then mbxStatus s
  else if a = 0x0010 then b.inProd.toNat
  else if a = 0x0014 then b.inCons.toNat
  else if a = 0x0018 then b.outProd.toNat
  else if a = 0x001C then b.outCons.toNat
  else if a = 0x0020 then b.evtProd.toNat
  else if a = 0x0024 then b.evtCons.toNat
  else 0

/-- Code of an emitter's STATE (Table 09-5). -/
def EmState.code : EmState → Nat
  | .mapped => 0
  | .spare => 1
  | .suspect => 2
  | .retired => 3
  | .unmeasured => 4

/-- The emitter state word, `passed` being its passed self-tests of the last hour (Table 09-5). -/
def emitterWord (passed : Nat) (e : Emitter) : Nat :=
  e.st.code * 2 ^ 13 + e.slot % 32 * 2 ^ 8 + bnat e.mapValid * 2 ^ 7 + min 15 passed * 2 ^ 3 + bnat e.good * 2 ^ 2

/-- The synthesiser status word of a station (Table 07-5). -/
def stationWord (r : Rise) : Nat :=
  let p := if r.postdiv = 4 then 2 else if r.postdiv = 2 then 1 else 0
  bnat r.lock * 2 ^ 31 + bnat r.facetLock * 2 ^ 30 + bnat r.sosOk * 2 ^ 29 + p * 2 ^ 27 + r.band % 128 * 2 ^ 16 +
    r.lossCount.toNat

end Sys2Proof.Machine
end

