-- ==== Sys2Proof/Machine/Calib.lean ====
section
/-! DEFINITION. The CAL_ commands and the calibration store's writes (R205, R379, R412). -/

namespace Sys2Proof.Machine

open Sys2Proof

/-- The station a CAL_ command addresses. -/
def calStation (m : Cmd) (s : State) : Option Nat := s.cfg.cur.stationOf m.handle

/-- The staged objects of station `n`. -/
def stagedObjs (s : State) (n : Nat) : KV (List Byte) := kvGet [] s.cal.staging n

/-- A staged object as it stands; one not yet written is a copy of the installed one. -/
def stagedObj (s : State) (n o : Nat) : List Byte :=
  match kvFind (stagedObjs s n) o with
  | some b => b
  | none => padTo (objSize o) ((kvGet ({} : CalSt) s.cal.inst n).obj o)

/-- Bytes of `new` in place of those at `off`. -/
def overlay (b : List Byte) (off : Nat) (new : List Byte) : List Byte := b.take off ++ new ++ b.drop (off + new.length)

/-- CAL_WRITE's own check and effect. -/
def bodyCalWrite (m : Cmd) (s : State) : Reply :=
  let o := m.u 1 1
  let off := m.u 4 4
  let len := m.u 8 2
  match calStation m s with
  | none => refuse .range s
  | some n =>
    if !between 1 6 o || !between 1 176 len || decide (objSize o < off + len) then
      refuse .range s
    else
      let b := overlay (stagedObj s n o) off (m.bytes 16 len)
      -- object 2 holds reserved bytes (R7)
      if o = 2 ∧ fieldAt b 2 2 ≠ 0 then refuse .range s
      else .done .ok [] (s.modCal fun c => { c with staging := kvMod [] c.staging n fun x => kvSet x o b })

/-- CAL_WRITE. -/
def execCalWrite (m : Cmd) (s : State) : Host.Outcome State Fault Refusal :=
  .next (runCmd opCalWrite noTicket m
    (bodyCalWrite m) s)

/-- The staged objects as they are committed: a profile ends with its last segment. -/
def commitObjs (s : State) (n : Nat) : KV (List Byte) :=
  (stagedObjs s n).map fun p => if p.1 = 3 then (3, p.2.take (8 + 20 * fieldAt p.2 0 1)) else p

/-- The staged calibration of a station satisfies R110, R144, R152, R170 and R174. -/
def commitOk (s : State) (n : Nat) (os : KV (List Byte)) : Bool :=
  let k := os.foldl (fun k p => k.put p.1 p.2) (kvGet ({} : CalSt) s.cal.inst n)
  (!(kvFind os 4).isSome || widthsOk k.full) && (!(kvFind os 5).isSome || widthsOk k.half) &&
    (!(kvFind os 2).isSome || decide (64 ≤ k.scanStart ∧ k.scanStart ≤ 16383)) && stationCalOk s.cfg.cur n k k.table

/-- CAL_COMMIT's own checks and effect: the objects wait for the station's next mark. -/
def bodyCalCommit (m : Cmd) (s : State) : Reply :=
  match calStation m s with
  | none => refuse .range s
  | some n =>
    let os := commitObjs s n
    let sum := digestBytes (Config.sha256 (os.flatMap fun p => p.2)).toNat
    if os.isEmpty then refuse .conflict s
    else if m.bytes 16 32 ≠ sum ∨ commitOk s n os = false then refuse .range s
    else .later (s.modCal fun c => { c with staging := kvDel c.staging n, committed := kvSet c.committed n os })

/-- CAL_COMMIT, under a service ticket. -/
def execCalCommit (m : Cmd) (s : State) : Host.Outcome State Fault Refusal :=
  .next (runCmd opCalCommit (fun _ => 2) m
    (bodyCalCommit m) s)

/-- The retirement list of the head fitted at station `n`: serial and mask (Table 21-17). -/
def fittedList (s : State) (n : Nat) : List Byte :=
  match (s.st n).ems.head with
  | none => []
  | some h =>
    let mask := match s.cal.lists.find? fun p => p.1 == h.serial with | some p => p.2 | none => 0#36
    leBytes 8 h.serial ++ leBytes 5 mask.toNat

/-- CAL_READ's own check and effect. -/
def bodyCalRead (m : Cmd) (s : State) : Reply :=
  let o := m.u 1 1
  let off := m.u 4 4
  let len := m.u 8 2
  match calStation m s with
  | none => refuse .range s
  | some n =>
    let b := if o = 8 then fittedList s n else (kvGet ({} : CalSt) s.cal.inst n).obj o
    if !between 1 8 o || decide (b.length < off + len) then refuse .range s
    else .done .ok ((b.drop off).take len) s

/-- CAL_READ. -/
def execCalRead (m : Cmd) (s : State) : Host.Outcome State Fault Refusal :=
  .next (runCmd opCalRead noTicket m (bodyCalRead m) s)

/-- CAL_ABORT's effect. -/
def bodyCalAbort (m : Cmd) (s : State) : Reply :=
  match calStation m s with
  | none => refuse .range s
  | some n => .done .ok [] (s.modCal fun c => { c with staging := kvDel c.staging n })

/-- CAL_ABORT. -/
def execCalAbort (m : Cmd) (s : State) : Host.Outcome State Fault Refusal :=
  .next (runCmd opCalAbort noTicket m (bodyCalAbort m) s)

/-- An emitter returned to service is UNMEASURED: in its home slot when that is vacant (R190, R205). -/
def unretire (n e : Nat) (s : State) : State :=
  let home := (headEm (s.st n).ems e).home
  let free := decide (home < 32) && (slotHolder (s.st n).ems home).isNone
  modEm n e (fun m => { m with st := .unmeasured, slot := home % 32, mapValid := free }) s

/-- Retired emitters of the head with a serial, where it is fitted, are found again by the survey (R205). -/
def returnEmitters (serial : Nat) (mask : BitVec 36) (s : State) : State :=
  (List.range 16).foldl
    (fun s n =>
      if (match (s.st n).ems.head with | some h => h.serial == serial | none => false) then
        (List.range 36).foldl
          (fun s e => if mask.getLsbD e && (emitter s n e).st == .retired then
              unretire n e s else s) s
      else s) s

/-- CAL_HEAD_CLEAR's own check and effect: the emitters named leave the serial's list (R205). -/
def bodyCalHeadClear (m : Cmd) (s : State) : Reply :=
  let serial := m.u 8 8
  if hIndex m.handle ≠ 0 then refuse .range s
  else match s.cal.lists.find? fun p => p.1 == serial with
    | none => refuse .range s
    | some p =>
      let back := p.2 &&& BitVec.ofNat 36 (m.u 16 5)
      let ls := s.cal.lists.map fun q => if q.1 = serial then (q.1, q.2 &&& ~~~back) else q
      .done .ok [] (listRecord serial back 1 (returnEmitters serial back
        (requestStore (s.modCal fun c => { c with lists := ls }))))

/-- CAL_HEAD_CLEAR, under a service ticket. -/
def execCalHeadClear (m : Cmd) (s : State) : Host.Outcome State Fault Refusal :=
  .next (runCmd opCalHeadClear
    (fun _ => 2) m (bodyCalHeadClear m) s)

/-- CAL_STORE_WRITE_COMPLETE: the slot's CRC and header are written: it holds the valid copy, one sequence on; updates
requested meanwhile follow in one write (R379). -/
def execCalStoreWriteComplete (s : State) : Host.Outcome State Fault Refusal :=
  .next (if !s.cal.writing then s
    else
      let again := s.cal.again
      let s := s.modCal fun c =>
        { c with
          writing := false, again := false, seqNo := c.seqNo + 1, slotIsB := !c.slotIsB
          aValid := if c.slotIsB then true else c.aValid
          bValid := if c.slotIsB then c.bValid else true }
      let s := causeGone 0#16 0x1807 s
      if again then requestStore s else s)

end Sys2Proof.Machine
end

