-- ==== Sys2Proof/Machine/Engine.lean ====
section
/-! DEFINITION. The spool engine: links, controllers, mounting, fetches and their load checks, errors and losses,
bandwidth (R49, R89, R100, R101, R119 to R139). -/

namespace Sys2Proof.Machine

open Sys2Proof

/-! ### Ports and members -/

/-- Ports of the setting in force (Table 06-1). -/
def portCount (s : State) : Nat := match s.spool.setting with | 0 => 1 | 1 => 2 | _ => 4

/-- The handle under which a port and the members behind it are reported: its first spool lane's, the members having no
unit of their own. -/
def portH (s : State) (p : Nat) : Handle := BitVec.ofNat 16 (21 + 8 / portCount s * p)

/-- The handle of member `c`. -/
def memberH (s : State) (c : Nat) : Handle :=
  match s.spool.members[c]? with
  | some m => portH s m.port
  | none => portH s 0

/-- The spool's reference is stable and its rails are good, as far as the device knows: the spool lane PLL is not left
down and no rail of an up sequence is still on its way (R121; log entry 176). -/
def spoolPowered (s : State) : Bool := !(kvGet ({} : Pll) s.clk.plls 2).down && s.power.seq != .up

/-- SPOOL_PERST_RELEASE: SPOOL_PERST_N is deasserted (R121). -/
def execSpoolPerstRelease (s : State) : Host.Outcome State Fault Refusal :=
  .next (if s.boot.porst || !spoolPowered s then s else s.modSpool fun p => { p with perst := false })

/-- SPOOL_LINK_RETRY: a port has not trained within 100 ms: retried 3 times, then left down with a fault (R121). -/
def execSpoolLinkRetry (port : Nat) (s : State) : Host.Outcome State Fault Refusal :=
  .next (
    let (up, n) := kvGet (false, 0) s.spool.ports port
    if up || s.spool.perst || decide (portCount s ≤ port) || decide (3 < n) then s
    else
      let s := s.modSpool fun p => { p with ports := kvSet p.ports port (false, n + 1) }
      if n < 3 then s else raise 0x0503 (portH s port) 0 port s)

/-- A controller can be used (R123). -/
def nvmeUsable (i : NvmeInfo) : Bool :=
  i.nsOk && i.queueOk && (i.lba == 512 || i.lba == 4096) && (i.mdts == 0 || decide (131072 ≤ i.mdts))

/-- A controller has been found behind a port: it is identified, and one that can be used gets its I/O queue pair (R122,
R123, R124). -/
def tryController (port : Nat) (i : NvmeInfo) (s : State) : State :=
  let c := s.spool.members.length
  let ask := fun (op : NvmeOp) (s : State) => s.send (.nvme c { op := op, pages := 0 } [])
  let s := ask .identifyCtrl (ask .identifyNs s)
  if !nvmeUsable i then raise 0x0504 (portH s port) 0 port s
  else
    let m : Member := { port := port, usable := i.pages - reservedPages, lba := i.lba, entries := min 1024 (i.mqes + 1) }
    (ask .createSq (ask .createCq s)).modSpool fun p => { p with members := p.members ++ [m] }

/-- The controllers used are the first 8 in port, bus, device and function order; any further one is left disabled, with
a note (R119, R122). -/
def takeEight (s : State) : State :=
  let ms := sortBy s.spool.members fun a b => decide (a.port ≤ b.port)
  (ms.drop 8).foldl (fun s m => note 0x0507 (portH s m.port) 0 s) (s.modSpool fun p => { p with members := ms.take 8 })

/-- SPOOL_LINK_UP: a port's link trains and what stands behind it is enumerated, in bus, device and function order (R120,
R122). A port left down after its retries stays down; a mounted spool takes no further controller. -/
def execSpoolLinkUp (port : Nat) (found : List NvmeInfo) (s : State) : Host.Outcome State Fault Refusal :=
  .next (
    let (up, n) := kvGet (false, 0) s.spool.ports port
    if up || s.spool.perst || decide (portCount s ≤ port) || decide (3 < n) then s
    else
      let s := s.modSpool fun p => { p with ports := kvSet p.ports port (true, n) }
      if mounted s || s.spool.fmt != 0 || s.spool.members.any (fun m => m.port == port) then s
      else takeEight (found.foldl (fun s i => tryController port i s) s))

/-- AER_ERROR: a PCIe AER error message at a port (R120). -/
def execAerError (port : Nat) (s : State) : Host.Outcome State Fault Refusal := .next (note 0x0508 (portH s port) 0 s)

/-- Asks every member for its SMART log. -/
def askStatus (s : State) : State :=
  (List.range s.spool.members.length).foldl (fun s c => s.send (.nvme c { op := .smart, pages := 0 } [])) s

/-- SPOOL_WAKE: an assertion of SPOOL_WAKE_N, noted, starts a check of every controller (R121). -/
def execSpoolWake (s : State) : Host.Outcome State Fault Refusal := .next (askStatus (note 0x0509 (portH s 0) 0 s))

/-- SMART_POLL: a member's SMART log is asked for and its critical warning read; bit 3 is read-only media (R122, R138). -/
def execSmartPoll (member warning : Nat) (s : State) : Host.Outcome State Fault Refusal :=
  .next (match s.spool.members[member]? with
    | none => s
    | some m =>
      let s := s.send (.nvme member { op := .smart, pages := 0 } [])
      let s := if bitOf warning 3 && !m.readOnly then
          raise 0x0506 (memberH s member) 0 member (modMember member (fun m => { m with readOnly := true }) s)
        else s
      if warning % 8 ≠ 0 ∨ warning / 16 ≠ 0 then note 0x0507 (memberH s member) 0 s else s)

/-! ### Mounting (R126 to R128, R132, R136) -/

/-- The copy of a member that a generation names. -/
def copyOf (g : Nat) (p : SuperCopy × SuperCopy) : Option SuperCopy :=
  if p.1.valid ∧ p.1.generation = g then some p.1 else if p.2.valid ∧ p.2.generation = g then some p.2 else none

/-- The copies of the highest generation that is valid on every member (R128). -/
def mountCopies (l : List (SuperCopy × SuperCopy)) : Option (List SuperCopy) :=
  let gens := l.flatMap fun p => (if p.1.valid then [p.1.generation] else []) ++ (if p.2.valid then [p.2.generation] else [])
  let good := gens.filter fun g => l.all fun p => (copyOf g p).isSome
  match good with
  | [] => none
  | g :: r => some (l.filterMap (copyOf (r.foldl max g)))

/-- R128 holds of the copies taken. -/
def mountOk (s : State) (cs : List SuperCopy) : Bool :=
  match cs with
  | [] => false
  | c :: _ =>
    cs.length == c.width && between 1 8 c.width &&
      cs.all (fun x => x.spoolId == c.spoolId && x.width == c.width && x.ledgerShare == c.ledgerShare &&
        x.memberPages == c.memberPages && x.sizes == c.sizes && x.keyCheck == keyCheck s.spool.xtsKey) &&
      (List.range c.width).all fun i => (cs.filter fun x => x.member == i).length == 1

/-- The members in stripe order. -/
def orderMembers (cs : List SuperCopy) (ms : List Member) : List Member :=
  (sortBy (cs.zip ms) fun a b => decide (a.1.member ≤ b.1.member)).map (·.2)

/-- Every member reads its bench region (R136). -/
def benchReads (s : State) : State := onEvery { op := .bench, page := 256, pages := 262144 } s

/-- A window of the delivered rate begins on every member (R136). -/
def beginWindows (s : State) : State :=
  s.modSpool fun p => { p with members := p.members.map fun m => { m with
    readBytes := 0, sat := decide (16 ≤ (m.out.filter fun q => opReads q.op).length) } }

/-- The spool mounts: the directory is read; the free map follows it where MOUNTED is found set, else it is read too; the
superblock is updated with MOUNTED set, and the members' bench regions are read (R128, R132, R136). The allocation cursor
starts at the extent area's first page: the spec does not say where it stands after a mount or a format (DESIGN CHOICE,
log entry 177). -/
def mountSpool (c : SuperCopy) (ms : List Member) (gens : Nat × Nat) (s : State) : State :=
  let s := s.modSpool fun p =>
    let sb : Superblock :=
      { generation := c.generation, spoolId := c.spoolId, width := c.width, mounted := c.mounted
        ledgerShare := c.ledgerShare, memberPages := c.memberPages, keyCheck := c.keyCheck, bad := c.bad }
    { p with
      state := .mounted, sb := sb, members := ms, sbGen := gens, sbOut := none, sbMore := false, unmounting := false
      dir := p.storedDir, descs := p.stored, batch := 0, cursor := sb.extentStart, mounting := true
      usedRuns := if c.mounted then p.stored.map fun d => (d.first, pagesOf d.data.length) else p.storedRuns }
  benchReads (beginWindows (superUpdate (fun b => { b with mounted := true }) s))

/-- The highest valid generation of a list of copies. -/
def highGen (l : List SuperCopy) : Nat := ((l.filter (·.valid)).map (·.generation)).foldl max 0

/-- SPOOL_MOUNT: the superblock copies A and B of every member in enumeration order have been read (R127, R128,
Table 06-5). -/
def execSpoolMount (copies : List (List Byte × List Byte)) (s : State) : Host.Outcome State Fault Refusal :=
  .next (
    let ms := s.spool.members
    let cs := copies.map fun p => (superOf p.1, superOf p.2)
    if mounted s || s.spool.state == .lost || s.spool.fmt != 0 || cs.length ≠ ms.length then s
    else if cs.all fun p => !p.1.valid && !p.2.valid then s.modSpool fun p => { p with state := .absent }
    else match mountCopies cs with
      | some (c :: r) =>
        if mountOk s (c :: r) then
          placeBands (mountSpool c (orderMembers (c :: r) ms) (highGen (cs.map (·.1)), highGen (cs.map (·.2))) s)
        else s.modSpool fun p => { p with state := .foreign }
      | _ => s.modSpool fun p => { p with state := .foreign })

/-- Posts SPOOL_BW; prepared plans are discarded (R57, R136). -/
def newBandwidth (c bw : Nat) (s : State) : State :=
  let s := (modMember c (fun m => { m with bw := bw }) s).modLand fun l => { l with plans := [] }
  post 0x8307 0xFFFF#16 (leBytes 1 c ++ leBytes 3 0 ++ leBytes 4 bw) s

/-- A member's delivered rate over a window of `ms` milliseconds, MB/s: the bytes of every Read completed in it (R136). -/
def rateOver (m : Member) (ms : Nat) : Nat := m.readBytes / (1000 * ms)

/-- The members' bench reads end. -/
def endBench (s : State) : State :=
  dropCmds (fun q => q.op == .bench) (s.modSpool fun p => { p with mounting := false, probing := false })

/-- SATURATED_WINDOW: 100 ms of a member have passed; with at least 16 reads outstanding throughout, its delivered rate
counts, and three in a row whose mean lies 2% or more below the measurement lower it (R136). -/
def execSaturatedWindow (member : Nat) (s : State) : Host.Outcome State Fault Refusal :=
  .next (match s.spool.members[member]? with
    | none => s
    | some m =>
      let w := if m.sat then (rateOver m 100 :: m.windows).take 3 else m.windows
      let s := modMember member (fun m => { m with
        windows := w, readBytes := 0, sat := decide (16 ≤ (m.out.filter fun q => opReads q.op).length) }) s
      if m.sat && w.length == 3 && decide (100 * w.sum ≤ 98 * 3 * m.bw) && !s.spool.mounting then
        newBandwidth member (w.sum / 3) s else s)

/-- BANDWIDTH_PROBE: while a measurement is below its mount value a 250 ms probe begins every 10 s, bench reads queued
behind all else, and ends: a member 2% or more above its measurement is raised to its rate, not above its mount value
(R136). -/
def execBandwidthProbe (ends : Bool) (s : State) : Host.Outcome State Fault Refusal :=
  .next (
    if !ends then
      if s.spool.mounting || s.spool.probing || !mounted s || !s.spool.members.any (fun m => decide (m.bw < m.mountBw)) then s
      else benchReads (beginWindows (s.modSpool fun p => { p with probing := true }))
    else if !s.spool.probing then s
    else
      s.spool.members.zipIdx.foldl
        (fun s p =>
          let r := rateOver p.1 250
          if p.1.bw < p.1.mountBw ∧ 102 * p.1.bw ≤ 100 * r then newBandwidth p.2 (min r p.1.mountBw) s else s)
        (beginWindows (endBench s)))

/-- DIRECTORY_BATCH: a batch of the directory and the free map begins (R132). -/
def execDirectoryBatch (s : State) : Host.Outcome State Fault Refusal := .next (advanceBatch (beginBatch s))

/-! ### Fetches and load checks (R49, R89, R99 to R101) -/

/-- A band on the spool can be read. -/
def readable (s : State) (id : BandId) : Bool :=
  (descOf s id).any fun b => b.present && !b.lost && !onLost s b

/-- The bands of a station before one are reserved, cannot be read, or are too late: the ring takes bands in consumption
order (R49, R99). -/
def turnOf (s : State) (n : Nat) (work : List (Due × Int)) (d : Due) : Bool :=
  (work.takeWhile fun w => w.1 != d).all fun w =>
    w.1.have_ || ((flight s w.1.serial).any fun f => f.asked.contains (n, w.1.id.band)) || !readable s w.1.id ||
      decide ((w.1.deadline : Rat) < newelLines s)

/-- FETCH_RELEASE: the newel is between the release position and the deadline of a band of a flight at a station: its
ring space is reserved and its reads issued (R49, R99). -/
def execFetchRelease (station serial band : Nat) (s : State) : Host.Outcome State Fault Refusal :=
  .next (match flight s serial with
    | none => s
    | some f =>
      let work := stationWork s s.land.flights station
      match work.find? fun w => w.1.serial == serial && w.1.id.band == band with
      | none => s
      | some (d, rel) =>
        if f.asked.contains (station, band) || d.have_ || !mounted s || decide (newelLines s < (rel : Rat)) ||
            decide ((d.deadline : Rat) < newelLines s) || !turnOf s station work d then s
        else match descOf s d.id with
          | none => s
          | some b =>
            if !readable s d.id then s
            else
              let s := modFlight serial (fun f => { f with asked := f.asked ++ [(station, band)] }) s
              let s := modSt station (fun x =>
                { x with
                  buf := x.buf ++ [{ serial := serial, id := d.id, data := b.data, off := x.bufEnd }]
                  bufEnd := (x.bufEnd + b.data.length) % 1048576 }) s
              issueAll .read d.deadline b s)

/-- The station and the resident band that a read of an identity fills. -/
def loading (s : State) (id : BandId) : Option (Nat × RBand) :=
  (List.range 16).findSome? fun n => ((s.st n).buf.find? fun b => b.id == id && !b.ok && !b.gone).map fun b => (n, b)

/-- Changes the resident band being filled. -/
def modLoading (n : Nat) (id : BandId) (f : RBand → RBand) (s : State) : State :=
  modSt n (fun x => { x with buf := x.buf.map fun b => if b.id = id ∧ !b.ok ∧ !b.gone then f b else b }) s

/-- The band's seq lies in the station's window (R101). -/
def seqOk (x : Station) (b : List Byte) : Bool :=
  match x.anchor with
  | none => true
  | some (j, l, q) =>
    let d := (bh b 24 4 + 2 ^ 32 - q) % 2 ^ 32
    j != (bId b).job || l != (bId b).layer || between 1 (2 ^ 31 - 1) d

/-- The set under which a flight was admitted (R34, R87). -/
def admitSet (s : State) (serial : Nat) : CfgSet :=
  match flight s serial, s.cfg.pend, s.cfg.prev with
  | some f, some p, _ => if f.version = p.version then p.set else p.base
  | some f, none, some (v, c) => if f.version = v then c else s.cfg.cur
  | _, _, _ => s.cfg.cur

/-- The load checks after LOAD_CRC, in order: the code of the first that fails (Table 04-13). -/
def loadFails (s : State) (n : Nat) (b : RBand) : Option Nat :=
  if bId b.data ≠ b.id then some 0x11
  else if !seqOk (s.st n) b.data then some 0x12
  else if (admitSet s b.serial).get 0x01 n 4 2 < bWidth b.data then some 0x13
  else none

/-- A band that arrives after its arrival deadline is noted against the spool channel (R51). -/
def lateNote (n : Nat) (b : RBand) (s : State) : State :=
  match flight s b.serial with
  | some f =>
    if ((stationLanding s f n + ((b.id.band : Int) - 3) * f.h : Int) : Rat) < newelLines s then
      note 0x0502 (portH s 0) 0 s else s
  | none => s

/-- The last page of a band has arrived: the load checks; a wrong encoded CRC first has the band read once more (R89,
R100). -/
def bandLoaded (n : Nat) (b : RBand) (again : Bool) (s : State) : State :=
  let crcOk := bEncoded b.data == (crc32c (b.data.take (bLength b.data - 16))).toNat
  if !crcOk && !again then
    match descOf s b.id with
    | some d =>
      let s := s.modSpool fun p => { p with rereads := p.rereads ++ [b.id] }
      let s := modLoading n b.id (fun b => { b with data := d.data }) s
      issueAll .reread 0 d s
    | none => bandFails n b 0x10 (freeBand n b.serial b.id.band s)
  else
    let s := s.modSpool fun p => { p with rereads := p.rereads.filter (· != b.id) }
    let s := modFlight b.serial (fun f => { f with fetched := f.fetched ++ [(n, b.id.band)] }) (lateNote n b s)
    if !crcOk then bandFails n b 0x10 (freeBand n b.serial b.id.band s)
    else match loadFails s n b with
      | some c => bandFails n b c (freeBand n b.serial b.id.band s)
      | none => modLoading n b.id (fun b => { b with ok := true }) s

/-! ### Read errors (R138) -/

/-- The key under which a page's transients are kept. -/
def pageKey (page : Nat) : Nat := 2 ^ 20 + page

/-- A member is retired, or was not recovered: the spool enters LOST (R138). -/
def loseSpool (c : Nat) (s : State) : State :=
  (modMember c (fun m => { m with lost := true, gone := true }) s).modSpool fun p => { p with state := .lost }

/-- A re-read failed on member `c`: the band's descriptor is LOST and its pages are retired; a waiting frame's band is
named by BAND_LOST; with bad_pages full the member is retired at once (R138). -/
def bandLost (c : Nat) (id : BandId) (s : State) : State :=
  let s := if inFlight s id.job id.frame then s else bandEvent 0x8305 id 0 s
  match descOf s id with
  | none => s
  | some d =>
    let pages := (List.range (pagesOf d.data.length)).map (d.first + ·)
    let bad := (s.spool.sb.bad ++ pages).eraseDups
    let s := modDesc id (fun d => { d with lost := true }) s
    if 512 < bad.length then raiseAs 3 0 0x0505 (memberH s c) 0 c (loseSpool c s)
    else superUpdate (fun b => { b with bad := bad }) s

/-- A failed re-read of a flight's band: the layer is not ready either (R62, R138). -/
def rereadFailed (c : Nat) (id : BandId) (s : State) : State :=
  bandLost c id (match loading s id with
    | some (n, b) => failLayer b.serial n id.band 0x11 (freeBand n b.serial id.band s)
    | none => s)

/-- A read ended with an error, or not at all: its pages are read again at once as the self-test of the page (R138). -/
def readFailed (c : Nat) (q : NvmeCmd) (page : Nat) (s : State) : State :=
  enqueue c { q with op := .reread } (raise 0x0501 (memberH s c) 0 page s)

/-- The re-read of a page after an error has ended: a transient of the page, the ninth within the hour a failure. -/
def rereadEnded (c : Nat) (id : BandId) (page : Nat) (ok : Bool) (s : State) : State :=
  let h := memberH s c
  let perm := wouldBePermanent s h (pageKey page)
  let s := if ok then addTransient h (pageKey page) s else s
  let pass := ok && !perm
  let s := match s.faults.recs.find? fun p => p.2.st == .testing && p.2.handle == h && codeOf p.2.code == 0x0501 with
    | some (i, _) =>
      if pass then s.modFaults fun f => { f with recs := kvMod {} f.recs i fun r => { r with st := .reacting } }
      else raiseClass i 2 0x0501 s
    | none => s
  if pass then s else rereadFailed c id s

/-- A Read of a band has arrived, some bytes perhaps other than written; with the last of the band's reads the band is
loaded. -/
def shareArrived (c : Nat) (id : BandId) (diff : List (Nat × Nat)) (s : State) : State :=
  let s := modMember c (fun m => { m with timeouts := 0 }) s
  match loading s id with
  | none => s
  | some (n, _) =>
    let s := modLoading n id (fun b =>
      { b with data := diff.foldl (fun d p => d.set p.1 (BitVec.ofNat 8 p.2)) b.data }) s
    if pendingFor s .read id || pendingFor s .reread id then s
    else match loading s id with
      | some (n, b) => bandLoaded n b (s.spool.rereads.contains id) s
      | none => s

/-- A Write of a band's extent has completed; with the last the band is on the spool and leaves staging (R97, R132). -/
def bandWritten (id : BandId) (s : State) : State :=
  match descOf s id with
  | none => s
  | some d =>
    if d.present || pendingFor s .write id then s
    else placeBands (unstage id (modDesc id (fun d => { d with present := true }) s))

/-! ### Formatting (R129) -/

/-- The members of a format have its superblocks: it has ended, and the spool is in service (R129, R138). -/
def formatDone (s : State) : State :=
  let s := s.modSpool fun p => { p with fmt := 0, state := .mounted, mounting := true, unmounting := false }
  let s := benchReads (beginWindows (superUpdate (fun b => { b with mounted := true }) s))
  let s := galFlush (galWrite 0x61 0#16 0 0 (leBytes 16 s.spool.sb.spoolId ++ leBytes 1 s.spool.sb.width) s)
  placeBands (finish (waitingOp 0x0507) .ok [] s)

/-- The bench regions are written: the frame directory and the free map are cleared. -/
def formatClear (s : State) : State :=
  let b := s.spool.sb
  let k := max 1 b.width
  onEvery { op := .mapWrite, page := reservedPages + (b.dirPages + b.ledgerPages) / k, pages := b.mapPages / k }
    (onEvery { op := .dirWrite, page := reservedPages, pages := b.dirPages / k } (s.modSpool fun p => { p with fmt := 2 }))

/-- They are cleared: the extent area and the ledger region are deallocated. -/
def formatTrim (s : State) : State :=
  let b := s.spool.sb
  let k := max 1 b.width
  onEvery { op := .trim, page := reservedPages + b.dirPages / k, pages := b.ledgerPages / k }
    (onEvery { op := .trim, page := reservedPages + b.extentStart / k, pages := b.extentPages / k }
      (s.modSpool fun p => { p with fmt := 3 }))

/-- A format's next step begins once the commands of the one before have completed on every member (R129). -/
def advanceFormat (s : State) : State :=
  match s.spool.fmt with
  | 1 => if pendingOp s .benchWrite then s else formatClear s
  | 2 => if pendingOp s .dirWrite || pendingOp s .mapWrite then s else formatTrim s
  | 3 => if pendingOp s .trim then s
      else writeSuper 0 false (s.modSpool fun p => { p with fmt := 4, sbWrote := p.sb })
  | 4 => if s.spool.sbOut.isSome then s else formatDone s
  | _ => s

/-! ### Scrub (R139) -/

/-- The pages in use as the scrub takes them, in page order: directory pages, ledger pages, bands. -/
def scrubUnits (s : State) : List Scrub :=
  let b := s.spool.sb
  let dir := ((s.spool.storedDir.filter fun f => !f.closed).flatMap fun f =>
    (f.index / 64) :: (match f.descPage with | some p => (List.range f.descPages).map (p + ·) | none => [])).eraseDups
  let led := (s.spool.regionRecs.map fun r => b.dirPages + regionIdx s r.serial / 32).eraseDups
  sortBy ((dir ++ led).map (fun g => ({ first := g } : Scrub)) ++
    (presentDescs s).map fun d => { first := d.first, pages := pagesOf d.data.length, id := some d.id })
    fun x y => decide (x.first ≤ y.first)

/-- The scrub runs: it is not stopped, and throttle 2 does not withhold it (R139, Table 16-7). -/
def scrubRuns (s : State) : Bool :=
  mounted s && !someLost s && !(actOf s 8 0#16).stopped && decide ((kvGet ({} : TSrc) s.therm.src 140).thr < 2)

/-- Reads a unit of the scrub on the members that hold its pages. -/
def scrubRead (u : Scrub) (s : State) : State :=
  let s := s.modSpool fun p => { p with scrub := some u }
  (List.range s.spool.sb.width).foldl
    (fun s c =>
      let (l, n) := shareOf s.spool.sb.width u.first u.pages c
      if n = 0 then s else enqueue c { op := .scrub, id := u.id.getD {}, page := l, pages := n } s) s

/-- The scrub goes on with the next pages in use from its position; past the last the pass is done (R139). -/
def scrubNext (s : State) : State :=
  if s.spool.scrub.isSome || s.spool.scrubDone || !scrubRuns s then s
  else match (scrubUnits s).find? fun u => decide (s.spool.scrubPos ≤ u.first) with
    | some u => scrubRead u s
    | none => s.modSpool fun p => { p with scrubDone := true }

/-- BANDWIDTH_MOUNT_MEASURE: the 2 s bench read at mount ends; each member's delivered rate is its measurement, and the
scrub goes on (R136, R139). -/
def execBandwidthMountMeasure (s : State) : Host.Outcome State Fault Refusal :=
  .next (if !s.spool.mounting then s
    else
      scrubNext (beginWindows (s.spool.members.zipIdx.foldl
        (fun s p =>
          let r := rateOver p.1 2000
          newBandwidth p.2 r (modMember p.2 (fun m => { m with mountBw := r, windows := [] }) s)) (endBench s))))

/-- The bytes of a unit as the spool should hold them. -/
def scrubBytes (s : State) (u : Scrub) : List Byte :=
  let b := s.spool.sb
  match u.id with
  | some i => match descOf s i with | some d => d.data | none => []
  | none =>
    if u.first < b.dirPages then dirPageBytes b s.spool.storedDir s.spool.stored u.first
    else ledgerPageBytes s (u.first - b.dirPages) []

/-- The checks of a unit hold of the bytes read: a band's encoded CRC, the CRC of each frame entry or of a descriptor
page, the CRC of each ledger record (R130, R131, R139). -/
def scrubGood (s : State) (u : Scrub) : Bool :=
  let bs := u.diff.foldl (fun d p => d.set p.1 (BitVec.ofNat 8 p.2)) (scrubBytes s u)
  let parts := fun (n k : Nat) => (List.range k).all fun i =>
    let x := bytesAt bs (n * i) n
    x == leBytes n 0 || fieldAt x (n - 4) 4 == (crc32c (x.take (n - 4))).toNat
  !u.bad && (match u.id with
    | some _ => bEncoded bs == (crc32c (bs.take (bLength bs - 16))).toNat
    | none =>
      if s.spool.sb.dirPages ≤ u.first then parts 128 32
      else if u.first < s.spool.sb.framePages then parts 64 64
      else fieldAt bs 4080 4 == (crc32c (bs.take 4080)).toNat)

/-- The member that holds the first page of a unit. -/
def scrubMember (s : State) (u : Scrub) : Nat := if s.spool.sb.width = 0 then 0 else u.first % s.spool.sb.width

/-- A unit has been read: it passes, is read once more, or is handled as a failed re-read, with no frame in flight
affected (R138, R139). -/
def scrubJudge (s : State) : State :=
  match s.spool.scrub with
  | none => s
  | some u =>
    if pendingOp s .scrub then s
    else
      let pass := scrubGood s u
      if !pass && !u.again then scrubRead { u with again := true, bad := false, diff := [] } s
      else
        let s := if pass then s
          else match u.id with
            | some i => bandLost (scrubMember s u) i s
            | none => superUpdate (fun b => { b with bad := (b.bad ++ [u.first]).eraseDups }) s
        scrubNext (s.modSpool fun p => { p with scrub := none, scrubPos := u.first + u.pages })

/-- A scrub Read has ended. -/
def scrubArrived (ok : Bool) (diff : List (Nat × Nat)) (s : State) : State :=
  scrubJudge (s.modSpool fun p => { p with
    scrub := p.scrub.map fun u => { u with bad := u.bad || !ok, diff := u.diff ++ diff } })

/-! ### Completions -/

/-- A command is of a purpose, and for a band where the purpose has one. -/
def NvmeCmd.isFor (q : NvmeCmd) (op : NvmeOp) (id : BandId) : Bool :=
  q.op == op && (q.id == id || !(op == .write || op == .read || op == .reread))

/-- The outstanding command that a completion names: that of the purpose and band which covers the page, else the first
of them. -/
def outCmd (s : State) (c : Nat) (op : NvmeOp) (id : BandId) (page : Nat) : Option NvmeCmd :=
  match s.spool.members[c]? with
  | none => none
  | some m =>
    let l := localPage s.spool.sb.width page
    let mine := m.out.filter fun q => q.isFor op id
    match mine.find? fun q => decide (q.page ≤ l) && decide (l < q.page + q.pages) with
    | some q => some q
    | none => mine.head?

/-- A command is outstanding no more; a Read's bytes count for its member's delivered rate (R136). -/
def takeOut (c : Nat) (q : NvmeCmd) (s : State) : State :=
  modMember c (fun m => { m with
    out := replaceCmd q [] m.out, readBytes := m.readBytes + (if opReads q.op then 4096 * q.pages else 0) }) s

/-- What follows every completion: the member takes more commands, a window of it stays saturated only with 16 reads
outstanding, and batches, superblock updates and a format go on. -/
def afterCommand (c : Nat) (s : State) : State :=
  let s := serve c 64 s
  let s := modMember c (fun m => { m with
    sat := m.sat && decide (16 ≤ (m.out.filter fun q => opReads q.op).length) }) s
  advanceFormat (advanceSuper (advanceBatch s))

/-- The end of a re-read: of a whole band whose encoded CRC was wrong (R89), or of the pages of a failed Read (R138). -/
def rereadDone (c : Nat) (id : BandId) (page : Nat) (ok : Bool) (diff : List (Nat × Nat)) (s : State) : State :=
  if s.spool.rereads.contains id then
    if ok then shareArrived c id diff s
    else rereadFailed c id (s.modSpool fun p => { p with rereads := p.rereads.filter (· != id) })
  else
    let s := rereadEnded c id page ok s
    if ok then shareArrived c id diff s else s

/-- What a completed command does, by its purpose. A Write or another command that ends with an error is issued again. -/
def commandDone (c : Nat) (q : NvmeCmd) (page : Nat) (ok : Bool) (diff : List (Nat × Nat)) (s : State) : State :=
  match q.op with
  | .read => if ok then shareArrived c q.id diff s else readFailed c q page s
  | .reread => rereadDone c q.id page ok diff s
  | .scrub => scrubArrived ok diff s
  | .bench => s
  | .write => if ok then bandWritten q.id s else enqueue c q s
  | .ledgerWrite => if ok then ledgerLevel (ledgerWritten s) else enqueue c q s
  | _ => if ok then s else enqueue c q s

/-- NVME_COMPLETION: an NVMe command of a member completes: what it was for, the band, the spool page concerned,
success, and the bytes that read otherwise than written (R89, R100, R120, R129, R132, R138 to R140). -/
def execNvmeCompletion (member : Nat) (op : NvmeOp) (job layer frame band page : Nat) (ok : Bool)
    (diff : List (Nat × Nat)) (s : State) : Host.Outcome State Fault Refusal :=
  .next (
    let id : BandId := { job := job, layer := layer, frame := frame, band := band }
    match outCmd s member op id page with
    | none => s
    | some q => afterCommand member (commandDone member q page ok diff (takeOut member q s)))

/-! ### Losses (R138) -/

/-- The first band of a flight at station `n` with pages on member `c` that is not fetched yet. -/
def unfetchedOn (s : State) (c n : Nat) (f : Flight) : Option Nat :=
  ((duesOf s f n).find? fun d => !d.have_ && (membersOf s.spool.sb.width d.first d.len).contains c).map (·.id.band)

/-- A member is lost: the layers of frames in flight that still need it are not ready, and recovery starts as the
loss's self-test (R138). -/
def loseMember (c : Nat) (s : State) : State :=
  match s.spool.members[c]? with
  | none => s
  | some m =>
    if m.lost then s
    else
      -- what it had to write waits for its return, what it had to read is off (R138)
      let s := modMember c (fun m => { m with
        lost := true, tries := 0, timeouts := 0, busReset := false, out := []
        queue := (m.out ++ m.queue).filter fun q => !opReads q.op }) s
      let s := s.modSpool fun p => { p with scrub := none }
      let s := s.land.flights.foldl
        (fun s f => f.stations.foldl (fun s n => match unfetchedOn s c n f with
          | some k => failLayer f.serial n k 0x11 s
          | none => s) s) s
      (raise 0x0505 (memberH s c) 0 c s).send (.nvme c { op := .ccReset, pages := 0 } [])

/-- SPOOL_READ_TIMEOUT: a Read has not completed within 20 ms: handled as one that ended with an error; the third command
timeout in a row loses the member (R138). -/
def execSpoolReadTimeout (member job layer frame band page : Nat) (s : State) : Host.Outcome State Fault Refusal :=
  .next (
    let id : BandId := { job := job, layer := layer, frame := frame, band := band }
    match s.spool.members[member]?, outCmd s member .read id page, outCmd s member .reread id page with
    | none, _, _ => s
    | some _, none, none => s
    | some m, some q, _ =>
      let s := modMember member (fun m => { m with timeouts := m.timeouts + 1, out := replaceCmd q [] m.out }) s
      if 3 ≤ m.timeouts + 1 then loseMember member s else afterCommand member (readFailed member q page s)
    | some m, none, some q =>
      let s := modMember member (fun m => { m with timeouts := m.timeouts + 1, out := replaceCmd q [] m.out }) s
      if 3 ≤ m.timeouts + 1 then loseMember member s else afterCommand member (rereadDone member id page false [] s))

/-- SPOOL_MEMBER_LOSS: a member's link is down, its status fatal, or its timeouts three in a row (R138). -/
def execSpoolMemberLoss (member : Nat) (s : State) : Host.Outcome State Fault Refusal := .next (loseMember member s)

/-- A member that answers again carries a valid superblock that matches the spool's (R128, R138). -/
def rejoins (s : State) (c : Nat) (p : List Byte × List Byte) : Bool :=
  let ok := fun (x : SuperCopy) => x.valid && x.spoolId == s.spool.sb.spoolId && x.width == s.spool.sb.width &&
    x.memberPages == s.spool.sb.memberPages && x.member == c && x.keyCheck == s.spool.sb.keyCheck
  ok (superOf p.1) || ok (superOf p.2)

/-- A rejoined member: its queue pair is deleted and created again, and what waited for it is issued (R122, R138). -/
def rejoin (c : Nat) (s : State) : State :=
  let ask := fun (s : State) (op : NvmeOp) => s.send (.nvme c { op := op, pages := 0 } [])
  let s := [NvmeOp.deleteSq, .deleteCq, .createCq, .createSq].foldl ask s
  let s := modMember c (fun m => { m with lost := false, tries := 0, busReset := false }) s
  placeBands (serveAll (codeTestEnded true (memberH s c) 0x0505 s))

/-- SPOOL_MEMBER_RECOVERY: a step of an attempt to recover a lost member has ended: its superblock copies, or none where
it does not answer. A controller reset that fails is followed by a secondary bus reset, the next attempt comes 1 s later,
the third failure loses the spool (R138). -/
def execSpoolMemberRecovery (member : Nat) (found : Option (List Byte × List Byte)) (s : State) :
    Host.Outcome State Fault Refusal :=
  .next (match s.spool.members[member]? with
    | none => s
    | some m =>
      let reset := fun (op : NvmeOp) (s : State) => s.send (.nvme member { op := op, pages := 0 } [])
      if !m.lost || m.gone then s
      else if found.any (rejoins s member) then rejoin member s
      else if found.isNone && !m.busReset then reset .busReset (modMember member (fun m => { m with busReset := true }) s)
      else if m.tries + 1 < 3 then
        reset .ccReset (modMember member (fun m => { m with tries := m.tries + 1, busReset := false }) s)
      else codeTestEnded false (memberH s member) 0x0505 (loseSpool member s))

end Sys2Proof.Machine
end

