-- ==== Sys2Proof/Machine/Maint.lean ====
section
/-! DEFINITION. Maintenance activities, fault acknowledgement, return to service, interlock release and spool format
(R129, R184, R324, R334, R405 to R409). -/

namespace Sys2Proof.Machine

open Sys2Proof

/-! ### Scopes, claims, quiet (R405, R406, Table 21-10) -/

/-- Unit type an activity's scope has: STATION 3, ENGINE 2, PRESS 1. -/
def scopeType (k : Nat) : Nat := if k = 5 then 2 else if k = 8 ∨ k = 9 then 1 else 3

/-- The scope is right for the activity. -/
def scopeOk (s : State) (k : Nat) (h : Handle) : Bool :=
  between 1 9 k && s.cfg.cur.typeOf h == scopeType k && (scopeType k != 3 || (s.cfg.cur.stationOf h).isSome)

/-- A resource: its kind, whose it is, and whether the claim is shareable. -/
abbrev Claim := Nat × Nat × Bool

/-- The engines of the set, by INDEX. -/
def engines (s : State) : List Nat := s.cfg.cur.ofType 2

/-- What activity `k` on scope `h` claims: 0 SOS path, 1 sideband, 2 lane, 3 drum, 4 developer, 5 nip, 6 spool background
reads, 7 web motion. -/
def claims (s : State) (k : Nat) (h : Handle) : List Claim :=
  let i := hIndex h
  match k with
  | 1 => [(0, i, false), (1, i, true)]
  | 2 => [(0, i, false), (2, i, false)]
  | 3 => [(3, i, false)]
  | 4 => [(4, i, false)]
  | 5 => [(5, i, false)]
  | 6 => [(1, i, true)]
  | 7 => [(2, i, true)]
  | 8 => [(6, 0, false)]
  | 9 => (7, 0, false) :: (engines s).map fun e => (5, e, false)
  | _ => []

/-- Two claims meet on one resource that they do not share. -/
def claimsMeet (a b : List Claim) : Bool := a.any fun x => b.any fun y => x.1 == y.1 && x.2.1 == y.2.1 && !(x.2.2 && y.2.2)

/-- Activity `k` runs on scope `h`; the survey and the scrub are standing (Table 21-10). -/
def actRuns (s : State) (k : Nat) (h : Handle) : Bool :=
  match k with
  | 1 => match s.cfg.cur.stationOf h with | some n => (s.st n).ems.survey | none => false
  | 8 => !(actOf s 8 h).stopped
  | _ => (actOf s k h).running

/-- Activities that run: the standing ones and those started. -/
def runningActs (s : State) : List (Nat × Handle) :=
  (s.cfg.cur.stationList.filter fun n => (s.st n).ems.survey).map (fun n => (1, stH s n)) ++
    (if actRuns s 8 0#16 then [(8, 0#16)] else []) ++ (s.maint.acts.filter fun a => a.2.2.running).map fun a => (a.1, a.2.1)

/-- Another running activity claims a resource of this one; `spare` leaves the survey out, which the scheduler may
suspend (R406). -/
def clashes (s : State) (k : Nat) (h : Handle) (spare : Bool) : Bool :=
  (runningActs s).any fun a => !(a.1 == k && a.2 == h) && !(spare && k == 2 && a.1 == 1 && a.2 == h) &&
    claimsMeet (claims s k h) (claims s a.1 a.2)

/-- The quiet window of station `n` is open and takes gap_ms: no frame's bands are being consumed there, and the next
frame's band 0 is far enough ahead at the planned speed (R405). -/
def stationQuiet (s : State) (n gapMs : Nat) : Bool :=
  let need : Rat := newelLines s + (gapMs : Rat) / 1000 * (s.gov.speed * 1200)
  s.land.flights.all fun f => !f.usesNow n ||
    (kvGet 0 f.consumed n == 0 && decide (need ≤ ((stationLanding s f n - f.h : Int) : Rat)))

/-- The quiet condition of an activity holds. -/
def quiet (s : State) (k : Nat) (h : Handle) : Bool :=
  match k with
  | 2 | 3 | 4 => match s.cfg.cur.stationOf h with | some n => stationQuiet s n (mntGap s k) | none => false
  | 5 | 9 => s.land.mode == .thread
  | _ => true

/-! ### Starting, ending (R406, R407, Table 21-10) -/

/-- The solenoid of an activity's entry. -/
def actSol (s : State) (k : Nat) : Option Nat := s.cfg.cur.rank 0x0C (BitVec.ofNat 16 (mntF s k 12 2))

/-- Fires an activity's solenoid for `ms`, where it has one. -/
def fireAct (k ms : Nat) (s : State) : State :=
  match actSol s k with
  | some j => (fireSol j (nextCycle s) ms 0 s).getD s
  | none => s

/-- Releases an activity's solenoid. -/
def releaseAct (k : Nat) (s : State) : State :=
  match actSol s k with
  | some j => releaseSol j (nextCycle s) s
  | none => s

/-- What starting an activity does (Table 21-10): SOS_CALIBRATE takes the lane out of training and words while the band
table is measured (R149). -/
def startEffect (k : Nat) (h : Handle) (s : State) : State :=
  match k, s.cfg.cur.stationOf h with
  | 1, some n => modEms n (fun x => { x with survey := true }) s
  | 2, some n =>
    let s := acquire n (modScan n (fun x => { x with lock := false, inWin := 0, outWin := 0 })
      (modEms n (fun x => { x with survey := false }) (surveyPause n s)))
    match stationLane s n with
    | some l => modLane l (fun x => { x with mode := .off, trained := false, training := false }) s
    | none => s
  | 3, _ => fireAct 3 (mntGap s 3) s
  | 4, _ => fireAct 4 (mntGap s 4) s
  | 5, _ => fireAct 5 (2 ^ 32) s
  | 6, some n => readHead n s
  | 7, some n => match stationLane s n with | some l => startBer l true s | none => s
  | 8, _ => scrubNext s
  | 9, _ =>
    let s := fireAct 9 (mntGap s 9) s
    (planTo 5 s).modGov fun g => { g with jog := 5, jogLeft := none, stopping := false }
  | _, _ => s

/-- An activity starts; MNT tells it. -/
def startAct (k : Nat) (h : Handle) (s : State) : State :=
  let s := modAct k h (fun x => { x with running := !(k == 1 || k == 8), stopped := false, wanted := false }) s
  post 0x8501 h (leBytes 1 k ++ leBytes 1 2) (startEffect k h s)

/-- The survey that a calibration suspended resumes, unless a command stopped it (R406). -/
def resumeSurvey (n : Nat) (s : State) : State :=
  if (actOf s 1 (stH s n)).stopped then s else modEms n (fun x => { x with survey := true }) s

/-- What the end of an activity does: SOS_CALIBRATE that passed has written the stagger table, scan_start and SOS offset,
and the polygon's learnt offsets are saved (R108, R204, R230); the lane goes on and the marks are acquired. -/
def endEffect (k : Nat) (h : Handle) (pass : Bool) (stagger : List Nat) (scanStart : Nat) (sosOff : Int) (s : State) : State :=
  match k, s.cfg.cur.stationOf h with
  | 2, some n =>
    let s := resumeSurvey n s
    let s := if !pass then s
      else
        let s := s.modCal fun c => { c with inst := kvMod {} c.inst n fun x =>
          { x with stagger := stagger.zipIdx.map (fun p => (p.2, BitVec.ofNat 16 p.1)), scanStart := scanStart, sosOff := sosOff } }
        let s := match polygonOf s.cfg.cur n with
          | some a => modAxis a (fun x => { x with offSaved := x.off }) s
          | none => s
        requestStore s
    let s := if (kvGet ({} : CalSt) s.cal.inst n).complete then modEms n (fun x => { x with calNeeded := false }) s else s
    let s := match stationLane s n with
      | some l => if (s.lane l).trained || (s.lane l).training then s else startTraining l true s
      | none => s
    acquire n s
  | 3, _ => releaseAct 3 s
  | 4, _ => releaseAct 4 s
  | 5, _ => releaseAct 5 s
  | 9, _ => (planTo 0 (releaseAct 9 s)).modGov fun g => { g with jog := 0 }
  | _, _ => s

/-- MAINTENANCE_START: the scheduler's moment for an activity: wanted by command, or due; it starts when its quiet
condition holds and nothing it needs is claimed (R406, R407). The scrub is standing. -/
def execMaintenanceStart (activity : Nat) (scope : Handle) (s : State) : Host.Outcome State Fault Refusal :=
  .next (
    let x := actOf s activity scope
    let mine := mntEnabled s activity && !x.stopped && actLevel s activity x != 0 && activity != 8
    if !scopeOk s activity scope || actRuns s activity scope || !(x.wanted || mine) || !quiet s activity scope ||
        clashes s activity scope (!x.wanted) then s
    else startAct activity scope s)

/-- MAINTENANCE_COMPLETE: an activity's work is done, or has failed; for SOS_CALIBRATE what it measured (R407). A pass of
the scrub completes without ending it. -/
def execMaintenanceComplete (activity : Nat) (scope : Handle) (pass : Bool) (stagger : List Nat) (scanStart : Nat)
    (sosOff : Int) (s : State) : Host.Outcome State Fault Refusal :=
  .next (if !actRuns s activity scope || activity == 1 || activity == 7 || !scopeOk s activity scope ||
      (activity == 8 && !s.spool.scrubDone) then s
    else
      let s := endAct activity scope pass (endEffect activity scope pass stagger scanStart sosOff s)
      if activity = 8 then scrubNext (s.modSpool fun p => { p with scrubPos := 0, scrubDone := false }) else s)

/-- MAINTENANCE_COUNT_TICK: a second or an hour has passed for an activity counted in them (Table 21-11). -/
def execMaintenanceCountTick (activity : Nat) (scope : Handle) (s : State) : Host.Outcome State Fault Refusal :=
  .next (
    let s := if (activity = 2 ∨ activity = 8) ∧ scopeOk s activity scope then bumpAct activity scope s else s
    if activity = 8 then scrubNext s else s)

/-- QUIET_WINDOW_TIMEOUT: no quiet window has occurred within 10 s of MNT_START (R409). -/
def execQuietWindowTimeout (activity : Nat) (scope : Handle) (s : State) : Host.Outcome State Fault Refusal :=
  .next (if (actOf s activity scope).wanted then
      finish (mntWaits activity scope) .timeout [] (modAct activity scope (fun x => { x with wanted := false }) s)
    else s)

/-! ### MNT_START, MNT_STOP, MNT_STATUS (R409) -/

/-- MNT_START's own checks and effect, in the order of Table 21-14. A standing activity answers once it runs. -/
def bodyMntStart (m : Cmd) (s : State) : Reply :=
  let k := m.u 1 1
  let h := m.handle
  if scopeOk s k h && clashes s k h false then refuse .conflict s
  else if scopeOk s k h && (actRuns s k h || (actOf s k h).wanted) then refuse .busy s
  else if !scopeOk s k h || decide (1 < m.u 2 1) then refuse .range s
  else if scopeType k ≠ 3 ∧ k ≠ 8 ∧ s.land.mode ≠ .thread then refuse .notInGap s
  else if k = 1 ∨ k = 8 then .done .ok [] (startAct k h s)
  else if quiet s k h then .later (startAct k h s)
  else
    let s := modAct k h (fun x => { x with wanted := true }) s
    .later (if bitOf (m.u 2 1) 0 then askGap k h s else s)

/-- MNT_START. -/
def execMntStart (m : Cmd) (s : State) : Host.Outcome State Fault Refusal :=
  .next (runCmd opMntStart noTicket m (bodyMntStart m) s)

/-- What stopping an activity does. -/
def stopEffect (k : Nat) (h : Handle) (s : State) : State :=
  match k, s.cfg.cur.stationOf h with
  | 1, some n => modEms n (fun x => { x with survey := false }) (surveyPause n s)
  | 6, some n => modEms n (fun x => { x with readAt := none, mem := [] }) s
  | 7, some n => match stationLane s n with
    | some l => sendSide l 5 [0] (modLane l (fun x => { x with ber := none }) s)
    | none => s
  | _, _ => endEffect k h false [] 0 0 s

/-- MNT_STOP's own check and effect: the activity ends without completing; a standing one stays stopped (R409). -/
def bodyMntStop (m : Cmd) (s : State) : Reply :=
  let k := m.u 1 1
  let h := m.handle
  if !scopeOk s k h || !actRuns s k h then refuse .conflict s
  else
    let s := modAct k h (fun x => { x with running := false, stopped := k == 1 || k == 8 }) (stopEffect k h s)
    .done .ok [] (finish (mntWaits k h) .ok [] s)

/-- MNT_STOP. -/
def execMntStop (m : Cmd) (s : State) : Host.Outcome State Fault Refusal :=
  .next (runCmd opMntStop noTicket m (bodyMntStop m) s)

/-- State of an activity as MNT_STATUS reports it. -/
def actState (s : State) (k : Nat) (h : Handle) : Nat :=
  let x := actOf s k h
  if x.stopped then 4 else if actRuns s k h then 3 else actLevel s k x

/-- MNT_STATUS's effect. -/
def bodyMntStatus (m : Cmd) (s : State) : Reply :=
  let k := m.u 1 1
  let x := actOf s k m.handle
  if !scopeOk s k m.handle then refuse .range s
  else .done .ok (leBytes 1 (actState s k m.handle) ++ leBytes 3 0 ++ leBytes 4 x.count ++ leBytes 5 x.doneSec) s

/-- MNT_STATUS. -/
def execMntStatus (m : Cmd) (s : State) : Host.Outcome State Fault Refusal :=
  .next (runCmd opMntStatus noTicket m (bodyMntStatus m) s)

/-! ### MNT_FAULT_ACK (R324) -/

/-- MNT_FAULT_ACK's own check and effect: the acknowledgement is kept, and the record closes once its cause is gone;
thermal stages that waited for it end (R320), and the press's record takes LEDGER_LOST's acknowledgement (R371). -/
def bodyMntFaultAck (m : Cmd) (s : State) : Reply :=
  let i := m.u 0 1
  let r := kvGet ({} : FRec) s.faults.recs i
  if !r.isOpen || r.code != m.u 2 2 || classOf r.code != 3 then refuse .range s
  else
    let s := s.modFaults fun f => { f with recs := kvMod {} f.recs i fun r => { r with acked := true } }
    let s := if r.handle = 0#16 then s.modLand fun l => { l with ledgerLostAck := true } else s
    .done .ok [] (closeIfCleared i (leaveAllHot s))

/-- MNT_FAULT_ACK. -/
def execMntFaultAck (m : Cmd) (s : State) : Host.Outcome State Fault Refusal :=
  .next (runCmd opMntFaultAck noTicket m (bodyMntFaultAck m) s)

/-! ### MNT_RETURN (R334) -/

/-- The channel is retired: the unit itself, a bank's slot, or NEWEL, whose records are the press's (R209). -/
def channelRetired (s : State) (h : Handle) (sel : Nat) : Bool :=
  if sel = 0 then (liveOf s (hIndex h)).st == .retired || (hIndex h == 0 && s.newel.lost)
  else match slotAt s.cfg.cur h sel with
    | some k => (s.loop k).retired
    | none => false

/-- Channels that return only by their own paths: emitters, spool members and ports, rails (R334). -/
def ownPath (s : State) (h : Handle) (sel : Nat) : Bool :=
  sel / 64 == 2 || between 21 28 (hIndex h) || s.cfg.cur.typeOf h == 0x0A

/-- An open record holds the channel or one of its dependants, as its first or a merged channel (R334); the record of
the lost NEWEL, whose cause ends only with the return, does not. -/
def channelHeld (s : State) (h : Handle) : Bool :=
  s.faults.recs.any fun p => p.2.isOpen && codeOf p.2.code != 0x0D03 && (p.2.handle :: p.2.merged).any fun u =>
    u == h || dependant s (hIndex h) (hIndex u)

/-- The channels that return with a unit: a RETIRE_AS_ONE group's retired descendants (R334). -/
def returnGroup (s : State) (h : Handle) : List Handle :=
  match s.cfg.cur.unit (hIndex h) with
  | some u =>
    if u.retireAsOne then
      ((s.cfg.cur.indices.filter fun j => s.cfg.cur.under (hIndex h) j && j != hIndex h && (liveOf s j).st == .retired).map
        s.cfg.cur.handle)
    else []
  | none => []

/-- A channel's self-test runs again: a lane trains and takes its BER test, a node or a ring segment is read, any other
is judged at once by an outcome that the spec does not place in any command (log entry 3). -/
def returnTest (h : Handle) (sel : Nat) (s : State) : State :=
  let i := hIndex h
  if 1 ≤ i ∧ i < 17 then startTraining (i - 1) true (modLane (i - 1) (fun x => { x with retired := false }) s)
  else if s.cfg.cur.typeOf h = 5 ∨ i = 30 ∨ i = 31 then s
  else if i = 29 then modLane 28 (fun x => { x with ber := some { cmd := false } }) s
  else
    let (v, s) := s.draw
    let pass := v % 2 == 0
    let group := returnGroup s h
    let s := if pass && i == 0 then s.modNewel fun x => { x with lost := false } else s
    let s := if pass then group.foldl (fun s u =>
        reviveChannel u 0 (setUnitState u (if parentOn s u then .ready else .disabled) 0 s)) s
      else s
    returnEnded pass h sel (if pass && i == 0 then causeGone h 0x0D03 s else s)

/-- MNT_RETURN's own checks; the channel's test starts once the command waits. -/
def bodyMntReturn (m : Cmd) (s : State) : Reply :=
  if ownPath s m.handle m.sel || !channelRetired s m.handle m.sel then refuse .conflict s
  else if channelHeld s m.handle then refuse .busy s
  else .later s

/-- MNT_RETURN, under a service ticket. -/
def execMntReturn (m : Cmd) (s : State) : Host.Outcome State Fault Refusal :=
  .next (
    let t := runCmd opMntReturn (fun _ => 2) m (bodyMntReturn m) s
    if t.mbx.waiters.any (fun w => w.op == 0x0505 && w.cmd == m) && !s.mbx.waiters.any (fun w => w.op == 0x0505 && w.cmd == m) then
      returnTest m.handle m.sel t
    else t)

/-! ### MNT_INTLK_RELEASE and MNT_SPOOL_FORMAT -/

/-- MNT_INTLK_RELEASE's own check and effect: named inputs lose their latch; the gate opens when it may (R184). -/
def bodyMntIntlkRelease (m : Cmd) (s : State) : Reply :=
  let w := BitVec.ofNat 8 (m.u 0 1)
  if w &&& s.intlk.low ≠ 0#8 then refuse .conflict s
  else
    let s := s.modIntlk fun x => { x with latched := x.latched &&& ~~~w }
    .done .ok [] (if s.intlk.latched = 0#8 ∧ s.intlk.low = 0#8 ∧ s.intlk.closedBy ≠ 0#8 then gateOpens s else s)

/-- MNT_INTLK_RELEASE, under an operator ticket. -/
def execMntIntlkRelease (m : Cmd) (s : State) : Host.Outcome State Fault Refusal :=
  .next (runCmd opMntIntlkRelease (fun _ => 3) m (bodyMntIntlkRelease m) s)

/-- Members that take part in a format. -/
def formatMembers (s : State) : List Member := s.spool.members.filter fun m => !m.lost && !m.gone

/-- Local pages of each of `k` members: the smallest usable count, the striped space at most 64 × 10^12 bytes (R126). -/
def formatPages (ms : List Member) : Nat :=
  match ms with
  | [] => 0
  | m :: r => min ((r.map (·.usable)).foldl min m.usable) (64000000000000 / 4096 / ms.length)

/-- The region holds a record that the press host has not acknowledged (R129). -/
def regionUnacked (s : State) : Bool := s.spool.regionRecs.any fun r => decide (s.ledger.acked < r.serial)

/-- The superblock a format gives its members (R126, R129). -/
def formatSuper (s : State) (ms : List Member) (id : Nat) (key : BitVec 512) : Superblock :=
  { generation := s.spool.sb.generation + 1, spoolId := id % 2 ^ 128, width := ms.length, mounted := false
    ledgerShare := s.cfgGet 0x13 0 1 1, memberPages := formatPages ms, keyCheck := keyCheck key }

/-- MNT_SPOOL_FORMAT's own checks and effect: a new identifier and key are drawn (free values, log entry 3), and every
member's bench region is written, the first of the format's steps (R129, R130). -/
def bodyMntSpoolFormat (m : Cmd) (s : State) : Reply :=
  let ms := formatMembers s
  if !noFlights s || s.spool.fmt != 0 then refuse .busy s
  else if m.u 0 4 ≠ 0x5120 ∨ ms.isEmpty ∨ (formatSuper s ms 0 0#512).dirPages < 2 then refuse .range s
  else
    let (a, s) := s.draw
    let (b, s) := s.draw
    let key := BitVec.ofNat 512 b
    let s := s.modSpool fun p =>
      let sb := formatSuper s ms a key
      { p with
        fmt := 1, state := .absent, sb := sb, xtsKey := key, dir := [], descs := [], usedRuns := []
        storedDir := [], stored := [], storedRuns := [], batch := 0, sbOut := none, sbMore := false, sbGen := (0, 0)
        cursor := sb.extentStart, rereads := [], regionRecs := [], ledgerOut := [], scrub := none, scrubPos := 0
        members := ms.map fun x => { x with tries := 0, queue := [], out := [] } }
    let s := s.modIngest fun i => { i with bands := i.bands.map fun b => { b with first := none } }
    .later (onEvery { op := .benchWrite, page := 256, pages := 262144 } s)

/-- MNT_SPOOL_FORMAT, under a service ticket, or a regulator's when the region holds unacknowledged records (R129). -/
def execMntSpoolFormat (m : Cmd) (s : State) : Host.Outcome State Fault Refusal :=
  .next (runCmd opMntSpoolFormat (fun s => if regionUnacked s then 1 else 2) m
    (bodyMntSpoolFormat m) s)

end Sys2Proof.Machine
end

