-- ==== Sys2Proof/Machine/Pairing.lean ====
section
/-! DEFINITION. The redundant pair: claims, HELLO, mirror frames, takeover, the PAIR_ commands (18, R413). -/

namespace Sys2Proof.Machine

open Sys2Proof

/-- The unit of pair faults: ML. -/
def mlH : Handle := BitVec.ofNat 16 29

/-! ### Ledger candidates (R353) -/

/-- A record of a frame that a power failure interrupted, closed (R371, Table 19-4). -/
def interrupted (s : State) (r : LedgerRec) : LedgerRec :=
  { r with state := .interrupted, cause := 0x21, closed := s.clk.opSec, pairSlot := s.boot.pairSlot }

/-- The queue with a record in its serial's place. -/
def putRecord (r : LedgerRec) (q : List LedgerRec) : List LedgerRec :=
  (q.filter fun x => decide (x.serial < r.serial)) ++ r :: q.filter fun x => decide (r.serial < x.serial)

/-- The candidates of a device that boots with no active peer are recorded INTERRUPTED, and their frames freed (R134,
R353). -/
def recordCands (s : State) : State :=
  let cs := s.ledger.cands
  let s := s.modLedger fun l => { l with cands := [], queue := cs.foldl (fun q r => putRecord (interrupted s r) q) l.queue }
  let s := cs.foldl (fun s r => freeFrame r.job r.frame s) s
  if cs.isEmpty then s else afterClose s

/-- Candidates whose serials the peer's ledger holds are dropped, and a record lists them (R353). -/
def dropCands (serials : List Nat) (s : State) : State :=
  let gone := (s.ledger.cands.map (·.serial)).filter serials.contains
  if gone.isEmpty then s
  else
    let s := s.modLedger fun l => { l with cands := l.cands.filter fun r => !gone.contains r.serial }
    galWrite 0x23 0#16 0 0 (leBytes 8 (gone.foldl min (gone.headD 0)) ++ leBytes 8 (gone.foldl max 0)) s

/-! ### Claiming (R342, R348) -/

/-- The claim is asserted: the device is master of the ring and the lanes. -/
def assertClaim (st : PairSt) (s : State) : State :=
  setPair st (setLasers (s.modPair fun p => { p with claimOut := true, noMaster := 0, missRun := 0, handover := false }))

/-- BOOT_CLAIM: the sequencer and the ring engine are ready (R342): a device outside a pair claims (R338); a member does
when CLAIM_IN is deasserted and it is slot 0, or slot 1 after BOOT_WAIT without a mirror frame; else it stands by. -/
def execBootClaim (claimIn : Bool) (s : State) : Host.Outcome State Fault Refusal :=
  .next (
    if !running s || s.pair.claimOut || s.pair.dropped || s.power.seq != .none || !s.ring.cyclic then s
    else if !pairEn s then assertClaim .alone (recordCands s)
    else
      let s := s.modPair fun p => { p with claimIn := claimIn }
      if claimIn then (if s.pair.st = .alone then setPair .unsynced s else s)
      else if s.pair.clash ∨ (s.boot.pairSlot = 1 ∧ s.pair.seenPeer) then s
      else assertClaim (if s.pair.seenPeer then .active else .alone) (recordCands s))

/-- CLAIM_CONFLICT: both claims are asserted: slot 0 keeps its own, slot 1 stands by again (R348). -/
def execClaimConflict (s : State) : Host.Outcome State Fault Refusal :=
  .next (if !pairEn s || !s.pair.claimOut then s
    else
      let s := s.modPair fun p => { p with claimIn := true }
      if s.boot.pairSlot = 0 then s
      else
        let s := s.modPair fun p => { p with claimOut := false, helloDone := false, snapDone := false, handover := false }
        setPair .unsynced (setLasers (darken s)))

/-! ### HELLO (R343) -/

/-- The standby begins again with HELLO. -/
def restartHello (s : State) : State :=
  let s := s.modPair fun p => { p with helloDone := false, snapDone := false }
  if s.pair.st = .syncing ∨ s.pair.st = .synced then setPair .unsynced s else s

/-- HELLO: the peer's slot, firmware digest and latest accepted version (R343). -/
def execHello (slot digest version : Nat) (claimIn : Bool) (s : State) : Host.Outcome State Fault Refusal :=
  .next (if !running s || !pairEn s then s
    else
      let s := s.modPair fun p =>
        { p with seenPeer := true, got := true, claimIn := claimIn, peerVer := version, peerSlot := some slot }
      if slot = s.boot.pairSlot then
        let s := raise 0x1604 mlH 0 slot (s.modPair fun p => { p with clash := true })
        if s.pair.claimOut || s.pair.st == .alone || s.pair.st == .locked then s else setPair .unsynced s
      else
        let s := s.modPair fun p => { p with helloDone := true }
        if s.pair.claimOut then (if s.pair.st = .alone then setPair .active s else s)
        else if s.pair.st = .locked then s
        else if digest ≠ s.boot.imageDigest then setPair .unsynced (raise 0x1605 mlH 0 slot s)
        else if claimIn then setPair .syncing (s.modPair fun p => { p with snapDone := false })
        else s)

/-- SYNC_TIMEOUT: SYNCED is not reached within SYNC_LIMIT (R343). -/
def execSyncTimeout (s : State) : Host.Outcome State Fault Refusal :=
  .next (if s.pair.st = .syncing then restartHello (note 0x1608 mlH 0 s) else s)

/-- A standby that has everything is SYNCED (R343). -/
def trySync (s : State) : State :=
  let lanes := (List.range 16).filter fun l => (s.cfg.cur.mapModule l).isSome
  if s.pair.st = .syncing && s.pair.snapDone && mounted s && s.ring.cyclic &&
      lanes.all (fun l => (s.lane l).trained && (s.lane l).mode == .dark) && s.cfg.cur.stationList.all (hasLocks s) then
    setPair .synced s
  else s

/-! ### Sections (R345, R346, R353, R367, Table 18-6) -/

/-- Gallery records of the peer are recorded as PEER records (R367). -/
def peerRecords (slot : Nat) (rs : List GalRec) (s : State) : State :=
  galLevel (rs.foldl (fun s r => galPut { r with flags := 1 + 2 * slot, aux := r.seq } s) s)

/-- Frames admitted and closed by the active device. -/
def mirrorFlights (admitted : List Flight) (closed : List Nat) (s : State) : State :=
  let gone := s.land.flights.filter fun f => closed.contains f.serial
  let s := gone.foldl (fun s f => freeFrame f.job f.frame s) s
  let s := s.modLand fun l => { l with flights := (l.flights.filter fun f => !closed.contains f.serial) ++ admitted }
  s.modLedger fun l => { l with queue := admitted.foldl (fun q f =>
    if q.any fun r => r.serial == f.serial then q else putRecord (ledgerOf s f) q) l.queue }

/-- The configuration sets of the snapshot, installed as the device's own (R343). -/
def mirrorSets (cur : CfgSet) (ver : Nat) (prev : Option (Nat × CfgSet)) (s : State) : State :=
  reloadRoutes s.cfg.cur (reloadMap (changeSets (fun c =>
    { c with
      cur := cur, curVer := ver, prev := prev, pend := none, routePend := none, staged := none, highVer := max c.highVer ver
      writing := false, slotIsB := false
      slotA := slotWith ver .active cur
      slotB := match prev with | some (v, p) => slotWith v .active p | none => {} }) s))

/-- Press calibration of the snapshot; band tables stay the device's own (R345, R380). -/
def mirrorCal (x : CalStore) (s : State) : State :=
  let s := s.modCal fun c =>
    { c with lists := x.lists, inst := x.inst.map fun p => (p.1, { p.2 with table := (kvGet ({} : CalSt) c.inst p.1).table }) }
  let s := x.kappa.foldl (fun s p => modAxis p.1 (fun a => { a with kappaSaved := p.2 }) s) s
  let s := x.off.foldl (fun s p => modAxis p.1 (fun a => { a with offSaved := p.2 }) s) s
  requestStore s

/-- The frames of closed records that are no GAP are freed on the standby's own spool (R134). -/
def freeClosed (rs : List LedgerRec) (s : State) : State :=
  (rs.filter fun r => r.isClosed && r.state != .gap).foldl (fun s r => freeFrame r.job r.frame s) s

/-- What a standby takes from a section of the active device. -/
def standbySection (s : State) : MirrorSec → State
  | .newel pos seg plan =>
    advancePlan ((s.modNewel fun x => { x with pos := pos }).modGov fun g => { g with seg := seg, after := plan })
  | .landing next serial => s.modLand fun l => { l with next := next, nextSerial := serial }
  | .flights admitted closed => mirrorFlights admitted closed s
  | .station n sPred facet sweep ems lane trim =>
    let s := modScan n (fun x =>
      { x with
        sPred := sPred, sweeps := sweep, tRider := trim
        facets := match facet with | some (k, r) => kvSet x.facets k r | none => x.facets }) s
    let s := modEms n (fun x => { x with em := ems.foldl (fun t p => kvSet t p.1 p.2) x.em }) s
    s.modCfg fun c => { c with routeLane := kvSet c.routeLane n lane }
  | .axis a x => modAxis a (fun _ => x) s
  | .loop k x => modLoop k (fun _ => x) s
  | .ledger closed acked =>
    let s := s.modLedger fun l => { l with acked := max l.acked acked, queue := closed.foldl (fun q r => putRecord r q) l.queue }
    afterClose (releaseLedger (dropCands (closed.map (·.serial)) (freeClosed closed s)))
  | .configAccepted p => s.modCfg fun c => { c with pend := some { p with slotDone := true }, highVer := max c.highVer p.version, staged := none }
  | .configEffect version => if s.cfg.pend.any fun p => p.version == version then takeEffect s else s
  | .bulkSets cur ver prev => mirrorSets cur ver prev s
  | .bulkCal c => mirrorCal c s
  | .bulkSave n h => modSt n (fun x => { x with peerSave := h }) s
  | .bulkLedger q => dropCands (q.map (·.serial)) (freeClosed q (s.modLedger fun l => { l with queue := q }))
  | .snapshotEnd => s.modPair fun p => { p with snapDone := true }
  | .status us => us.foldl (fun s u => setUnitState u.1 u.2.1 u.2.2 s) s
  | .gallery _ => s

/-- What a device takes from a section: gallery records always, the rest as a standby that is SYNCING or SYNCED (R346). -/
def applySection (slot : Nat) (s : State) (sec : MirrorSec) : State :=
  match sec with
  | .gallery rs => peerRecords slot rs s
  | x => if !s.pair.claimOut && (s.pair.st == .syncing || s.pair.st == .synced) then standbySection s x else s

/-! ### Takeover (R351 to R356) -/

/-- A lane leaves DARK without a new acquisition (R356). -/
def leaveDarkKept (s : State) : State :=
  (List.range 16).foldl
    (fun s l => if (s.lane l).mode != .dark || laneDark s l || gateCloses s l then s
      else modLane l (fun x => { x with leave := 2, statSeen := true, noStat := 0 }) s) s

/-- A frame in flight at a takeover: SPOILED, nothing more of its layers prints; an engine marks it when the old device had
not consumed its band 0 at the engine's spoil mark station; its riders are not latched (R352). -/
def takenOver (cause : Nat) (s : State) (f : Flight) : Flight :=
  let marks := (List.range 4).filterMap fun e => (spoilStation s.latestSet e).bind fun k =>
    if stationServes s k ∧ newelLines s < ((stationLanding s f k - f.h : Int) : Rat) ∧ (spoilBand s.latestSet e).isSome then some k
    else none
  { f.spoil cause with
    failed := f.stations.foldl setBit f.failed, failFrom := f.stations.foldl (fun t n => kvSet t n 0) f.failFrom
    marking := marks, asked := [] }

/-- The first landing of the sequence whose admission position is still ahead (R48, R351). -/
def nextAhead (s : State) : State :=
  s.modLand fun l => { l with next := l.next.map fun x =>
    let late := newelLines s - ((x - leadLines s x : Int) : Rat)
    if 0 < late then x + ceilLines s.cfg.cur.lineStep late else x }

/-- A device that becomes active has no valid live history; its save slots are the last completed copies, and no rider
stays latched (R94, R352). -/
def takeHistories (s : State) : State :=
  s.modStations fun t => t.map fun p =>
    (p.1, { p.2 with hist := { p.2.hist with valid := false }, save := p.2.peerSave, riders := [], ridersFor := 0 })

/-- What every claim of a standby does to frames, histories, staged sets and the upstream ledger (R32, R94, R352, R353). -/
def inherit_ (cause : Nat) (s : State) : State :=
  let s := s.modLand fun l => { l with flights := l.flights.map (takenOver cause s) }
  let s := takeHistories s
  let s := (s.modCfg fun c => { c with staged := none }).modCal fun c => { c with staging := [] }
  sendLedger (s.modLedger fun l => { l with sent := l.acked, timer := false })

/-- The TAKEOVER record (Table 19-2). -/
def takeoverRecord (alive : Bool) (s : State) : State :=
  let ns := s.land.flights.map (·.serial)
  galWrite 0x22 0#16 0 0
    (leBytes 4 s.pair.lastCyc ++ leBytes 4 s.ring.cyc ++ leBytes 1 (bnat alive) ++ leBytes 7 0 ++
      leBytes 8 (ns.foldl min (ns.headD 0)) ++ leBytes 8 (ns.foldl max 0)) s

/-- A SYNCED standby takes over (R351). -/
def takeover (alive : Bool) (s : State) : State :=
  let s := note 0x1602 mlH 0 (takeoverRecord alive s)
  let s := s.modAxes fun t => t.map fun p => (p.1, { p.2 with catches := if p.2.phase = .catching then 0 else p.2.catches })
  leaveDarkKept (assertClaim .active (nextAhead (inherit_ 0x13 s)))

/-- Any other standby takes over cold: frames are SPOILED, polygons caught, and the orderly stop follows (R354). -/
def coldTakeover (s : State) : State :=
  let s := assertClaim .active (inherit_ 0x18 s)
  let s := s.cfg.cur.stationList.foldl
    (fun s n => match polygonOf s.cfg.cur n with
      | some a => beginStart a s
      | none => s) s
  leaveAllDark (raise 0x1606 mlH 0 0 s)

/-- CLAIM: mirror frames have been missing for 3 cycles and CLAIM_IN is sampled (R347): deasserted, the standby claims;
asserted, its mirror is lost (Table 18-8). -/
def execClaim (claimIn alive : Bool) (s : State) : Host.Outcome State Fault Refusal :=
  .next (
    if !running s || !pairEn s || s.pair.claimOut || s.pair.dropped || s.pair.clash || s.faults.lockout || s.pair.st == .alone ||
        decide (s.pair.missRun < 3) then s
    else
      let s := s.modPair fun p => { p with claimIn := claimIn, peerAlive := alive, peerSynced := false }
      if claimIn then (if s.pair.st = .syncing ∨ s.pair.st = .synced then mirrorLost s else s)
      else
        let warm := s.pair.st == .synced
        let s := s.modPair fun p => { p with helloDone := false, snapDone := false }
        if warm then takeover alive s else coldTakeover s)

/-! ### Mirror frames (R345, R346, R350, R355, R357) -/

/-- The ACTIVE flag of the peer's frame against CLAIM_IN: four disagreements in a row are DISAGREE; a LOCKOUT received
during one is, too; outside one the active device notes it (R350, R355). -/
def checkClaims (active lock : Bool) (s : State) : State :=
  let n := if active == s.pair.claimIn then 0 else s.pair.disagree + 1
  let s := s.modPair fun p => { p with disagree := n }
  if s.faults.lockout then s
  else if 4 ≤ n ∨ (lock ∧ 0 < n) then raise 0x1603 mlH 0 n s
  else if lock && s.pair.claimOut then note 0x1607 mlH 0 (s.modPair fun p => { p with peerSynced := false }) else s

/-- MIRROR_FRAME: a valid mirror frame of the peer with CLAIM_IN as sampled at the boundary that ends its cycle and
PEER_ALIVE_IN; flags as in Table 18-5. -/
def execMirrorFrame (flags : BitVec 8) (cyc seq : Nat) (claimIn alive : Bool) (secs : List MirrorSec) (s : State) :
    Host.Outcome State Fault Refusal :=
  .next (if !running s || !pairEn s then s
    else
      let active := flags.getLsbD 1
      let s := s.modPair fun p =>
        { p with
          seenPeer := true, got := true, rxSeq := seq, claimIn := claimIn, peerAlive := alive, peerActive := active
          peerSynced := flags.getLsbD 2, peerSlot := some (bnat (flags.getLsbD 5)), lastCyc := cyc }
      let s := if s.pair.st = .alone ∧ s.pair.claimOut then setPair .active s else s
      let s := checkClaims active (flags.getLsbD 3) s
      let s := if standby s then s.modRing fun r => { r with cyc := cyc } else s
      let s := secs.foldl (applySection (bnat (flags.getLsbD 5))) s
      let s := trySync s
      if flags.getLsbD 4 && s.pair.st == .synced && !s.pair.claimOut then
        leaveDarkKept (assertClaim .active (takeHistories (s.modPair fun p => { p with helloDone := false, snapDone := false })))
      else s)

/-! ### PAIR_ commands (R413) -/

/-- PAIR_STATUS. -/
def execPairStatus (m : Cmd) (s : State) : Host.Outcome State Fault Refusal :=
  .next (runCmd opPairStatus noTicket m (fun s => .done .ok (leBytes 4 (pairWord s) ++ leBytes 4 s.pair.peerVer) s) s)

/-- PAIR_HANDOVER's own check: the device drains and hands over once no frame is in flight (R357). -/
def bodyPairHandover (s : State) : Reply :=
  if !pairEn s || !s.pair.claimOut || !s.pair.peerSynced || s.pair.handover then refuse .conflict s
  else .later (s.modPair fun p => { p with handover := true })

/-- PAIR_HANDOVER, under a service ticket. -/
def execPairHandover (m : Cmd) (s : State) : Host.Outcome State Fault Refusal :=
  .next (runCmd opPairHandover (fun _ => 2) m bodyPairHandover s)

/-- PAIR_RESYNC: the standby restarts at HELLO (R343). -/
def execPairResync (m : Cmd) (s : State) : Host.Outcome State Fault Refusal :=
  .next (runCmd opPairResync noTicket m
    (fun s => if s.pair.claimOut || !pairEn s then refuse .conflict s else .done .ok [] (restartHello s)) s)

end Sys2Proof.Machine
end

