-- ==== Sys2Proof/Machine/Diag.lean ====
section
/-! DEFINITION. The DIAG_ commands (R278, R295, R328, R330, R413). -/

namespace Sys2Proof.Machine

open Sys2Proof

/-! ### DIAG_STATE -/

/-- The emitter a selector names (R22). -/
def selEmitter (sel : Nat) : Option Nat := if sel / 64 = 2 then some (sel % 64) else none

/-- The state of the unit or member that a command addresses (R22, R27): an emitter's and a loop slot's follow from their
own words, a beam's from the emitter that holds its slot. -/
def diagUnitState (m : Cmd) (s : State) : UnitState :=
  let i := hIndex m.handle
  let emState := fun (x : Option Emitter) => match x.map (·.st) with
    | some .retired => UnitState.retired
    | some .suspect => .faulted
    | some .unmeasured => .disabled
    | some _ => .ready
    | none => .retired
  match m.sel / 64, s.cfg.cur.stationOf m.handle with
  | 0, _ => unitState s i
  | 1, some n => emState ((slotHolder (s.st n).ems (m.sel % 64)).map (emitter s n))
  | 2, some n => emState (some (emitter s n (m.sel % 64)))
  | _, _ => match cmdSlot m s with
    | some k => let x := s.loop k; if x.retired then .retired else if x.on then .ready else .disabled
    | none => .disabled

/-- The highest fault class active on the unit or member addressed. -/
def diagClass (m : Cmd) (s : State) : Nat :=
  if m.sel = 0 then (liveOf s (hIndex m.handle)).cls
  else s.faults.recs.foldl
    (fun k p => if p.2.isOpen && p.2.handle == m.handle && p.2.sel == m.sel then max k (classOf p.2.code) else k) 0

/-- The word of DIAG_STATE by type: an emitter's, a station's, a loop slot's, the press's; others 0 (R413). -/
def diagWord (m : Cmd) (s : State) : Nat :=
  let t := s.cfg.cur.typeOf m.handle
  if hIndex m.handle = 0 then (thermWord s).toNat
  else if t = 0x03 then
    match s.cfg.cur.stationOf m.handle, selEmitter m.sel with
    | some n, some e => emitterWord (recentTransients s (stH s n) (emSel e)) (emitter s n e)
    | some n, none => if m.sel = 0 then stationWord (s.st n).scan else 0
    | none, _ => 0
  else if t = 0x08 ∨ t = 0x09 then
    match cmdSlot m s with
    | some k => loopWord (s.loop k)
    | none => 0
  else 0

/-- DIAG_STATE's effect. -/
def bodyDiagState (m : Cmd) (s : State) : Reply :=
  .done .ok (leBytes 1 (diagUnitState m s).rank ++ leBytes 1 (diagClass m s) ++ leBytes 2 0 ++ leBytes 4 (diagWord m s)) s

/-- DIAG_STATE. -/
def execDiagState (m : Cmd) (s : State) : Host.Outcome State Fault Refusal :=
  .next (runCmd opDiagState noTicket m (bodyDiagState m) s)

/-! ### DIAG_FAULTS and DIAG_NOTES -/

/-- DIAG_FAULTS's effect: the records of the fault table from an entry on, at most 5. -/
def bodyDiagFaults (m : Cmd) (s : State) : Reply :=
  let rs := (s.faults.recs.filter fun p => decide (m.u 0 1 ≤ p.1) && p.2.isOpen).take 5
  .done .ok (leBytes 1 rs.length ++ leBytes 15 0 ++ rs.flatMap fun p => p.2.bytes) s

/-- DIAG_FAULTS. -/
def execDiagFaults (m : Cmd) (s : State) : Host.Outcome State Fault Refusal :=
  .next (runCmd opDiagFaults noTicket m (bodyDiagFaults m) s)

/-- DIAG_NOTES's own check and effect: the counters of a code, or of all, read and on request cleared (R330). -/
def bodyDiagNotes (m : Cmd) (s : State) : Reply :=
  let code := m.u 2 2
  let mine := fun (p : Nat × Nat × Nat) => code == 0 || p.2.1 == code
  if 1 < m.u 0 1 then refuse .range s
  else
    .done .ok ((s.faults.notes.filter mine).flatMap fun p => leBytes 2 p.2.1 ++ leBytes 2 p.2.2)
      (if m.u 0 1 = 1 then s.modFaults fun f => { f with notes := f.notes.filter fun p => !mine p } else s)

/-- DIAG_NOTES. -/
def execDiagNotes (m : Cmd) (s : State) : Host.Outcome State Fault Refusal :=
  .next (runCmd opDiagNotes noTicket m (bodyDiagNotes m) s)

/-! ### DIAG_METER -/

/-- A meter control word names sources of Table 14-7 and a gate exponent from 4 to 30; its reserved bits are 0. -/
def meterOk (w : Nat) : Bool :=
  between 4 30 (bitsOf w 28 24) && decide (bitsOf w 21 16 ≤ 34) && decide (bitsOf w 13 8 ≤ 34) && bitsOf w 23 22 == 0 &&
    bitsOf w 15 14 == 0 && bitsOf w 7 0 == 0

/-- DIAG_METER's own checks and effect: the measurement starts and the response waits for its end (R295, R298). -/
def bodyDiagMeter (m : Cmd) (s : State) : Reply :=
  let w := m.u 4 4
  if s.clk.meterBusy then refuse .busy s
  else if m.u 0 1 ≠ 1 ∨ meterOk w = false then refuse .range s
  else .later (s.modClk fun c => { c with meterBusy := true, meterWord := BitVec.ofNat 32 w &&& 0x1FFFFFFF#32 })

/-- DIAG_METER. -/
def execDiagMeter (m : Cmd) (s : State) : Host.Outcome State Fault Refusal :=
  .next (runCmd opDiagMeter noTicket m (bodyDiagMeter m) s)

/-! ### DIAG_SPOOL and DIAG_BOOT -/

/-- Code of a spool state (Table 06-5). -/
def SpoolSt.code : SpoolSt → Nat
  | .mounted => 0
  | .absent => 1
  | .foreign => 2
  | .lost => 3

/-- DIAG_SPOOL's effect: state, K, measured bandwidth by member, scrub page position. -/
def bodyDiagSpool (s : State) : Reply :=
  let p := s.spool
  .done .ok (leBytes 1 p.state.code ++ leBytes 1 p.sb.width ++ leBytes 2 0 ++
    ((List.range 8).flatMap fun k => leBytes 4 (match p.members[k]? with | some x => x.bw | none => 0)) ++
    leBytes 4 p.scrubPos) s

/-- DIAG_SPOOL. -/
def execDiagSpool (m : Cmd) (s : State) : Host.Outcome State Fault Refusal :=
  .next (runCmd opDiagSpool noTicket m bodyDiagSpool s)

/-- DIAG_BOOT's effect. -/
def bodyDiagBoot (s : State) : Reply :=
  .done .ok (leBytes 4 (bootStatus s) ++ leBytes 4 Config.firmwareVersion.toNat ++ leBytes 8 0 ++
    digestBytes s.boot.imageDigest) s

/-- DIAG_BOOT. -/
def execDiagBoot (m : Cmd) (s : State) : Host.Outcome State Fault Refusal :=
  .next (runCmd opDiagBoot noTicket m bodyDiagBoot s)

end Sys2Proof.Machine
end

