-- ==== Sys2Proof/Machine/Boot.lean ====
section
/-! DEFINITION. The boot ROM's image check and the start of firmware: what is read back from MRAM and what starts
(R24, R35, R36, R292, R371, R377, R380, R396, R450, R452). -/

namespace Sys2Proof.Machine

open Sys2Proof

/-! ### The boot ROM (R377, R378) -/

/-- The boot ROM tries slot `k`: an image whose signature verifies and whose digest is approved, or any such while the
list is empty, is accepted; another is refused, with a record of the ROM's own. A blank slot is not tried. -/
def trySlot (s : State) (k : Nat) (slot : Option (Nat × Bool)) : State :=
  match slot with
  | none => s
  | some (digest, sigOk) =>
    if s.boot.stage ≠ .rom then s
    else
      let s := s.modBoot fun b => { b with imageSlot := k }
      if sigOk && (s.auth.digests.isEmpty || s.auth.digests.contains digest) then
        s.modBoot fun b => { b with stage := .accepted, imageDigest := digest }
      else
        galFlush (galPut { type := 0x02, handle := 0#16, flags := 4, aux := k, payload := digestBytes digest }
          (s.modBoot fun b => { b with refused := setBit b.refused k }))

/-- BOOT_IMAGE_CHECK: the ROM reads the two QSPI slots, each blank or an image's digest and whether its vendor signature
verifies (R377). -/
def execBootImageCheck (slots : List (Option (Nat × Bool))) (s : State) : Host.Outcome State Fault Refusal :=
  .next (if s.boot.porst || !s.clk.foscGood || s.boot.stage != .rom then s
    else
      let s := s.modAuth fun a => { a with qspi := (slots.take 2).map fun x => x.map (·.1) }
      let s := ((slots.take 2).zipIdx).foldl (fun s p => trySlot s p.2 p.1) s
      if s.boot.stage = .rom then s.modBoot fun b => { b with stage := .none } else s)

/-! ### The configuration set (R34 to R36, R39) -/

/-- A slot that decides the current set at boot: ACTIVE with a correct CRC (R35). -/
def SetSlot.good (x : SetSlot) : Bool := x.state == .active && x.crcOk

/-- The version of a slot that boot discards, and whether it is PENDING; else it is ACTIVE with a wrong CRC (R35). -/
def SetSlot.discarded (x : SetSlot) : List (Nat × Bool) :=
  if x.state = .pending ∨ (x.state = .active ∧ x.crcOk = false) then [(x.version, x.state == .pending)] else []

/-- The current and the previous set at boot (R35, R36). -/
def loadSets (c : Cfg) : Cfg :=
  let a := c.slotA
  let b := c.slotB
  let keep := fun (x : SetSlot) => if x.good then x else {}
  let bWins := b.good && (!a.good || decide (a.version < b.version))
  let top := if bWins then b else a
  let low := if bWins then a else b
  let c := { c with slotA := keep a, slotB := keep b, slotIsB := bWins }
  if top.good then
    { c with cur := top.set, curVer := top.version, prev := if low.good then some (low.version, low.set) else none }
  else { c with cur := {}, curVer := 0, prev := none }

/-- Boot has discarded a version: its record and its event, and for a PENDING set the note (R35, R39, Table 17-1). -/
def tellDiscard (s : State) (v : Nat × Bool) : State :=
  let s := post 0x8201 0xFFFF#16 (leBytes 4 v.1 ++ leBytes 1 1 ++ leBytes 3 0 ++ leBytes 8 0)
    (configRecord s.cfg.curVer v.1 2 0xFF 0xFF s)
  if v.2 then raise 0x1901 0#16 0 v.1 s else s

/-- The configuration set is read at boot; the default set runs when neither slot holds one (R36). Free entries queue in
ascending INDEX order (R24), and what stands at parameters' first values is loaded. -/
def loadConfig (s : State) : State :=
  let gone := s.cfg.slotA.discarded ++ s.cfg.slotB.discarded
  let s := changeSets loadSets s
  let s := s.modUnits fun u => { u with gens := s.cfg.cur.gens, freed := [], fresh := 32 }
  let s := gone.foldl tellDiscard s
  let s := if s.cfg.slotA.good || s.cfg.slotB.good then s else configRecord 0 0 1 0xFF 0xFF s
  let phases := assignPhases {} (fun _ => 0) s.cfg.cur
  let s := s.modLoops fun l => phases.foldl (fun l p => kvMod {} l p.1 fun x => { x with phase := p.2.2 }) l
  reloadMap (s.modSpool fun p => { p with setting := s.cfgGet 0x13 0 0 1 })

/-! ### The calibration store (R380, R452) -/

/-- A configured station at boot: what the store holds for it, the post-divider of THREAD, and FAULTED while its
calibration is incomplete. -/
def loadStation (s : State) (n : Nat) : State :=
  let k := kvGet ({} : CalSt) s.cal.inst n
  let p := if s.cfg.cur.fine then 2 else 4
  let s := modSt n (fun x =>
    { x with
      stagger := k.stagger, scan := { x.scan with table := k.table, postdiv := p }
      ems := { x.ems with calNeeded := !k.complete } }) s
  if k.complete then s else setUnitState (stH s n) .faulted 3 s

/-- The calibration store is read at boot: the valid slot with the higher sequence is used; one invalid slot is a note,
two are CAL_EMPTY (R380). -/
def loadCal (s : State) : State :=
  let c := s.cal
  let useB := if c.slotIsB then c.bValid || !c.aValid else c.bValid && !c.aValid
  let none_ := !c.aValid && !c.bValid
  let other := if useB then c.aValid else c.bValid
  let x := if none_ then {} else if useB then c.slotB else c.slotA
  let s := s.modCal fun c => { c with slotIsB := useB, inst := x.inst, lists := x.lists }
  let s := x.kappa.foldl (fun s p => modAxis p.1 (fun a => { a with kappa := p.2, kappaSaved := p.2 }) s) s
  let s := x.off.foldl (fun s p => modAxis p.1 (fun a => { a with off := p.2, offSaved := p.2 }) s) s
  let used := if none_ then 0xFF else bnat useB
  let s := galWrite 0x51 0#16 0 (if none_ then 0 else c.seqNo) (leBytes 1 used ++ leBytes 1 (bnat !other)) s
  let s := if none_ then raise 0x1807 0#16 0 0 s else if other then s else raise 0x1806 0#16 0 0 s
  s.cfg.cur.stationList.foldl loadStation s

/-! ### The ledger tail (R134, R353, R371) -/

/-- The tail is used: its header names the power cycle just ended. -/
def tailUsed (s : State) : Bool := s.ledger.tailValid && decide (s.ledger.tailCycle + 1 = s.clk.powerCycle)

/-- Serials lost, rising: above the region's write position and the acknowledged one, below the next serial, and in no
valid tail (R371). -/
def lostSerials (s : State) : List Nat :=
  let a := max (s.spool.regionWrite - 1) s.ledger.acked
  let held := s.ledger.queue ++ s.ledger.cands
  ((List.range (s.land.nextSerial - 1 - a)).map (a + 1 + ·)).filter fun n => !(held.any fun r => r.serial == n)

/-- Runs of consecutive numbers in a rising list: first and last of each. -/
def serialRuns : List Nat → List (Nat × Nat)
  | [] => []
  | n :: r => match serialRuns r with
    | (a, b) :: t => if n + 1 = a then (n, b) :: t else (n, n) :: (a, b) :: t
    | [] => [(n, n)]

/-- The ledger at boot (R371): closed records of the tail return to the queue; OPEN ones close INTERRUPTED, or in a pair
wait as candidates (R353); lost serials are recorded and raise one fault. -/
def loadLedger (s : State) : State :=
  let tail := if tailUsed s then s.ledger.tail else []
  let s := s.modLedger fun l =>
    { l with
      queue := tail.filter (·.isClosed), cands := tail.filter fun r => !r.isClosed
      tail := [], tailValid := false, sent := 0, window := 0, timer := false }
  let lost := lostSerials s
  let s := if pairEn s then s else recordCands s
  let s := (serialRuns lost).foldl (fun s p => galWrite 0x50 0#16 0 0 (leBytes 8 p.1 ++ leBytes 8 p.2) s) s
  if lost.isEmpty then s
  else raise 0x1804 0#16 0 0 (s.modLand fun l => { l with ledgerLostAck := false })

/-! ### Firmware (R292, R335, R396, R429, R431, R450) -/

/-- The limp state: its class 3 fault and its record (R292); ALIVE and FAULT_N stay low, since the collector does not drive them. -/
def enterLimp (s : State) : State :=
  let code := 0x0100 + s.boot.cause.toNat
  let s := s.modBoot fun b => { b with stage := .limp }
  raise code 0#16 0 0 (galWrite 0x04 0#16 0 0 (leBytes 2 code) s)

/-- Out of the limp state firmware runs: the sequencer starts and the LED chain shows zeros. -/
def enterRunning (s : State) : State :=
  let s := s.modBoot fun b => { b with stage := .running }
  let s := if s.clk.holdOver then raise (if s.clk.xtalGood then 0x0104 else 0x0103) 0#16 0 0 s else s
  bootPower ((s.send (.leds 0#16)).modPanel fun p => { p with chain := 0#16 })

/-- FIRMWARE_START: phases 2 and 3 are over and an image is accepted (R450): the mailbox serves, the fault collector runs,
and what MRAM holds is read back. `keysOk` is whether the authority region holds its CRC (Table 19-11), `claimIn` the
level of CLAIM_IN. -/
def execFirmwareStart (keysOk : Bool) (claimIn : Bool) (s : State) : Host.Outcome State Fault Refusal :=
  .next (if s.boot.porst || s.boot.stage != .accepted || !(s.clk.stairDone || s.boot.cause != 0#4) then s
    else
      let s := s.modMbx fun b =>
        { b with
          live := true, inRing := [], inProd := 0#16, inCons := 0#16, outRing := [], outProd := 0#16, outCons := 0#16
          evtRing := [], evtProd := 0#16, evtCons := 0#16 }
      let s := s.modPair fun p => { p with claimIn := claimIn }
      let s := s.modBoot fun b => { b with aliveOn := b.cause == 0#4, faultN := b.cause == 0#4 }
      let s := s.modAuth fun a => { a with digestsBoot := a.digests, commissioning := a.digests.isEmpty }
      let s := galWrite 0x01 0#16 0 s.boot.imageSlot (digestBytes s.boot.imageDigest) s
      let s := loadLedger (loadCal (loadConfig s))
      let s := if keysOk then s else raise 0x1703 0#16 0 0 s
      let s := s.modPanel fun p => { p with vbus := usbEn s }
      if s.boot.cause ≠ 0#4 then enterLimp s else enterRunning s)

end Sys2Proof.Machine
end

