-- ==== Sys2Proof/Machine/Mailbox.lean ====
section
/-! DEFINITION. How messages and index writes reach the mailbox: datagrams, doorbells, the management SPI, and what
hardware sends by itself (R383 to R397, R425). -/

namespace Sys2Proof.Machine

open Sys2Proof

/-- The message that 64 bytes spell (Table 20-1). -/
def msgOf (b : List Byte) : Msg :=
  let w := fun (o k n : Nat) => BitVec.ofNat n (fieldAt b o k)
  { opcode := w 0 2 16, tag := w 2 1 8, flags := w 3 1 8, handle := w 4 2 16, status := w 6 2 16, version := w 8 4 32
    seq := w 12 4 32, payload := bytesAt b 16 48 }

/-- Messages in pieces of 64 bytes, at most `n`. -/
def msgsOf : Nat → List Byte → List Msg
  | 0, _ => []
  | n + 1, b => if b.isEmpty then [] else msgOf (b.take 64) :: msgsOf n (b.drop 64)

/-- MAILBOX_DATAGRAM: a UDP datagram on port 47,101 from a source, on a host lane: 1 to 16 messages enter in order, any
other length is discarded (R389, R425). -/
def execMailboxDatagram (lane src : Nat) (bytes : List Byte) (s : State) : Host.Outcome State Fault Refusal :=
  .next (if !s.mbx.live then s
    else if bytes.isEmpty ∨ 1024 < bytes.length ∨ bytes.length % 64 ≠ 0 then note 0x0602 (BitVec.ofNat 16 (17 + lane)) 0 s
    else (msgsOf 16 bytes).foldl (fun s m => arrive (.host src) m s) s)

/-- An index write is refused (R396). -/
def indexRefused (s : State) : State := note 0x0624 0#16 0 (s.modMbx fun b => { b with spiErr := true })

/-- Distance from index `a` up to index `b`, free-running 16-bit counters (R386). -/
def indexGap (a b : BitVec 16) : Nat := (b - a).toNat

/-- The message in the inbound slot of the producer index enters the ring; an entry that is ignored or answered at once
frees its slot (R391, R396). -/
def enterSlot (s : State) : State :=
  let k := s.mbx.inProd.toNat % 64
  let m := msgOf (memReads (fun _ => 0#8) s.mbx.inWin (64 * k) 64)
  let s := arrive .spi m (s.modMbx fun b => { b with inProd := b.inProd + 1 })
  s.modMbx fun b => { b with inCons := b.inProd - BitVec.ofNat 16 b.inRing.length }

/-- Runs a state change `k` times. -/
def times (f : State → State) : Nat → State → State
  | 0, s => s
  | k + 1, s => times f k (f s)

/-- IN_PROD: a write of the inbound producer index, the SPI doorbell (R389, R396). -/
def execInProd (v : BitVec 16) (s : State) : Host.Outcome State Fault Refusal :=
  .next (if !s.mbx.live then s
    else
      let k := indexGap s.mbx.inProd v
      if indexGap s.mbx.inCons s.mbx.inProd + k ≤ 64 ∧ k ≤ 64 then times enterSlot k s else indexRefused s)

/-- OUT_CONS: a write of the outbound consumer index frees slots (R396). -/
def execOutCons (v : BitVec 16) (s : State) : Host.Outcome State Fault Refusal :=
  .next (if !s.mbx.live then s
    else if indexGap s.mbx.outCons v ≤ indexGap s.mbx.outCons s.mbx.outProd then
      s.modMbx fun b => { b with outRing := b.outRing.drop (indexGap b.outCons v), outCons := v }
    else indexRefused s)

/-- EVT_CONS: a write of the event consumer index frees slots (R396). -/
def execEvtCons (v : BitVec 16) (s : State) : Host.Outcome State Fault Refusal :=
  .next (if !s.mbx.live then s
    else if indexGap s.mbx.evtCons v ≤ indexGap s.mbx.evtCons s.mbx.evtProd then
      s.modMbx fun b => { b with evtRing := b.evtRing.drop (indexGap b.evtCons v), evtCons := v }
    else indexRefused s)

/-- An inbound slot that the device owns: from IN_CONS to IN_PROD - 1 (R396). -/
def ownedSlot (b : Mbx) (k : Nat) : Bool :=
  (List.range (indexGap b.inCons b.inProd)).any fun j => decide ((b.inCons.toNat + j) % 64 = k)

/-- One byte of a management SPI write: MBX_CTRL, MBX_STATUS and the inbound window; reserved bits stay 0, and any other
address ignores it (R7, R395, R396). -/
def spiByte (a : Nat) (v : Byte) (s : State) : State :=
  if a = 0x0008 then s.modMbx fun b => { b with ctrl := (v &&& 0x0F#8).zeroExtend 32 }
  else if a = 0x000C then s.modMbx fun b => { b with spiErr := b.spiErr && !v.getLsbD 3 }
  else if 0x1000 ≤ a ∧ a < 0x2000 ∧ ownedSlot s.mbx ((a - 0x1000) / 64) = false then
    s.modMbx fun b => { b with inWin := memWrite (fun _ => 0#8) b.inWin (a - 0x1000) v }
  else s

/-- SPI_REGISTER_WRITE: bytes written from an address up (R395); before firmware runs nothing is written. -/
def execSpiRegisterWrite (addr : Nat) (bytes : List Byte) (s : State) : Host.Outcome State Fault Refusal :=
  .next (if !s.mbx.live then s
    else bytes.zipIdx.foldl (fun s p => spiByte (addr + p.2) p.1 s) s)

/-- RESPONSE_RELEASE: waiting responses enter the outbound ring while slots are free (R387). -/
def execResponseRelease (s : State) : Host.Outcome State Fault Refusal := .next (pump s)

/-- EVENT_OVERFLOW_POST: a slot is free after losses: one OVERFLOW event with the count enters the ring (R388), and the
note of it follows. -/
def execEventOverflowPost (s : State) : Host.Outcome State Fault Refusal :=
  .next (if s.mbx.evtLost = 0 ∨ 128 ≤ s.mbx.evtRing.length then s
    else
      let m := eventMsg s 0x8001 0xFFFF#16 (leBytes 4 s.mbx.evtLost)
      note 0x0623 0#16 0 (evtPush m (s.modMbx fun b => { b with evtLost := 0, evtCount := b.evtCount + 1 })))

/-- Messages in datagrams of at most 16. -/
def sendHeld (dst : Nat) : Nat → List Msg → State → State
  | 0, _, s => s
  | k + 1, ms, s => if ms.isEmpty then s else sendHeld dst k (ms.drop 16) (s.send (.messages 47101 dst (ms.take 16)))

/-- RESPONSE_DATAGRAM_FLUSH: the responses held for each destination go out (R425). -/
def execResponseDatagramFlush (s : State) : Host.Outcome State Fault Refusal :=
  .next (
    let dsts := (s.mbx.held.map (·.1)).eraseDups
    dsts.foldl
      (fun t d =>
        let ms := (s.mbx.held.filter fun p => p.1 == d).map (·.2)
        sendHeld d ms.length ms t)
      (s.modMbx fun b => { b with held := [] }))

end Sys2Proof.Machine
end

