-- ==== Sys2Proof/Machine/Dispatch.lean ====
section
/-! DEFINITION. Which meaning each command has: one arm per constructor. -/

namespace Sys2Proof.Machine

/-- What a command does to everything but the queue. -/
def exec (i : Instr) (s : State) : Host.Outcome State Fault Refusal :=
  match i with
  | .unitCreate m => Sys2Proof.Machine.execUnitCreate m s
  | .unitDelete m => Sys2Proof.Machine.execUnitDelete m s
  | .unitMove m => Sys2Proof.Machine.execUnitMove m s
  | .unitSet m => Sys2Proof.Machine.execUnitSet m s
  | .unitEnable m => Sys2Proof.Machine.execUnitEnable m s
  | .unitDisable m => Sys2Proof.Machine.execUnitDisable m s
  | .unitRead m => Sys2Proof.Machine.execUnitRead m s
  | .unitLookup m => Sys2Proof.Machine.execUnitLookup m s
  | .unitChildren m => Sys2Proof.Machine.execUnitChildren m s
  | .cfgStageBegin m => Sys2Proof.Machine.execCfgStageBegin m s
  | .cfgWrite m => Sys2Proof.Machine.execCfgWrite m s
  | .cfgRead m => Sys2Proof.Machine.execCfgRead m s
  | .cfgStageAbort m => Sys2Proof.Machine.execCfgStageAbort m s
  | .cfgCommit m => Sys2Proof.Machine.execCfgCommit m s
  | .cfgRevert m => Sys2Proof.Machine.execCfgRevert m s
  | .cfgStatus m => Sys2Proof.Machine.execCfgStatus m s
  | .jobSubmit m => Sys2Proof.Machine.execJobSubmit m s
  | .jobCancel m => Sys2Proof.Machine.execJobCancel m s
  | .jobHold m => Sys2Proof.Machine.execJobHold m s
  | .jobRelease m => Sys2Proof.Machine.execJobRelease m s
  | .jobStatus m => Sys2Proof.Machine.execJobStatus m s
  | .motPressStop m => Sys2Proof.Machine.execMotPressStop m s
  | .motPressThread m => Sys2Proof.Machine.execMotPressThread m s
  | .motPressRun m => Sys2Proof.Machine.execMotPressRun m s
  | .motJog m => Sys2Proof.Machine.execMotJog m s
  | .motHome m => Sys2Proof.Machine.execMotHome m s
  | .motGearHold m => Sys2Proof.Machine.execMotGearHold m s
  | .motGearFree m => Sys2Proof.Machine.execMotGearFree m s
  | .motGearRegear m => Sys2Proof.Machine.execMotGearRegear m s
  | .motRatio m => Sys2Proof.Machine.execMotRatio m s
  | .motRatioCancel m => Sys2Proof.Machine.execMotRatioCancel m s
  | .motPhase m => Sys2Proof.Machine.execMotPhase m s
  | .motMove m => Sys2Proof.Machine.execMotMove m s
  | .motLoopMode m => Sys2Proof.Machine.execMotLoopMode m s
  | .motLoopTarget m => Sys2Proof.Machine.execMotLoopTarget m s
  | .motLoopSwitch m => Sys2Proof.Machine.execMotLoopSwitch m s
  | .motSolFire m => Sys2Proof.Machine.execMotSolFire m s
  | .mntStart m => Sys2Proof.Machine.execMntStart m s
  | .mntStop m => Sys2Proof.Machine.execMntStop m s
  | .mntStatus m => Sys2Proof.Machine.execMntStatus m s
  | .mntFaultAck m => Sys2Proof.Machine.execMntFaultAck m s
  | .mntReturn m => Sys2Proof.Machine.execMntReturn m s
  | .mntIntlkRelease m => Sys2Proof.Machine.execMntIntlkRelease m s
  | .mntSpoolFormat m => Sys2Proof.Machine.execMntSpoolFormat m s
  | .galRead m => Sys2Proof.Machine.execGalRead m s
  | .galStatus m => Sys2Proof.Machine.execGalStatus m s
  | .galExport m => Sys2Proof.Machine.execGalExport m s
  | .galClear m => Sys2Proof.Machine.execGalClear m s
  | .ldgRead m => Sys2Proof.Machine.execLdgRead m s
  | .ldgAck m => Sys2Proof.Machine.execLdgAck m s
  | .ldgStatus m => Sys2Proof.Machine.execLdgStatus m s
  | .authChallenge m => Sys2Proof.Machine.execAuthChallenge m s
  | .authTicket m => Sys2Proof.Machine.execAuthTicket m s
  | .authKeyInstall m => Sys2Proof.Machine.execAuthKeyInstall m s
  | .authKeyRemove m => Sys2Proof.Machine.execAuthKeyRemove m s
  | .authDigestAdd m => Sys2Proof.Machine.execAuthDigestAdd m s
  | .authDigestRemove m => Sys2Proof.Machine.execAuthDigestRemove m s
  | .authDigestClear m => Sys2Proof.Machine.execAuthDigestClear m s
  | .authStatus m => Sys2Proof.Machine.execAuthStatus m s
  | .authTokenSign m => Sys2Proof.Machine.execAuthTokenSign m s
  | .tokenSignatureResponse r t sw => Sys2Proof.Machine.execTokenSignatureResponse r t sw s
  | .calWrite m => Sys2Proof.Machine.execCalWrite m s
  | .calCommit m => Sys2Proof.Machine.execCalCommit m s
  | .calRead m => Sys2Proof.Machine.execCalRead m s
  | .calAbort m => Sys2Proof.Machine.execCalAbort m s
  | .calHeadClear m => Sys2Proof.Machine.execCalHeadClear m s
  | .pwrStatus m => Sys2Proof.Machine.execPwrStatus m s
  | .pwrRailRestart m => Sys2Proof.Machine.execPwrRailRestart m s
  | .pwrDown m => Sys2Proof.Machine.execPwrDown m s
  | .pwrUp m => Sys2Proof.Machine.execPwrUp m s
  | .pwrLogRead m => Sys2Proof.Machine.execPwrLogRead m s
  | .pwrReset m => Sys2Proof.Machine.execPwrReset m s
  | .diagState m => Sys2Proof.Machine.execDiagState m s
  | .diagFaults m => Sys2Proof.Machine.execDiagFaults m s
  | .diagNotes m => Sys2Proof.Machine.execDiagNotes m s
  | .diagMeter m => Sys2Proof.Machine.execDiagMeter m s
  | .diagSpool m => Sys2Proof.Machine.execDiagSpool m s
  | .diagBoot m => Sys2Proof.Machine.execDiagBoot m s
  | .pairStatus m => Sys2Proof.Machine.execPairStatus m s
  | .pairHandover m => Sys2Proof.Machine.execPairHandover m s
  | .pairResync m => Sys2Proof.Machine.execPairResync m s
  | .pnlLed m => Sys2Proof.Machine.execPnlLed m s
  | .pnlBuzzer m => Sys2Proof.Machine.execPnlBuzzer m s
  | .pnlStatus m => Sys2Proof.Machine.execPnlStatus m s
  | .mailboxDatagram lane src bytes => Sys2Proof.Machine.execMailboxDatagram lane src bytes s
  | .inProd v => Sys2Proof.Machine.execInProd v s
  | .outCons v => Sys2Proof.Machine.execOutCons v s
  | .evtCons v => Sys2Proof.Machine.execEvtCons v s
  | .spiRegisterWrite addr bytes => Sys2Proof.Machine.execSpiRegisterWrite addr bytes s
  | .responseRelease => Sys2Proof.Machine.execResponseRelease s
  | .eventOverflowPost => Sys2Proof.Machine.execEventOverflowPost s
  | .responseDatagramFlush => Sys2Proof.Machine.execResponseDatagramFlush s
  | .bandDatagram lane bytes => Sys2Proof.Machine.execBandDatagram lane bytes s
  | .bandReassemblyTimeout job layer frame band => Sys2Proof.Machine.execBandReassemblyTimeout job layer frame band s
  | .creditDatagram => Sys2Proof.Machine.execCreditDatagram s
  | .ledgerAcknowledgement a w => Sys2Proof.Machine.execLedgerAcknowledgement a w s
  | .ledgerResendTimeout => Sys2Proof.Machine.execLedgerResendTimeout s
  | .arpRequest lane ip => Sys2Proof.Machine.execArpRequest lane ip s
  | .badDatagram lane => Sys2Proof.Machine.execBadDatagram lane s
  | .hostLinkDown lane => Sys2Proof.Machine.execHostLinkDown lane s
  | .hostLinkUp lane => Sys2Proof.Machine.execHostLinkUp lane s
  | .spoolPerstRelease => Sys2Proof.Machine.execSpoolPerstRelease s
  | .spoolLinkRetry port => Sys2Proof.Machine.execSpoolLinkRetry port s
  | .spoolLinkUp port found => Sys2Proof.Machine.execSpoolLinkUp port found s
  | .spoolMount copies => Sys2Proof.Machine.execSpoolMount copies s
  | .bandwidthMountMeasure => Sys2Proof.Machine.execBandwidthMountMeasure s
  | .spoolWake => Sys2Proof.Machine.execSpoolWake s
  | .nvmeCompletion member op job layer frame band page ok diff => Sys2Proof.Machine.execNvmeCompletion member op job layer frame band page ok diff s
  | .spoolReadTimeout member job layer frame band page => Sys2Proof.Machine.execSpoolReadTimeout member job layer frame band page s
  | .directoryBatch => Sys2Proof.Machine.execDirectoryBatch s
  | .bandAllocate => Sys2Proof.Machine.execBandAllocate s
  | .fetchRelease station serial band => Sys2Proof.Machine.execFetchRelease station serial band s
  | .smartPoll member warning => Sys2Proof.Machine.execSmartPoll member warning s
  | .saturatedWindow member => Sys2Proof.Machine.execSaturatedWindow member s
  | .bandwidthProbe ends => Sys2Proof.Machine.execBandwidthProbe ends s
  | .spoolMemberLoss member => Sys2Proof.Machine.execSpoolMemberLoss member s
  | .spoolMemberRecovery member found => Sys2Proof.Machine.execSpoolMemberRecovery member found s
  | .ledgerPageWrite => Sys2Proof.Machine.execLedgerPageWrite s
  | .admissionAttempt => Sys2Proof.Machine.execAdmissionAttempt s
  | .planPrepare => Sys2Proof.Machine.execPlanPrepare s
  | .stationLanding station serial => Sys2Proof.Machine.execStationLanding station serial s
  | .frameLeavesFlight serial => Sys2Proof.Machine.execFrameLeavesFlight serial s
  | .governorEvaluate rates drain => Sys2Proof.Machine.execGovernorEvaluate rates drain s
  | .sosMark station m => Sys2Proof.Machine.execSosMark station m s
  | .offsetComputeComplete station => Sys2Proof.Machine.execOffsetComputeComplete station s
  | .decodeComplete station => Sys2Proof.Machine.execDecodeComplete station s
  | .saveSlotCopyComplete station => Sys2Proof.Machine.execSaveSlotCopyComplete station s
  | .sramError bank corrected place => Sys2Proof.Machine.execSramError bank corrected place s
  | .sramBankTestComplete bank pass => Sys2Proof.Machine.execSramBankTestComplete bank pass s
  | .synthLock station => Sys2Proof.Machine.execSynthLock station s
  | .synthLossOfLock station => Sys2Proof.Machine.execSynthLossOfLock station s
  | .bandSwitch station => Sys2Proof.Machine.execBandSwitch station s
  | .bandTableCalibrationComplete station table => Sys2Proof.Machine.execBandTableCalibrationComplete station table s
  | .bandTableTrack station => Sys2Proof.Machine.execBandTableTrack station s
  | .facetPhaseFault station => Sys2Proof.Machine.execFacetPhaseFault station s
  | .linkUp lane module serial tables => Sys2Proof.Machine.execLinkUp lane module serial tables s
  | .sosTs lane sweep tc valid => Sys2Proof.Machine.execSosTs lane sweep tc valid s
  | .measResult lane sweep emitter tag v1 v2 m1 m2 => Sys2Proof.Machine.execMeasResult lane sweep emitter tag v1 v2 m1 m2 s
  | .headData lane addr data status => Sys2Proof.Machine.execHeadData lane addr data status s
  | .laneStat lane sweep failed flags ber => Sys2Proof.Machine.execLaneStat lane sweep failed flags ber s
  | .statusMsg lane locked laser temp => Sys2Proof.Machine.execStatusMsg lane locked laser temp s
  | .ackMsg lane tag status => Sys2Proof.Machine.execAckMsg lane tag status s
  | .sidebandAckTimeout lane tag => Sys2Proof.Machine.execSidebandAckTimeout lane tag s
  | .backChannelLoss lane => Sys2Proof.Machine.execBackChannelLoss lane s
  | .laneTrainingComplete lane => Sys2Proof.Machine.execLaneTrainingComplete lane s
  | .laneTrainingTimeout lane => Sys2Proof.Machine.execLaneTrainingTimeout lane s
  | .laneTrainingRetry lane => Sys2Proof.Machine.execLaneTrainingRetry lane s
  | .berTestComplete lane errors => Sys2Proof.Machine.execBerTestComplete lane errors s
  | .berNoWordTimeout lane => Sys2Proof.Machine.execBerNoWordTimeout lane s
  | .interlockAssert low => Sys2Proof.Machine.execInterlockAssert low s
  | .interlockGateOpen => Sys2Proof.Machine.execInterlockGateOpen s
  | .interlockPathMismatch => Sys2Proof.Machine.execInterlockPathMismatch s
  | .emitterResultStale station emitter => Sys2Proof.Machine.execEmitterResultStale station emitter s
  | .headPresenceCheck station => Sys2Proof.Machine.execHeadPresenceCheck station s
  | .ringCycle ups => Sys2Proof.Machine.execRingCycle ups s
  | .focPwmPeriod => Sys2Proof.Machine.execFocPwmPeriod s
  | .commutationMiss axis => Sys2Proof.Machine.execCommutationMiss axis s
  | .sixStepStart axis ok => Sys2Proof.Machine.execSixStepStart axis ok s
  | .catchWindow axis seen => Sys2Proof.Machine.execCatchWindow axis seen s
  | .offsetLearnUpdate axis resid => Sys2Proof.Machine.execOffsetLearnUpdate axis resid s
  | .windingModelUpdate => Sys2Proof.Machine.execWindingModelUpdate s
  | .estimatorCrossCheck axis => Sys2Proof.Machine.execEstimatorCrossCheck axis s
  | .kappaSave => Sys2Proof.Machine.execKappaSave s
  | .estimatorStale axis => Sys2Proof.Machine.execEstimatorStale axis s
  | .voltageLimit axis => Sys2Proof.Machine.execVoltageLimit axis s
  | .stageDisable axis => Sys2Proof.Machine.execStageDisable axis s
  | .axisFollowingTimeout axis => Sys2Proof.Machine.execAxisFollowingTimeout axis s
  | .newelCount aux edge => Sys2Proof.Machine.execNewelCount aux edge s
  | .newelIndex => Sys2Proof.Machine.execNewelIndex s
  | .newelLossOfSignal aux => Sys2Proof.Machine.execNewelLossOfSignal aux s
  | .newelBackupCheck => Sys2Proof.Machine.execNewelBackupCheck s
  | .webFollowingTimeout => Sys2Proof.Machine.execWebFollowingTimeout s
  | .limitInputAccepted input level capture => Sys2Proof.Machine.execLimitInputAccepted input level capture s
  | .ringPortDown port => Sys2Proof.Machine.execRingPortDown port s
  | .ringPortUp port => Sys2Proof.Machine.execRingPortUp port s
  | .ringEnumeration cw ccw found => Sys2Proof.Machine.execRingEnumeration cw ccw found s
  | .nodeMailboxReply node tag status value => Sys2Proof.Machine.execNodeMailboxReply node tag status value s
  | .loopTestRead target ends => Sys2Proof.Machine.execLoopTestRead target ends s
  | .loopFollowingTimeout slot => Sys2Proof.Machine.execLoopFollowingTimeout slot s
  | .loopInputHoldTimeout slot => Sys2Proof.Machine.execLoopInputHoldTimeout slot s
  | .loopSaturated slot => Sys2Proof.Machine.execLoopSaturated slot s
  | .porstNAssert => Sys2Proof.Machine.execPorstNAssert s
  | .porstNRelease pairSlot bootMode testEn => Sys2Proof.Machine.execPorstNRelease pairSlot bootMode testEn s
  | .foscCheck khz => Sys2Proof.Machine.execFoscCheck khz s
  | .xtal0Gate count => Sys2Proof.Machine.execXtal0Gate count s
  | .xtal0StartTimeout => Sys2Proof.Machine.execXtal0StartTimeout s
  | .rootLock => Sys2Proof.Machine.execRootLock s
  | .rootAttemptTimeout => Sys2Proof.Machine.execRootAttemptTimeout s
  | .dividerStep => Sys2Proof.Machine.execDividerStep s
  | .xtal0Lost => Sys2Proof.Machine.execXtal0Lost s
  | .rootUnlock => Sys2Proof.Machine.execRootUnlock s
  | .xtal1Check ok => Sys2Proof.Machine.execXtal1Check ok s
  | .clockMeterDone count => Sys2Proof.Machine.execClockMeterDone count s
  | .railJudgement pins => Sys2Proof.Machine.execRailJudgement pins s
  | .pmbusPoll device page answer => Sys2Proof.Machine.execPmbusPoll device page answer s
  | .pmbAlert reads => Sys2Proof.Machine.execPmbAlert reads s
  | .railEnable ready => Sys2Proof.Machine.execRailEnable ready s
  | .riseTimeout rail => Sys2Proof.Machine.execRiseTimeout rail s
  | .fallTimeout rail => Sys2Proof.Machine.execFallTimeout rail s
  | .offDelayExpiry rail => Sys2Proof.Machine.execOffDelayExpiry rail s
  | .resetOutputRelease output => Sys2Proof.Machine.execResetOutputRelease output s
  | .pfwN => Sys2Proof.Machine.execPfwN s
  | .powerFailReset => Sys2Proof.Machine.execPowerFailReset s
  | .adcReferenceCheck => Sys2Proof.Machine.execAdcReferenceCheck s
  | .thermalEvaluate die td => Sys2Proof.Machine.execThermalEvaluate die td s
  | .thermalStageExit source stage => Sys2Proof.Machine.execThermalStageExit source stage s
  | .slowStep source => Sys2Proof.Machine.execSlowStep source s
  | .dieTripComparator sensor reading => Sys2Proof.Machine.execDieTripComparator sensor reading s
  | .sensorStuck source => Sys2Proof.Machine.execSensorStuck source s
  | .faultRecordClose entry => Sys2Proof.Machine.execFaultRecordClose entry s
  | .selfTestTimeout entry => Sys2Proof.Machine.execSelfTestTimeout entry s
  | .coreWatchdogExpiry core => Sys2Proof.Machine.execCoreWatchdogExpiry core s
  | .coreStallEscalation core => Sys2Proof.Machine.execCoreStallEscalation core s
  | .aliveToggle serviced => Sys2Proof.Machine.execAliveToggle serviced s
  | .mirrorFrame flags cyc seq claimIn alive secs => Sys2Proof.Machine.execMirrorFrame flags cyc seq claimIn alive secs s
  | .hello slot digest version claimIn => Sys2Proof.Machine.execHello slot digest version claimIn s
  | .syncTimeout => Sys2Proof.Machine.execSyncTimeout s
  | .bootClaim claimIn => Sys2Proof.Machine.execBootClaim claimIn s
  | .claim claimIn alive => Sys2Proof.Machine.execClaim claimIn alive s
  | .claimConflict => Sys2Proof.Machine.execClaimConflict s
  | .galleryFlush => Sys2Proof.Machine.execGalleryFlush s
  | .challengeExpiry => Sys2Proof.Machine.execChallengeExpiry s
  | .grantExpiry => Sys2Proof.Machine.execGrantExpiry s
  | .authBackoffEnd => Sys2Proof.Machine.execAuthBackoffEnd s
  | .calStoreWriteComplete => Sys2Proof.Machine.execCalStoreWriteComplete s
  | .configSlotWriteComplete => Sys2Proof.Machine.execConfigSlotWriteComplete s
  | .bootImageCheck slots => Sys2Proof.Machine.execBootImageCheck slots s
  | .firmwareStart keysOk claimIn => Sys2Proof.Machine.execFirmwareStart keysOk claimIn s
  | .runDwellEnd => Sys2Proof.Machine.execRunDwellEnd s
  | .keyScan down => Sys2Proof.Machine.execKeyScan down s
  | .touchInterrupt report => Sys2Proof.Machine.execTouchInterrupt report s
  | .touchStuck => Sys2Proof.Machine.execTouchStuck s
  | .ledPwmStep => Sys2Proof.Machine.execLedPwmStep s
  | .usbAttach vendor product ccid => Sys2Proof.Machine.execUsbAttach vendor product ccid s
  | .usbDetach => Sys2Proof.Machine.execUsbDetach s
  | .usbOverCurrent => Sys2Proof.Machine.execUsbOverCurrent s
  | .vbusRestore => Sys2Proof.Machine.execVbusRestore s
  | .maintenanceStart activity scope => Sys2Proof.Machine.execMaintenanceStart activity scope s
  | .maintenanceComplete activity scope pass stagger scanStart sosOff => Sys2Proof.Machine.execMaintenanceComplete activity scope pass stagger scanStart sosOff s
  | .fanOutStepDelay root child => Sys2Proof.Machine.execFanOutStepDelay root child s
  | .fanOutStepTimeout root child => Sys2Proof.Machine.execFanOutStepTimeout root child s
  | .lanePllLockTimeout pll => Sys2Proof.Machine.execLanePllLockTimeout pll s
  | .synthReferenceCycle station dco => Sys2Proof.Machine.execSynthReferenceCycle station dco s
  | .aerError port => Sys2Proof.Machine.execAerError port s
  | .maintenanceCountTick activity scope => Sys2Proof.Machine.execMaintenanceCountTick activity scope s
  | .quietWindowTimeout activity scope => Sys2Proof.Machine.execQuietWindowTimeout activity scope s
  | .tokenSignTimeout => Sys2Proof.Machine.execTokenSignTimeout s
  | .deviceReset => Sys2Proof.Machine.execDeviceReset s
  | .buzzerDurationEnd => Sys2Proof.Machine.execBuzzerDurationEnd s
  | .touchInterruptRelease => Sys2Proof.Machine.execTouchInterruptRelease s

end Sys2Proof.Machine
end

