-- ==== Sys2Proof/Machine/Step.lean ====
section
/-! DEFINITION. One step: the command at the front of the queue, with what it does to everything but the queue. -/

namespace Sys2Proof.Machine

/-- The command in front is taken out of the queue and run on the state with the queue's rest; with no command
waiting the block idles (log entry 2). -/
def step (s : State) : Host.Outcome State Fault Refusal :=
  match s.pending with
  | [] => .next s
  | c :: rest => exec c (s.modPending fun _ => rest)

/-- `s` with the command that the word `w` spells put at the front of its queue; the opcode table gives no row any
bits, so no word spells one and `s` stays as it is. -/
def State.withFetchWord (s : State) (nbits w : Nat) : State :=
  match Sys2Proof.decodeTableWord nbits w with
  | some c => s.modPending fun q => c :: q
  | none => s

end Sys2Proof.Machine
end

