-- ==== Sys2Proof/Safety.lean ====
section
/-! DEFINITION. The terms in which statements about the block are made: what every state keeps, when a mailbox command
is taken up, and how it ends. -/

namespace Sys2Proof.Machine

open Sys2Proof

/-! ### What every step keeps -/

/-- The inbound, outbound and event rings hold at most their entries (R386). -/
def Mbx.ringsFit (b : Mbx) : Prop := b.inRing.length ≤ 64 ∧ b.outRing.length ≤ 64 ∧ b.evtRing.length ≤ 128

/-- The bytes listed for the inbound window are in the canonical form: a byte not listed reads 0. -/
def Mbx.windowCanonical (b : Mbx) : Prop := memWf (fun _ => 0#8) b.inWin = true

/-- A keyed table lists each key once, keys rising. -/
def kvRising {α : Type} : KV α → Prop
  | [] => True
  | (k, _) :: r => (∀ p ∈ r, k < p.1) ∧ kvRising r

/-- The invariant of the block: the mailbox rings fit (R386) and the inbound window is canonical; the operating seconds
are a 40-bit counter and the power cycles a 32-bit one (R5, R310); the power log holds 64 entries (R311), the approved
list 16 digests (R378); the fault table has one record per entry (R328). -/
structure Inv (s : State) : Prop where
  rings : s.mbx.ringsFit
  window : s.mbx.windowCanonical
  seconds : s.clk.opSec < 2 ^ 40
  cycles : s.clk.powerCycle < 2 ^ 32
  powerLog : s.power.log.length ≤ 64
  digests : s.auth.digests.length ≤ 16
  faultTable : kvRising s.faults.recs

/-- What no step takes back: the highest configuration version consumed (R34) and the gallery's next sequence number
(Table 19-1) never fall. -/
structure Onward (s t : State) : Prop where
  version : s.cfg.highVer ≤ t.cfg.highVer
  gallery : s.gal.nextSeq ≤ t.gal.nextSeq

/-! ### Band datagrams (R420, Table 22-2) -/

/-- The form of a band datagram: magic, version, 1 to 8,192 bytes of data, the tag of an encrypted one, an offset on the
16-byte grid within the band, and data that ends the band or is whole 16-byte units. -/
def bandForm (bytes : List Byte) : Prop :=
  let f := fieldAt bytes
  33 ≤ bytes.length ∧ f 0 4 = 0x47524642 ∧ f 4 1 = 1 ∧ 1 ≤ f 18 2 ∧ f 18 2 ≤ 8192 ∧
    bytes.length = 32 + f 18 2 + (if (f 5 1).testBit 0 then 16 else 0) ∧ f 20 4 % 16 = 0 ∧ f 20 4 + f 18 2 ≤ f 24 4 ∧
    (f 18 2 % 16 = 0 ∨ f 20 4 + f 18 2 = f 24 4)

/-- The band identity a band datagram names. -/
def bandIdOf (bytes : List Byte) : BandId :=
  let f := fieldAt bytes
  { job := f 8 4, layer := f 6 1, frame := f 12 4, band := f 16 2 }

/-- The state once a well-formed band datagram's lane has been noted (R424). -/
def bandSeen (lane : Nat) (s : State) : State :=
  s.modIngest fun i => { i with lanes := kvSet i.lanes lane s.ring.cyc }

/-- A band datagram of a live job whose encryption it matches, its data opened to `data`. -/
def bandOpens (bytes data : List Byte) (s : State) : Prop :=
  s.mbx.live = true ∧ bandForm bytes ∧ ∃ j, (s.jobs.find? fun j => j.id == (bandIdOf bytes).job && j.live) = some j ∧
    (fieldAt bytes 5 1).testBit 0 = j.encrypted ∧ bandBytes j bytes = some data

/-! ### Mailbox commands -/

/-- Firmware serves the mailbox and core 0 is not stalled (R14, R395). -/
def serving (s : State) : Prop := s.mbx.live = true ∧ coreStalled s 0 = false

/-- A command passes checks 1 to 5 of Table 20-4 when core 0 starts it; `need` is the role its ticket must have. -/
def passes (i : CmdInfo) (need : Nat) (m : Cmd) (s : State) : Prop := vet i need m (startCmd i.op m s) = none

/-- The state in which the effect of a command begins: its entries have left the inbound ring, and a grant that it
matches is used up (R375, R387). -/
def entered (i : CmdInfo) (m : Cmd) (s : State) : State := useGrant i.op m (startCmd i.op m s)

/-- The command runs: it is served, passes its checks, and the gallery has room for a recorded command (R364). -/
def accepted (i : CmdInfo) (need : Nat) (m : Cmd) (s : State) : Prop :=
  serving s ∧ passes i need m s ∧ (i.recorded = true → galFull (entered i m s).gal = false)

/-- The outcome answers the command OK with payload `p`, its effect being that state `t` stands before the response. -/
def answersOk (i : CmdInfo) (m : Cmd) (o : Host.Outcome State Fault Refusal) (p : List Byte) (t : State) : Prop :=
  o = .next (respond i.op m .ok p (if i.recorded then galFlush t else t))

/-- The outcome leaves the command waiting for its end (R392, R399), its effect so far being `t`. -/
def underWay (i : CmdInfo) (m : Cmd) (t : State) : State :=
  t.modMbx fun b => { b with waiters := b.waiters ++ [{ op := i.op, cmd := m }] }

end Sys2Proof.Machine
end

