-- ==== Sys2Proof/Certificates/Slice0/Obligations.lean ====
section
/-! DEFINITION. The statements made of the block, for the provers. -/

open Sys2Proof Sys2Proof.Machine

/-- A step takes the front command and runs exec on it with the rest of the queue (01_architecture.md,
20_mailbox_protocol.md). -/
def Obligations.StepRunsFrontCommand : Prop :=
  ∀ (c : Instr) (rest : List Instr) (s : State),
    step (s.modPending fun _ => c :: rest) = exec c (s.modPending fun _ => rest) ∧
    step (s.modPending fun _ => []) = .next (s.modPending fun _ => [])

/-- Every step from a state that meets the invariant leads to a state that meets it (R5, R310, R311, R328, R378, R386). -/
def Obligations.InvariantKeptByStep : Prop :=
  ∀ s t : State, Inv s → step s = .next t → Inv t

/-- The state after reset meets the invariant, with an empty queue (R5, R386, R438). -/
def Obligations.ResetMeetsInvariant : Prop :=
  Inv State.reset ∧ State.reset.pending = []

/-- No step lowers the highest version consumed or the gallery's next sequence number (R34, R8, Table 19-1). -/
def Obligations.VersionsAndGalleryNumbersNeverFall : Prop :=
  ∀ s t : State, step s = .next t → Onward s t

/-- The first failing check of Table 20-4 gives a command's response, and the command has no effect (R393). -/
def Obligations.CommandChecksInOrder : Prop :=
  (∀ (i : CmdInfo) (need : State → Nat) (m : Cmd) (body : State → Reply) (s : State) (st : Status),
    serving s → vet i (need (startCmd i.op m s)) m (startCmd i.op m s) = some st →
    runCmd i need m body s = respond i.op m st [] (startCmd i.op m s)) ∧
  (∀ (i : CmdInfo) (need : Nat) (m : Cmd) (s : State),
    let old := versionChecked i.op = true ∧ m.version ≠ 0#32 ∧ m.version.toNat ≠ s.latestVersion
    let unit := if i.target = .none then none else checkHandle s (actedSet i m s) m.handle
    let sel := i.target ≠ .none ∧ checkSelector i (actedSet i m s) m = false
    let ticket := need ≠ 0 ∧ (grantMatches s i.op m && grantServes s need) = false
    (checkForm i m = false → vet i need m s = some .range) ∧
    (checkForm i m = true → served s i.op = false → vet i need m s = some .busy) ∧
    (checkForm i m = true → served s i.op = true → old → vet i need m s = some .badVersion) ∧
    (checkForm i m = true → served s i.op = true → ¬ old → ∀ st, unit = some st → vet i need m s = some st) ∧
    (checkForm i m = true → served s i.op = true → ¬ old → unit = none → sel → vet i need m s = some .range) ∧
    (checkForm i m = true → served s i.op = true → ¬ old → unit = none → ¬ sel → ticket →
      vet i need m s = some .notAuthorised) ∧
    (checkForm i m = true → served s i.op = true → ¬ old → unit = none → ¬ sel → ¬ ticket → vet i need m s = none))

/-- A command message in a host datagram enters the inbound ring, or is ignored, or answered BUSY; a datagram of another
length is noted (R387, R389, R391, R394). -/
def Obligations.DatagramMessageEntersRing : Prop :=
  (∀ (lane src : Nat) (bytes : List Byte) (s : State),
    s.mbx.live = true → bytes ≠ [] → bytes.length ≤ 1024 → bytes.length % 64 = 0 →
    exec (.mailboxDatagram lane src bytes) s =
      .next ((msgsOf 16 bytes).foldl (fun s m => arrive (.host src) m s) s) ∧
    (msgsOf 16 bytes).length = bytes.length / 64) ∧
  (∀ (lane src : Nat) (bytes : List Byte) (s : State),
    let m := msgOf bytes
    s.mbx.live = true → bytes.length = 64 → (s.mbx.outstanding.any fun o => o.parts.contains m) = false →
    (s.mbx.answered.any fun a => a.parts.contains m) = false → (s.mbx.outstanding.any fun o => o.tag == m.tag.toNat) = false →
    incompletePart s = none → (∀ p, s.mbx.lastSeq = some p → (p + 1) % 2 ^ 32 = m.seq.toNat) → opcodes.contains m.opcode.toNat = true → m.flags.getLsbD 2 = false →
    s.mbx.inRing.length < 64 →
    ∃ t, exec (.mailboxDatagram lane src bytes) s = .next t ∧ t.mbx.inRing = s.mbx.inRing ++ [(.host src, m)] ∧
      t.mbx.inProd = s.mbx.inProd + 1#16 ∧
      t.mbx.outstanding = s.mbx.outstanding ++ [{ tag := m.tag.toNat, parts := [m] }] ∧ t = { s with mbx := t.mbx }) ∧
  (∀ (lane src : Nat) (bytes : List Byte) (s : State),
    let m := msgOf bytes
    s.mbx.live = true → bytes.length = 64 → (s.mbx.outstanding.any fun o => o.parts.contains m) = false →
    (s.mbx.answered.any fun a => a.parts.contains m) = false → (s.mbx.outstanding.any fun o => o.tag == m.tag.toNat) = false →
    incompletePart s = none → (∀ p, s.mbx.lastSeq = some p → (p + 1) % 2 ^ 32 = m.seq.toNat) → 64 ≤ s.mbx.inRing.length →
    ∃ t r, exec (.mailboxDatagram lane src bytes) s = .next t ∧ t.mbx.inRing = s.mbx.inRing ∧
      t.mbx.held = s.mbx.held ++ [(src, r)] ∧ r.status = Status.code .busy ∧ r.tag = m.tag) ∧
  (∀ (lane src : Nat) (bytes : List Byte) (s : State),
    s.mbx.live = true → bytes.length = 64 → (s.mbx.outstanding.any fun o => o.parts.contains (msgOf bytes)) = true →
    exec (.mailboxDatagram lane src bytes) s = .next s) ∧
  (∀ (lane src : Nat) (bytes : List Byte) (s : State),
    s.mbx.live = true → (bytes = [] ∨ 1024 < bytes.length ∨ bytes.length % 64 ≠ 0) →
    exec (.mailboxDatagram lane src bytes) s = .next (note 0x0602 (BitVec.ofNat 16 (17 + lane)) 0 s))

/-- Index writes on the management SPI: accepted within their range, otherwise refused with SPI_ERR and SPI_INDEX; owned
slots ignore writes (R395, R396). -/
def Obligations.SpiIndexAndSlotWrites : Prop :=
  (∀ (v : BitVec 16) (s : State), s.mbx.live = true →
    indexGap s.mbx.inCons s.mbx.inProd + indexGap s.mbx.inProd v ≤ 64 →
    exec (.inProd v) s = .next (times enterSlot (indexGap s.mbx.inProd v) s)) ∧
  (∀ (v : BitVec 16) (s : State), s.mbx.live = true →
    64 < indexGap s.mbx.inCons s.mbx.inProd + indexGap s.mbx.inProd v →
    exec (.inProd v) s = .next (note 0x0624 0#16 0 (s.modMbx fun b => { b with spiErr := true }))) ∧
  (∀ (v : BitVec 16) (s : State), s.mbx.live = true → indexGap s.mbx.outCons v ≤ indexGap s.mbx.outCons s.mbx.outProd →
    exec (.outCons v) s = .next (s.modMbx fun b =>
      { b with outRing := b.outRing.drop (v - b.outCons).toNat, outCons := v })) ∧
  (∀ (v : BitVec 16) (s : State), s.mbx.live = true → indexGap s.mbx.outCons s.mbx.outProd < indexGap s.mbx.outCons v →
    exec (.outCons v) s = .next (note 0x0624 0#16 0 (s.modMbx fun b => { b with spiErr := true }))) ∧
  (∀ (v : BitVec 16) (s : State), s.mbx.live = true → indexGap s.mbx.evtCons v ≤ indexGap s.mbx.evtCons s.mbx.evtProd →
    exec (.evtCons v) s = .next (s.modMbx fun b =>
      { b with evtRing := b.evtRing.drop (v - b.evtCons).toNat, evtCons := v })) ∧
  (∀ (v : BitVec 16) (s : State), s.mbx.live = true → indexGap s.mbx.evtCons s.mbx.evtProd < indexGap s.mbx.evtCons v →
    exec (.evtCons v) s = .next (note 0x0624 0#16 0 (s.modMbx fun b => { b with spiErr := true }))) ∧
  (∀ (a : Nat) (v : Byte) (s : State), s.mbx.live = true → a < 0x1000 → ownedSlot s.mbx (a / 64) = false →
    ∃ t, exec (.spiRegisterWrite (0x1000 + a) [v]) s = .next t ∧ memRead (fun _ => 0#8) t.mbx.inWin a = v ∧
      (∀ x, x ≠ a → memRead (fun _ => 0#8) t.mbx.inWin x = memRead (fun _ => 0#8) s.mbx.inWin x) ∧
      t = s.modMbx fun b => { b with inWin := t.mbx.inWin }) ∧
  (∀ (a : Nat) (v : Byte) (s : State), s.mbx.live = true → a < 0x1000 → ownedSlot s.mbx (a / 64) = true →
    exec (.spiRegisterWrite (0x1000 + a) [v]) s = .next s)

/-- Waiting responses enter the outbound ring in order while slots are free; host responses leave in datagrams of at
most 16 (R387, R389, R391). -/
def Obligations.ResponsesLeaveInCompletionOrder : Prop :=
  (∀ s : State,
    let k := 64 - s.mbx.outRing.length
    let tags := ((s.mbx.waiting.take k).filter lastPart).map fun m => m.tag.toNat
    exec .responseRelease s = .next { s with mbx := { s.mbx with
      outRing := s.mbx.outRing ++ s.mbx.waiting.take k
      outProd := s.mbx.outProd + BitVec.ofNat 16 (s.mbx.waiting.take k).length
      waiting := s.mbx.waiting.drop k
      outstanding := s.mbx.outstanding.filter fun o => !tags.contains o.tag } }) ∧
  (∀ (d : Nat) (ms : List Msg) (s : State), ms ≠ [] → ms.length ≤ 16 → s.mbx.held = ms.map (fun m => (d, m)) →
    exec .responseDatagramFlush s =
      .next ((s.modMbx fun b => { b with held := [] }).modOutbox (· ++ [.messages 47101 d ms])))

/-- An event enters the event ring while it has room and no loss is pending; otherwise it is counted, and one OVERFLOW
event tells the count (R388, R389, R414). -/
def Obligations.EventsEnterRingOrAreCounted : Prop :=
  (∀ (code : Nat) (h : Handle) (p : List Byte) (s : State), s.mbx.evtLost = 0 → s.mbx.evtRing.length < 128 →
    ∃ m, (post code h p s).mbx.evtRing = s.mbx.evtRing ++ [m] ∧ m.opcode = BitVec.ofNat 16 code ∧ m.flags = 2#8 ∧
      m.handle = h ∧ m.seq = BitVec.ofNat 32 s.mbx.evtCount ∧ m.payload = padTo 48 p ∧
      (post code h p s).mbx.evtProd = s.mbx.evtProd + 1#16 ∧ (post code h p s).mbx.evtCount = s.mbx.evtCount + 1 ∧
      (post code h p s) = { s with mbx := (post code h p s).mbx, outbox := (post code h p s).outbox }) ∧
  (∀ (code : Nat) (h : Handle) (p : List Byte) (s : State), (s.mbx.evtLost ≠ 0 ∨ 128 ≤ s.mbx.evtRing.length) →
    (post code h p s).mbx.evtRing = s.mbx.evtRing ∧ (post code h p s).mbx.evtLost = s.mbx.evtLost + 1) ∧
  (∀ s : State, s.mbx.evtLost ≠ 0 → s.mbx.evtRing.length < 128 →
    ∃ m t, exec .eventOverflowPost s = .next (note 0x0623 0#16 0 t) ∧ t.mbx.evtRing = s.mbx.evtRing ++ [m] ∧
      m.opcode = 0x8001#16 ∧ m.handle = 0xFFFF#16 ∧ m.payload = padTo 48 (leBytes 4 s.mbx.evtLost) ∧
      t.mbx.evtLost = 0 ∧ t = { s with mbx := t.mbx })

/-- UNIT_CREATE, UNIT_DELETE, UNIT_MOVE and UNIT_SET change one descriptor of the staged set and answer OK (R21, R22,
R24, R25, R26, R32, R400). -/
def Obligations.UnitStagingCommandsComplete : Prop :=
  (∀ (m : Cmd) (s : State) (c : CfgSet) (i a : Nat),
    let e := entered opUnitCreate m s
    let u := { createDesc m with gen := kvGet 0 e.units.gens i, firstSlot := a }
    accepted opUnitCreate 0 m s → e.cfg.staged = some c → e.cfg.pend = none → checkHandle e c (m.h 2) = none →
    createRange c m = true → allocEntry e = some i → slotRun e (createDesc m).bankSlots = some a →
    nameTaken c (m.h 2) none (m.bytes 16 16) = false → depthOk { c with units := kvSet c.units i u } = true →
    ∃ t, answersOk opUnitCreate m (exec (.unitCreate m) s) (leBytes 2 (mkHandle u.gen i).toNat) t ∧
      t.cfg = { e.cfg with staged := some { c with units := kvSet c.units i u } } ∧ t.units.freed.contains i = false ∧
      t.units.live = e.units.live ∧ t = { e with cfg := t.cfg, units := t.units }) ∧
  (∀ (m : Cmd) (s : State) (c : CfgSet),
    let e := entered opUnitDelete m s
    let i := hIndex m.handle
    accepted opUnitDelete 0 m s → e.cfg.staged = some c → e.cfg.pend = none → c.children i = [] →
    loopRefers c m.handle = false → routeRefers c m.handle = false → gearRefers e m.handle = false → 32 ≤ i →
    ∃ t, answersOk opUnitDelete m (exec (.unitDelete m) s) [] t ∧
      t.cfg = { e.cfg with staged := some { c with units := kvDel c.units i } } ∧
      t = { e with cfg := t.cfg, units := t.units }) ∧
  (∀ (m : Cmd) (s : State) (c : CfgSet) (u : UnitDesc),
    let e := entered opUnitMove m s
    let i := hIndex m.handle
    let u' := { u with parent := m.h 2, order := m.u 1 1 }
    accepted opUnitMove 0 m s → e.cfg.staged = some c → e.cfg.pend = none → c.unit i = some u →
    checkHandle e c (m.h 2) = none → 32 ≤ i → parentAllowed u.utype (c.typeOf (m.h 2)) = true →
    c.under i (hIndex (m.h 2)) = false →
    (c.typeOf (m.h 2) = 0x0F → u.parent ≠ m.h 2 → (c.children (hIndex (m.h 2))).length < 255) →
    nameTaken c (m.h 2) (some i) u.name = false → depthOk { c with units := kvSet c.units i u' } = true →
    ∃ t, answersOk opUnitMove m (exec (.unitMove m) s) [] t ∧
      t = e.modCfg fun g => { g with staged := some { c with units := kvSet c.units i u' } }) ∧
  (∀ (m : Cmd) (s : State) (c : CfgSet) (u : UnitDesc),
    let e := entered opUnitSet m s
    let i := hIndex m.handle
    let u' := { u with order := m.u 1 1, retireAsOne := m.u 2 1 == 2, stepDelay := m.u 4 2,
                       stepTimeout := (if m.u 6 2 = 0 then 2000 else m.u 6 2), name := m.bytes 16 16 }
    accepted opUnitSet 0 m s → e.cfg.staged = some c → e.cfg.pend = none → c.unit i = some u →
    (m.u 2 1 = 0 ∨ (m.u 2 1 = 2 ∧ u.utype = 0x0F)) → m.u 4 2 ≤ 10000 → m.u 6 2 ≤ 60000 →
    (32 ≤ i ∨ m.bytes 16 16 = u.name) → nameTaken c u.parent (some i) (m.bytes 16 16) = false →
    ∃ t, answersOk opUnitSet m (exec (.unitSet m) s) [] t ∧
      t = e.modCfg fun g => { g with staged := some { c with units := kvSet c.units i u' } })

/-- UNIT_READ, UNIT_LOOKUP and UNIT_CHILDREN answer from the tree and change nothing (R24, R28, R400). -/
def Obligations.UnitReadsComplete : Prop :=
  (∀ (m : Cmd) (s : State),
    let e := entered opUnitRead m s
    accepted opUnitRead 0 m s → m.u 1 1 = 0 →
    answersOk opUnitRead m (exec (.unitRead m) s) (descBytes e e.cfg.cur (hIndex m.handle)) e) ∧
  (∀ (m : Cmd) (s : State) (c : CfgSet),
    let e := entered opUnitRead m s
    accepted opUnitRead 0 m s → m.u 1 1 = 1 → e.cfg.staged = some c →
    answersOk opUnitRead m (exec (.unitRead m) s) (descBytes e c (hIndex m.handle)) e) ∧
  (∀ (m : Cmd) (s : State) (i : Nat),
    let e := entered opUnitLookup m s
    let named := fun j => (e.cfg.cur.unit j).any fun u => u.name == m.bytes 16 16
    accepted opUnitLookup 0 m s → checkHandle e e.cfg.cur (m.h 0) = none →
    (e.cfg.cur.children (hIndex (m.h 0))).find? named = some i →
    answersOk opUnitLookup m (exec (.unitLookup m) s) (leBytes 2 (e.cfg.cur.handle i).toNat) e) ∧
  (∀ (m : Cmd) (s : State),
    let e := entered opUnitLookup m s
    accepted opUnitLookup 0 m s → checkHandle e e.cfg.cur (m.h 0) = none →
    (∀ j ∈ e.cfg.cur.children (hIndex (m.h 0)), ((e.cfg.cur.unit j).any fun u => u.name == m.bytes 16 16) = false) →
    exec (.unitLookup m) s = .next (respond 0x0108 m .noUnit [] e)) ∧
  (∀ (m : Cmd) (s : State),
    let e := entered opUnitChildren m s
    let cs := (e.cfg.cur.children (hIndex m.handle)).drop (m.u 1 1)
    accepted opUnitChildren 0 m s →
    answersOk opUnitChildren m (exec (.unitChildren m) s)
      (leBytes 1 (min 23 cs.length) ++ leBytes 1 (if 23 < cs.length then 1 else 0) ++
        (cs.take 23).flatMap fun i => leBytes 2 (e.cfg.cur.handle i).toNat) e)

/-- UNIT_ENABLE and UNIT_DISABLE fan out unit by unit, wait and undo as R28 says; delays and timeouts move a fan-out on
(R27, R28, R29). -/
def Obligations.FanOutsEnableInOrderAndUndo : Prop :=
  (∀ (m : Cmd) (s : State),
    let e := entered opUnitEnable m s
    let f : FanOut := { root := m.handle, todo := (fanOrder e.cfg.cur 16 (hIndex m.handle)).map e.cfg.cur.handle }
    accepted opUnitEnable 0 m s → fanBusy e m.handle = false → (∀ g ∈ e.units.fans, g.cur.isSome = true) →
    exec (.unitEnable m) s = .next (runFan 2100 f (underWay opUnitEnable m (putFan f e)))) ∧
  (∀ (m : Cmd) (s : State),
    let e := entered opUnitDisable m s
    let f : FanOut :=
      { root := m.handle, disable := true
        todo := ((fanOrder e.cfg.cur 16 (hIndex m.handle)).map e.cfg.cur.handle).reverse }
    accepted opUnitDisable 0 m s → fanBusy e m.handle = false → (∀ g ∈ e.units.fans, g.cur.isSome = true) →
    exec (.unitDisable m) s = .next (runFan 2100 f (underWay opUnitDisable m (putFan f e)))) ∧
  (∀ (m : Cmd) (s : State),
    let e := entered opUnitEnable m s
    let i := hIndex m.handle
    let f : FanOut := { root := m.handle, todo := [m.handle] }
    accepted opUnitEnable 0 m s → fanBusy e m.handle = false → (∀ g ∈ e.units.fans, g.cur.isSome = true) →
    e.cfg.cur.children i = [] → e.cfg.cur.handle i = m.handle → unitFailed e i = false → canReady e i = true →
    stepDelayOf e m.handle = 0 →
    exec (.unitEnable m) s = .next (finish (waitingOn 0x0105 m.handle) .ok []
      ((enableUnit i (underWay opUnitEnable m (putFan f e))).modUnits fun u =>
        { u with fans := u.fans.filter fun g => g.root != m.handle }))) ∧
  (∀ (m : Cmd) (s : State),
    let e := entered opUnitDisable m s
    let i := hIndex m.handle
    let f : FanOut := { root := m.handle, todo := [m.handle], disable := true }
    accepted opUnitDisable 0 m s → fanBusy e m.handle = false → (∀ g ∈ e.units.fans, g.cur.isSome = true) →
    e.cfg.cur.children i = [] → e.cfg.cur.handle i = m.handle → nodeServes e i = true → stepDelayOf e m.handle = 0 →
    exec (.unitDisable m) s = .next (finish (waitingOn 0x0106 m.handle) .ok []
      ((disableUnit i (underWay opUnitDisable m (putFan f e))).modUnits fun u =>
        { u with fans := u.fans.filter fun g => g.root != m.handle }))) ∧
  (∀ (k : Nat) (f : FanOut) (h : Handle) (r : List Handle) (s : State),
    let t := enableUnit (hIndex h) s
    let g := { f with todo := r, done := h :: f.done, cur := none }
    f.todo = h :: r → f.disable = false → f.undo = false →
    (unitFailed s (hIndex h) = true →
      runFan (k + 1) f s = runFan k { f with todo := f.done, done := [], cur := none, undo := true } s) ∧
    (unitFailed s (hIndex h) = false → canReady s (hIndex h) = true →
      runFan (k + 1) f s = if stepDelayOf t h = 0 then runFan k g t else putFan { g with cur := some h } t) ∧
    (unitFailed s (hIndex h) = false → canReady s (hIndex h) = false →
      runFan (k + 1) f s = putFan { f with cur := some h } (wantRail (hIndex h) s))) ∧
  (∀ (k : Nat) (f : FanOut) (h : Handle) (r : List Handle) (s : State), f.todo = h :: r → f.disable = true →
    f.undo = false → nodeServes s (hIndex h) = false → runFan (k + 1) f s = putFan { f with cur := some h } s) ∧
  (∀ (k : Nat) (f : FanOut) (s : State), f.todo = [] →
    runFan (k + 1) f s = finish (waitingOn (if f.disable then 0x0106 else 0x0105) f.root)
      (if f.undo then .timeout else .ok) [] (s.modUnits fun u => { u with fans := u.fans.filter fun g => g.root != f.root })) ∧
  (∀ (m : Cmd) (s : State),
    let e := entered opUnitEnable m s
    accepted opUnitEnable 0 m s → fanBusy e m.handle = true → (∀ f ∈ e.units.fans, f.cur.isSome = true) →
    ∃ t, exec (.unitEnable m) s = .next t ∧ (t = respond 0x0105 m .busy [] e)) ∧
  (∀ (m : Cmd) (s : State),
    let e := entered opUnitDisable m s
    accepted opUnitDisable 0 m s → fanBusy e m.handle = true → (∀ f ∈ e.units.fans, f.cur.isSome = true) →
    ∃ t, exec (.unitDisable m) s = .next t ∧ (t = respond 0x0106 m .busy [] e)) ∧
  (∀ (r h : Handle) (f : FanOut) (s : State),
    (s.units.fans.find? fun g => g.root == r && g.cur == some h && g.done.contains h) = some f →
    ((f.disable = true ∨ f.undo = true ∨ unitFailed s (hIndex h) = false) →
      exec (.fanOutStepDelay r h) s = .next (runFan 2100 { f with cur := none } s)) ∧
    (f.disable = false → f.undo = false → unitFailed s (hIndex h) = true → exec (.fanOutStepDelay r h) s =
      .next (runFan 2100 { f with todo := f.done, done := [], cur := none, undo := true } s))) ∧
  (∀ (r h : Handle) (f : FanOut) (s : State),
    (s.units.fans.find? fun g => g.root == r && g.cur == some h && g.todo.contains h) = some f →
    (f.disable = false → exec (.fanOutStepTimeout r h) s =
      .next (runFan 2100 { f with cur := none, todo := f.done, done := [], undo := true } s)) ∧
    (f.disable = true → exec (.fanOutStepTimeout r h) s =
      .next (runFan 2100 { f with cur := none, todo := f.todo.filter (· != h), done := h :: f.done }
        (setUnitState h .faulted 2 s))))

/-- CFG_STAGE_BEGIN, CFG_WRITE and CFG_STAGE_ABORT act on the staged set alone; CFG_READ and CFG_STATUS change nothing
(R32, R40, R401, R402). -/
def Obligations.StagedSetCommandsComplete : Prop :=
  (∀ (m : Cmd) (s : State),
    let e := entered opCfgStageBegin m s
    accepted opCfgStageBegin 0 m s → e.cfg.staged = none →
    answersOk opCfgStageBegin m (exec (.cfgStageBegin m) s) [] (e.modCfg fun c => { c with staged := some e.latestSet })) ∧
  (∀ (m : Cmd) (s : State) (c : CfgSet),
    let e := entered opCfgStageBegin m s
    accepted opCfgStageBegin 0 m s → e.cfg.staged = some c →
    exec (.cfgStageBegin m) s = .next (respond 0x0201 m .conflict [] e)) ∧
  (∀ (m : Cmd) (s : State) (c : CfgSet),
    let e := entered opCfgWrite m s
    let c' := c.write (m.u 0 1) (m.u 2 2) (m.u 4 2) (m.bytes 16 (m.u 6 2))
    accepted opCfgWrite 0 m s → inEntry m = true → e.cfg.staged = some c → e.cfg.pend = none → c'.size ≤ 262144 →
    answersOk opCfgWrite m (exec (.cfgWrite m) s) [] (e.modCfg fun g => { g with staged := some c' })) ∧
  (∀ (m : Cmd) (s : State) (c : CfgSet),
    let e := entered opCfgStageAbort m s
    accepted opCfgStageAbort 0 m s → e.cfg.staged = some c →
    ∃ t, answersOk opCfgStageAbort m (exec (.cfgStageAbort m) s) [] t ∧ t.cfg = { e.cfg with staged := none } ∧
      t = { e with cfg := t.cfg, units := t.units }) ∧
  (∀ (m : Cmd) (s : State) (c : CfgSet),
    let e := entered opCfgRead m s
    accepted opCfgRead 0 m s → inEntry m = true → m.u 1 1 ≤ 2 → sourceSet (m.u 1 1) e = some c →
    answersOk opCfgRead m (exec (.cfgRead m) s) (c.read (m.u 0 1) (m.u 2 2) (m.u 4 2) (m.u 6 2)) e) ∧
  (∀ (m : Cmd) (s : State),
    let e := entered opCfgStatus m s
    let prev := match e.cfg.prev with | some p => p.1 | none => 0
    let pend := match e.cfg.pend with | some p => p.version | none => 0
    let dig := match e.cfg.staged with | some c => setDigest c | none => List.replicate 32 0#8
    accepted opCfgStatus 0 m s →
    answersOk opCfgStatus m (exec (.cfgStatus m) s) (leBytes 4 e.cfg.curVer ++ leBytes 4 prev ++ leBytes 4 pend ++
      [if e.cfg.staged.isSome then 1#8 else 0#8, 0#8, 0#8, 0#8] ++ dig) e)

/-- CFG_COMMIT and CFG_REVERT accept a set under the version after the highest ever consumed, leave it pending and begin
its slot (R33, R34, R35, R37). -/
def Obligations.CommitConsumesNextVersion : Prop :=
  (∀ (m : Cmd) (s : State) (c : CfgSet),
    let e := entered opCfgCommit m s
    let need := commitNeed (startCmd opCfgCommit.op m s)
    let role := ticketRole (commitNeed s) s
    accepted opCfgCommit need m s → e.cfg.staged = some c → e.cfg.pend = none → m.bytes 0 32 = setDigest c →
    contentOk e c = true → e.cfg.highVer < 0xFFFFFFFF → (e.cfg.routePend.isSome && routeDiffers e.cfg.cur c) = false →
    tooMany c = false →
    let t := acceptSet (trimSpoil c) false role e
    answersOk opCfgCommit m (exec (.cfgCommit m) s) (leBytes 4 t.cfg.highVer ++ leBytes 1 (binding t) ++ leBytes 11 0)
      (effectIfIdle t)) ∧
  (∀ (m : Cmd) (s : State) (v : Nat) (c : CfgSet),
    let e := entered opCfgRevert m s
    let need := revertNeed (startCmd opCfgRevert.op m s)
    let role := ticketRole (revertNeed s) s
    accepted opCfgRevert need m s → e.cfg.prev = some (v, c) → e.cfg.pend = none → m.u 0 4 = v →
    e.cfg.highVer < 0xFFFFFFFF → (e.cfg.routePend.isSome && routeDiffers e.cfg.cur c) = false →
    let t := acceptSet c true role e
    answersOk opCfgRevert m (exec (.cfgRevert m) s) (leBytes 4 t.cfg.highVer ++ leBytes 1 (binding t) ++ leBytes 11 0)
      (effectIfIdle t)) ∧
  (∀ (c : CfgSet) (revert : Bool) (role : Nat) (s : State),
    let t := acceptSet c revert role s
    t.cfg.highVer = s.cfg.highVer + 1 ∧ t.cfg.cur = s.cfg.cur ∧ t.cfg.curVer = s.cfg.curVer ∧
    t.cfg.writing = !revert ∧ t.cfg.staged = (if revert then s.cfg.staged else none) ∧
    ∃ p, t.cfg.pend = some p ∧ p.set = { c with gens := p.set.gens } ∧ p.base = s.cfg.cur ∧ p.version = s.cfg.highVer + 1 ∧ p.oldVersion = s.cfg.curVer ∧
      p.revert = revert ∧ p.bound = none) ∧
  (∀ (p : Pend) (s : State), s.cfg.pend = some p → s.cfg.writing = true →
    ∃ t, exec .configSlotWriteComplete s = .next (effectIfIdle t) ∧ t.cfg.writing = false ∧
      t.cfg.pend = some { p with slotDone := true } ∧
      (if s.cfg.slotIsB then t.cfg.slotA else t.cfg.slotB) = slotWith p.version .pending p.set ∧
      (if s.cfg.slotIsB then t.cfg.slotB else t.cfg.slotA) = (if s.cfg.slotIsB then s.cfg.slotB else s.cfg.slotA) ∧
      t = { s with cfg := t.cfg }) ∧
  (∀ (m : Cmd) (s : State) (c : CfgSet) (p : Pend),
    let e := entered opCfgCommit m s
    accepted opCfgCommit (commitNeed (startCmd opCfgCommit.op m s)) m s → e.cfg.staged = some c → e.cfg.pend = some p →
    exec (.cfgCommit m) s = .next (respond 0x0205 m .busy [] e)) ∧
  (∀ (m : Cmd) (s : State) (p : Pend),
    let e := entered opCfgRevert m s
    accepted opCfgRevert (revertNeed (startCmd opCfgRevert.op m s)) m s → e.cfg.pend = some p →
    exec (.cfgRevert m) s = .next (respond 0x0206 m .busy [] e))

/-- JOB_SUBMIT queues a job with a frame run; JOB_CANCEL, JOB_HOLD and JOB_RELEASE change its state; JOB_STATUS changes
nothing (R44, R130, R364, R403, R423). -/
def Obligations.JobCommandsComplete : Prop :=
  (∀ (m : Cmd) (s : State) (base : Nat),
    let e := entered opJobSubmit m s
    accepted opJobSubmit 0 m s → submitRange m e = true → (e.jobs.any fun j => j.id == m.u 0 4 && j.live) = false →
    mounted e = true → galNear e.gal = false → frameRun e (m.u 4 4) = some base →
    ∃ (t : State) (j : Job), answersOk opJobSubmit m (exec (.jobSubmit m) s) [] t ∧
      t.jobs = (e.jobs.filter fun j => j.id != m.u 0 4) ++ [j] ∧ j.id = m.u 0 4 ∧ j.count = m.u 4 4 ∧ j.base = base ∧
      j.state = .queued ∧ j.next = 0 ∧ t = { e with jobs := t.jobs, spool := { e.spool with dir := t.spool.dir } }) ∧
  (∀ (m : Cmd) (s : State) (j : Job),
    let e := entered opJobCancel m s
    let t := (waitingFrames e j).foldl (fun s f => freeFrame j.id f s) e
    let ids := (t.ingest.bands.filter fun b => b.id.job == j.id).map (·.id)
    let t := ids.foldl (fun s id => unstage id s) t
    accepted opJobCancel 0 m s → (e.jobs.find? fun j => j.id == m.u 0 4 && j.live) = some j →
    answersOk opJobCancel m (exec (.jobCancel m) s) []
      ((modJob j.id (fun j => { j with state := .cancelled, key := 0 }) t).modLand fun l =>
        { l with plans := l.plans.filter fun p => p.job != j.id })) ∧
  (∀ (m : Cmd) (s : State) (j : Job),
    let e := entered opJobHold m s
    accepted opJobHold 0 m s → jobOf e (m.u 0 4) = some j → (j.state = .queued ∨ j.state = .active) →
    answersOk opJobHold m (exec (.jobHold m) s) []
      (dropPlan j.id (modJob j.id (fun j => { j with state := .held }) e))) ∧
  (∀ (m : Cmd) (s : State) (j : Job),
    let e := entered opJobRelease m s
    let st : JobState := if 0 < j.admitted + j.gaps then .active else .queued
    accepted opJobRelease 0 m s → jobOf e (m.u 0 4) = some j → j.state = .held → (∀ k ∈ e.jobs, k.id = j.id → k = j) →
    answersOk opJobRelease m (exec (.jobRelease m) s) []
      (modJob j.id (fun _ => { j with state := st, gapRun := 0 }) e)) ∧
  (∀ (m : Cmd) (s : State) (j : Job),
    let e := entered opJobStatus m s
    accepted opJobStatus 0 m s → jobOf e (m.u 0 4) = some j →
    answersOk opJobStatus m (exec (.jobStatus m) s) (leBytes 1 j.state.code ++ [0#8, 0#8, 0#8] ++
      leBytes 4 (spooledFrames e j) ++ leBytes 4 j.admitted ++ leBytes 4 j.closed ++ leBytes 4 j.gaps ++
      leBytes 4 j.next) e) ∧
  (∀ (m : Cmd) (s : State) (j : Job),
    let e := entered opJobHold m s
    accepted opJobHold 0 m s → jobOf e (m.u 0 4) = some j → j.state ≠ .queued → j.state ≠ .active →
    exec (.jobHold m) s = .next (respond 0x0303 m .conflict [] e)) ∧
  (∀ (m : Cmd) (s : State) (j : Job),
    let e := entered opJobRelease m s
    accepted opJobRelease 0 m s → jobOf e (m.u 0 4) = some j → j.state ≠ .held →
    exec (.jobRelease m) s = .next (respond 0x0304 m .conflict [] e)) ∧
  (∀ (m : Cmd) (s : State),
    let e := entered opJobCancel m s
    accepted opJobCancel 0 m s → (e.jobs.any fun j => j.id == m.u 0 4 && j.live) = false →
    exec (.jobCancel m) s = .next (respond 0x0302 m .range [] e)) ∧
  (∀ (m : Cmd) (s : State),
    let e := entered opJobStatus m s
    accepted opJobStatus 0 m s → jobOf e (m.u 0 4) = none →
    exec (.jobStatus m) s = .next (respond 0x0305 m .range [] e))

/-- GAL_READ and GAL_STATUS change nothing; GAL_EXPORT signs a range and is recorded; GAL_CLEAR removes records up to a
number under a regulator ticket (R363, R364, R365, R366, R410). -/
def Obligations.GalleryCommandsComplete : Prop :=
  (∀ (m : Cmd) (s : State) (r : GalRec) (rs : List GalRec),
    let e := entered opGalRead m s
    accepted opGalRead 0 m s → 1 ≤ m.u 4 1 → m.u 4 1 ≤ 16 → ((galAll e).dropWhile fun x => x.seq != m.u 0 4) = r :: rs →
    answersOk opGalRead m (exec (.galRead m) s) (((r :: rs).take (m.u 4 1)).flatMap galBytes) e) ∧
  (∀ (m : Cmd) (s : State),
    let e := entered opGalStatus m s
    let first := match galAll e with | r :: _ => r.seq | [] => 0
    let held := e.gal.recs.length + e.gal.buf.length
    let flags := (if 31744 ≤ held then 1 else 0) + 2 * (if 32768 ≤ held then 1 else 0)
    accepted opGalStatus 0 m s →
    answersOk opGalStatus m (exec (.galStatus m) s)
      (leBytes 4 held ++ leBytes 4 first ++ leBytes 4 e.gal.nextSeq ++ leBytes 4 e.gal.lost ++ leBytes 1 flags) e) ∧
  (∀ (m : Cmd) (s : State) (before rs after : List GalRec) (r z : GalRec),
    let e := entered opGalExport m s
    let head := leBytes 8 Config.deviceSerial.toNat ++ leBytes 4 (m.u 0 4) ++ leBytes 4 (m.u 4 4) ++
      leBytes 4 (rs.length) ++ leBytes 12 0 ++ m.bytes 16 32
    let body := rs.flatMap galBytes
    let sig := Config.ecdsaSign (Config.sha256 (head ++ body)).toNat
    accepted opGalExport 0 m s → galAll e = before ++ rs ++ after → (∀ x ∈ before, x.seq ≠ m.u 0 4) →
    rs.head? = some r → r.seq = m.u 0 4 → rs.getLast? = some z → z.seq = m.u 4 4 →
    (∀ x ∈ rs.dropLast, x.seq ≠ m.u 4 4) → m.u 0 4 ≤ m.u 4 4 →
    answersOk opGalExport m (exec (.galExport m) s) (head ++ body ++ digestBytes sig.1 ++ digestBytes sig.2)
      (galWrite 0x42 0#16 0 rs.length (leBytes 4 (m.u 0 4) ++ leBytes 4 (m.u 4 4) ++ m.bytes 16 16) e)) ∧
  (∀ (m : Cmd) (s : State) (before after : List GalRec) (z : GalRec),
    let e := entered opGalClear m s
    accepted opGalClear 1 m s → galAll e = before ++ z :: after → (∀ x ∈ before, x.seq ≠ m.u 0 4) → z.seq = m.u 0 4 →
    ∃ t c l, answersOk opGalClear m (exec (.galClear m) s) [] (post 0x8601 0xFFFF#16 [2#8] t) ∧
      t.gal.recs = c :: after ++ l ∧ t.gal.buf = [] ∧ t.gal.lost = 0 ∧ c.type = 0x40 ∧ c.seq = e.gal.nextSeq ∧
      c.aux = m.u 0 4 ∧ c.rep = before.length + 1 ∧ l.length = (if e.gal.lost = 0 then 0 else 1) ∧
      (∀ x ∈ l, x.type = 0x41 ∧ x.aux = e.gal.lost ∧ x.seq = e.gal.nextSeq + 1) ∧
      t.gal.nextSeq = e.gal.nextSeq + 1 + l.length ∧ t = { e with gal := t.gal }) ∧
  (∀ (m : Cmd) (s : State),
    let e := entered opGalRead m s
    accepted opGalRead 0 m s → 1 ≤ m.u 4 1 → m.u 4 1 ≤ 16 → (∀ x ∈ galAll e, x.seq ≠ m.u 0 4) →
    exec (.galRead m) s = .next (respond 0x0601 m .range [] e)) ∧
  (∀ (m : Cmd) (s : State),
    let e := entered opGalClear m s
    accepted opGalClear 1 m s → (∀ x ∈ galAll e, x.seq ≠ m.u 0 4) →
    exec (.galClear m) s = .next (respond 0x0604 m .range [] e)) ∧
  (∀ s : State, coreStalled s 3 = false → s.gal.missed = 0 →
    exec .galleryFlush s = .next (s.modGal fun g => { g with recs := g.recs ++ g.buf, buf := [] }))

/-- LDG_READ and LDG_STATUS change nothing; an acknowledgement moves the acknowledged serial and window, or is ignored
with a note (R140, R369, R370, R410). -/
def Obligations.LedgerCommandsComplete : Prop :=
  (∀ (m : Cmd) (s : State) (r : LedgerRec) (rs : List LedgerRec),
    let e := entered opLdgRead m s
    accepted opLdgRead 0 m s → 1 ≤ m.u 8 1 → m.u 8 1 ≤ 16 → ledgerRun e (m.u 8 1) (m.u 0 8) = r :: rs →
    answersOk opLdgRead m (exec (.ldgRead m) s) ((r :: rs).flatMap LedgerRec.toBytes) e) ∧
  (∀ (m : Cmd) (s : State),
    let e := entered opLdgStatus m s
    let old := match e.ledger.queue with | r :: _ => r.serial | [] => e.land.nextSerial
    accepted opLdgStatus 0 m s →
    answersOk opLdgStatus m (exec (.ldgStatus m) s) (leBytes 8 old ++ leBytes 8 e.land.nextSerial ++
      leBytes 8 e.ledger.acked ++ leBytes 2 (occupancy e) ++ leBytes 1 (regionState e).code) e) ∧
  (∀ (m : Cmd) (s : State),
    let e := entered opLdgAck m s
    accepted opLdgAck 0 m s → m.u 8 2 ≤ 8192 →
    answersOk opLdgAck m (exec (.ldgAck m) s) [] (ackLedger (m.u 0 8) (m.u 8 2) e)) ∧
  (∀ (m : Cmd) (s : State),
    let e := entered opLdgAck m s
    accepted opLdgAck 0 m s → 8192 < m.u 8 2 → exec (.ldgAck m) s = .next (respond 0x0702 m .range [] e)) ∧
  (∀ (a w : Nat) (s : State), exec (.ledgerAcknowledgement a w) s = .next (ackLedger a w s)) ∧
  (∀ (a w : Nat) (s : State), w ≤ 8192 → s.ledger.acked ≤ a →
    a ≤ max (max s.ledger.sent s.ledger.acked) (heldBefore s) → eventLane s = none →
    ∃ t, ackLedger a w s = ledgerLevel t ∧ t.ledger.acked = a ∧ t.ledger.window = w ∧
      t.ledger.queue = (s.ledger.queue.dropWhile fun r =>
        r.isClosed && (decide (r.serial < s.spool.regionWrite) || decide (r.serial ≤ a))) ∧
      t = { s with ledger := t.ledger }) ∧
  (∀ (a w : Nat) (s : State),
    8192 < w ∨ a < s.ledger.acked ∨ max (max s.ledger.sent s.ledger.acked) (heldBefore s) < a →
    ackLedger a w s = note 0x0606 0#16 0 s) ∧
  (∀ s : State, s.ledger.timer = true →
    exec .ledgerResendTimeout s = .next (sendLedger (s.modLedger fun l => { l with sent := l.acked }))) ∧
  (∀ (r : LedgerRec) (rs : List LedgerRec) (s : State), regionState s = .available → s.spool.ledgerOut = [] →
    openPage s = r :: rs →
    let page := regionIdx s r.serial / 32
    exec .ledgerPageWrite s = .next (ledgerLevel (writePage .ledgerWrite (s.spool.sb.dirPages + page)
      (ledgerPageBytes s page (r :: rs)) (s.modSpool fun p => { p with ledgerOut := r :: rs })))) ∧
  (∀ s : State, regionState s ≠ .available → exec .ledgerPageWrite s = .next (ledgerLevel s)) ∧
  (∀ (l : List LedgerRec) (r : LedgerRec) (s : State), s.spool.ledgerOut = l → l.getLast? = some r →
    ∃ t, ledgerWritten s = (if pageFull (releaseLedger t) then writeLedgerPage (releaseLedger t) else releaseLedger t) ∧
      t.spool.regionWrite = r.serial + 1 ∧ t.spool.ledgerOut = [] ∧
      (∀ x ∈ l, x ∈ t.spool.regionRecs ∨ x.serial + s.spool.sb.regionRecords ≤ r.serial) ∧ t = { s with spool := t.spool })

/-- MOT_PRESS STOP, THREAD and RUN and MOT_JOG plan the newel; entering THREAD darkens every lane and lets no plan stand
(R20, R240, R324, R404, R452, R453). -/
def Obligations.PressMotionCommandsComplete : Prop :=
  (∀ (m : Cmd) (s : State),
    let e := entered opMotPressStop m s
    accepted opMotPressStop 0 m s → m.u 0 1 = 0 →
    answersOk opMotPressStop m (exec (.motPressStop m) s) [] (beginStop (askStop .stop e))) ∧
  (∀ (m : Cmd) (s : State),
    let e := entered opMotPressThread m s
    let t := askStop .threadCmd e
    accepted opMotPressThread 0 m s → m.u 0 1 = 1 → noFlights e = true →
    answersOk opMotPressThread m (exec (.motPressThread m) s) []
      (beginStop (if t.land.stopReq = .threadCmd then t.modGov fun g => { g with stopping := false } else t))) ∧
  (∀ (m : Cmd) (s : State),
    let e := entered opMotPressThread m s
    accepted opMotPressThread 0 m s → m.u 0 1 = 1 → noFlights e = false →
    exec (.motPressThread m) s = .next (respond 0x0401 m .conflict [] e)) ∧
  (∀ (m : Cmd) (s : State),
    let e := entered opMotPressRun m s
    accepted opMotPressRun 0 m s → m.u 0 1 = 2 → stopActive e = false → e.cfg.pend = none → e.land.mode = .thread →
    ∃ t, exec (.motPressRun m) s = .next (underWay opMotPressRun m (planTo 25 t)) ∧ t.land.run = .ramp ∧
      t.land.stopReq = .none ∧ t.gov.stopping = false ∧ t = { e with land := t.land, gov := t.gov }) ∧
  (∀ (m : Cmd) (s : State),
    let e := entered opMotPressRun m s
    accepted opMotPressRun 0 m s → m.u 0 1 = 2 → stopActive e = true →
    exec (.motPressRun m) s = .next (respond 0x0401 m .conflict [] e)) ∧
  (∀ (m : Cmd) (s : State),
    let e := entered opMotJog m s
    let v := signed 16 (m.u 0 2)
    accepted opMotJog 0 m s → -2500 < v → v < 2500 → e.land.mode = .thread → e.land.run = .none → m.u 4 4 = 0 →
    answersOk opMotJog m (exec (.motJog m) s) [] ((planTo ((v : Rat) / 100) e).modGov fun g =>
      { g with jog := (v : Rat) / 100, jogLeft := none, stopping := false })) ∧
  (∀ (m : Cmd) (s : State),
    let e := entered opMotJog m s
    let v := signed 16 (m.u 0 2)
    accepted opMotJog 0 m s → -2500 < v → v < 2500 → e.land.mode = .thread → e.land.run = .none → m.u 4 4 ≠ 0 →
    exec (.motJog m) s = .next (underWay opMotJog m ((planTo ((v : Rat) / 100) e).modGov fun g =>
      { g with jog := (v : Rat) / 100, jogLeft := some (256 * (m.u 4 4 : Int)), stopping := false }))) ∧
  (∀ (m : Cmd) (s : State),
    let e := entered opMotJog m s
    accepted opMotJog 0 m s → -2500 < signed 16 (m.u 0 2) → signed 16 (m.u 0 2) < 2500 → e.land.mode ≠ .thread →
    exec (.motJog m) s = .next (respond 0x0402 m .conflict [] e)) ∧
  (∀ (w : HoldSrc) (s : State), (askStop w s).land = { s.land with
    stopReq := (if w.rank < s.land.stopReq.rank then s.land.stopReq else w), run := .none, reducedReq := false }) ∧
  (∀ s : State, noFlights s = true → s.land.stopReq = .stop → s.gov.stopping = false →
    beginStop s = freePolygons (planRest 0 s)) ∧
  (∀ s : State, noFlights s = false → s.land.stopReq = .stop → beginStop s = s) ∧
  (∀ s : State, ∃ t, enterThread s = threadPostDivs (disableHv t) ∧ t.land.mode = .thread ∧ t.land.next = none ∧
    t.land.plans = [] ∧ (∀ p ∈ t.lanes, p.2.mode ≠ .idle ∧ p.2.mode ≠ .swept) ∧
    t = { s with land := t.land, lanes := t.lanes })

/-- MOT_GEAR, MOT_RATIO, MOT_RATIO_CANCEL and MOT_PHASE change the gear of the follower they name (R213, R214, R215,
R216, R217). -/
def Obligations.GearingCommandsComplete : Prop :=
  (∀ (m : Cmd) (s : State) (f : Follower),
    let e := entered opMotGearHold m s
    accepted opMotGearHold 0 m s → followerOf e m.handle = some f → m.u 1 1 = 0 →
    answersOk opMotGearHold m (exec (.motGearHold m) s) [] (modFollower f (fun g => { g with st := .held }) e)) ∧
  (∀ (m : Cmd) (s : State) (f : Follower),
    let e := entered opMotGearFree m s
    accepted opMotGearFree 0 m s → followerOf e m.handle = some f → m.u 1 1 = 1 →
    answersOk opMotGearFree m (exec (.motGearFree m) s) []
      (modFollower f (fun g => { g with st := .free, blend := none, queue := [], regear := none }) e)) ∧
  (∀ (m : Cmd) (s : State) (f : Follower),
    let e := entered opMotGearRegear m s
    accepted opMotGearRegear 0 m s → followerOf e m.handle = some f → m.u 1 1 = 2 → m.u 8 4 ≠ 0 →
    (gearOf e f).st ≠ .geared →
    exec (.motGearRegear m) s = .next (underWay opMotGearRegear m
      (modFollower f (fun g => { g with regear := some (m.i 4 4, m.u 8 4, m.i 12 6) }) e))) ∧
  (∀ (m : Cmd) (s : State) (f : Follower),
    let e := entered opMotGearRegear m s
    accepted opMotGearRegear 0 m s → followerOf e m.handle = some f → (gearOf e f).st = .geared →
    exec (.motGearRegear m) s = .next (respond 0x0404 m .range [] e)) ∧
  (∀ (m : Cmd) (s : State) (f : Follower),
    let e := entered opMotRatio m s
    let g := gearOf e f
    let r : RatioChg := { num := m.i 4 4, den := m.u 8 4, xs := m.i 12 6, d := m.u 20 4 }
    let q := sortBy (g.queue ++ [r]) fun a b => decide (a.xs ≤ b.xs)
    accepted opMotRatio 0 m s → followerOf e m.handle = some f → g.queue.length < 4 →
    (∀ c ∈ g.queue, c.stop ≤ r.xs ∨ r.stop < c.xs) → (∀ c v, g.blend = some (c, v) → c.stop ≤ r.xs) → r.den ≠ 0 →
    ((r.d = 0 ∧ e.gov.speed = 0) ∨ (32 ≤ r.d ∧ r.d ≤ 16777215)) → newelLines e ≤ (r.xs : Rat) →
    accelOk e f (ratioBefore g) (ratioOf r.num r.den) r.d = true →
    answersOk opMotRatio m (exec (.motRatio m) s) (leBytes 1 ((q.findIdx? fun x => x == r).getD 0))
      (modFollower f (fun g => { g with queue := q }) e)) ∧
  (∀ (m : Cmd) (s : State) (f : Follower),
    let e := entered opMotRatio m s
    accepted opMotRatio 0 m s → followerOf e m.handle = some f → 4 ≤ (gearOf e f).queue.length →
    exec (.motRatio m) s = .next (respond 0x0405 m .refusedFull [] e)) ∧
  (∀ (m : Cmd) (s : State) (f : Follower),
    let e := entered opMotRatioCancel m s
    accepted opMotRatioCancel 0 m s → followerOf e m.handle = some f → (∃ r ∈ (gearOf e f).queue, r.xs = m.i 2 6) →
    answersOk opMotRatioCancel m (exec (.motRatioCancel m) s) []
      (modFollower f (fun g => { g with queue := g.queue.filter fun r => r.xs != m.i 2 6 }) e)) ∧
  (∀ (m : Cmd) (s : State) (f : Follower) (r : RatioChg) (v : Int),
    let e := entered opMotRatioCancel m s
    accepted opMotRatioCancel 0 m s → followerOf e m.handle = some f → (∀ c ∈ (gearOf e f).queue, c.xs ≠ m.i 2 6) →
    (gearOf e f).blend = some (r, v) → r.xs = m.i 2 6 →
    exec (.motRatioCancel m) s = .next (respond 0x0406 m .conflict [] e)) ∧
  (∀ (m : Cmd) (s : State) (f : Follower),
    let e := entered opMotPhase m s
    accepted opMotPhase 0 m s → followerOf e m.handle = some f → 32 ≤ m.u 14 2 →
    answersOk opMotPhase m (exec (.motPhase m) s) []
      (modFollower f (fun g => g.setPhase (m.i 4 4) (m.i 8 6) (m.u 14 2)) e))

/-- MOT_HOME and MOT_MOVE start on a FREE axis; MOT_SOL_FIRE fires or releases a ready solenoid or is denied by the
overlap rule (R222, R262, R263, R404). -/
def Obligations.AxisAndSolenoidCommandsComplete : Prop :=
  (∀ (m : Cmd) (s : State) (a : Nat),
    let e := entered opMotHome m s
    let ph := if inputLevel e (e.cfgGet 0x09 a 60 2) then HomeStep.backoff else .fast
    accepted opMotHome 0 m s → followerOf e m.handle = some (.axis a) → (e.axis a).gear.st = .free →
    exec (.motHome m) s = .next (underWay opMotHome m (modAxis a (fun x =>
      { x with homed := false, home := ph, homeDiv := 1, homeTravel := 0, move := none }) e))) ∧
  (∀ (m : Cmd) (s : State) (a : Nat),
    let e := entered opMotHome m s
    accepted opMotHome 0 m s → followerOf e m.handle = some (.axis a) → (e.axis a).gear.st ≠ .free →
    exec (.motHome m) s = .next (respond 0x0403 m .conflict [] e)) ∧
  (∀ (m : Cmd) (s : State) (a : Nat),
    let e := entered opMotMove m s
    let t := if m.u 1 1 = 1 then (e.axis a).gear.cmd / 65536 + m.i 4 4 else m.i 4 4
    accepted opMotMove 0 m s → followerOf e m.handle = some (.axis a) → (e.axis a).gear.st = .free → m.u 8 4 ≠ 0 →
    (m.u 1 1 = 1 ∨ (m.u 1 1 = 0 ∧ (e.axis a).homed = true)) →
    exec (.motMove m) s = .next (underWay opMotMove m (modAxis a (fun x => { x with move := some (t, m.u 8 4) }) e))) ∧
  (∀ (m : Cmd) (s : State) (a : Nat),
    let e := entered opMotMove m s
    accepted opMotMove 0 m s → followerOf e m.handle = some (.axis a) → (e.axis a).gear.st ≠ .free → m.u 8 4 ≠ 0 →
    m.u 1 1 ≤ 1 → exec (.motMove m) s = .next (respond 0x0408 m .conflict [] e)) ∧
  (∀ (m : Cmd) (s : State) (k : Nat),
    let e := entered opMotSolFire m s
    accepted opMotSolFire 0 m s → e.cfg.cur.rank 0x0C m.handle = some k → e.cfg.cur.typeOf m.handle = 0x0C →
    m.u 1 1 = 1 → (liveOf e (hIndex m.handle)).st = .ready →
    answersOk opMotSolFire m (exec (.motSolFire m) s) [] (releaseSol k (16 * (e.ring.cyc + 1)) e)) ∧
  (∀ (m : Cmd) (s : State) (k : Nat),
    let e := entered opMotSolFire m s
    let t := 16 * (e.ring.cyc + 1)
    let stop := t + 100 * e.cfgGet 0x0D k 6 2 + 1000 * m.u 2 2
    accepted opMotSolFire 0 m s → e.cfg.cur.rank 0x0C m.handle = some k → e.cfg.cur.typeOf m.handle = 0x0C →
    m.u 1 1 = 0 → 1 ≤ m.u 2 2 → m.u 2 2 ≤ 10000 → (liveOf e (hIndex m.handle)).st = .ready → (e.sol k).holdEnd ≤ t →
    e.cfgGet 0x0D k 3 1 = 0xFF →
    answersOk opMotSolFire m (exec (.motSolFire m) s) [] ((e.modSols fun l => kvMod {} l k fun x =>
      { x with start := t, holdEnd := stop, tag := m.tag.toNat }).modOutbox (· ++ [.solenoid k t stop]))) ∧
  (∀ (m : Cmd) (s : State) (k : Nat),
    let e := entered opMotSolFire m s
    accepted opMotSolFire 0 m s → e.cfg.cur.rank 0x0C m.handle = some k → e.cfg.cur.typeOf m.handle = 0x0C →
    m.u 1 1 = 0 → 1 ≤ m.u 2 2 → m.u 2 2 ≤ 10000 → (e.sol k).holdEnd ≤ 16 * (e.ring.cyc + 1) →
    fireAt e k (16 * (e.ring.cyc + 1)) (1000 * m.u 2 2) = none →
    exec (.motSolFire m) s = .next (respond 0x040C m .overlapDenied [] e))

/-- MOT_LOOP_MODE, MOT_LOOP_TARGET and MOT_LOOP_SWITCH act on their slot alone; loop timeouts raise their fault once
(R274, R276, R277, R279, R280, R281). -/
def Obligations.LoopCommandsComplete : Prop :=
  (∀ (m : Cmd) (s : State) (k : Nat) (md : LoopMode),
    let e := entered opMotLoopMode m s
    let v : F32 := BitVec.ofNat 32 (m.u 4 4)
    accepted opMotLoopMode 0 m s → cmdSlot m e = some k → loopModeOf (m.u 1 1) = some md → f32Finite v = true →
    (md = .cascade → (outerOf e.cfg.cur k).isSome = true) →
    answersOk opMotLoopMode m (exec (.motLoopMode m) s) [] (modLoop k (fun x => { x with
      mode := md, manual := if md = .manual then v else x.manual, preset := x.preset || x.mode != md }) e)) ∧
  (∀ (m : Cmd) (s : State) (k : Nat),
    let e := entered opMotLoopTarget m s
    accepted opMotLoopTarget 0 m s → cmdSlot m e = some k → q16 (e.cfgGet 0x0B k 32 4) ≤ q16 (m.u 4 4) →
    q16 (m.u 4 4) ≤ q16 (e.cfgGet 0x0B k 36 4) →
    answersOk opMotLoopTarget m (exec (.motLoopTarget m) s) [] (modLoop k (fun x => { x with target := some (m.u 4 4) }) e)) ∧
  (∀ (m : Cmd) (s : State) (k : Nat),
    let e := entered opMotLoopTarget m s
    accepted opMotLoopTarget 0 m s → cmdSlot m e = some k → q16 (e.cfgGet 0x0B k 36 4) < q16 (m.u 4 4) →
    exec (.motLoopTarget m) s = .next (respond 0x040A m .range [] e)) ∧
  (∀ (m : Cmd) (s : State) (k j : Nat),
    let e := entered opMotLoopSwitch m s
    accepted opMotLoopSwitch 0 m s → checkHandle e e.cfg.cur (m.h 2) = none → cmdSlot m e = some k →
    slotAt e.cfg.cur (m.h 2) (m.u 1 1) = some j → e.cfgGet 0x0B k 8 1 ≠ 0 →
    e.cfgGet 0x0B k 8 4 = e.cfgGet 0x0B j 8 4 → inputValid e j = true →
    answersOk opMotLoopSwitch m (exec (.motLoopSwitch m) s) [] (takeOwner j e)) ∧
  (∀ (m : Cmd) (s : State) (k j : Nat),
    let e := entered opMotLoopSwitch m s
    accepted opMotLoopSwitch 0 m s → checkHandle e e.cfg.cur (m.h 2) = none → cmdSlot m e = some k →
    slotAt e.cfg.cur (m.h 2) (m.u 1 1) = some j → e.cfgGet 0x0B k 8 4 ≠ e.cfgGet 0x0B j 8 4 →
    exec (.motLoopSwitch m) s = .next (respond 0x040B m .conflict [] e)) ∧
  (∀ (k : Nat) (s : State), (s.loop k).feRun = true → (s.loop k).on = true → s.cfgGet 0x0B k 0 1 ≠ 4 →
    let c := slotChannel s k
    exec (.loopFollowingTimeout k) s = .next (raiseAs (if (s.cfgGet 0x0B k 2 1).testBit 0 then 3 else 2) 0 0x1401 c.1 c.2 k
      (modLoop k (fun x => { x with feRun := false }) s))) ∧
  (∀ (k : Nat) (s : State), (s.loop k).on = true → inputValid s k = false → s.mbx.waiters = [] →
    let c := slotChannel s k
    exec (.loopInputHoldTimeout k) s = .next (raise 0x1402 c.1 c.2 k s)) ∧
  (∀ (k : Nat) (s : State), (s.loop k).on = true → ((s.loop k).satHi = true ∨ (s.loop k).satLo = true) →
    ((s.loop k).mode = .auto ∨ (s.loop k).mode = .cascade) →
    let c := slotChannel s k
    exec (.loopSaturated k) s =
      .next (note 0x1404 c.1 c.2 (modLoop k (fun x => { x with satCount := min 255 (x.satCount + 1) }) s)))

/-- MNT_START, MNT_STOP and MNT_STATUS, and the start, end, count tick and quiet-window timeout of an activity (R406,
R407, R408, R409). -/
def Obligations.MaintenanceCommandsComplete : Prop :=
  (∀ (m : Cmd) (s : State),
    let e := entered opMntStart m s
    let k := m.u 1 1
    accepted opMntStart 0 m s → scopeOk e k m.handle = true → clashes e k m.handle false = false →
    actRuns e k m.handle = false → (actOf e k m.handle).wanted = false → m.u 2 1 ≤ 1 → (k = 1 ∨ k = 8) →
    answersOk opMntStart m (exec (.mntStart m) s) [] (startAct k m.handle e)) ∧
  (∀ (m : Cmd) (s : State),
    let e := entered opMntStart m s
    let k := m.u 1 1
    accepted opMntStart 0 m s → scopeOk e k m.handle = true → clashes e k m.handle false = false →
    actRuns e k m.handle = false → (actOf e k m.handle).wanted = false → m.u 2 1 ≤ 1 → k ≠ 1 → k ≠ 8 →
    (scopeType k = 3 ∨ e.land.mode = .thread) → quiet e k m.handle = true →
    exec (.mntStart m) s = .next (underWay opMntStart m (startAct k m.handle e))) ∧
  (∀ (m : Cmd) (s : State),
    let e := entered opMntStart m s
    let k := m.u 1 1
    let w := modAct k m.handle (fun x => { x with wanted := true }) e
    accepted opMntStart 0 m s → scopeOk e k m.handle = true → clashes e k m.handle false = false →
    actRuns e k m.handle = false → (actOf e k m.handle).wanted = false → m.u 2 1 ≤ 1 → k ≠ 1 → k ≠ 8 →
    (scopeType k = 3 ∨ e.land.mode = .thread) → quiet e k m.handle = false →
    exec (.mntStart m) s = .next (underWay opMntStart m (if m.u 2 1 = 1 then askGap k m.handle w else w))) ∧
  (∀ (m : Cmd) (s : State),
    let e := entered opMntStart m s
    accepted opMntStart 0 m s → scopeOk e (m.u 1 1) m.handle = true → clashes e (m.u 1 1) m.handle false = true →
    exec (.mntStart m) s = .next (respond 0x0501 m .conflict [] e)) ∧
  (∀ (m : Cmd) (s : State),
    let e := entered opMntStop m s
    let k := m.u 1 1
    let t := modAct k m.handle (fun x => { x with running := false, stopped := k == 1 || k == 8 })
      (stopEffect k m.handle e)
    accepted opMntStop 0 m s → scopeOk e k m.handle = true → actRuns e k m.handle = true →
    answersOk opMntStop m (exec (.mntStop m) s) [] (finish (mntWaits k m.handle) .ok [] t)) ∧
  (∀ (m : Cmd) (s : State),
    let e := entered opMntStop m s
    accepted opMntStop 0 m s → actRuns e (m.u 1 1) m.handle = false →
    exec (.mntStop m) s = .next (respond 0x0502 m .conflict [] e)) ∧
  (∀ (m : Cmd) (s : State),
    let e := entered opMntStatus m s
    let x := actOf e (m.u 1 1) m.handle
    accepted opMntStatus 0 m s → scopeOk e (m.u 1 1) m.handle = true →
    answersOk opMntStatus m (exec (.mntStatus m) s)
      (leBytes 1 (actState e (m.u 1 1) m.handle) ++ [0#8, 0#8, 0#8] ++ leBytes 4 x.count ++ leBytes 5 x.doneSec) e) ∧
  (∀ (k : Nat) (h : Handle) (s : State), scopeOk s k h = true → actRuns s k h = false → (actOf s k h).wanted = true →
    quiet s k h = true → clashes s k h false = false → exec (.maintenanceStart k h) s = .next (startAct k h s)) ∧
  (∀ (k : Nat) (h : Handle) (pass : Bool) (g : List Nat) (a : Nat) (o : Int) (s : State),
    scopeOk s k h = true → actRuns s k h = true → k ≠ 1 → k ≠ 7 → k ≠ 8 →
    exec (.maintenanceComplete k h pass g a o) s = .next (endAct k h pass (endEffect k h pass g a o s))) ∧
  (∀ (k : Nat) (h : Handle) (s : State), (k = 2 ∨ k = 8) → scopeOk s k h = true →
    exec (.maintenanceCountTick k h) s = .next (if k = 8 then scrubNext (bumpAct k h s) else bumpAct k h s)) ∧
  (∀ (k : Nat) (h : Handle) (s : State), (actOf s k h).wanted = true →
    exec (.quietWindowTimeout k h) s =
      .next (finish (mntWaits k h) .timeout [] (modAct k h (fun x => { x with wanted := false }) s)))

/-- MNT_FAULT_ACK, MNT_RETURN, MNT_INTLK_RELEASE and MNT_SPOOL_FORMAT (R129, R184, R324, R329, R334). -/
def Obligations.ServiceCommandsComplete : Prop :=
  (∀ (m : Cmd) (s : State) (r : FRec),
    let e := entered opMntFaultAck m s
    let t := e.modFaults fun f => { f with recs := kvSet f.recs (m.u 0 1) { r with acked := true } }
    let t := if r.handle = 0#16 then t.modLand fun l => { l with ledgerLostAck := true } else t
    accepted opMntFaultAck 0 m s → kvFind e.faults.recs (m.u 0 1) = some r → r.isOpen = true → r.code = m.u 2 2 →
    classOf r.code = 3 →
    answersOk opMntFaultAck m (exec (.mntFaultAck m) s) [] (closeIfCleared (m.u 0 1) (leaveAllHot t))) ∧
  (∀ (m : Cmd) (s : State) (r : FRec),
    let e := entered opMntFaultAck m s
    accepted opMntFaultAck 0 m s → kvFind e.faults.recs (m.u 0 1) = some r → classOf r.code ≠ 3 →
    exec (.mntFaultAck m) s = .next (respond 0x0504 m .range [] e)) ∧
  (∀ (m : Cmd) (s : State),
    let e := entered opMntReturn m s
    accepted opMntReturn 2 m s → ownPath e m.handle m.sel = false → channelRetired e m.handle m.sel = true →
    channelHeld e m.handle = false → (∀ w ∈ s.mbx.waiters, w.op ≠ 0x0505) →
    exec (.mntReturn m) s = .next (returnTest m.handle m.sel (underWay opMntReturn m e))) ∧
  (∀ (m : Cmd) (s : State),
    let e := entered opMntReturn m s
    accepted opMntReturn 2 m s → channelRetired e m.handle m.sel = false → (∀ w ∈ s.mbx.waiters, w.op ≠ 0x0505) →
    exec (.mntReturn m) s = .next (respond 0x0505 m .conflict [] e)) ∧
  (∀ (m : Cmd) (s : State),
    let e := entered opMntIntlkRelease m s
    let w := BitVec.ofNat 8 (m.u 0 1)
    accepted opMntIntlkRelease 3 m s → w &&& e.intlk.low = 0#8 →
    (e.intlk.latched &&& ~~~w ≠ 0#8 ∨ e.intlk.low ≠ 0#8 ∨ e.intlk.closedBy = 0#8) →
    answersOk opMntIntlkRelease m (exec (.mntIntlkRelease m) s) []
      (e.modIntlk fun x => { x with latched := x.latched &&& ~~~w })) ∧
  (∀ (m : Cmd) (s : State),
    let e := entered opMntIntlkRelease m s
    accepted opMntIntlkRelease 3 m s → BitVec.ofNat 8 (m.u 0 1) &&& e.intlk.low ≠ 0#8 →
    exec (.mntIntlkRelease m) s = .next (respond 0x0506 m .conflict [] e)) ∧
  (∀ (m : Cmd) (s : State),
    let need := if regionUnacked (startCmd opMntSpoolFormat.op m s) then 1 else 2
    let e := entered opMntSpoolFormat m s
    let key := BitVec.ofNat 512 (Config.free (e.free + 1))
    accepted opMntSpoolFormat need m s → m.u 0 4 = 0x5120 → formatMembers e ≠ [] → noFlights e = true →
    e.spool.fmt = 0 → 2 ≤ (formatSuper e (formatMembers e) 0 0#512).dirPages →
    ∃ t, exec (.mntSpoolFormat m) s = .next (underWay opMntSpoolFormat m t) ∧ t.spool.fmt = 1 ∧
      t.spool.state = .absent ∧ t.spool.dir = [] ∧ t.spool.descs = [] ∧ t.spool.xtsKey = key ∧
      t.spool.sb = formatSuper e (formatMembers e) (Config.free e.free) key ∧
      t.spool.sb.spoolId = Config.free e.free % 2 ^ 128 ∧
      t = { e with spool := t.spool, ingest := t.ingest, outbox := t.outbox, free := e.free + 2 }) ∧
  (∀ (m : Cmd) (s : State),
    let need := if regionUnacked (startCmd opMntSpoolFormat.op m s) then 1 else 2
    let e := entered opMntSpoolFormat m s
    accepted opMntSpoolFormat need m s → noFlights e = true → e.spool.fmt = 0 →
    (m.u 0 4 ≠ 0x5120 ∨ formatMembers e = [] ∨ (formatSuper e (formatMembers e) 0 0#512).dirPages < 2) →
    exec (.mntSpoolFormat m) s = .next (respond 0x0507 m .range [] e)) ∧
  (∀ (m : Cmd) (s : State),
    let need := if regionUnacked (startCmd opMntSpoolFormat.op m s) then 1 else 2
    let e := entered opMntSpoolFormat m s
    accepted opMntSpoolFormat need m s → (noFlights e = false ∨ e.spool.fmt ≠ 0) →
    exec (.mntSpoolFormat m) s = .next (respond 0x0507 m .busy [] e))

/-- AUTH_CHALLENGE, AUTH_TICKET and the token path: a verified ticket makes a grant, any other a denial; expiries clear
what they name (R374, R375, R432). -/
def Obligations.TicketsCreateGrantsOrDenials : Prop :=
  (∀ (m : Cmd) (s : State),
    let e := entered opAuthChallenge m s
    let c := Config.free e.free % 2 ^ 256
    accepted opAuthChallenge 0 m s →
    answersOk opAuthChallenge m (exec (.authChallenge m) s) (challengeBytes c ++ leBytes 8 Config.deviceSerial.toNat)
      ((e.modFree (· + 1)).modAuth fun a => { a with challenge := some c })) ∧
  (∀ (m : Cmd) (s : State) (c : Nat) (x : Key),
    let e := entered opAuthTicket m s
    let k : Ticket :=
      { role := m.u 32 1, key := m.u 33 1, op := m.u 34 2, args := m.u 36 8, r := beNat (m.bytes 0 32),
        t := beNat (m.bytes 48 32) }
    let ok := Config.ecdsaVerify x.pub (Config.sha256 (k.message c)).toNat k.r k.t
    let u := e.modAuth fun a => { a with challenge := none }
    accepted opAuthTicket 0 m s → e.auth.backoff = none → e.auth.challenge = some c → keyOf e k.role k.key = some x →
    galFull e.gal = false →
    exec (.authTicket m) s = .next (
      if ok then
        respond 0x0802 m .ok [] (galFlush ((galWrite 0x30 0#16 0 0 k.tail u).modAuth fun a =>
          { a with grant := some { role := k.role, op := k.op, args := k.args } }))
      else respond 0x0802 m .notAuthorised [3#8] (deny 3 k u))) ∧
  (∀ (m : Cmd) (s : State) (b : Nat),
    let e := entered opAuthTicket m s
    accepted opAuthTicket 0 m s → e.auth.backoff = some b →
    exec (.authTicket m) s = .next (respond 0x0802 m .busy [] e)) ∧
  (∀ (why : Nat) (k : Ticket) (s : State),
    let u := note 0x1701 0#16 0 (galWrite 0x31 0#16 0 why k.tail s)
    let ds := (u.auth.denials.filter fun t => decide (s.clk.opSec < t + 60)) ++ [s.clk.opSec]
    let v := u.modAuth fun a => { a with denials := ds }
    deny why k s = if 3 ≤ ds.length then note 0x1702 0#16 0 (v.modAuth fun a => { a with backoff := some s.clk.opSec }) else v) ∧
  (∀ (m : Cmd) (s : State) (c : Nat),
    let e := entered opAuthTokenSign m s
    accepted opAuthTokenSign 0 m s → e.auth.backoff = none → e.auth.signing = none → e.panel.token = true →
    e.auth.challenge = some c →
    exec (.authTokenSign m) s = .next (underWay opAuthTokenSign m ((e.modAuth fun a => { a with signing := some m }).modOutbox
      (· ++ [.apdu (signApdu c (tokenTicket m 0 0))])))) ∧
  (∀ (r t : Nat) (m : Cmd) (s : State), s.auth.signing = some m → s.panel.token = true → s.auth.backoff = none →
    exec (.tokenSignatureResponse r t 0x9000) s =
      .next (signEnds (present (tokenTicket m r t) s).1 (present (tokenTicket m r t) s).2.1
        (present (tokenTicket m r t) s).2.2)) ∧
  (∀ (r t sw : Nat) (m : Cmd) (s : State), s.auth.signing = some m → s.panel.token = true → sw ≠ 0x9000 →
    exec (.tokenSignatureResponse r t sw) s = .next (signEnds .notAuthorised [] s)) ∧
  (∀ s : State, exec .tokenSignTimeout s =
    .next (finish (waitingOp 0x0809) .timeout [] (s.modAuth fun a => { a with signing := none }))) ∧
  (∀ s : State, exec .challengeExpiry s = .next { s with auth := { s.auth with challenge := none } }) ∧
  (∀ s : State, exec .grantExpiry s = .next { s with auth := { s.auth with grant := none } }) ∧
  (∀ s : State, exec .authBackoffEnd s = .next { s with auth := { s.auth with backoff := none, denials := [] } })

/-- AUTH_KEY_INSTALL, AUTH_KEY_REMOVE, AUTH_DIGEST_ADD, AUTH_DIGEST_REMOVE, AUTH_DIGEST_CLEAR and AUTH_STATUS (R372,
R373, R378, R411). -/
def Obligations.KeysAndDigestsComplete : Prop :=
  (∀ (m : Cmd) (s : State),
    let e := entered opAuthKeyInstall m s
    let need := if firstKey (m.u 0 1) (startCmd opAuthKeyInstall.op m s) then 0 else keyNeed (m.u 0 1)
    let k : Key := { role := m.u 0 1, index := m.u 1 1, ident := m.u 8 8, pub := m.u 16 64 }
    accepted opAuthKeyInstall need m s → k.index < roleSize k.role → firstKey k.role e = false →
    roleKeys e k.role < roleSize k.role → keyOf e k.role k.index = none →
    answersOk opAuthKeyInstall m (exec (.authKeyInstall m) s) []
      (keyChange k.role k.index 0 k.ident (e.modAuth fun a => { a with keys := a.keys ++ [k] }))) ∧
  (∀ (m : Cmd) (s : State) (k : Key),
    let e := entered opAuthKeyInstall m s
    let need := if firstKey (m.u 0 1) (startCmd opAuthKeyInstall.op m s) then 0 else keyNeed (m.u 0 1)
    accepted opAuthKeyInstall need m s → m.u 1 1 < roleSize (m.u 0 1) → firstKey (m.u 0 1) e = false →
    roleKeys e (m.u 0 1) < roleSize (m.u 0 1) → keyOf e (m.u 0 1) (m.u 1 1) = some k →
    exec (.authKeyInstall m) s = .next (respond 0x0803 m .conflict [] e)) ∧
  (∀ (m : Cmd) (s : State) (k : Key),
    let e := entered opAuthKeyRemove m s
    accepted opAuthKeyRemove (keyNeed (m.u 0 1)) m s → keyOf e (m.u 0 1) (m.u 1 1) = some k →
    (m.u 0 1 ≠ 1 ∨ roleKeys e 1 ≠ 1) →
    answersOk opAuthKeyRemove m (exec (.authKeyRemove m) s) [] (keyChange (m.u 0 1) (m.u 1 1) 1 k.ident
      (e.modAuth fun a => { a with keys := a.keys.filter fun x => !(x.role == m.u 0 1 && x.index == m.u 1 1) }))) ∧
  (∀ (m : Cmd) (s : State) (k : Key),
    let e := entered opAuthKeyRemove m s
    accepted opAuthKeyRemove 1 m s → m.u 0 1 = 1 → keyOf e 1 (m.u 1 1) = some k → roleKeys e 1 = 1 →
    exec (.authKeyRemove m) s = .next (respond 0x0804 m .conflict [] e)) ∧
  (∀ (m : Cmd) (s : State),
    let e := entered opAuthDigestAdd m s
    let l := e.auth.digests ++ [cmdDigest m]
    accepted opAuthDigestAdd 1 m s → cmdDigest m ∉ e.auth.digests → e.auth.digests.length < 16 → bootable e l = true →
    answersOk opAuthDigestAdd m (exec (.authDigestAdd m) s) [] (putDigests l e) ∧ (putDigests l e).auth.digests = l) ∧
  (∀ (m : Cmd) (s : State),
    let e := entered opAuthDigestAdd m s
    accepted opAuthDigestAdd 1 m s → cmdDigest m ∈ e.auth.digests →
    exec (.authDigestAdd m) s = .next (respond 0x0805 m .conflict [] e)) ∧
  (∀ (m : Cmd) (s : State),
    let e := entered opAuthDigestAdd m s
    accepted opAuthDigestAdd 1 m s → cmdDigest m ∉ e.auth.digests → 16 ≤ e.auth.digests.length →
    exec (.authDigestAdd m) s = .next (respond 0x0805 m .refusedFull [] e)) ∧
  (∀ (m : Cmd) (s : State),
    let e := entered opAuthDigestRemove m s
    let l := e.auth.digests.filter (· != cmdDigest m)
    accepted opAuthDigestRemove 1 m s → cmdDigest m ∈ e.auth.digests → e.auth.digests.length ≠ 1 → bootable e l = true →
    answersOk opAuthDigestRemove m (exec (.authDigestRemove m) s) [] (putDigests l e)) ∧
  (∀ (m : Cmd) (s : State),
    let e := entered opAuthDigestClear m s
    accepted opAuthDigestClear 1 m s →
    answersOk opAuthDigestClear m (exec (.authDigestClear m) s) [] (putDigests [] e) ∧
      (putDigests [] e).auth.digests = []) ∧
  (∀ (m : Cmd) (s : State),
    let e := entered opAuthStatus m s
    let left := match e.auth.backoff with | some t => 60 - (e.clk.opSec - t) | none => 0
    let keys := fun r => leBytes 1 (e.auth.keys.filter fun k => k.role == r).length
    accepted opAuthStatus 0 m s →
    answersOk opAuthStatus m (exec (.authStatus m) s) ([if e.auth.commissioning then 1#8 else 0#8] ++
      leBytes 1 e.auth.digests.length ++ keys 1 ++ keys 2 ++ keys 3 ++
      [if e.auth.grant.isSome then 1#8 else 0#8] ++ leBytes 2 left) e)

/-- CAL_WRITE, CAL_COMMIT, CAL_READ, CAL_ABORT and CAL_HEAD_CLEAR act on the calibration store; the store write moves
the valid slot (R205, R412). -/
def Obligations.CalibrationCommandsComplete : Prop :=
  (∀ (m : Cmd) (s : State) (n : Nat),
    let e := entered opCalWrite m s
    let b := overlay (stagedObj e n (m.u 1 1)) (m.u 4 4) (m.bytes 16 (m.u 8 2))
    accepted opCalWrite 0 m s → calStation m e = some n → 1 ≤ m.u 1 1 → m.u 1 1 ≤ 6 → 1 ≤ m.u 8 2 → m.u 8 2 ≤ 176 →
    m.u 4 4 + m.u 8 2 ≤ objSize (m.u 1 1) →
    ((m.u 1 1 ≠ 2 ∨ fieldAt b 2 2 = 0) → answersOk opCalWrite m (exec (.calWrite m) s) []
      (e.modCal fun c => { c with staging := kvMod [] c.staging n fun x => kvSet x (m.u 1 1) b })) ∧
    (m.u 1 1 = 2 → fieldAt b 2 2 ≠ 0 → exec (.calWrite m) s = .next (respond 0x0901 m .range [] e))) ∧
  (∀ (m : Cmd) (s : State) (n : Nat),
    let e := entered opCalCommit m s
    let os := commitObjs e n
    accepted opCalCommit 2 m s → calStation m e = some n → os ≠ [] →
    m.bytes 16 32 = digestBytes (Config.sha256 (os.flatMap fun p => p.2)).toNat → commitOk e n os = true →
    exec (.calCommit m) s = .next (underWay opCalCommit m
      (e.modCal fun c => { c with staging := kvDel c.staging n, committed := kvSet c.committed n os }))) ∧
  (∀ (m : Cmd) (s : State) (n : Nat),
    let e := entered opCalCommit m s
    accepted opCalCommit 2 m s → calStation m e = some n → commitObjs e n = [] →
    exec (.calCommit m) s = .next (respond 0x0902 m .conflict [] e)) ∧
  (∀ (m : Cmd) (s : State) (n : Nat),
    let e := entered opCalRead m s
    let b := if m.u 1 1 = 8 then fittedList e n else (kvGet ({} : CalSt) e.cal.inst n).obj (m.u 1 1)
    accepted opCalRead 0 m s → calStation m e = some n → 1 ≤ m.u 1 1 → m.u 1 1 ≤ 8 → m.u 4 4 + m.u 8 2 ≤ b.length →
    answersOk opCalRead m (exec (.calRead m) s) ((b.drop (m.u 4 4)).take (m.u 8 2)) e) ∧
  (∀ (m : Cmd) (s : State) (n : Nat),
    let e := entered opCalAbort m s
    accepted opCalAbort 0 m s → calStation m e = some n →
    answersOk opCalAbort m (exec (.calAbort m) s) [] (e.modCal fun c => { c with staging := kvDel c.staging n })) ∧
  (∀ (m : Cmd) (s : State) (p : Nat × BitVec 36),
    let e := entered opCalHeadClear m s
    let back := p.2 &&& BitVec.ofNat 36 (m.u 16 5)
    let ls := e.cal.lists.map fun q => if q.1 = m.u 8 8 then (q.1, q.2 &&& ~~~back) else q
    accepted opCalHeadClear 2 m s → hIndex m.handle = 0 → (e.cal.lists.find? fun p => p.1 == m.u 8 8) = some p →
    answersOk opCalHeadClear m (exec (.calHeadClear m) s) [] (listRecord (m.u 8 8) back 1 (returnEmitters (m.u 8 8) back
      (requestStore (e.modCal fun c => { c with lists := ls }))))) ∧
  (∀ (m : Cmd) (s : State),
    let e := entered opCalHeadClear m s
    accepted opCalHeadClear 2 m s → hIndex m.handle = 0 → (∀ p ∈ e.cal.lists, p.1 ≠ m.u 8 8) →
    exec (.calHeadClear m) s = .next (respond 0x0905 m .range [] e)) ∧
  (∀ s : State, s.cal.writing = true → s.cal.again = false →
    ∃ t, exec .calStoreWriteComplete s = .next (causeGone 0#16 0x1807 t) ∧ t.cal.writing = false ∧
      t.cal.seqNo = s.cal.seqNo + 1 ∧ t.cal.slotIsB = !s.cal.slotIsB ∧
      (if s.cal.slotIsB then t.cal.aValid else t.cal.bValid) = true ∧
      (if s.cal.slotIsB then t.cal.bValid = s.cal.bValid else t.cal.aValid = s.cal.aValid) ∧
      t = { s with cal := t.cal })

/-- PWR_STATUS and PWR_LOG_READ change nothing; PWR_UP, PWR_DOWN and PWR_RAIL_RESTART start a sequence; PWR_RESET
answers before the reset (R304, R305, R306, R310, R311, R413). -/
def Obligations.PowerCommandsComplete : Prop :=
  (∀ (m : Cmd) (s : State) (r : Nat),
    let e := entered opPwrStatus m s
    accepted opPwrStatus 0 m s → railOf e m.handle = some r →
    answersOk opPwrStatus m (exec (.pwrStatus m) s)
      (leBytes 1 (e.rail r).st.code ++ [0#8] ++ leBytes 2 (e.rail r).mv ++ leBytes 2 (e.rail r).word) e) ∧
  (∀ (m : Cmd) (s : State) (x : PLog),
    let e := entered opPwrLogRead m s
    accepted opPwrLogRead 0 m s → e.power.log[m.u 0 1]? = some x →
    answersOk opPwrLogRead m (exec (.pwrLogRead m) s) x.bytes e) ∧
  (∀ (m : Cmd) (s : State),
    let e := entered opPwrLogRead m s
    accepted opPwrLogRead 0 m s → e.power.log.length ≤ m.u 0 1 →
    exec (.pwrLogRead m) s = .next (respond 0x0A05 m .range [] e)) ∧
  (∀ (m : Cmd) (s : State),
    let e := entered opPwrDown m s
    accepted opPwrDown 0 m s → noFlights e = true → e.gov.speed = 0 → e.gov.jog = 0 → e.power.seq ≠ .up →
    exec (.pwrDown m) s = .next (goDown (underWay opPwrDown m ((unmountSpool e).modPower fun p => { p with seq := .down })))) ∧
  (∀ (m : Cmd) (s : State),
    let e := entered opPwrDown m s
    accepted opPwrDown 0 m s → noFlights e = false →
    exec (.pwrDown m) s = .next (goDown (respond 0x0A03 m .conflict [] e))) ∧
  (∀ (m : Cmd) (s : State),
    let e := entered opPwrUp m s
    accepted opPwrUp 0 m s → e.power.seq = .none → exec (.pwrUp m) s = .next (startUp (underWay opPwrUp m e))) ∧
  (∀ (m : Cmd) (s : State),
    let e := entered opPwrUp m s
    accepted opPwrUp 0 m s → e.power.seq ≠ .none → exec (.pwrUp m) s = .next (respond 0x0A04 m .busy [] e)) ∧
  (∀ (m : Cmd) (s : State) (r : Nat),
    let e := entered opPwrRailRestart m s
    let failed := fun (s : State) q p => (s.rail p).st == .failed && p != q && railBelow s.cfg.cur 48 p q
    let d := setRail r .off (modRail r (fun x => { x with wanted := true, noAns := false }) e)
    accepted opPwrRailRestart 0 m s → railOf e m.handle = some r → (e.rail r).st = .failed → e.power.seq ≠ .down →
    (usedRails e).any (fun p => failed e r p) = false →
    exec (.pwrRailRestart m) s = .next (underWay opPwrRailRestart m
      (((railDependants d r).foldl
        (fun t q => if (t.rail q).st = .held ∧ (usedRails t).any (fun p => failed t q p) = false then
            setRail q .off (modRail q (fun x => { x with wanted := true }) t) else t) d).modPower fun p =>
        { p with seq := .up }))) ∧
  (∀ (m : Cmd) (s : State) (r : Nat),
    let e := entered opPwrRailRestart m s
    accepted opPwrRailRestart 0 m s → railOf e m.handle = some r → (e.rail r).st ≠ .failed →
    exec (.pwrRailRestart m) s = .next (respond 0x0A02 m .range [] e)) ∧
  (∀ (m : Cmd) (s : State),
    let e := entered opPwrReset m s
    accepted opPwrReset 0 m s → m.u 0 4 = 0x5120 →
    answersOk opPwrReset m (exec (.pwrReset m) s) [] ((unmountSpool e).modBoot fun b => { b with resetDue := true })) ∧
  (∀ s : State, s.boot.resetDue = true → exec .deviceReset s = .next (leaveReset (resetDevice s)))

/-- The DIAG_ commands answer from the state; only DIAG_NOTES with clear and DIAG_METER change any of it (R328, R330,
R413). -/
def Obligations.DiagnosticReadsComplete : Prop :=
  (∀ (m : Cmd) (s : State),
    let e := entered opDiagState m s
    accepted opDiagState 0 m s →
    answersOk opDiagState m (exec (.diagState m) s)
      (leBytes 1 (diagUnitState m e).rank ++ leBytes 1 (diagClass m e) ++ [0#8, 0#8] ++ leBytes 4 (diagWord m e)) e) ∧
  (∀ (m : Cmd) (s : State),
    let e := entered opDiagFaults m s
    let rs := (e.faults.recs.filter fun p => decide (m.u 0 1 ≤ p.1) && p.2.isOpen).take 5
    accepted opDiagFaults 0 m s →
    answersOk opDiagFaults m (exec (.diagFaults m) s)
      (leBytes 1 rs.length ++ List.replicate 15 0#8 ++ rs.flatMap fun p => p.2.bytes) e) ∧
  (∀ (m : Cmd) (s : State),
    let e := entered opDiagNotes m s
    let mine := fun (p : Nat × Nat × Nat) => m.u 2 2 == 0 || p.2.1 == m.u 2 2
    let t := if m.u 0 1 = 1 then e.modFaults fun f => { f with notes := f.notes.filter fun p => !mine p } else e
    accepted opDiagNotes 0 m s → m.u 0 1 ≤ 1 →
    answersOk opDiagNotes m (exec (.diagNotes m) s)
      ((e.faults.notes.filter mine).flatMap fun p => leBytes 2 p.2.1 ++ leBytes 2 p.2.2) t) ∧
  (∀ (m : Cmd) (s : State),
    let e := entered opDiagNotes m s
    accepted opDiagNotes 0 m s → 1 < m.u 0 1 → exec (.diagNotes m) s = .next (respond 0x0B03 m .range [] e)) ∧
  (∀ (m : Cmd) (s : State),
    let e := entered opDiagMeter m s
    accepted opDiagMeter 0 m s → e.clk.meterBusy = false → m.u 0 1 = 1 → meterOk (m.u 4 4) = true →
    exec (.diagMeter m) s = .next (underWay opDiagMeter m (e.modClk fun c =>
      { c with meterBusy := true, meterWord := BitVec.ofNat 32 (m.u 4 4) &&& 0x1FFFFFFF#32 }))) ∧
  (∀ (m : Cmd) (s : State),
    let e := entered opDiagMeter m s
    accepted opDiagMeter 0 m s → e.clk.meterBusy = true → exec (.diagMeter m) s = .next (respond 0x0B04 m .busy [] e)) ∧
  (∀ (m : Cmd) (s : State),
    let e := entered opDiagSpool m s
    let bw := fun k => leBytes 4 (match e.spool.members[k]? with | some x => x.bw | none => 0)
    accepted opDiagSpool 0 m s →
    answersOk opDiagSpool m (exec (.diagSpool m) s) (leBytes 1 e.spool.state.code ++ leBytes 1 e.spool.sb.width ++
      [0#8, 0#8] ++ (List.range 8).flatMap bw ++ leBytes 4 e.spool.scrubPos) e) ∧
  (∀ (m : Cmd) (s : State),
    let e := entered opDiagBoot m s
    accepted opDiagBoot 0 m s →
    answersOk opDiagBoot m (exec (.diagBoot m) s) (leBytes 4 (bootStatus e) ++ leBytes 4 Config.firmwareVersion.toNat ++
      List.replicate 8 0#8 ++ digestBytes e.boot.imageDigest) e)

/-- PAIR_STATUS, PAIR_HANDOVER, PAIR_RESYNC, PNL_LED, PNL_BUZZER and PNL_STATUS (R357, R413, R429, R430, R431). -/
def Obligations.PairAndPanelCommandsComplete : Prop :=
  (∀ (m : Cmd) (s : State),
    let e := entered opPairStatus m s
    accepted opPairStatus 0 m s →
    answersOk opPairStatus m (exec (.pairStatus m) s) (leBytes 4 (pairWord e) ++ leBytes 4 e.pair.peerVer) e) ∧
  (∀ (m : Cmd) (s : State),
    let e := entered opPairHandover m s
    accepted opPairHandover 2 m s → pairEn e = true → e.pair.claimOut = true → e.pair.peerSynced = true →
    e.pair.handover = false →
    exec (.pairHandover m) s = .next (underWay opPairHandover m (e.modPair fun p => { p with handover := true }))) ∧
  (∀ (m : Cmd) (s : State),
    let e := entered opPairHandover m s
    accepted opPairHandover 2 m s →
    (pairEn e = false ∨ e.pair.claimOut = false ∨ e.pair.peerSynced = false ∨ e.pair.handover = true) →
    exec (.pairHandover m) s = .next (respond 0x0C02 m .conflict [] e)) ∧
  (∀ (m : Cmd) (s : State),
    let e := entered opPairResync m s
    accepted opPairResync 0 m s → pairEn e = true → e.pair.claimOut = false →
    answersOk opPairResync m (exec (.pairResync m) s) [] (restartHello e)) ∧
  (∀ (m : Cmd) (s : State),
    let e := entered opPairResync m s
    accepted opPairResync 0 m s → (pairEn e = false ∨ e.pair.claimOut = true) →
    exec (.pairResync m) s = .next (respond 0x0C03 m .conflict [] e)) ∧
  (∀ (m : Cmd) (s : State),
    let e := entered opPnlLed m s
    accepted opPnlLed 0 m s →
    ∃ t, answersOk opPnlLed m (exec (.pnlLed m) s) [] t ∧ t.panel.bright = (m.bytes 0 16).map (·.toNat) ∧
      t.panel.blink = BitVec.ofNat 16 (m.u 16 2) ∧ t.panel.period = m.u 18 1 ∧ t = { e with panel := t.panel }) ∧
  (∀ (m : Cmd) (s : State),
    let e := entered opPnlBuzzer m s
    accepted opPnlBuzzer 0 m s → 100 ≤ m.u 0 2 → m.u 0 2 ≤ 8000 →
    answersOk opPnlBuzzer m (exec (.pnlBuzzer m) s) []
      (e.modPanel fun p => { p with buzz := if m.u 2 2 = 0 then 0 else m.u 0 2 })) ∧
  (∀ (m : Cmd) (s : State),
    let e := entered opPnlBuzzer m s
    accepted opPnlBuzzer 0 m s → (m.u 0 2 < 100 ∨ 8000 < m.u 0 2) →
    exec (.pnlBuzzer m) s = .next (respond 0x0D02 m .range [] e)) ∧
  (∀ s : State, exec .buzzerDurationEnd s = .next { s with panel := { s.panel with buzz := 0 } }) ∧
  (∀ (m : Cmd) (s : State),
    let e := entered opPnlStatus m s
    accepted opPnlStatus 0 m s →
    answersOk opPnlStatus m (exec (.pnlStatus m) s) (keyBytes e.panel.keys ++ [if e.panel.token then 1#8 else 0#8] ++
      [if e.panel.vbusOver then 1#8 else 0#8]) e)

/-- What a band datagram, a reassembly timeout and a credit tick do: discards, rejections, fragments and credit (R420,
R421, R422, R424, R427). -/
def Obligations.BandDatagramsFillStaging : Prop :=
  (∀ (lane : Nat) (bytes : List Byte) (s : State), s.mbx.live = true → ¬bandForm bytes →
    exec (.bandDatagram lane bytes) s = .next (note 0x0602 (hostH lane) 0 s)) ∧
  (∀ (lane : Nat) (bytes : List Byte) (s : State),
    let id := bandIdOf bytes
    let e := bandSeen lane s
    s.mbx.live = true → bandForm bytes → (∀ j ∈ s.jobs, j.id = id.job → j.live = false) →
    (∀ r ∈ s.ingest.rejSec, r.1 = id → r.2 < s.clk.opSec) →
    ∃ t, exec (.bandDatagram lane bytes) s = .next (bandEvent 0x8304 id 0x05 t) ∧
      (id, s.clk.opSec) ∈ t.ingest.rejSec ∧ t = { e with ingest := { e.ingest with rejSec := t.ingest.rejSec } }) ∧
  (∀ (lane : Nat) (bytes : List Byte) (s : State),
    let id := bandIdOf bytes
    s.mbx.live = true → bandForm bytes → (∀ j ∈ s.jobs, j.id = id.job → j.live = false) →
    (∃ r ∈ s.ingest.rejSec, r.1 = id ∧ s.clk.opSec ≤ r.2) →
    exec (.bandDatagram lane bytes) s = .next (bandSeen lane s)) ∧
  (∀ (lane : Nat) (bytes : List Byte) (j : Job) (s : State),
    s.mbx.live = true → bandForm bytes → (s.jobs.find? fun j => j.id == (bandIdOf bytes).job && j.live) = some j →
    (fieldAt bytes 5 1).testBit 0 ≠ j.encrypted →
    exec (.bandDatagram lane bytes) s = .next (note 0x0602 (hostH lane) 0 (bandSeen lane s))) ∧
  (∀ (lane : Nat) (bytes : List Byte) (j : Job) (s : State),
    s.mbx.live = true → bandForm bytes → (s.jobs.find? fun j => j.id == (bandIdOf bytes).job && j.live) = some j →
    (fieldAt bytes 5 1).testBit 0 = j.encrypted →
    exec (.bandDatagram lane bytes) s = .next (match bandBytes j bytes with
      | none => note 0x0603 (hostH lane) 0 (bandSeen lane s)
      | some data => bandFragment lane (bandIdOf bytes) (fieldAt bytes 20 4) (fieldAt bytes 24 4) (fieldAt bytes 28 4) data
          (bandSeen lane s))) ∧
  (∀ (lane : Nat) (bytes data : List Byte) (s : State),
    let id := bandIdOf bytes
    bandOpens bytes data s → (∀ x ∈ s.ingest.bands, x.id ≠ id) → 1044480 < fieldAt bytes 24 4 →
    exec (.bandDatagram lane bytes) s = .next (bandEvent 0x8304 id 0x0A (bandSeen lane s))) ∧
  (∀ (lane : Nat) (bytes data : List Byte) (s : State),
    let len := fieldAt bytes 24 4
    bandOpens bytes data s → (∀ x ∈ s.ingest.bands, x.id ≠ bandIdOf bytes) → len ≤ 1044480 →
    4194304 + s.ingest.returned < s.ingest.used + reserveOf len →
    exec (.bandDatagram lane bytes) s = .next (note 0x0604 (hostH lane) 0 (bandSeen lane s))) ∧
  (∀ (lane : Nat) (bytes data : List Byte) (s : State),
    let f := fieldAt bytes
    let len := f 24 4
    let id := bandIdOf bytes
    let e := bandSeen lane s
    bandOpens bytes data s → (∀ x ∈ s.ingest.bands, x.id ≠ id) → len ≤ 1044480 →
    s.ingest.used + reserveOf len ≤ 4194304 + s.ingest.returned → data.length ≠ len →
    exec (.bandDatagram lane bytes) s = .next (e.modIngest fun i => { i with
      bands := i.bands ++ [{ id := id, length := len, seq := f 28 4, frags := [(f 20 4, data)] }]
      used := i.used + reserveOf len })) ∧
  (∀ (lane : Nat) (bytes data : List Byte) (b : Staged) (s : State),
    let off := fieldAt bytes 20 4
    bandOpens bytes data s → (s.ingest.bands.find? fun x => x.id == bandIdOf bytes) = some b →
    (b.checked = true ∨ ∃ f ∈ b.frags, f.1 = off ∧ f.2.length = data.length) →
    exec (.bandDatagram lane bytes) s = .next (bandSeen lane s)) ∧
  (∀ (lane : Nat) (bytes data : List Byte) (b : Staged) (s : State),
    let off := fieldAt bytes 20 4
    bandOpens bytes data s → (s.ingest.bands.find? fun x => x.id == bandIdOf bytes) = some b → b.checked = false →
    (∀ f ∈ b.frags, f.1 = off → f.2.length ≠ data.length) → fieldAt bytes 24 4 ≠ b.length →
    exec (.bandDatagram lane bytes) s = .next (rejectBand (bandIdOf bytes) 0x0A (bandSeen lane s))) ∧
  (∀ (lane : Nat) (bytes data : List Byte) (b : Staged) (s : State),
    let off := fieldAt bytes 20 4
    bandOpens bytes data s → (s.ingest.bands.find? fun x => x.id == bandIdOf bytes) = some b → b.checked = false →
    (∀ f ∈ b.frags, f.1 = off → f.2.length ≠ data.length) → fieldAt bytes 24 4 = b.length →
    (∃ f ∈ b.frags, f.1 < off + data.length ∧ off < f.1 + f.2.length) →
    exec (.bandDatagram lane bytes) s = .next (rejectBand (bandIdOf bytes) 0x20 (bandSeen lane s))) ∧
  (∀ (lane : Nat) (bytes data : List Byte) (b : Staged) (s : State),
    let off := fieldAt bytes 20 4
    let id := bandIdOf bytes
    let t := (bandSeen lane s).modIngest fun i => { i with bands := i.bands.map fun x =>
      if x.id = id then { x with frags := x.frags ++ [(off, data)] } else x }
    bandOpens bytes data s → (s.ingest.bands.find? fun x => x.id == id) = some b → b.checked = false →
    (∀ f ∈ b.frags, f.1 = off → f.2.length ≠ data.length) → fieldAt bytes 24 4 = b.length →
    (∀ f ∈ b.frags, off + data.length ≤ f.1 ∨ f.1 + f.2.length ≤ off) →
    exec (.bandDatagram lane bytes) s =
      .next (if (b.frags.map fun f => f.2.length).sum + data.length = b.length then ingestBand lane id t else t)) ∧
  (∀ (job layer frame band : Nat) (b : Staged) (s : State),
    let id : BandId := { job := job, layer := layer, frame := frame, band := band }
    (s.ingest.bands.find? fun b => b.id == id) = some b → b.checked = false →
    exec (.bandReassemblyTimeout job layer frame band) s = .next (rejectBand id 0x21 s)) ∧
  (∀ (id : BandId) (k : Nat) (b : Staged) (s : State), (s.ingest.bands.find? fun b => b.id == id) = some b →
    rejectBand id k s = post 0x8304 0xFFFF#16
      (leBytes 4 id.job ++ leBytes 1 id.layer ++ leBytes 1 k ++ leBytes 2 id.band ++ leBytes 4 id.frame)
      (returnCredit (reserveOf b.length) (s.modIngest fun i => { i with bands := i.bands.filter fun b => b.id != id }))) ∧
  (∀ s : State,
    let ls := s.ingest.lanes.filter fun p => decide (s.ring.cyc ≤ p.2 + 62500)
    exec .creditDatagram s = .next (s.modOutbox fun o => o ++ ls.map fun p => .credit p.1 s.ingest.returned))

/-- ARP requests for a lane's own address are answered, bad packets noted, and a lane's loss and return of block lock
reported (R414, R416, R417, R427). -/
def Obligations.HostLanesReportTheirLinks : Prop :=
  (∀ (lane ip : Nat) (s : State), lane < 4 → (s.cfgGet 0x15 0 (32 * lane) 1).testBit 0 = true →
    s.cfgGet 0x15 0 (32 * lane + 4) 4 = ip →
    exec (.arpRequest lane ip) s = .next (s.modOutbox (· ++ [.arpReply lane]))) ∧
  (∀ (lane ip : Nat) (s : State), s.cfgGet 0x15 0 (32 * lane + 4) 4 ≠ ip → exec (.arpRequest lane ip) s = .next s) ∧
  (∀ (lane : Nat) (s : State), exec (.badDatagram lane) s = .next (note 0x0602 (hostH lane) 0 s)) ∧
  (∀ (lane : Nat) (s : State), exec (.hostLinkDown lane) s =
    .next (note 0x0605 (hostH lane) 0 (s.modHost fun h => { h with up := kvSet h.up lane false }))) ∧
  (∀ (lane : Nat) (s : State), kvFind s.host.up lane = some false →
    ∃ k, exec (.hostLinkUp lane) s = .next (post 0x8002 (hostH lane) (leBytes 2 0x0605 ++ leBytes 2 k)
      (s.modHost fun h => { h with up := kvSet h.up lane true })) ∧
      k = noteVal s.faults.notes (noteKey (hostH lane) 0) 0x0605) ∧
  (∀ (lane : Nat) (s : State), kvFind s.host.up lane ≠ some false →
    exec (.hostLinkUp lane) s = .next (s.modHost fun h => { h with up := kvSet h.up lane true }))

/-- Spool ports train, retry and enumerate; controllers outside R123 are refused; status polls, wake and AER are noted
(R119, R120, R121, R122, R123, R124, R138). -/
def Obligations.SpoolLinksAndControllers : Prop :=
  (∀ s : State, s.boot.porst = false → spoolPowered s = true →
    exec .spoolPerstRelease s = .next { s with spool := { s.spool with perst := false } }) ∧
  (∀ s : State, (s.boot.porst = true ∨ spoolPowered s = false) → exec .spoolPerstRelease s = .next s) ∧
  (∀ (port n : Nat) (s : State), kvGet (false, 0) s.spool.ports port = (false, n) → s.spool.perst = false →
    port < portCount s → n ≤ 3 →
    let t := s.modSpool fun p => { p with ports := kvSet p.ports port (false, n + 1) }
    exec (.spoolLinkRetry port) s = .next (if n < 3 then t else raise 0x0503 (portH s port) 0 port t)) ∧
  (∀ (port n : Nat) (found : List NvmeInfo) (s : State), kvGet (false, 0) s.spool.ports port = (false, n) → n ≤ 3 →
    s.spool.perst = false → port < portCount s → mounted s = false → s.spool.fmt = 0 →
    (∀ m ∈ s.spool.members, m.port ≠ port) →
    exec (.spoolLinkUp port found) s = .next (takeEight (found.foldl (fun s i => tryController port i s)
      (s.modSpool fun p => { p with ports := kvSet p.ports port (true, n) })))) ∧
  (∀ (port n : Nat) (found : List NvmeInfo) (s : State), kvGet (false, 0) s.spool.ports port = (false, n) → 3 < n →
    exec (.spoolLinkUp port found) s = .next s) ∧
  (∀ (port : Nat) (i : NvmeInfo) (s : State),
    let ask := fun (op : NvmeOp) => OutMsg.nvme s.spool.members.length { op := op, pages := 0 } []
    i.nsOk = true → i.queueOk = true → (i.lba = 512 ∨ i.lba = 4096) → (i.mdts = 0 ∨ 131072 ≤ i.mdts) →
    ∃ m, tryController port i s = (s.modOutbox (· ++
        [ask .identifyNs, ask .identifyCtrl, ask .createCq, ask .createSq])).modSpool
          (fun p => { p with members := p.members ++ [m] }) ∧
      m.port = port ∧ m.lba = i.lba ∧ m.usable = i.pages - 262400 ∧ m.entries = min 1024 (i.mqes + 1)) ∧
  (∀ (port : Nat) (i : NvmeInfo) (s : State),
    let ask := fun (op : NvmeOp) => OutMsg.nvme s.spool.members.length { op := op, pages := 0 } []
    (i.nsOk = false ∨ i.queueOk = false ∨ (i.lba ≠ 512 ∧ i.lba ≠ 4096) ∨ (i.mdts ≠ 0 ∧ i.mdts < 131072)) →
    tryController port i s =
      raise 0x0504 (portH s port) 0 port (s.modOutbox (· ++ [ask .identifyNs, ask .identifyCtrl]))) ∧
  (∀ s : State, s.spool.members.length ≤ 8 → takeEight s = s.modSpool fun p =>
    { p with members := sortBy p.members fun a b => decide (a.port ≤ b.port) }) ∧
  (∀ s : State,
    let ms := sortBy s.spool.members fun a b => decide (a.port ≤ b.port)
    8 < s.spool.members.length → takeEight s =
      (ms.drop 8).foldl (fun s m => note 0x0507 (portH s m.port) 0 s) (s.modSpool fun p => { p with members := ms.take 8 })) ∧
  (∀ (port : Nat) (s : State), exec (.aerError port) s = .next (note 0x0508 (portH s port) 0 s)) ∧
  (∀ s : State, exec .spoolWake s = .next (askStatus (note 0x0509 (portH s 0) 0 s))) ∧
  (∀ s : State, askStatus s = s.modOutbox fun o => o ++
    (List.range s.spool.members.length).map fun c => .nvme c { op := .smart, pages := 0 } []) ∧
  (∀ (c : Nat) (m : Member) (s : State),
    let e := s.modOutbox (· ++ [.nvme c { op := .smart, pages := 0 } []])
    s.spool.members[c]? = some m → m.readOnly = false →
    exec (.smartPoll c 8) s = .next (raise 0x0506 (memberH s c) 0 c (modMember c (fun m => { m with readOnly := true }) e))) ∧
  (∀ (c w : Nat) (m : Member) (s : State),
    let e := s.modOutbox (· ++ [.nvme c { op := .smart, pages := 0 } []])
    s.spool.members[c]? = some m → w.testBit 3 = false → (w % 8 ≠ 0 ∨ w / 16 ≠ 0) →
    exec (.smartPoll c w) s = .next (note 0x0507 (memberH s c) 0 e)) ∧
  (∀ (c : Nat) (m : Member) (s : State), s.spool.members[c]? = some m →
    exec (.smartPoll c 0) s = .next (s.modOutbox (· ++ [.nvme c { op := .smart, pages := 0 } []])))

/-- SPOOL_MOUNT takes the newest superblock valid on every member; bandwidth measurements and directory batches end as
stated (R126, R127, R128, R131, R132, R136). -/
def Obligations.SpoolMountsAndMeasures : Prop :=
  (∀ (l : List (List Byte × List Byte)) (s : State), mounted s = false → s.spool.state ≠ .lost → s.spool.fmt = 0 →
    l.length = s.spool.members.length → (∀ p ∈ l, (superOf p.1).valid = false ∧ (superOf p.2).valid = false) →
    exec (.spoolMount l) s = .next (s.modSpool fun p => { p with state := .absent })) ∧
  (∀ (l : List (List Byte × List Byte)) (c : SuperCopy) (r : List SuperCopy) (s : State),
    let cs := l.map fun p => (superOf p.1, superOf p.2)
    mounted s = false → s.spool.state ≠ .lost → s.spool.fmt = 0 → l.length = s.spool.members.length →
    (∃ p ∈ cs, p.1.valid = true ∨ p.2.valid = true) → mountCopies cs = some (c :: r) → mountOk s (c :: r) = true →
    exec (.spoolMount l) s = .next (placeBands (mountSpool c (orderMembers (c :: r) s.spool.members)
      (highGen (cs.map (·.1)), highGen (cs.map (·.2))) s))) ∧
  (∀ (c : SuperCopy) (ms : List Member) (g : Nat × Nat) (s : State),
    let t := mountSpool c ms g s
    t.spool.state = .mounted ∧ t.spool.sb.mounted = true ∧ t.spool.sb.generation = c.generation + 1 ∧
    t.spool.sb.spoolId = c.spoolId ∧ t.spool.sb.width = c.width ∧ t.spool.members.length = ms.length ∧
    t.spool.dir = s.spool.storedDir ∧ t.spool.descs = s.spool.stored ∧
    t.spool.usedRuns = (if c.mounted then s.spool.stored.map fun d => (d.first, pagesOf d.data.length)
      else s.spool.storedRuns) ∧
    t.spool.mounting = true ∧ t = { s with spool := t.spool, outbox := t.outbox }) ∧
  (∀ (l : List (List Byte × List Byte)) (s : State),
    let cs := l.map fun p => (superOf p.1, superOf p.2)
    mounted s = false → s.spool.state ≠ .lost → s.spool.fmt = 0 → l.length = s.spool.members.length →
    (∃ p ∈ cs, p.1.valid = true ∨ p.2.valid = true) →
    (mountCopies cs = none ∨ ∃ c r, mountCopies cs = some (c :: r) ∧ mountOk s (c :: r) = false) →
    exec (.spoolMount l) s = .next (s.modSpool fun p => { p with state := .foreign })) ∧
  (∀ s : State, s.spool.mounting = true →
    ∃ t, exec .bandwidthMountMeasure s = .next t ∧ t.spool.mounting = false ∧
      ∀ (c : Nat) (m : Member), s.spool.members[c]? = some m →
        ∃ x, t.spool.members[c]? = some x ∧ x.bw = m.readBytes / 2000000 ∧ x.mountBw = m.readBytes / 2000000) ∧
  (∀ (c a b : Nat) (m : Member) (s : State),
    let r := m.readBytes / 100000
    s.spool.members[c]? = some m → m.sat = true → m.windows.take 2 = [a, b] → 100 * (r + a + b) ≤ 98 * 3 * m.bw →
    s.spool.mounting = false →
    exec (.saturatedWindow c) s = .next (newBandwidth c ((r + a + b) / 3) (modMember c (fun x => { x with
      windows := [r, a, b], readBytes := 0, sat := decide (16 ≤ (x.out.filter fun q => opReads q.op).length) }) s))) ∧
  (∀ (c : Nat) (m : Member) (s : State),
    let w := (m.readBytes / 100000 :: m.windows).take 3
    s.spool.members[c]? = some m → m.sat = true →
    (w.length ≠ 3 ∨ 98 * 3 * m.bw < 100 * w.sum ∨ s.spool.mounting = true) →
    exec (.saturatedWindow c) s = .next (modMember c (fun x => { x with
      windows := w, readBytes := 0, sat := decide (16 ≤ (x.out.filter fun q => opReads q.op).length) }) s)) ∧
  (∀ (c : Nat) (m : Member) (s : State), s.spool.members[c]? = some m → m.sat = false →
    exec (.saturatedWindow c) s = .next (modMember c (fun x => { x with
      windows := m.windows, readBytes := 0, sat := decide (16 ≤ (x.out.filter fun q => opReads q.op).length) }) s)) ∧
  (∀ (m : Member) (s : State), mounted s = true → s.spool.mounting = false → s.spool.probing = false →
    m ∈ s.spool.members → m.bw < m.mountBw →
    exec (.bandwidthProbe false) s = .next (benchReads (beginWindows (s.modSpool fun p => { p with probing := true })))) ∧
  (∀ s : State, s.spool.probing = true →
    ∃ t, exec (.bandwidthProbe true) s = .next t ∧ t.spool.probing = false ∧
      ∀ (c : Nat) (m : Member), s.spool.members[c]? = some m →
        ∃ x, t.spool.members[c]? = some x ∧ x.mountBw = m.mountBw ∧
          x.bw = if m.bw < m.mountBw ∧ 102 * m.bw ≤ 100 * (m.readBytes / 250000) then
            min (m.readBytes / 250000) m.mountBw else m.bw) ∧
  (∀ s : State, mounted s = true → s.spool.batch = 0 →
    (s.spool.dir ≠ s.spool.storedDir ∨ (s.spool.descs.filter fun d => d.present) ≠ s.spool.stored ∨
      s.spool.usedRuns ≠ s.spool.storedRuns) →
    exec .directoryBatch s =
      .next (advanceBatch (onEvery { op := .flush, pages := 0 } (s.modSpool fun p => { p with batch := 1 })))) ∧
  (∀ s : State, s.spool.batch = 0 → s.spool.dir = s.spool.storedDir →
    (s.spool.descs.filter fun d => d.present) = s.spool.stored → s.spool.usedRuns = s.spool.storedRuns →
    exec .directoryBatch s = .next s) ∧
  (∀ s : State, s.spool.batch = 1 → pendingOp s .flush = false →
    let t := batchDirWrites s
    t.spool.batch = 2 ∧ t.spool.batchDir = s.spool.dir ∧ t.spool.batchDescs = (s.spool.descs.filter fun d => d.present) ∧
    t.spool.batchRuns = s.spool.usedRuns ∧ t = { s with spool := t.spool, outbox := t.outbox }) ∧
  (∀ s : State, s.spool.batch = 2 → pendingOp s .dirWrite = false →
    let t := batchMapWrites s
    t.spool.batch = 3 ∧ t.spool.storedDir = s.spool.batchDir ∧ t.spool.stored = s.spool.batchDescs ∧
    t = { s with spool := t.spool, outbox := t.outbox })

/-- A band is present with its last write; reads go out on release and fail into a re-read; a lost member recovers or
loses the spool (R97, R98, R99, R100, R122, R124, R128, R132, R133, R138). -/
def Obligations.SpoolWritesAndReads : Prop :=
  (∀ s : State, exec .bandAllocate s = .next (placeBands s)) ∧
  (∀ (c job layer frame band page : Nat) (op : NvmeOp) (ok : Bool) (diff : List (Nat × Nat)) (q : NvmeCmd) (s : State),
    outCmd s c op { job := job, layer := layer, frame := frame, band := band } page = some q →
    exec (.nvmeCompletion c op job layer frame band page ok diff) s =
      .next (afterCommand c (commandDone c q page ok diff (takeOut c q s)))) ∧
  (∀ (c job layer frame band page : Nat) (op : NvmeOp) (ok : Bool) (diff : List (Nat × Nat)) (s : State),
    outCmd s c op { job := job, layer := layer, frame := frame, band := band } page = none →
    exec (.nvmeCompletion c op job layer frame band page ok diff) s = .next s) ∧
  (∀ (c page : Nat) (q : NvmeCmd) (diff : List (Nat × Nat)) (d : BandDesc) (s : State), q.op = .write →
    descOf s q.id = some d → d.present = false → pendingFor s .write q.id = false →
    commandDone c q page true diff s = placeBands (unstage q.id (modDesc q.id (fun d => { d with present := true }) s))) ∧
  (∀ (c page : Nat) (q : NvmeCmd) (diff : List (Nat × Nat)) (s : State), q.op = .write →
    pendingFor s .write q.id = true → commandDone c q page true diff s = s) ∧
  (∀ (c page : Nat) (q : NvmeCmd) (diff : List (Nat × Nat)) (s : State), q.op = .write →
    commandDone c q page false diff s = enqueue c q s) ∧
  (∀ (c page : Nat) (q : NvmeCmd) (diff : List (Nat × Nat)) (s : State), q.op = .read →
    commandDone c q page false diff s = enqueue c { q with op := .reread } (raise 0x0501 (memberH s c) 0 page s)) ∧
  (∀ (c job layer frame band page : Nat) (m : Member) (q : NvmeCmd) (s : State),
    let id : BandId := { job := job, layer := layer, frame := frame, band := band }
    let t := modMember c (fun x => { x with timeouts := m.timeouts + 1, out := replaceCmd q [] x.out }) s
    s.spool.members[c]? = some m → outCmd s c .read id page = some q →
    exec (.spoolReadTimeout c job layer frame band page) s =
      .next (if m.timeouts + 1 < 3 then afterCommand c (readFailed c q page t) else loseMember c t)) ∧
  (∀ (c job layer frame band page : Nat) (m : Member) (q : NvmeCmd) (s : State),
    let id : BandId := { job := job, layer := layer, frame := frame, band := band }
    let t := modMember c (fun x => { x with timeouts := m.timeouts + 1, out := replaceCmd q [] x.out }) s
    s.spool.members[c]? = some m → outCmd s c .read id page = none → outCmd s c .reread id page = some q →
    exec (.spoolReadTimeout c job layer frame band page) s =
      .next (if m.timeouts + 1 < 3 then afterCommand c (rereadDone c id page false [] t) else loseMember c t)) ∧
  (∀ (c : Nat) (m : Member) (s : State),
    let t := (modMember c (fun m => { m with
      lost := true, tries := 0, timeouts := 0, busReset := false, out := []
      queue := (m.out ++ m.queue).filter fun q => !opReads q.op }) s).modSpool fun p => { p with scrub := none }
    let u := s.land.flights.foldl (fun s f => f.stations.foldl (fun s n => match unfetchedOn s c n f with
      | some k => failLayer f.serial n k 0x11 s
      | none => s) s) t
    s.spool.members[c]? = some m → m.lost = false →
    exec (.spoolMemberLoss c) s =
      .next ((raise 0x0505 (memberH u c) 0 c u).modOutbox (· ++ [.nvme c { op := .ccReset, pages := 0 } []]))) ∧
  (∀ (n serial band : Nat) (f : Flight) (b : BandDesc) (w : Due × Int) (s : State),
    let work := stationWork s s.land.flights n
    flight s serial = some f → (work.find? fun w => w.1.serial == serial && w.1.id.band == band) = some w →
    (n, band) ∉ f.asked → w.1.have_ = false → mounted s = true → (w.2 : Rat) ≤ newelLines s →
    newelLines s ≤ (w.1.deadline : Rat) → turnOf s n work w.1 = true →
    descOf s w.1.id = some b → readable s w.1.id = true →
    ∃ t, exec (.fetchRelease n serial band) s = .next (issueAll .read w.1.deadline b t) ∧
      t = modSt n (fun x => { x with
          buf := x.buf ++ [{ serial := serial, id := w.1.id, data := b.data, off := x.bufEnd }]
          bufEnd := (x.bufEnd + b.data.length) % 1048576 })
        (modFlight serial (fun f => { f with asked := f.asked ++ [(n, band)] }) s)) ∧
  (∀ (c : Nat) (p : List Byte × List Byte) (m : Member) (s : State),
    let ask := fun (op : NvmeOp) => OutMsg.nvme c { op := op, pages := 0 } []
    let u := modMember c (fun m => { m with lost := false, tries := 0, busReset := false })
      (s.modOutbox (· ++ [ask .deleteSq, ask .deleteCq, ask .createCq, ask .createSq]))
    s.spool.members[c]? = some m → m.lost = true → m.gone = false → rejoins s c p = true →
    exec (.spoolMemberRecovery c (some p)) s =
      .next (placeBands (serveAll (codeTestEnded true (memberH u c) 0x0505 u)))) ∧
  (∀ (c : Nat) (m : Member) (s : State), s.spool.members[c]? = some m → m.lost = true → m.gone = false →
    m.busReset = false →
    exec (.spoolMemberRecovery c none) s = .next ((modMember c (fun m => { m with busReset := true }) s).modOutbox
      (· ++ [.nvme c { op := .busReset, pages := 0 } []]))) ∧
  (∀ (c : Nat) (found : Option (List Byte × List Byte)) (m : Member) (s : State), s.spool.members[c]? = some m →
    m.lost = true → m.gone = false → found.any (rejoins s c) = false → (found.isSome = true ∨ m.busReset = true) →
    exec (.spoolMemberRecovery c found) s = .next (if m.tries < 2 then
        (modMember c (fun m => { m with tries := m.tries + 1, busReset := false }) s).modOutbox
          (· ++ [.nvme c { op := .ccReset, pages := 0 } []])
      else codeTestEnded false (memberH s c) 0x0505 (loseSpool c s))) ∧
  (∀ (c : Nat) (found : Option (List Byte × List Byte)) (m : Member) (s : State), s.spool.members[c]? = some m →
    (m.lost = false ∨ m.gone = true) → exec (.spoolMemberRecovery c found) s = .next s)

/-- Admission attempts decide in the order of R48: a GAP record with its reason, or a frame in flight with the next
serial (R19, R43, R46, R47, R48, R54, R55, R57, R200, R407). -/
def Obligations.AdmissionDecidesInOrder : Prop :=
  (∀ (j : Job) (fr : Nat) (l p : Int) (s : State),
    let e := s.modLand fun x => { x with plans := x.plans.filter fun p => decide (l ≤ p.landing) }
    coreStalled s 1 = false → s.land.mode ≠ .thread → s.land.next = some l →
    ((nextPlans e l).find? fun q => !prepared e q.1.id q.2.1 q.2.2 && planOkFor e (wouldFly e q.1 q.2.1 q.2.2)) =
      some (j, fr, p) →
    exec .planPrepare s = .next (e.modLand fun x =>
      { x with plans := x.plans ++ [{ job := j.id, frame := fr, landing := p, profile := planSegs s }] })) ∧
  (∀ (l : Int) (s : State),
    let e := s.modLand fun x => { x with plans := x.plans.filter fun p => decide (l ≤ p.landing) }
    coreStalled s 1 = false → s.land.mode ≠ .thread → s.land.next = some l →
    (∀ q ∈ nextPlans e l, prepared e q.1.id q.2.1 q.2.2 = true ∨ planOkFor e (wouldFly e q.1 q.2.1 q.2.2) = false) →
    exec .planPrepare s = .next e) ∧
  (∀ s : State, (s.land.mode = .thread ∨ coreStalled s 1 = true) → exec .planPrepare s = .next s) ∧
  (∀ s : State, s.land.reducedReq = false → enterReduced s = s) ∧
  (∀ s : State, (enterReduced s).land.mode = .thread → exec .admissionAttempt s = .next (enterReduced s)) ∧
  (∀ s : State,
    let e := enterReduced s
    e.land.mode ≠ .thread → e.land.next = none →
    exec .admissionAttempt s = .next (e.modLand fun l => { l with next := some (firstLanding e) })) ∧
  (∀ (l : Int) (s : State),
    let e := enterReduced s
    e.land.mode ≠ .thread → e.land.next = some l → newelLines e < ((l - leadLines e l : Int) : Rat) →
    exec .admissionAttempt s = .next e) ∧
  (∀ (l : Int) (s : State),
    let e := enterReduced s
    e.land.mode ≠ .thread → e.land.next = some l → ((l - leadLines e l : Int) : Rat) ≤ newelLines e →
    admissionStopped e = true →
    exec .admissionAttempt s = .next (nextLanding e.cfg.cur.lineStep (leaveReduced e))) ∧
  (∀ (l : Int) (s : State),
    let e := enterReduced s
    e.land.mode ≠ .thread → e.land.next = some l → ((l - leadLines e l : Int) : Rat) ≤ newelLines e →
    admissionStopped e = false → e.maint.gapNext ≠ 0 → exec .admissionAttempt s = .next (passMaintGap e)) ∧
  (∀ (l : Int) (s : State),
    let e := enterReduced s
    e.land.mode ≠ .thread → e.land.next = some l → ((l - leadLines e l : Int) : Rat) ≤ newelLines e →
    e.maint.gapNext = 0 → admissionStopped e = false → nextFrame e = none →
    exec .admissionAttempt s = .next (nextLanding e.cfg.cur.lineStep e)) ∧
  (∀ (l : Int) (j : Job) (fr : Nat) (s : State),
    let e := enterReduced s
    e.land.mode ≠ .thread → e.land.next = some l → ((l - leadLines e l : Int) : Rat) ≤ newelLines e →
    e.maint.gapNext = 0 → admissionStopped e = false → nextFrame e = some (j, fr) →
    exec .admissionAttempt s = .next (landingPassed (attempt j (wouldFly e j fr l) e))) ∧
  (∀ (j : Job) (f : Flight) (s : State),
    let planned := prepared s j.id f.frame f.landing = true
    let layers := (List.range 16).filter j.layers.getLsbD
    let check := stationReason s f ((List.range 16).filter f.stations.contains)
    let v := candidateSpeed s f
    let q := addReq 1000 v s
    let t := if v < q.gov.target then newTarget v q else q
    (¬ planned → attempt j f s = writeGap j f 6 s) ∧
    (planned → allThere s f j = false → attempt j f s = writeGap j f 1 s) ∧
    (planned → allThere s f j = true → layers.length ≠ f.use.length → attempt j f s = writeGap j f 2 s) ∧
    (planned → allThere s f j = true → layers.length = f.use.length → check = some 2 →
      attempt j f s = writeGap j f 2 s) ∧
    (planned → allThere s f j = true → layers.length = f.use.length → check = some 3 →
      attempt j f s = writeGap j f 3 s ∨ attempt j f s = holdJob j.id f.frame 3 (writeGap j f 3 s)) ∧
    (planned → allThere s f j = true → layers.length = f.use.length → check = none → v < 25 →
      attempt j f s = writeGap j f 4 s) ∧
    (planned → allThere s f j = true → layers.length = f.use.length → check = none → 25 ≤ v →
      fetchFeasible s (s.land.flights ++ [f]) = true → attempt j f s = admitFrame j f v s) ∧
    (planned → allThere s f j = true → layers.length = f.use.length → check = none → 25 ≤ v →
      fetchFeasible s (s.land.flights ++ [f]) = false → j.slow = false → attempt j f s = writeGap j f 5 s) ∧
    (planned → allThere s f j = true → layers.length = f.use.length → check = none → 25 ≤ v →
      fetchFeasible s (s.land.flights ++ [f]) = false → j.slow = true →
      attempt j f s = if fetchFeasible t (t.land.flights ++ [f]) then admitFrame j f v t else writeGap j f 5 t)) ∧
  (∀ (j : Job) (f : Flight) (r : Nat) (s : State),
    let t := writeGap j f r s
    t.land.flights = s.land.flights ∧ t.land.nextSerial = s.land.nextSerial + 1 ∧
    (t.jobs.map fun x => (x.id, x.next)) = s.jobs.map fun x => (x.id, x.next)) ∧
  (∀ (j : Job) (f : Flight) (v : Rat) (s : State),
    let t := admitFrame j f v s
    ∃ g r, t.land.flights = s.land.flights ++ [g] ∧ g.serial = s.land.nextSerial ∧ g.version = s.latestVersion ∧
      g.ceiling = v ∧ g.job = f.job ∧ g.frame = f.frame ∧ t.land.nextSerial = s.land.nextSerial + 1 ∧
      t.land.plans = (s.land.plans.filter fun p => decide (f.landing < p.landing)) ∧
      t.ledger.queue = s.ledger.queue ++ [r] ∧ r.serial = s.land.nextSerial ∧ r.state = .open ∧
      (t.jobs.map fun x => (x.id, x.next)) =
        s.jobs.map fun x => (x.id, if x.id = j.id then x.next + 1 else x.next))

/-- A flight lands at each station once, leaves flight after its last band, and closes with the state Table 03-6 gives
it (R15, R33, R44, R62, R64, R112, R114, R115, R209, R453). -/
def Obligations.LandingsAndFlightsEnd : Prop :=
  (∀ (n serial : Nat) (f : Flight) (s : State),
    let e := (landedWith n f s).foldl (fun s p => match flight s p.2 with | some g => landAt p.1 g s | none => s) s
    serial ≠ 0 → flight s serial = some f → n ∉ f.landed → (stationLanding s f n : Rat) ≤ newelLines s →
    exec (.stationLanding n serial) s = .next (landAt n ((flight e serial).getD f) e)) ∧
  (∀ (n : Nat) (f : Flight) (s : State),
    (∀ m < n, ∀ g ∈ s.land.flights, m ∈ g.stations → m ∉ g.landed → stationLanding s g m ≠ stationLanding s f n) →
    landedWith n f s = []) ∧
  (∀ (n serial : Nat) (f : Flight) (s : State), serial ≠ 0 → flight s serial = some f →
    (n ∈ f.landed ∨ newelLines s < (stationLanding s f n : Rat)) → exec (.stationLanding n serial) s = .next s) ∧
  (∀ (n serial : Nat) (s : State), serial ≠ 0 → flight s serial = none →
    (∀ p, s.cfg.pend = some p → p.bound ≠ some serial) → exec (.stationLanding n serial) s = .next s) ∧
  (∀ (n serial : Nat) (p : Pend) (s : State), serial ≠ 0 → flight s serial = none → s.cfg.pend = some p →
    p.bound = some serial → ((p.landing + offsetOf s n : Int) : Rat) ≤ newelLines s →
    exec (.stationLanding n serial) s = .next (restoreLane n (stationPart n serial (pressPart s)))) ∧
  (∀ (n : Nat) (s : State), s.newel.lost = false → noFlights s = true →
    exec (.stationLanding n 0) s = .next (restoreLane n (s.modNewel fun x => { x with onBackup := false }))) ∧
  (∀ (n : Nat) (s : State), (s.newel.lost = true ∨ noFlights s = false) →
    exec (.stationLanding n 0) s = .next (restoreLane n s)) ∧
  (∀ (serial : Nat) (f : Flight) (s : State), flight s serial = some f → (lastPos s f : Rat) ≤ newelLines s →
    exec (.frameLeavesFlight serial) s = .next (closeFlight f s)) ∧
  (∀ (serial : Nat) (f : Flight) (s : State), flight s serial = some f → newelLines s < (lastPos s f : Rat) →
    exec (.frameLeavesFlight serial) s = .next s) ∧
  (∀ (serial : Nat) (s : State), flight s serial = none → exec (.frameLeavesFlight serial) s = .next s) ∧
  (∀ (s : State) (f : Flight) (r : LedgerRec),
    let c := closeRec s f r
    (f.spoiled = true → c.state = .spoiled ∧ c.cause = f.cause) ∧
    (f.spoiled = false → f.degraded ≠ 0#16 → c.state = .degraded ∧ c.cause = 0) ∧
    (f.spoiled = false → f.degraded = 0#16 → c.state = .printed ∧ c.cause = 0) ∧
    c.serial = r.serial ∧ c.job = r.job ∧ c.frame = r.frame ∧ c.used = f.used ∧ c.failed = f.failed ∧
    c.degraded = f.degraded) ∧
  (∀ s : State, s.land.run = .dwell → (∀ n ∈ runStations s, hasLocks s n = true) →
    exec .runDwellEnd s = .next (s.modLand fun l => { l with run := .none })) ∧
  (∀ s : State, s.land.run = .dwell →
    exec .runDwellEnd s = .next ((runStations s).foldl
      (fun t n => if hasLocks t n then t else
        raise 0x0803 (match polygonOf t.cfg.cur n with | some a => t.cfg.cur.ranked 6 a | none => stH t n) 0 n t)
      (s.modLand fun l => { l with run := .none }))) ∧
  (∀ s : State, s.land.run ≠ .dwell → exec .runDwellEnd s = .next s)

/-- GOVERNOR_EVALUATE raises the plan only 2 in/s above the speed with every flight still feasible, and else lowers it
where a prediction asks (R53, R58, R59, R60, R61, R453). -/
def Obligations.GovernorLowersAtOnceRaisesWithCare : Prop :=
  (∀ (rates : List (Nat × Nat)) (drain : Nat) (s : State),
    let t := pressPart (beginStop (threadCheck (advancePlan s)))
    coreStalled s 1 = false →
    exec (.governorEvaluate rates drain) s = .next (regearHeld
      (if t.land.mode = .thread then runStep rates drain t else governSpeed rates drain (dropReq 1000 t)))) ∧
  (∀ (rates : List (Nat × Nat)) (drain : Nat) (s : State), coreStalled s 1 = true →
    exec (.governorEvaluate rates drain) s = .next s) ∧
  (∀ s : State, dwellNow s = none → dwellWork s = s) ∧
  (∀ (x : Rat) (up : Bool) (s : State),
    let e := askPostDiv x up s
    let t := endDwell e
    dwellNow s = some (x, up) →
    (dwellOver e x up = false → dwellWork s = e) ∧
    (dwellOver e x up = true → up = false → dwellWork s = t) ∧
    (dwellOver e x up = true → up = true → dwellWork s = if fetchFeasible t t.land.flights then t else e)) ∧
  (∀ (rates : List (Nat × Nat)) (drain : Nat) (s : State),
    ((dwellWork s).gov.stopping = true ∨ (dwellWork s).land.run = .dwell) → governSpeed rates drain s = dwellWork s) ∧
  (∀ (rates : List (Nat × Nat)) (drain : Nat) (s : State),
    let e := dwellWork s
    let want := governorTarget e rates drain
    let u := e.modLand fun l => { l with rampWait := false }
    let t := newTarget want u
    let raises := e.gov.target < want ∧ e.gov.speed + 2 ≤ want ∧ e.land.stopReq = .none ∧ stopActive e = false ∧
      fetchFeasible t t.land.flights = true
    e.gov.stopping = false → e.land.run ≠ .dwell →
    (raises → governSpeed rates drain s = t) ∧
    (¬ raises → governSpeed rates drain s = lowerFor (demands e rates drain) u)) ∧
  (∀ (ds : List (Rat × Rat)) (s : State), steady s = false → (∀ d ∈ ds, fastestFrom s d.1 ≤ d.2) → lowerFor ds s = s)

/-- A rider that can act sets its live value, clamped with a note where out of range; one that cannot act is noted and
changes nothing else (R115, R116, R117, R118). -/
def Obligations.RidersSetLiveValues : Prop :=
  (∀ (sl : Int) (r : RiderL) (k : Nat) (s : State),
    let v := q16 (r.arg % 2 ^ 32)
    let lo := s.cfgGet 0x0B k 32 4
    let hi := s.cfgGet 0x0B k 36 4
    let put := fun (t : Nat) => modLoop k (fun x => { x with target := some t }) s
    riderActs s r = true → r.op = 1 → slotAt s.cfg.cur r.target r.sel = some k → q16 lo ≤ q16 hi →
    (q16 lo ≤ v → v ≤ q16 hi → applyRider sl r s = put (r.arg % 2 ^ 32)) ∧
    (v < q16 lo → applyRider sl r s = note 0x1306 r.target r.sel (put lo)) ∧
    (q16 hi < v → applyRider sl r s = note 0x1306 r.target r.sel (put hi))) ∧
  (∀ (sl : Int) (r : RiderL) (n : Nat) (s : State), riderActs s r = true → r.op = 2 →
    s.cfg.cur.stationOf r.target = some n →
    applyRider sl r s = modScan n (fun x => { x with tRider := signed 16 (r.arg % 2 ^ 16) }) s) ∧
  (∀ (sl : Int) (r : RiderL) (k : Nat) (s : State), riderActs s r = true → r.op = 3 →
    s.cfg.cur.rank 0x0C r.target = some k →
    applyRider sl r s = s.modSols fun t => kvMod {} t k fun x =>
      { x with due := x.due ++ [(sl + (r.arg % 2 ^ 32 : Nat), bitsOf r.arg 47 32)] }) ∧
  (∀ (sl : Int) (r : RiderL) (a : Nat) (s : State), riderActs s r = true → r.op = 4 →
    s.cfg.cur.rank 6 r.target = some a →
    applyRider sl r s =
      modGear a (fun g => g.setPhase (signed 32 (r.arg % 2 ^ 32)) sl (bitsOf r.arg 47 32)) s) ∧
  (∀ (sl : Int) (r : RiderL) (s : State), riderActs s r = false →
    applyRider sl r s = note 0x1306 r.target r.sel s)

/-- SOS_MARK judges the sweep that ends, opens the next one and exposes, in every flight, the band whose sweep it opens
(R9, R10, R49, R62, R63, R107, R154, R156, R159, R163, R346). -/
def Obligations.MarksExposeBands : Prop :=
  (∀ (n m : Nat) (s : State), s.cfg.cur.hasStation n = true →
    let t := sweepOpens n m (sweepEnds n s)
    exec (.sosMark n m) s = .next (if standby t then t else sweepPrints n t)) ∧
  (∀ (n m : Nat) (s : State), s.cfg.cur.hasStation n = false → exec (.sosMark n m) s = .next s) ∧
  (∀ (n : Nat) (s : State), stationLane s n = none → sweepEnds n s = surveyPause n s) ∧
  (∀ (n l : Nat) (s : State), stationLane s n = some l → (s.lane l).mode = .swept → (s.lane l).statSeen = true →
    (s.st n).scan.tsSeen = true → sweepEnds n s = surveyMark n ((s.st n).scan.sweeps + 1) s) ∧
  (∀ (n l : Nat) (s : State), stationLane s n = some l → (s.lane l).mode = .swept → (s.lane l).statSeen = true →
    (s.st n).scan.tsSeen = false →
    sweepEnds n s = surveyMark n (((badTimestamp n s).st n).scan.sweeps + 1) (badTimestamp n s)) ∧
  (∀ (n m : Nat) (s : State),
    let t := startSweep n m s
    let x := (s.st n).scan
    let y := (t.st n).scan
    let nsw := s.cfgGet 0x01 n 6 2
    let rate := predict (modScan n (fun x => { x with nsw := some nsw }) s) n
    let plan := schedule (chirpSegs (kvGet ({} : CalSt) s.cal.inst n).chirp) x.table nsw rate x.postdiv
    y.sweeps = x.sweeps + 1 ∧ y.phi = 0 ∧ y.word = 0 ∧ y.phase = m % 64 ∧ y.mark = newelFine s ∧ y.sPred = rate ∧
    y.gov = x.hdr ∧ y.hdr = none ∧
    (s.cfgGet 0x01 n 14 1 ≠ 0 → y.facet = (x.facet + 1) % s.cfgGet 0x01 n 14 1) ∧
    (∀ p, x.schedNext = some p → y.band = p.1 ∧ y.sched = p.2) ∧
    (x.schedNext = none → x.table ≠ [] → y.band = plan.1 ∧ y.sched = plan.2) ∧
    (x.table ≠ [] → y.schedNext = some plan) ∧
    t = { s with stations := t.stations } ∧ ∀ k, k ≠ n → t.st k = s.st k) ∧
  (∀ (n k : Nat) (f : Flight) (s : State),
    let x := s.st n
    let u := inExposure n f.serial k (modFlight f.serial (noteExposure n k s)
      (modSt n (fun x => { x with xHalf := x.wHalf, wHalf := {} }) s))
    f.marking.contains n = false → f.stations.contains n = true → f.failsAt n k = false →
    x.wHalf.serial = f.serial → x.wHalf.band = k → x.dec = .idle → darkNow s n = false → sweptNow s n = true →
    (absRat x.scan.ef ≤ 1 / 16 → exposeBand n f k s = u) ∧
    (1 / 16 < absRat x.scan.ef → x.scan.overLim = false → exposeBand n f k s = note 0x0804 (stH u n) 0 u)) ∧
  (∀ (n k : Nat) (f : Flight) (s : State),
    let x := s.st n
    f.marking.contains n = false → f.stations.contains n = true → f.failsAt n k = false →
    (x.wHalf.serial ≠ f.serial ∨ x.wHalf.band ≠ k ∨ sweptNow s n = false) → x.dec = .idle → darkNow s n = false →
    exposeBand n f k s = failLayer f.serial n k 0x11
      (modSt n (fun x => { x with xHalf := { serial := f.serial, band := k }, wHalf := {} }) s)) ∧
  (∀ (n k : Nat) (f : Flight) (s : State), f.marking.contains n = false → f.stations.contains n = true →
    f.failsAt n k = true →
    exposeBand n f k s = modSt n (fun x => { x with xHalf := { serial := f.serial, band := k }, wHalf := {} }) s) ∧
  (∀ (n k : Nat) (f : Flight) (s : State), f.marking.contains n = false → f.stations.contains n = false →
    exposeBand n f k s = s) ∧
  (∀ (n k : Nat) (f : Flight) (b : RBand) (s : State),
    let t := modFlight f.serial
      (fun f => { f with consumed := kvSet f.consumed n (max (k + 1) (kvGet 0 f.consumed n)) }) s
    f.marking.contains n = false → f.stations.contains n = true → f.failsAt n k = false →
    ((s.st n).buf.find? fun b => b.serial == f.serial && b.id.band == k && !b.gone) = some b →
    (b.ok = true → hasTable (s.st n) b = true → consume n f k s = beginDecode n b t) ∧
    ((b.ok = false ∨ hasTable (s.st n) b = false) →
      consume n f k s = modSt n (fun x => { x with dec := .waiting, cur := some b, curMark := false }) t)) ∧
  (∀ (n k : Nat) (f : Flight) (s : State),
    let t := modFlight f.serial
      (fun f => { f with consumed := kvSet f.consumed n (max (k + 1) (kvGet 0 f.consumed n)) }) s
    f.marking.contains n = false → f.failsAt n k = true → consume n f k s = dropFailed n t)

/-- Offsets, decodes and the save slot's copy complete; SRAM errors are corrected and counted, or fail the layer and
test the bank (R62, R83, R84, R89, R90, R92, R93, R94, R99, R100, R103, R327). -/
def Obligations.BandsDecodeOncePerStation : Prop :=
  (∀ (n : Nat) (b : RBand) (s : State), nextOffsets s n = some b → (s.st n).dec ≠ .waiting →
    exec (.offsetComputeComplete n) s = .next (modSt n (fun x => { x with tabs := x.tabs ++ [offTable b] }) s)) ∧
  (∀ (n : Nat) (b c : RBand) (s : State), nextOffsets s n = some b → (s.st n).dec = .waiting →
    (s.st n).cur = some c → c.serial = b.serial → c.id = b.id →
    exec (.offsetComputeComplete n) s =
      .next (beginDecode n b (modSt n (fun x => { x with tabs := x.tabs ++ [offTable b] }) s))) ∧
  (∀ (n : Nat) (s : State), nextOffsets s n = none → exec (.offsetComputeComplete n) s = .next s) ∧
  (∀ (n : Nat) (b : RBand) (cs : List (List Nat)) (s : State),
    (s.st n).cur = some b → (s.st n).dec = .decoding → (s.st n).curMark = false →
    decodeBand (s.st n).hist (s.st n).save b.data = .cells cs true →
    ∃ t, exec (.decodeComplete n) s = .next t ∧ (t.st n).dec = .idle ∧ (t.st n).cur = none ∧
      (t.st n).wHalf = { serial := b.serial, band := b.id.band, width := bWidth b.data, tile := bFlag b.data 2, cells := cs } ∧
      (t.st n).buf = ((freeBand n b.serial b.id.band s).st n).buf ∧
      (t.st n).hist = (newHistory b.data cs (s.st n)).hist ∧ (t.st n).save = (newHistory b.data cs (s.st n)).save ∧
      t.land.flights = s.land.flights.map (fun f => if f.serial = b.serial then
        { f with crcs := kvMod [] f.crcs n (· ++ [bProtected b.data]) } else f)) ∧
  (∀ (n : Nat) (b : RBand) (s : State),
    (s.st n).cur = some b → (s.st n).dec = .decoding → (s.st n).curMark = false →
    let w := modSt n (fun x => { x with dec := .idle, cur := none, curMark := false, wHalf := {} })
    let t := freeBand n b.serial b.id.band s
    let live := (startHist (s.st n).hist (s.st n).save b.data).getD (s.st n).hist
    (decodeBand (s.st n).hist (s.st n).save b.data = .noHistory →
      exec (.decodeComplete n) s = .next (bandFails n b 0x14 (w t))) ∧
    (∀ cs, bStream b.data = false → decodeBand (s.st n).hist (s.st n).save b.data = .cells cs false →
      exec (.decodeComplete n) s = .next (bandFails n b 0x15 (w (modSt n id t)))) ∧
    (∀ cs, bStream b.data = true → decodeBand (s.st n).hist (s.st n).save b.data = .cells cs false →
      exec (.decodeComplete n) s = .next (bandFails n b 0x15
        (w (modSt n (fun x => { x with hist := { live with valid := false } }) t))))) ∧
  (∀ (n code : Nat) (b : RBand) (s : State),
    (bStream b.data = false →
      bandFails n b code s = failLayer b.serial n b.id.band 0x11 (note (0x0700 + code) (stH s n) 0 s)) ∧
    (bStream b.data = true →
      let t := modSt n (fun x => { x with hist := { x.hist with valid := false } }) s
      bandFails n b code s = failLayer b.serial n b.id.band 0x11 (note (0x0700 + code) (stH t n) 0 t))) ∧
  (∀ (n : Nat) (s : State), ((s.st n).cur = none ∨ (s.st n).dec ≠ .decoding) →
    exec (.decodeComplete n) s = .next s) ∧
  (∀ (n : Nat) (s : State), (s.st n).saveCopying = true → exec (.saveSlotCopyComplete n) s =
    .next (modSt n (fun x => { x with saveCopying := false, peerSave := x.save }) s)) ∧
  (∀ (n : Nat) (s : State), (s.st n).saveCopying = false → exec (.saveSlotCopyComplete n) s = .next s) ∧
  (∀ (bank : Nat) (w : SramPlace) (s : State),
    exec (.sramError bank true w) s = .next (note 0x0401 0#16 0
      (s.modFaults fun f => { f with corrected := kvMod 0 f.corrected bank (· + 1) })) ∧
    (kvFind s.faults.banks bank = none → s.faults.spares ≠ 0 → exec (.sramError bank false .other) s =
      .next (raise 0x0402 0#16 0 bank
        (s.modFaults fun f => { f with banks := kvSet f.banks bank 1, spares := f.spares - 1 }))) ∧
    (kvFind s.faults.banks bank = none → s.faults.spares = 0 → exec (.sramError bank false .other) s =
      .next (raise 0x0403 0#16 0 bank s)) ∧
    (kvFind s.faults.banks bank ≠ none → exec (.sramError bank false .other) s = .next (raise 0x0402 0#16 0 bank s))) ∧
  (∀ (bank n i : Nat) (b : RBand) (s : State), (s.st n).buf[i]? = some b → b.gone = false → (s.st n).cur = none →
    exec (.sramError bank false (.band n i)) s =
      .next (testBank bank (.band n i) (bandFails n b 0x10 (freeBand n b.serial b.id.band s)))) ∧
  (∀ (bank n line word : Nat) (s : State), (s.st n).ems.dbl = false → (s.st n).xHalf.serial ≠ 0 →
    exec (.sramError bank false (.sweep n line word)) s =
      .next (testBank bank (.sweep n line word) (failLayer (s.st n).xHalf.serial n (s.st n).xHalf.band 0x11
        (modSt n (fun x => { x with xHalf := { (s.st n).xHalf with
          blank := (s.st n).xHalf.blank ++ [1536 * line + word] } }) s)))) ∧
  (∀ (bank : Nat) (s : State),
    (kvFind s.faults.banks bank = some 1 →
      exec (.sramBankTestComplete bank true) s = .next (codeTestEnded true 0#16 0x0402
        (s.modFaults fun f => { f with banks := kvDel f.banks bank, spares := f.spares + 1 })) ∧
      exec (.sramBankTestComplete bank false) s = .next (codeTestEnded false 0#16 0x0402
        (s.modFaults fun f => { f with banks := kvSet f.banks bank 2 }))) ∧
    (kvFind s.faults.banks bank ≠ some 1 → ∀ p, exec (.sramBankTestComplete bank p) s = .next s))

/-- SOS timestamps adjust the facet table and win SOS_OK after 64; the synthesiser locks, loses lock, switches bands and
takes new tables (R145, R146, R147, R148, R149, R150, R153, R154, R156, R157, R158, R159). -/
def Obligations.TimestampsAndSynthesiser : Prop :=
  (∀ (l n tc : Nat) (s : State), laneStation s l = some n → (s.st n).scan.tsSeen = false →
    let x := (s.st n).scan
    let r : Rat := ((tc : Int) - (kvGet ({} : CalSt) s.cal.inst n).sosOff - (x.phase : Int) : Int)
    let u := modScan n (fun x => { x with
      tsSeen := true, facets := kvMod 0 x.facets x.facet (· + r / 16)
      resids := (r :: x.resids).take (s.cfgGet 0x01 n 14 1) }) s
    (4 * 64 < absRat r → exec (.sosTs l (x.sweeps % 65536) tc true) s = .next (badTimestamp n u)) ∧
    (absRat r ≤ 64 → (x.sosOk = true ∨ x.goodSos + 1 < 64) → exec (.sosTs l (x.sweeps % 65536) tc true) s =
      .next (modScan n (fun x => { x with badSos := 0, goodSos := x.goodSos + 1 }) u)) ∧
    (64 < absRat r → absRat r ≤ 4 * 64 → exec (.sosTs l (x.sweeps % 65536) tc true) s =
      .next (modScan n (fun x => { x with badSos := 0, goodSos := 0 }) u)) ∧
    (absRat r ≤ 64 → x.sosOk = false → 64 ≤ x.goodSos + 1 → openOn s (laneHandle l) 0x0802 = false →
      exec (.sosTs l (x.sweeps % 65536) tc true) s = .next (stationUp n
        (modScan n (fun x => { x with sosOk := true, reacq := x.reacq && x.acquiring })
          (modScan n (fun x => { x with badSos := 0, goodSos := x.goodSos + 1 }) u)))) ∧
    exec (.sosTs l (x.sweeps % 65536) tc false) s = .next s ∧
    (∀ k v, k ≠ x.sweeps % 65536 → exec (.sosTs l k tc v) s = .next s)) ∧
  (∀ (n l : Nat) (s : State), stationLane s n = some l →
    let t := badTimestamp n s
    let u := modScan n (fun x => { x with badSos := x.badSos + 1, goodSos := 0 }) s
    ((s.st n).scan.badSos < 3 → t = u) ∧
    ((s.st n).scan.sosOk = true → 3 ≤ (s.st n).scan.badSos → t = loseSos n u)) ∧
  (∀ (n : Nat) (s : State),
    ((s.st n).scan.overLim = false → exec (.facetPhaseFault n) s = .next s) ∧
    ((s.st n).scan.overLim = true → s.cfg.cur.hasStation n = true →
      ∃ t, exec (.facetPhaseFault n) s = .next (raise 0x0803 (polygonH t n) 0 n t) ∧
        (t.st n).scan.acquiring = true ∧ (t.st n).scan.sosOk = false ∧ (t.st n).scan.facetLock = false ∧
        (t.st n).scan.reacq = true ∧ t.cfg = s.cfg ∧ t.faults = s.faults)) ∧
  (∀ (n l : Nat) (s : State), s.cfg.cur.hasStation n = true → stationLane s n = some l →
    ((s.st n).scan.lock = true → exec (.synthLock n) s = .next s) ∧
    ((s.st n).scan.lock = false → (s.st n).scan.testing = false →
      exec (.synthLock n) s = .next (modScan n (fun x => { x with lock := true, outWin := 0, frozen := false }) s)) ∧
    ((s.st n).scan.lock = false → (s.st n).scan.testing = true → (s.lane l).training = false →
      exec (.synthLock n) s =
        .next (startTraining l false (modScan n (fun x => { x with lock := true, outWin := 0, frozen := false }) s)))) ∧
  (∀ (n : Nat) (s : State),
    ((s.st n).scan.lock = false → exec (.synthLossOfLock n) s = .next s) ∧
    ((s.st n).scan.lock = true → ∀ l, stationLane s n = some l → (s.lane l).training = false →
      ∃ t, exec (.synthLossOfLock n) s = .next (raise 0x0801 (laneHandle l) 0 n t) ∧ (t.st n).scan.lock = false ∧
        (t.st n).scan.testing = true ∧ (t.st n).scan.frozen = true ∧ (t.lane l).mode ≠ .swept ∧ t.faults = s.faults ∧
        ((s.st n).scan.lossCount ≠ 0xFFFF#16 → (t.st n).scan.lossCount = (s.st n).scan.lossCount + 1#16))) ∧
  (∀ (n : Nat) (d : Rat) (s : State), s.cfg.cur.hasStation n = true → (s.st n).scan.lock = true →
    (s.st n).scan.outWin < 7 →
    ∃ t, exec (.synthReferenceCycle n d) s = .next t ∧
      (t.st n).scan.acc = (s.st n).scan.acc + targetFreq s n * (1 / 100000000) ∧
      (t.st n).scan.phi = min 1 ((s.st n).scan.phi + (s.st n).scan.sPred * (1 / 100000000)) ∧
      (t.st n).scan.dco = d ∧ (t.st n).scan.lock = true ∧
      ((s.st n).scan.frozen = true → (t.st n).scan.fine = (s.st n).scan.fine) ∧
      t = { s with stations := t.stations, lanes := t.lanes, outbox := t.outbox } ∧ ∀ k, k ≠ n → t.st k = s.st k) ∧
  (∀ (n w b c : Nat) (r : List (Nat × Nat × Nat)) (s : State), (s.st n).scan.sched = (w, b, c) :: r →
    exec (.bandSwitch n) s = .next (modScan n (fun x => { x with band := b, fine := c, sched := r }) s)) ∧
  (∀ (n : Nat) (s : State), (s.st n).scan.sched = [] → exec (.bandSwitch n) s = .next s) ∧
  (∀ (n : Nat) (table : List (Nat × Nat)) (s : State), s.latestSet.hasStation n = true →
    (∀ l, l < 16 → laneServes s l = some n → (s.lane l).trained = false ∧ (s.lane l).training = false) →
    (bandTableOk table = false →
      exec (.bandTableCalibrationComplete n table) s = .next (raise 0x0805 (stH s n) 0 n s)) ∧
    (bandTableOk table = true →
      ∃ t, exec (.bandTableCalibrationComplete n table) s = .next t ∧ (t.st n).scan.tableNew = some table ∧
        (t.st n).scan.calibrated = true ∧ (kvGet ({} : CalSt) t.cal.inst n).table = table ∧
        ((s.st n).scan.table ≠ [] → (t.st n).scan.table = (s.st n).scan.table) ∧
        ∀ l, l < 16 → laneServes s l = some n → (s.lane l).retired = false →
          (t.lane l).training = true ∧ (t.lane l).initial = true)) ∧
  (∀ (n l : Nat) (table : List (Nat × Nat)) (s : State), l < 16 → laneServes s l = some n →
    ((s.lane l).trained = true ∨ (s.lane l).training = true) →
    exec (.bandTableCalibrationComplete n table) s = .next s) ∧
  (∀ (n : Nat) (s : State),
    let x := (s.st n).scan
    let mean := x.iSum / (x.iN : Nat)
    x.lock = true → x.iN ≠ 0 → beyondSpan x mean = false →
    exec (.bandTableTrack n) s = .next (modScan n (fun x => { x with
      iSum := 0, iN := 0, bands := [], table := trackTable mean x.table x.bands, iBeyond := 0 }) s))

/-- Lane training, LINK_UP, the sideband's acknowledgements and status, and lane PLL retries (R111, R113, R162, R174,
R175, R177, R179, R287). -/
def Obligations.LanesTrainAndSidebandIsAcknowledged : Prop :=
  (∀ (l mdl ser : Nat) (tb : Bool) (s : State),
    let t := modLane l (fun x => { x with linkUp := true, module := mdl, serial := ser, cdrLock := true }) s
    let e := modLane l (fun x => { x with restore := true, tables := false }) (writeTables l t)
    (((s.lane l).training = false ∨ (s.lane l).linkUp = true) → exec (.linkUp l mdl ser tb) s = .next s) ∧
    ((s.lane l).training = true → (s.lane l).linkUp = false →
      (s.cfg.cur.mapModule l ≠ some mdl → s.latestSet.mapModule l ≠ some mdl →
        exec (.linkUp l mdl ser tb) s = .next (raise 0x0903 (laneHandle l) 0 mdl (modLane l (fun x => { x with
          module := mdl, serial := ser, training := false, trained := false, mode := .off }) s))) ∧
      ((s.cfg.cur.mapModule l = some mdl ∨ s.latestSet.mapModule l = some mdl) →
        (tb = true → (s.lane l).initial = false →
          exec (.linkUp l mdl ser tb) s = .next (modLane l (fun x => { x with tables := true }) t)) ∧
        ((tb = false ∨ (s.lane l).initial = true) → laneStation s l = none →
          exec (.linkUp l mdl ser tb) s = .next e) ∧
        (∀ n, (s.lane l).initial = true → laneStation s l = some n →
          exec (.linkUp l mdl ser tb) s = .next (readHead n e)) ∧
        (∀ n, tb = false → (s.lane l).initial = false → laneStation s l = some n →
          exec (.linkUp l mdl ser tb) s = .next (readHead n (dropSweep n e)))))) ∧
  (∀ (l : Nat) (s : State),
    (trainedNow s l = false → exec (.laneTrainingComplete l) s = .next s) ∧
    (trainedNow s l = true → exec (.laneTrainingComplete l) s = .next (trainingDone l s)) ∧
    (trainedNow s l = true ↔ (s.lane l).training = true ∧ (s.lane l).linkUp = true ∧
      (∀ n, laneServes s l = some n → (s.st n).scan.lock = true) ∧
      ((s.lane l).initial = true → ((s.lane l).restore = false ∨ standby s = true) ∧
        ∀ n, laneServes s l = some n → (s.st n).ems.readAt = none)) ∧
    (laneStation s l = none → openOn s (laneHandle l) 0x0901 = false → openOn s (laneHandle l) 0x0902 = false →
      s.mbx.waiters.any (returnWaits (laneHandle l) 0) = false →
      trainingDone l s = modLane l (fun x => { x with
        mode := restMode s l, training := false, trained := true, initial := false, noLinkEp := false, leave := 0 }) s)) ∧
  (∀ (l : Nat) (s : State), (s.lane l).training = true →
    ((s.lane l).initial = true →
      let t := modLane l (fun x => { x with training := false, mode := .off, noLinkEp := true }) s
      let u := if (s.lane l).noLinkEp then t else note 0x0906 (laneHandle l) 0 t
      (laneStation u l = none → exec (.laneTrainingTimeout l) s = .next u) ∧
      ∀ n, laneStation u l = some n →
        exec (.laneTrainingTimeout l) s = .next (if stationOut u n then u else stationFault n 1 0x11 u)) ∧
    ((s.lane l).initial = false → ((s.lane l).linkUp = false ∨ (s.lane l).restore = false) →
      exec (.laneTrainingTimeout l) s =
        .next (raise 0x0905 (laneHandle l) 0 l (modLane l (fun x => { x with training := false, mode := .idle }) s))) ∧
    ((s.lane l).initial = false → (s.lane l).linkUp = true → (s.lane l).restore = true →
      exec (.laneTrainingTimeout l) s = .next s)) ∧
  (∀ (l mdl : Nat) (s : State), (s.lane l).trained = false → (s.lane l).training = false → (s.lane l).retired = false →
    (s.lane l).noLinkEp = true → s.latestSet.mapModule l = some mdl →
    exec (.laneTrainingRetry l) s = .next (startTraining l true s)) ∧
  (∀ (l tag st : Nat) (s : State), (∀ m ∈ (s.lane l).out, m.tag ≠ tag) → exec (.ackMsg l tag st) s = .next s) ∧
  (∀ (l tag st : Nat) (m : SideMsg) (s : State), ((s.lane l).out.find? fun m => m.tag == tag) = some m →
    let t := modLane l (fun x => { x with out := x.out.filter fun y => y.tag != tag }) s
    ((m.kind ≠ 3 ∨ st ≠ 0) → exec (.ackMsg l tag st) s = .next (pumpSide 8 l t)) ∧
    (m.kind = 3 → st = 0 → exec (.ackMsg l tag st) s = .next (pumpSide 8 l
      (modLane l (fun x => { x with tables := true, restore := false, commitDue := x.shadow.isSome }) t)))) ∧
  (∀ (l tag : Nat) (m : SideMsg) (s : State), ((s.lane l).out.find? fun m => m.tag == tag) = some m →
    (m.tries < 3 → exec (.sidebandAckTimeout l tag) s = .next (modLane l (fun x => { x with
      out := x.out.map fun y => if y.tag = tag then { y with tries := y.tries + 1 } else y
      tx := x.tx ++ m.slices }) s)) ∧
    (3 ≤ m.tries → exec (.sidebandAckTimeout l tag) s = .next (startBer l false (raise 0x0904 (laneHandle l) 0 m.kind
      (pumpSide 8 l (modLane l (fun x => { x with out := x.out.filter fun y => y.tag != tag }) s)))))) ∧
  (∀ (l : Nat) (b : Bool) (le : BitVec 2) (temp : Int) (s : State), exec (.statusMsg l b le temp) s =
    .next (modLane l (fun x => { x with cdrLock := b, laser := le, temp := temp }) s)) ∧
  (∀ (p : Nat) (s : State), s.mbx.live = true → s.boot.stage = .running → p ≤ 3 → s.clk.holdOver = false →
    let x := kvGet ({} : Pll) s.clk.plls p
    x.down = false →
    (x.tries < 3 → exec (.lanePllLockTimeout p) s =
      .next (s.modClk fun c => { c with plls := kvSet c.plls p { x with tries := x.tries + 1 } })) ∧
    (3 ≤ x.tries → exec (.lanePllLockTimeout p) s = .next ((pllGroup p).foldl
      (fun s i => raiseAs (if p = 3 then 3 else 2) 0 0x0106 (BitVec.ofNat 16 i) 0 p s)
      (s.modClk fun c => { c with plls := kvSet c.plls p { x with down := true } }))))

/-- LANE_STAT, back-channel loss and BER tests judge a lane; interlock inputs close and open the gate (R177, R181, R182,
R183, R184). -/
def Obligations.LaneErrorsAndInterlocks : Prop :=
  (∀ (l n fw fl be : Nat) (s : State), laneStation s l = some n → (s.lane l).statSeen = false →
    let k := (s.st n).scan.sweeps % 65536
    let t := modLane l (fun x => { x with
      statSeen := true, noStat := 0, ber := x.ber.map fun b => { b with errs := be } }) s
    let u := if (s.lane l).ber.any fun b => decide (30000000000 ≤ b.bits) then berJudge l be t else t
    (8 ≤ fw → exec (.laneStat l k fw fl be) s = .next (orderRetrain l 0x0901 fw u)) ∧
    (0 < fw → fw < 8 → bitOf fl 2 = false → bitOf fl 3 = false →
      exec (.laneStat l k fw fl be) s = .next (startBer l false (raise 0x0901 (laneHandle l) 0 fw u))) ∧
    (fw < 8 → (bitOf fl 2 = true ∨ (0 < fw ∧ bitOf fl 3 = true)) →
      exec (.laneStat l k fw fl be) s = .next (startBer l false (raise 0x0901 (laneHandle l) 0 fw (failExposure n u)))) ∧
    (bitOf fl 2 = false → bitOf fl 3 = false → exec (.laneStat l k 0 fl be) s = .next u) ∧
    (bitOf fl 2 = false → bitOf fl 3 = true → exec (.laneStat l k 0 fl be) s = .next (failExposure n u)) ∧
    (∀ j, j ≠ k → exec (.laneStat l j fw fl be) s = .next s)) ∧
  (∀ (l sw fw fl be : Nat) (s : State), (s.lane l).statSeen = true ∨ laneStation s l = none →
    exec (.laneStat l sw fw fl be) s = .next s) ∧
  (∀ (l : Nat) (s : State),
    ((s.lane l).trained = true → (s.lane l).training = false → (s.lane l).retired = false →
      exec (.backChannelLoss l) s = .next (orderRetrain l 0x0902 l (modLane l (fun x => { x with cdrLock := false }) s))) ∧
    (((s.lane l).trained = false ∨ (s.lane l).training = true ∨ (s.lane l).retired = true) →
      exec (.backChannelLoss l) s = .next s)) ∧
  (∀ (l : Nat) (b : Ber) (s : State), (s.lane l).ber = some b →
    (b.extended = false → exec (.berTestComplete l 0) s = .next (berEnded true l s) ∧
      exec (.berTestComplete l 1) s = .next (modLane l (fun x => { x with
        ber := some { b with extended := true, errs := 1, base := 1, bits := 0 } }) s) ∧
      ∀ e, 2 ≤ e → exec (.berTestComplete l e) s = .next (berEnded false l s)) ∧
    (b.extended = true → exec (.berTestComplete l b.base) s = .next (berEnded true l s) ∧
      ∀ e, e ≠ b.base → exec (.berTestComplete l e) s = .next (berEnded false l s)) ∧
    ((s.lane l).mode = .swept → exec (.berNoWordTimeout l) s = .next (berEnded false l s)) ∧
    ((s.lane l).mode ≠ .swept → exec (.berNoWordTimeout l) s = .next s)) ∧
  (∀ (l e : Nat) (s : State), (s.lane l).ber = none → exec (.berTestComplete l e) s = .next s) ∧
  (∀ (low : BitVec 8) (s : State),
    ∃ t, t.intlk.low = low ∧ t.intlk.closedBy = s.intlk.closedBy ||| (low &&& ~~~s.intlk.low) ∧
      (∀ j < 18, t.intlk.shut.getLsbD j = (s.intlk.shut.getLsbD j ||
        (List.range 8).any fun i => (low &&& ~~~s.intlk.low).getLsbD i && (mapWord s i).testBit j)) ∧
      (∀ i < 8, t.intlk.latched.getLsbD i = (s.intlk.latched.getLsbD i ||
        ((low &&& ~~~s.intlk.low).getLsbD i && bitOf (mapWord s i) 31))) ∧ t = { s with intlk := t.intlk } ∧
      (low &&& ~~~s.intlk.low = 0#8 → exec (.interlockAssert low) s = .next t ∧ t.intlk.latched = s.intlk.latched) ∧
      (low &&& ~~~s.intlk.low ≠ 0#8 →
        exec (.interlockAssert low) s = .next (note 0x0C01 0#16 0 (interlockFrames (darken (setLasers t)))))) ∧
  (∀ (s : State) (l : Nat), (darken s).lane l = s.lane l ∨ ((darken s).lane l).mode = .dark) ∧
  (∀ s : State,
    ((setLasers s).boot.laserEn0 = true → gateLowers s 0 = false ∧ s.faults.lockout = false) ∧
    ((setLasers s).boot.laserEn1 = true → gateLowers s 1 = false ∧ s.faults.lockout = false)) ∧
  (∀ s : State,
    let t := s.modIntlk fun x => { x with low := 0#8 }
    (s.intlk.latched = 0#8 → exec .interlockGateOpen s =
      .next (leaveAllDark (setLasers (reloadMap (t.modIntlk fun x => { x with closedBy := 0#8, shut := 0#18 }))))) ∧
    (s.intlk.latched ≠ 0#8 → exec .interlockGateOpen s = .next t)) ∧
  (∀ s : State, exec .interlockPathMismatch s = .next (raise 0x0C02 0#16 0 0 s))

/-- MEAS_RESULT judges the requested emitter; a defect tests it four times; HEAD_DATA reads a head, accepts or rejects
it, and finds it lost (R186, R187, R192, R193, R194, R196, R197, R203, R204, R205). -/
def Obligations.EmittersAreMeasuredAndHeadsRead : Prop :=
  (∀ (l n e sw tag v1 v2 m1 m2 : Nat) (r : MeasReq) (s : State), laneStation s l = some n →
    (s.st n).ems.req = some r →
    let ms := [v1, v2, m1, m2]
    (sw = r.sweep.toNat → e = r.emitter → tag = r.tag → 0xFFFF ∉ ms →
      exec (.measResult l sw e tag v1 v2 m1 m2) s = .next (judge n r (withinWindows s n r v1 v2 m1 m2) s)) ∧
    ((sw ≠ r.sweep.toNat ∨ e ≠ r.emitter ∨ tag ≠ r.tag ∨ 0xFFFF ∈ ms) →
      exec (.measResult l sw e tag v1 v2 m1 m2) s = .next (missResult n r s))) ∧
  (∀ (n : Nat) (r : MeasReq) (s : State),
    ((s.st n).ems.missing + 1 < 4 → ∃ t, missResult n r s = t ∧ (t.st n).ems.missing = (s.st n).ems.missing + 1 ∧
      (t.st n).ems.req = none ∧ ((s.st n).ems.test = none → (t.st n).ems.turn = r.emitter)) ∧
    (∀ l, (s.st n).ems.missing = 3 → stationLane s n = some l →
      ∃ t, missResult n r s = startBer l false (raise 0x0901 (laneHandle l) 0 r.emitter t) ∧ (t.st n).ems.missing = 0 ∧
        ((s.st n).ems.test = none → (t.st n).ems.turn = (r.emitter + 1) % 36))) ∧
  (∀ (n : Nat) (r : MeasReq) (s : State), (s.st n).ems.test = none → (emitter s n r.emitter).st = .mapped →
    (s.st n).ems.cycleDone = true →
    let t := fun (g : Bool) => modEm n r.emitter
      (fun m => { m with good := g, lastGood := if g then (s.st n).scan.sweeps else m.lastGood })
      (modEms n (fun x => { x with req := none, missing := 0 }) s)
    judge n r true s = t true ∧ judge n r false s = surveyDone n (startEmTest n r.emitter (t false))) ∧
  (∀ (n e : Nat) (s : State),
    ∃ t, startEmTest n e s = raise 0x0A01 (stH t n) (emSel e) e t ∧ (t.st n).ems.test = some (e, 0, true) ∧
      (emitter t n e).st = .suspect ∧ t = { s with stations := t.stations }) ∧
  (∀ (n e cnt : Nat) (ok good : Bool) (s : State), cnt < 3 →
    testResult n e cnt ok good s = modEms n (fun x => { x with test := some (e, cnt + 1, ok && good) }) s) ∧
  (∀ (n e : Nat) (s : State),
    ((emitter s n e).st = .mapped → (∃ p ∈ (s.st n).ems.em, p.1 = e) →
      exec (.emitterResultStale n e) s = .next (note 0x0A02 (stH s n) (emSel e) s)) ∧
    ((emitter s n e).st ≠ .mapped → exec (.emitterResultStale n e) s = .next s)) ∧
  (∀ (l n a st : Nat) (d : List Nat) (s : State), laneStation s l = some n → (s.st n).ems.readAt = some a →
    (st = 0 → a < 496 → ∃ t, exec (.headData l a d st) s = .next (askHead n (a + 8) (min 8 (500 - (a + 8))) t) ∧
      (t.st n).ems.readAt = some (a + 8) ∧ (t.st n).ems.readErr = 0 ∧
      (t.st n).ems.mem = d.zipIdx.foldl (fun m p => kvSet m (a + p.2) (BitVec.ofNat 8 p.1)) (s.st n).ems.mem) ∧
    (st = 1 → exec (.headData l a d st) s = .next (modEms n (fun x => { x with readAt := none, mem := [] }) s)) ∧
    (2 ≤ st → (s.st n).ems.readErr < 3 → exec (.headData l a d st) s = .next (askHead n a (min 8 (500 - a))
      (modEms n (fun x => { x with readErr := x.readErr + 1 }) s))) ∧
    (2 ≤ st → 3 ≤ (s.st n).ems.readErr → exec (.headData l a d st) s = .next (raise 0x0B01 (stH s n) 0 n
      (modEms n (fun x => { x with readAt := none, mem := [], rejected := true, readErr := 0 }) s)))) ∧
  (∀ (l n : Nat) (h : Head) (d : List Nat) (s : State), laneStation s l = some n → (s.st n).ems.readAt = none →
    (s.st n).ems.presence = true → (s.st n).ems.head = some h →
    let t := modEms n (fun x => { x with presence := false }) s
    (leNat (d.map (BitVec.ofNat 8 ·)) = h.serial →
      exec (.headData l 4 d 0) s = .next (modEms n (fun x => { x with readErr := 0 }) t)) ∧
    (leNat (d.map (BitVec.ofNat 8 ·)) ≠ h.serial → exec (.headData l 4 d 0) s = .next (loseHead n t)) ∧
    exec (.headData l 4 d 1) s = .next (loseHead n t)) ∧
  (∀ (n : Nat) (h : Head) (s : State), (s.st n).ems.head = some h →
    ∃ t, loseHead n s = raise 0x0B02 (stH t n) 0 n t ∧ (t.st n).ems.head = none ∧ (t.st n).ems.test = none ∧
      ∀ e < 36, (emitter t n e).st = .unmeasured) ∧
  (∀ (n l : Nat) (s : State), stationLane s n = some l → (s.lane l).training = false → (s.lane l).trained = true →
    let e := if standby s then sendSide l 6 [] s else s
    ((s.st n).ems.head.isSome = true → exec (.headPresenceCheck n) s =
      .next (askHead n 4 8 (modEms n (fun x => { x with presence := true }) e))) ∧
    ((s.st n).ems.head = none → (s.st n).ems.readAt = none →
      exec (.headPresenceCheck n) s = .next (readHead n e)) ∧
    ((s.st n).ems.head = none → (s.st n).ems.readAt ≠ none → exec (.headPresenceCheck n) s = .next e)) ∧
  (∀ (n : Nat) (s : State), (∀ l, stationLane s n = some l → (s.lane l).training = true ∨ (s.lane l).trained = false) →
    exec (.headPresenceCheck n) s = .next s) ∧
  (∀ (n : Nat) (s : State), headOk s n (headImage (s.st n).ems) = false →
    ∃ t, acceptHead n s = raise 0x0B01 (stH t n) 0 n t ∧ (t.st n).ems.head = none ∧ (t.st n).ems.rejected = true) ∧
  (∀ (k : Nat) (ls : List (Nat × BitVec 36)), ls.length ≤ 65 →
    (acceptList k ls).1.length ≤ 65 ∧ ∃ m, (acceptList k ls).1.getLast? = some (k, m) ∧
      ∀ p, ls.find? (fun p => p.1 == k) = some p → m = p.2)

/-- Every newel count moves the counter by exactly the scale; index, loss and backup checks raise what Table 10-1 names
(R45, R207, R208, R209, R212). -/
def Obligations.NewelCountsExactly : Prop :=
  (∀ (up : Bool) (s : State), s.newel.lost = false → s.newel.onBackup = false → noFlights s = true →
    ∃ t, exec (.newelCount false (if up then .up else .down)) s = .next t ∧
      t.newel.pos = wrapNewel (s.newel.pos + countSign s up * newelScale s) ∧
      t.newel.idx = s.newel.idx + countSign s up ∧ t.newel.backup = s.newel.backup ∧ t = { s with newel := t.newel }) ∧
  (∀ (up : Bool) (s : State), s.newel.onBackup = false → noFlights s = true →
    ∃ t, exec (.newelCount true (if up then .up else .down)) s = .next t ∧ t.newel.pos = s.newel.pos ∧
      t.newel.backup = wrapNewel (s.newel.backup + countSign s up * backupScale s) ∧ t = { s with newel := t.newel }) ∧
  (∀ i : Int, -(2 : Int) ^ 79 ≤ i → i < 2 ^ 79 → wrapNewel i = i) ∧
  (∀ s : State, noFlights s = false →
    (s.newel.high - s.newel.pos ≤ 2 ^ 30 → reversalCheck s = s.modNewel fun x => { x with high := max x.high x.pos }) ∧
    (2 ^ 30 < s.newel.high - s.newel.pos → ∃ t, reversalCheck s = raise 0x0D04 0#16 0 0 (spoilNewel t) ∧
      t = { s with newel := { s.newel with high := s.newel.pos } })) ∧
  (∀ (aux : Bool) (s : State), s.newel.illegal.length < 4 →
    ∃ t, exec (.newelCount aux .illegal) s = .next (raise 0x0D01 0#16 0 (bnat aux) t) ∧
      t.newel.pos = s.newel.pos ∧ t.newel.backup = s.newel.backup ∧ t.newel.idx = s.newel.idx ∧
      t = { s with newel := t.newel }) ∧
  (∀ (aux : Bool) (s : State), exec (.newelLossOfSignal aux) s = .next (encoderLoss aux s) ∧
    exec (.newelCount aux .overspeed) s = .next (encoderLoss aux s)) ∧
  (∀ s : State, s.newel.idxTest = false →
    let n := s.cfgGet 0x05 0 8 4
    let t := fun (b : Bool) => s.modNewel fun x => { x with idx := 0, idxSeen := true, idxTest := b }
    let off := (s.newel.idx.natAbs - n) + (n - s.newel.idx.natAbs)
    (s.newel.idxSeen = true → n ≠ 0 → 1 < off → exec .newelIndex s = .next (raise 0x0D02 0#16 0 n (t true))) ∧
    ((s.newel.idxSeen = false ∨ n = 0 ∨ off ≤ 1) → exec .newelIndex s = .next (t false))) ∧
  (∀ s : State, s.newel.lost = false → s.newel.usable = true → newelLoss s =
    let t := raise 0x0D03 0#16 0 0 (s.modNewel fun x => { x with lost := true, onBackup := true })
    if t.newel.onBackup then t else beginStop (askStop .controlled (spoilNewel t))) ∧
  (∀ s : State, s.newel.lost = true → newelLoss s = s) ∧
  (∀ s : State,
    let x := s.newel
    let adv := (x.pos - x.secPos).natAbs
    let diff := ((x.pos - x.secPos) - (x.backup - x.secBack)).natAbs
    let t := fun (b : Bool) => s.modNewel fun x => { x with secPos := x.pos, secBack := x.backup, usable := b }
    x.lost = false → backupScale s ≠ 0 →
    (diff * 10000 ≤ adv * s.cfgGet 0x05 0 16 1 → exec .newelBackupCheck s = .next (t true)) ∧
    (adv * s.cfgGet 0x05 0 16 1 < diff * 10000 → exec .newelBackupCheck s = .next (note 0x0D06 0#16 0 (t false)))) ∧
  (∀ s : State,
    (s.gov.webOver = false → exec .webFollowingTimeout s = .next s) ∧
    (∀ a, s.gov.webOver = true → webDrive s.cfg.cur = some a → exec .webFollowingTimeout s =
      .next (raise 0x0D05 (s.cfg.cur.ranked 6 a) 0 0 (s.modGov fun g => { g with webOver := false }))))

/-- A geared follower keeps the exact ratio with its remainder; HELD and FREE followers leave it; limits and following
errors stop an axis (R213, R214, R221, R241). -/
def Obligations.FollowersNeverDeviate : Prop :=
  (∀ (cyc : Bool) (x : Rat) (dn : Int) (g : Gear), g.blend = none → g.den ≠ 0 →
    let h := g.follow cyc x dn
    (h.cmd - g.cmd) * g.den + h.acc = g.acc + dn * g.num ∧ 0 ≤ h.acc ∧ h.acc < g.den ∧
      h.num = g.num ∧ h.den = g.den ∧ h.blend = none) ∧
  (∀ (cyc : Bool) (moves : List (Rat × Int)) (g : Gear), g.blend = none → g.den ≠ 0 → 0 ≤ g.acc → g.acc < g.den →
    let h := moves.foldl (fun g m => g.follow cyc m.1 m.2) g
    (h.cmd - g.cmd) * g.den + h.acc = g.acc + (moves.map (·.2)).sum * g.num ∧ 0 ≤ h.acc ∧ h.acc < g.den) ∧
  (∀ (cyc : Bool) (x v : Rat) (dn : Int) (g : Gear),
    (g.st = .held → g.cycle cyc x dn v = { g with cmd := g.cmd + (g.ff * 16 / 1000000).floor }) ∧
    (g.st = .free → g.cycle cyc x dn v = g)) ∧
  (∀ (x v : Rat) (n : Int) (d : Nat) (p : Int) (g : Gear), g.regear = some (n, d, p) →
    ((p : Rat) ≤ x → matched g.ff v (ratioOf n d) = true → (g.regearAt x v).2 = some true ∧
      (g.regearAt x v).1.st = .geared ∧ (g.regearAt x v).1.acc = 0 ∧ (g.regearAt x v).1.cmd = g.cmd ∧
      (g.regearAt x v).1.num = n ∧ (g.regearAt x v).1.den = d) ∧
    ((p : Rat) ≤ x → matched g.ff v (ratioOf n d) = false → g.regearAt x v = ({ g with regear := none }, some false)) ∧
    (x < p → g.regearAt x v = (g, none))) ∧
  (∀ (a : Nat) (s : State),
    let x := s.axis a
    let err := absRat ((x.gear.cmd : Rat) / 65536 - x.pos)
    let t := modAxis a (fun x => { x with fault := true }) s
    ((axF s a 108 4 : Rat) < err → axF s a 108 4 ≠ 0 → x.fault = false →
      (x.gear.st = .geared → exec (.axisFollowingTimeout a) s = .next (raiseAs 3 0 0x0E02 (axH s a) 0 a t)) ∧
      (x.gear.st ≠ .geared → exec (.axisFollowingTimeout a) s = .next (raiseAs 2 0 0x0E02 (axH s a) 0 a t))) ∧
    ((err ≤ (axF s a 108 4 : Rat) ∨ axF s a 108 4 = 0) → exec (.axisFollowingTimeout a) s = .next s)) ∧
  (∀ (h : Handle) (b : Bool) (c : Int) (s : State), axesOf s h = [] → (kvGet [] s.ring.edges (hIndex h)).length < 3 →
    ∃ t, exec (.limitInputAccepted h b c) s = .next t ∧ kvGet (!b) t.ring.inputs (hIndex h) = b ∧
      t = { s with ring := t.ring } ∧ t.ring = { s.ring with inputs := t.ring.inputs, edges := t.ring.edges }) ∧
  (∀ (h : Handle) (c : Int) (a : Nat) (s : State), axesOf s h = [a] → (s.axis a).home = .none →
    (kvGet [] s.ring.edges (hIndex h)).length < 3 →
    ∃ t, exec (.limitInputAccepted h true c) s = .next (limitTrip a h t) ∧ t = { s with ring := t.ring })

/-- Six-step starts, catches, misses and offsets; FOC periods, winding models, cross-checks and stage disable (R227,
R228, R229, R230, R231, R237, R238, R239, R240, R241). -/
def Obligations.MotorsAreCommutatedAndEstimated : Prop :=
  (∀ (a : Nat) (s : State), axMode s a = 0 → (s.axis a).fault = false →
    ((s.axis a).phase = .align → ∀ b, exec (.sixStepStart a b) s = .next
      ((modAxis a (fun x => { x with phase := .ramp }) s).send (.axis a 4 [(axF s a 10 2 : Nat)]))) ∧
    ((s.axis a).phase = .ramp → exec (.sixStepStart a true) s = .next (modAxis a (fun x => { x with phase := .handover }) s)) ∧
    ((s.axis a).phase = .handover → exec (.sixStepStart a true) s = .next (modAxis a (fun x => { x with
      phase := .running, starts := 0, catches := 0, misses := 0, zcs := [] }) s)) ∧
    (((s.axis a).phase = .ramp ∨ (s.axis a).phase = .handover) →
      let t := (modAxis a (fun x => { x with phase := .coast, starts := (s.axis a).starts + 1, duty := 0 }) s).send (.axis a 0 [])
      ((s.axis a).starts < 2 → exec (.sixStepStart a false) s = .next t) ∧
      (2 ≤ (s.axis a).starts → exec (.sixStepStart a false) s = .next (raise 0x0E04 (axH s a) 0 ((s.axis a).starts + 1) t))) ∧
    ((s.axis a).phase = .coast → ∀ b, exec (.sixStepStart a b) s = .next
      ((modAxis a (fun x => { x with phase := .catching }) s).send (.axis a 5 [])))) ∧
  (∀ (a : Nat) (s : State),
    ((s.axis a).phase ≠ .catching → ∀ c, exec (.catchWindow a c) s = .next s) ∧
    ((s.axis a).phase = .catching → openOn s (axH s a) 0x0E03 = false →
      exec (.catchWindow a .rest) s = .next
        ((modAxis a (fun x => { x with phase := .align, catches := 0 }) s).send (.axis a 6 [(axF s a 4 2 : Nat)])) ∧
      exec (.catchWindow a .reverse) s = .next ((modAxis a (fun x => { x with phase := .coast }) s).send (.axis a 0 [])) ∧
      (2 ≤ (s.axis a).catches → exec (.catchWindow a .unclear) s = .next (raise 0x0E05 (axH s a) 0 ((s.axis a).catches + 1)
        ((modAxis a (fun x => { x with phase := .coast, catches := (s.axis a).catches + 1 }) s).send (.axis a 0 [])))))) ∧
  (∀ (a : Nat) (s : State),
    ((axMode s a ≠ 0 ∨ (s.axis a).phase ≠ .running) → exec (.commutationMiss a) s = .next s) ∧
    (axMode s a = 0 → (s.axis a).phase = .running → polygonStation s a = none →
      let x := s.axis a
      let k := (x.sector + 1) % sectors s a
      let t := sendComm a (x.comm + 2 * x.theta) k x.duty (modAxis a (fun x => { x with
        comm := x.comm + 2 * x.theta, sector := k, misses := x.misses + 1, zcs := [] }) s)
      (x.misses = 0 → exec (.commutationMiss a) s = .next t) ∧
      (1 ≤ x.misses → exec (.commutationMiss a) s = .next
        ((modAxis a (fun x => { x with phase := .catching, catches := 0, misses := 0 })
          (raise 0x0E03 (axH s a) 0 a t)).send (.axis a 5 []))))) ∧
  (∀ (a : Nat) (r : List Int) (s : State),
    (polygonStation s a = none → exec (.offsetLearnUpdate a r) s = .next s) ∧
    (∀ n, polygonStation s a = some n → (s.st n).scan.sosOk = true → stationLane s n = none → r.length = sectors s a →
      ∃ t, exec (.offsetLearnUpdate a r) s = .next t ∧ t = { s with axes := t.axes } ∧
        ((List.range r.length).map fun k => kvGet 0 (t.axis a).off k).sum = 0)) ∧
  (∀ s : State, exec .focPwmPeriod s = .next (((axesOn s).filter fun a =>
    axMode s a == 1 && (s.axis a).enabled && !(s.axis a).fault).foldl (fun s a => focStep a s) s)) ∧
  (∀ s : State, (∀ a ∈ axesOn s, axF s a 54 2 = 0) → exec .windingModelUpdate s = .next s) ∧
  (∀ (a : Nat) (s : State), axesOn s = [a] → axF s a 54 2 ≠ 0 → exec .windingModelUpdate s = .next (windingStep a s)) ∧
  (∀ (a : Nat) (s : State), windingSensor s a = none →
    let x := s.axis a
    let tau := (axF s a 48 2 : Rat) / 10
    tau ≠ 0 → windingStep a s = modAxis a (fun y => { y with
      rise := x.rise + ((axF s a 46 2 : Rat) / 100 * (3 / 2 * resist s a * x.iSq) - x.rise) / tau / 1000 }) s) ∧
  (∀ (a : Nat) (s : State),
    ((s.axis a).sat = true → exec (.voltageLimit a) s = .next (note 0x0E08 (axH s a) 0 s)) ∧
    ((s.axis a).sat = false → exec (.voltageLimit a) s = .next s) ∧
    (axMode s a = 2 → (s.axis a).lastCross + 259200 ≤ s.clk.opSec →
      exec (.estimatorStale a) s = .next (note 0x0E0A (axH s a) 0 s)) ∧
    ((axMode s a ≠ 2 ∨ s.clk.opSec < (s.axis a).lastCross + 259200) → exec (.estimatorStale a) s = .next s)) ∧
  (∀ s : State, (∀ a ∈ axesOn s, axMode s a ≠ 2) → exec .kappaSave s = .next (requestStore s)) ∧
  (∀ (a : Nat) (s : State), axesOn s = [a] → axMode s a = 2 →
    exec .kappaSave s = .next (requestStore (modAxis a (fun x => { x with kappaSaved := x.kappa }) s))) ∧
  (∀ (a : Nat) (s : State), axMode s a = 2 → 125000 ≤ (s.axis a).winN → resist s a * (s.axis a).kappa ≠ 0 →
    0 < (s.axis a).kappa →
    ∃ t k, (exec (.estimatorCrossCheck a) s = .next t ∨ exec (.estimatorCrossCheck a) s = .next (note 0x0E0B (axH t a) 0 t)) ∧
      (t.axis a).kappa = k ∧ 4 / 5 ≤ k ∧ k ≤ 5 / 4 ∧ (t.axis a).lastCross = s.clk.opSec ∧ (t.axis a).winN = 0 ∧
      (4 / 5 ≤ (s.axis a).kappa → (s.axis a).kappa ≤ 5 / 4 →
        (s.axis a).kappa * (49 / 50) ≤ k ∧ k ≤ (s.axis a).kappa * (51 / 50) ∨ k = 4 / 5 ∨ k = 5 / 4)) ∧
  (∀ (a : Nat) (s : State),
    (s.gov.stopping = true → s.land.stopReq ≠ .threadCmd → 200 * absRat (s.axis a).speed < ratedSpeed a →
      exec (.stageDisable a) s =
        .next ((modAxis a (fun x => { x with enabled := false, phase := .rest, duty := 0 }) s).send (.axis a 0 []))) ∧
    (s.gov.stopping = false → exec (.stageDisable a) s = .next s))

/-- A ring cycle takes records in, moves web and followers and sends; ports, enumeration, loop tests and node replies
(R213, R244, R246, R252, R253, R254, R257, R258, R259, R260, R346). -/
def Obligations.TheRingCyclesAndEnumerates : Prop :=
  (∀ (ups : List NodeUp) (s : State),
    let t := pairTick (s.modRing fun r => { r with cyc := r.cyc + 1 })
    (standby t = true → exec (.ringCycle ups) s = .next (sendMirror t)) ∧
    (standby t = false → exec (.ringCycle ups) s = .next (ringOut (ringFollow (ringWeb s (ringIn ups t)))))) ∧
  (∀ (ups : List NodeUp) (s : State), s.ring.cyclic = false → s.ring.hvTest = [] → ringIn ups s =
    s.modNewel fun x => { x with dn := x.pos / (2 ^ 24 : Nat) - x.prevCyc, prevCyc := x.pos / (2 ^ 24 : Nat) }) ∧
  (∀ (ups : List NodeUp) (n : Nat) (y : Node) (s : State), s.ring.cyclic = true → s.ring.nodes = [(n, y)] → y.slot = true →
    y.lost = false →
    ((∀ u ∈ ups, u.node ≠ n) → nodeRecords ups s = recordMissing n s) ∧
    (∀ u, ups = [u] → u.node = n → nodeRecords ups s = nodeRecord u s)) ∧
  (∀ (n : Nat) (s : State), unitsOn s.cfg.cur (nodeH s n) = [] →
    let k := (s.node n).missing + 1
    let t := note 0x1201 (nodeH s n) 0 (modNode n (fun x => { x with missing := k }) s)
    (k = 4 → recordMissing n s = raise 0x1201 (nodeH s n) 0 n t) ∧
    (k = 8 → recordMissing n s = retireNode (nodeH s n) (raise 0x1202 (nodeH s n) 0 n t)) ∧
    (k ≠ 4 → k ≠ 8 → recordMissing n s = t)) ∧
  (∀ (p : Nat) (s : State),
    exec (.ringPortUp p) s = .next (s.modRing fun r => { r with up := kvSet r.up p true }) ∧
    (let t := s.modRing fun r => { r with up := kvSet r.up p false, broken := true }
     (reportable s (ringPortH p) = true → exec (.ringPortDown p) s = .next (raise 0x1101 (ringPortH p) 0 p t)) ∧
     (reportable s (ringPortH p) = false → exec (.ringPortDown p) s = .next t))) ∧
  (∀ (cw ccw : Nat) (s : State), nodesOn s = [] → s.ring.nodes = [] →
    let l := max cw ccw
    let apart := 10 < (cw - ccw) + (ccw - cw)
    let long := 16000 < 2 * l + 3000 ∨ 135000 < (17 + slotArea s.cfg.cur) * 32 + 10 * l
    let t := s.modRing fun r => { r with loopNs := l, cyclic := false, outService := false }
    let out := t.modRing fun r => { r with outService := true }
    (apart → exec (.ringEnumeration cw ccw []) s = .next (raise 0x1103 (ringPortH 0) 0 l out)) ∧
    (¬ apart → long → exec (.ringEnumeration cw ccw []) s = .next (raise 0x1102 (ringPortH 0) 0 l out)) ∧
    (¬ apart → ¬ long → exec (.ringEnumeration cw ccw []) s = .next (t.modRing fun r => { r with
      cyclic := true, broken := !(kvGet false r.up 0 && kvGet false r.up 1) }))) ∧
  (∀ (n : Nat) (ends : List (Nat × Nat)) (s : State),
    let h := nodeH s n
    let pass : Bool := !ends.isEmpty && ends.all fun e => e.1 == 1024 && e.2 == 0
    exec (.loopTestRead (some n) ends) s = .next (returnEnded pass h 0 (testEnded pass h 0 s))) ∧
  (∀ (ends : List (Nat × Nat)) (s : State), (∀ h, openOn s h 0x1101 = false) → s.mbx.waiters = [] →
    exec (.loopTestRead none ends) s = .next s) ∧
  (∀ (n tag st v op : Nat) (s : State), (s.node n).req = some (op, tag) →
    let arg := (s.node n).reqArg
    (op = 4 → st = 0 → exec (.nodeMailboxReply n tag st v) s = .next (modNode n (fun x => { x with
      req := none, turns := 0, read := kvSet x.read (paramKey arg.1 arg.2.1) v }) s)) ∧
    (op = 3 → st = 0 → ∃ t, exec (.nodeMailboxReply n tag st v) s = .next t ∧ arg ∈ (t.node n).params ∧
      (t.node n).req = none ∧ t = { s with ring := t.ring }) ∧
    (st ≠ 0 → exec (.nodeMailboxReply n tag st v) s = .next (modNode n (fun x => { x with req := none, turns := 0 }) s)) ∧
    (∀ k, k ≠ tag → exec (.nodeMailboxReply n k st v) s = .next s))

/-- Reset, FOSC and XTAL0 checks, root locks, the divider staircase, failures in service and clock meter 1 (R285, R288,
R289, R290, R291, R293, R294, R295, R310, R436, R438). -/
def Obligations.ClocksWakeInOrder : Prop :=
  (∀ s : State, exec .porstNAssert s = .next (resetDevice s) ∧ (resetDevice s).clk.opSec = s.clk.opSec ∧
    (resetDevice s).clk.powerCycle = s.clk.powerCycle ∧ (resetDevice s).land.nextSerial = s.land.nextSerial ∧
    (resetDevice s).gal.recs = s.gal.recs ∧ (resetDevice s).auth.keys = s.auth.keys ∧ (resetDevice s).boot.porst = true) ∧
  (∀ (p b : Nat) (s : State),
    (s.boot.porst = false → ∀ e, exec (.porstNRelease p b e) s = .next s) ∧
    (s.boot.porst = true → exec (.porstNRelease p b true) s = .fault .factoryTest ∧
      ∃ t, exec (.porstNRelease p b false) s = .next t ∧ t.boot.porst = false ∧ t.boot.pairSlot = p % 2 ∧
        t.boot.bootMode = b % 4 ∧ t.clk.powerCycle = min 0xFFFFFFFF (s.clk.powerCycle + 1) ∧
        (t.boot.stage = .rom ↔ b % 4 < 2) ∧ t = { s with boot := t.boot, clk := t.clk })) ∧
  (∀ (k : Nat) (s : State), s.boot.porst = false →
    (160000 ≤ k → k ≤ 240000 → s.clk.foscGood = false → ∃ t, exec (.foscCheck k) s = .next t ∧ t.clk.foscGood = true ∧
      t.clk.xtalOn = true ∧ t.clk.foscFails = 0 ∧ (∀ d < 7, (domain t.clk d).div = foscDiv d) ∧ t = { s with clk := t.clk }) ∧
    (160000 ≤ k → k ≤ 240000 → s.clk.foscGood = true →
      exec (.foscCheck k) s = .next (s.modClk fun c => { c with foscFails := 0 })) ∧
    ((k < 160000 ∨ 240000 < k) → s.clk.foscFails < 3 →
      exec (.foscCheck k) s = .next (s.modClk fun c => { c with foscFails := c.foscFails + 1 })) ∧
    ((k < 160000 ∨ 240000 < k) → 3 ≤ s.clk.foscFails → exec (.foscCheck k) s = .next (resetDevice s))) ∧
  (∀ (k : Nat) (s : State), s.boot.porst = false → s.clk.xtalOn = true → s.clk.stairDone = false → s.boot.cause = 0#4 →
    (115 ≤ k → k ≤ 141 → s.clk.xtalGates < 15 →
      exec (.xtal0Gate k) s = .next (s.modClk fun c => { c with xtalGates := c.xtalGates + 1 })) ∧
    (115 ≤ k → k ≤ 141 → 15 ≤ s.clk.xtalGates →
      exec (.xtal0Gate k) s = .next (s.modClk fun c => { c with xtalGates := 16, xtalGood := true })) ∧
    ((k < 115 ∨ 141 < k) → exec (.xtal0Gate k) s = .next (s.modClk fun c => { c with xtalGates := 0 }))) ∧
  (∀ s : State, waking s = true →
    (s.clk.xtalOn = true → s.clk.xtalGood = false →
      exec .xtal0StartTimeout s = .next (s.modBoot fun b => { b with cause := 1#4 })) ∧
    (s.clk.xtalGood = true → exec .xtal0StartTimeout s = .next s) ∧
    (s.clk.xtalGood = true → s.clk.rootLocked = false →
      (∃ t, exec .rootLock s = .next t ∧ t.clk.rootLocked = true ∧ (∀ d < 7, (domain t.clk d).target = rootDiv d) ∧
        (∀ d < 7, (domain t.clk d).div = (domain s.clk d).div)) ∧
      (∃ t, exec .rootAttemptTimeout s = .next t ∧ t.clk.rootTries = s.clk.rootTries + 1 ∧
        (s.clk.rootTries < 3 → t.boot = s.boot) ∧ (3 ≤ s.clk.rootTries → t.boot.cause = 2#4)))) ∧
  (∀ s : State, s.boot.porst = false → s.boot.cause = 0#4 → s.clk.stairDone = true → s.clk.holdOver = false →
    s.mbx.live = true →
    exec .xtal0Lost s = .next (raise 0x0103 0#16 0 0
      (s.modClk fun c => { c with holdOver := true, rootLocked := false, xtalGood := false })) ∧
    exec .rootUnlock s = .next (raise 0x0104 0#16 0 0
      (s.modClk fun c => { c with holdOver := true, rootLocked := false, xtalGood := true }))) ∧
  (∀ s : State, s.boot.porst = false →
    ((∀ d < 7, domainThere s.clk d = true) → exec .dividerStep s = .next s) ∧
    (∀ d, ((List.range 7).find? fun d => !domainThere s.clk d) = some d →
      ∃ t, exec .dividerStep s = .next t ∧ domain t.clk d = domainStep (wantsRoot s.clk) (domain s.clk d) ∧
        (∀ e, e ≠ d → domain t.clk e = domain s.clk e) ∧ t = { s with clk := t.clk })) ∧
  (∀ (r : Bool) (x : Domain), x.div ∈ ladder → (x.target = 0 ∨ x.target ∈ ladder) → x.div ≠ x.target ∨ x.onRoot ≠ r →
    (domainStep r x).div = 0 ∧ x.target = 0 ∨ (domainStep r x).div ∈ ladder) ∧
  (∀ (ok : Bool) (s : State), s.boot.porst = false →
    let t := s.modClk fun c => { c with opSec := (c.opSec + 1) % 2 ^ 40 }
    ((ok = true ∨ s.clk.xtal1Fail = true) → exec (.xtal1Check ok) s = .next t) ∧
    (ok = false → s.clk.xtal1Fail = false → s.mbx.live = true → exec (.xtal1Check ok) s =
      .next (raise 0x0105 0#16 0 0 (t.modClk fun c => { c with xtal1Fail := true })))) ∧
  (∀ (k : Nat) (s : State),
    (s.clk.meterBusy = false → exec (.clockMeterDone k) s = .next s) ∧
    (s.clk.meterBusy = true → ∃ t, t.clk.meterBusy = false ∧ t.clk.meterCount.toNat = min 0xFFFFFFFF k ∧
      t.clk.meterWord.getLsbD 30 = true ∧ t.clk.meterWord.getLsbD 31 = false ∧
      t.clk.meterWord.getLsbD 29 = decide (0xFFFFFFFF < k) ∧ t = { s with clk := t.clk } ∧
      exec (.clockMeterDone k) s = .next (finish (waitingOp 0x0B04) .ok
        (leBytes 4 t.clk.meterCount.toNat ++ leBytes 1 (bnat (decide (0xFFFFFFFF < k)))) t)))

/-- Rails rise, are judged, fail and fall; PMBus polls, reset outputs, the ADC reference and power failure (R299, R300,
R303, R304, R305, R306, R307, R308, R309, R310, R312). -/
def Obligations.RailsAreJudgedAndSequenced : Prop :=
  (∀ (pins : List (Nat × Rat)) (s : State),
    ((s.power.adcBad = true ∨ s.mbx.live = false ∨ s.boot.stage ≠ .running) → exec (.railJudgement pins) s = .next s) ∧
    (∀ (r : Nat) (v : Rat), s.power.adcBad = false → s.mbx.live = true → s.boot.stage = .running → usedRails s = [r] →
      railPm s r = false → railTimed s r = false → pins = [(railF s r 0 1 % 16, v)] → exec (.railJudgement pins) s =
        .next (judgeRail r (v * (railF s r 24 2 : Nat) / 256).floor.toNat 4 true s))) ∧
  (∀ (r mv limit : Nat) (clean : Bool) (s : State),
    let t := modRail r (fun x => { x with mv := mv }) s
    ((s.rail r).st = .good → railWindow s r mv = true →
      judgeRail r mv limit clean s = modRail r (fun x => { x with badJudge := 0 }) t) ∧
    ((s.rail r).st = .good → railWindow s r mv = false → (s.rail r).badJudge + 1 < limit →
      judgeRail r mv limit clean s = modRail r (fun x => { x with badJudge := (s.rail r).badJudge + 1 }) t) ∧
    ((s.rail r).st = .good → railWindow s r mv = false → limit ≤ (s.rail r).badJudge + 1 →
      judgeRail r mv limit clean s = railFails r 2 t) ∧
    ((s.rail r).st = .rising → railWindow s r mv = true → judgeRail r mv limit true s = upDone (setRail r .good t)) ∧
    ((s.rail r).st = .rising → railWindow s r mv = false → judgeRail r mv limit clean s = t) ∧
    ([RailState.off, .failed, .held].contains (s.rail r).st = true → judgeRail r mv limit clean s = t)) ∧
  (∀ (d p : Nat) (s : State), s.mbx.live = true → s.boot.stage = .running →
    (∀ a, pageRail s d p = none → exec (.pmbusPoll d p a) s = .next s) ∧
    (∀ r, pageRail s d p = some r → ((s.rail r).st = .good ∨ (s.rail r).st = .rising) →
      exec (.pmbusPoll d p none) s = .next (railFails r 3 (modRail r (fun x => { x with noAns := true }) s))) ∧
    (∀ r m w, pageRail s d p = some r → (s.rail r).st = .good → statusFault w true = false →
      railWindow s r (linear16 s d p m) = true → exec (.pmbusPoll d p (some (m, w))) s =
        .next (modRail r (fun x => { x with badJudge := 0 }) (modRail r (fun x => { x with mv := linear16 s d p m })
          (modRail r (fun x => { x with word := w, noAns := false }) s)))) ∧
    exec (.pmbAlert []) s = .next s ∧
    (∀ r w, pageRail s d p = some r → exec (.pmbAlert [(d, p, some w)]) s =
      .next (judgeStatus r w (s.send (.rail r 3))))) ∧
  (∀ (r w : Nat) (s : State), (s.rail r).st = .good → statusFault w true = true →
    judgeStatus r w s = railFails r 4 (modRail r (fun x => { x with word := w, noAns := false }) s)) ∧
  (∀ (ready : List Nat) (s : State),
    ((∀ r, r ∈ ready → usedRail s r = true → startable s r = false) → exec (.railEnable ready) s = .next s) ∧
    (∀ r, (upOrder s ((usedRails s).filter fun r => ready.contains r && startable s r)).head? = some r →
      startable s r = true ∧ (∀ q ∈ usedRails s, q ∈ ready → startable s q = true → railF s r 6 1 ≤ railF s q 6 1) ∧
      exec (.railEnable ready) s = .next ((setRail r .rising s).send (.rail r 1)))) ∧
  (∀ (r : Nat) (s : State),
    ((s.rail r).st ≠ .rising → exec (.riseTimeout r) s = .next s) ∧
    ((s.rail r).st = .rising → usedRail s r = true → railTimed s r = true →
      exec (.riseTimeout r) s = .next (upDone (setRail r .good s))) ∧
    ((s.rail r).st = .rising → usedRail s r = true → railTimed s r = false →
      exec (.riseTimeout r) s = .next (railFails r 1 s)) ∧
    ((s.rail r).st ≠ .falling → exec (.fallTimeout r) s = .next s ∧ exec (.offDelayExpiry r) s = .next s) ∧
    ((s.rail r).st = .falling → railBlind s r = false → exec (.offDelayExpiry r) s = .next s ∧
      exec (.fallTimeout r) s =
        .next (fallen r (raise 0x0205 (railH s r) 0 r (logFailure r 5 s)))) ∧
    ((s.rail r).st = .falling → railBlind s r = true → exec (.fallTimeout r) s = .next s ∧
      exec (.offDelayExpiry r) s = .next (fallen r s))) ∧
  (∀ (o : Nat) (s : State),
    ((4 ≤ o ∨ resetReady s o = false) → exec (.resetOutputRelease o) s = .next s) ∧
    (o < 4 → resetReady s o = true → kvGet false s.power.rst o = false → s.cfg.cur.stationList = [] →
      exec (.resetOutputRelease o) s = .next (s.modPower fun p => { p with rst := kvSet p.rst o true }))) ∧
  (∀ s : State,
    (s.power.adcBad = true → exec .adcReferenceCheck s = .next s) ∧
    (s.power.adcBad = false → s.mbx.live = true → exec .adcReferenceCheck s =
      .next (raise 0x0206 0#16 0 0 (s.modPower fun p => { p with adcBad := true })))) ∧
  (∀ s : State,
    ((s.mbx.live = false ∨ s.boot.pfail = true) → exec .pfwN s = .next s) ∧
    (s.mbx.live = true → s.boot.pfail = false → ∃ t, exec .pfwN s = .next (goDown t) ∧ t.boot.pfail = true ∧
      t.boot.laserEn0 = false ∧ t.boot.laserEn1 = false ∧ t.power.seq = .down ∧ t.ring.safe = true ∧
      t.cal.writing = false ∧ t.cfg.writing = false ∧ t.ledger.tailValid = true ∧ t.ledger.tail.length ≤ 4096 ∧
      t.ledger.tailCycle = s.clk.powerCycle) ∧
    (s.boot.pfail = true → exec .powerFailReset s = .next (leaveReset (resetDevice s))) ∧
    (s.boot.pfail = false → exec .powerFailReset s = .next s))

/-- Each source is judged against its slow, stop and trip thresholds; broken sensors count as hot; stages are left only
cool and acknowledged (R314, R315, R316, R317, R318, R319, R320, R184). -/
def Obligations.ThermalStagesAreEnteredAndLeft : Prop :=
  (∀ (die : List Int) (td : List (Option Int)) (s : State),
    (s.mbx.live = false → exec (.thermalEvaluate die td) s = .next s) ∧
    (s.mbx.live = true → exec (.thermalEvaluate die td) s =
      let r := (List.range 8).foldl (fun s k => match die[k]? with
        | some v => readSource k (some v) s
        | none => s) (dropUnused s)
      let j := judgeThrottle (readEntries td r)
      .next (leaveAllHot ((140 :: ((List.range 132).filter (entryUsed j)).map (8 + ·)).foldl (fun s k => judgeLevel k s) j)))) ∧
  (∀ (k : Nat) (v : Int) (s : State), k ≠ 140 → levelOf s k = some v → v < resumeAt s k → resumeAt s k ≤ slowAt s k →
    slowAt s k ≤ stopAt s k → stopAt s k ≤ tripAt s k → judgeLevel k s = s) ∧
  (∀ (k : Nat) (s : State),
    ((source s k).slow = true → enterSlow k s = s) ∧
    ((source s k).slow = false → ∃ t, enterSlow k s = raise 0x0302 (sourceH s.cfg.cur k) 0 k t ∧
      t = addReq k (slowGrid (s.gov.speed * 4 / 5)) (modSource k (fun x => { x with slow := true }) s)) ∧
    (4 ≤ (source s k).hot → enterStop k s = s) ∧
    ((source s k).hot < 4 → ∃ t, enterStop k s = raise 0x0303 (sourceH s.cfg.cur k) 0 k t ∧
      (source t k).hot = 4 ∧ t = { s with therm := t.therm }) ∧
    ((source s k).hot = 5 → enterTrip k s = s) ∧
    ((source s k).hot ≠ 5 → ∃ t u, (source t k).hot = 5 ∧ t = { s with therm := t.therm } ∧
      u = raise 0x0304 (sourceH s.cfg.cur k) 0 k t ∧
      enterTrip k s = beginStop (askStop .controlled (setLasers (darken (spoilAll 0x14 u)))))) ∧
  (∀ (cause : Nat) (s : State), ∀ f ∈ (spoilAll cause s).land.flights, f.spoiled = true ∧
    ∀ n ∈ f.stations, n < 16 → f.failed.getLsbD n = true) ∧
  (∀ (k : Nat) (s : State), (source s k).broken = true → valueOf s k = some (stopAt s k + 16)) ∧
  (∀ v : Rat, 25 ≤ slowGrid v ∧ (25 ≤ v → slowGrid v ≤ v ∧ v - 1 / 2 < slowGrid v)) ∧
  (∀ s : State,
    ((source s 140).thr = 1 → levelBelow s 140 1472 = true → exec (.thermalStageExit 140 1) s = .next (setThrottle 0 s)) ∧
    ((source s 140).thr = 2 → levelBelow s 140 1520 = true → exec (.thermalStageExit 140 2) s = .next (setThrottle 1 s)) ∧
    (levelBelow s 140 1472 = false → exec (.thermalStageExit 140 1) s = .next s)) ∧
  (∀ (k : Nat) (s : State),
    ((source s k).slow = true → levelBelow s k (slowExit s k) = true →
      exec (.thermalStageExit k 3) s = .next (dropReq k (modSource k (fun x => { x with slow := false }) s))) ∧
    ((source s k).hot ≠ 0 → levelBelow s k (resumeAt s k) = true →
      exec (.thermalStageExit k 4) s = .next (leaveHot k (modSource k (fun x => { x with cool := true }) s))) ∧
    (levelBelow s k (slowExit s k) = false → exec (.thermalStageExit k 3) s = .next s) ∧
    (levelBelow s k (resumeAt s k) = false → exec (.thermalStageExit k 4) s = .next s)) ∧
  (∀ (k : Nat) (v : Rat) (s : State), (source s k).slow = true → levelBelow s k (slowAt s k) = false →
    (s.gov.reqs.find? fun r => r.1 == k) = some (k, v) →
    exec (.slowStep k) s = .next (addReq k (slowGrid (v * 4 / 5)) s)) ∧
  (∀ (k : Nat) (s : State), (source s k).slow = false → exec (.slowStep k) s = .next s) ∧
  (∀ (k : Nat) (r : Int) (s : State),
    ((8 ≤ k ∨ r < 1728) → exec (.dieTripComparator k r) s = .next s) ∧
    (k < 8 → 1728 ≤ r → ∃ t, exec (.dieTripComparator k r) s = .next (setLasers (darken t)) ∧ t.therm.dieTrip = true ∧
      (source t k).raw = some r ∧ t = { s with therm := t.therm })) ∧
  (∀ (k : Nat) (s : State), s.mbx.live = true →
    ((source s k).broken = true → exec (.sensorStuck k) s = .next s) ∧
    ((source s k).broken = false → sourceUsed s k = true → k ≠ 140 → exec (.sensorStuck k) s =
      .next (raise 0x0305 (sourceH s.cfg.cur k) 0 k (modSource k (fun x => { x with broken := true, okN := 0 }) s)))) ∧
  (∀ (k : Nat) (s : State),
    (((source s k).hot = 0 ∨ (source s k).cool = false) → leaveHot k s = s) ∧
    ((source s k).hot = 4 → (source s k).cool = true → k ≠ 140 → recordOf s (sourceH s.cfg.cur k) 0 = none →
      leaveHot k s = modSource k (fun x => { x with hot := 0, cool := false }) s))

/-- The collector opens, merges, raises and closes fault records; watchdogs stall cores; ALIVE and FAULT_N follow (R14,
R323, R324, R325, R326, R328, R329, R331, R335, R336). -/
def Obligations.FaultRecordsOpenMergeAndClose : Prop :=
  (∀ (cls code : Nat) (h : Handle) (sel detail i : Nat) (s : State),
    (∀ p ∈ s.faults.recs, mergesInto s p.2 h sel = false) → s.cfg.cur.flagged (hIndex h) = none → freeEntry s h = some i →
    cls = 2 ∨ cls = 3 ∨ cls = 4 → raiseAs cls 0 code h sel detail s = openRecord i cls code h sel detail s) ∧
  (∀ (i cls code : Nat) (h : Handle) (sel detail : Nat) (s : State),
    ∃ t, openRecord i cls code h sel detail s = react cls code h sel (tellFault 0x10 i t) ∧ t = { s with faults := t.faults } ∧
      (∀ j, j ≠ i → kvFind t.faults.recs j = kvFind s.faults.recs j) ∧
      ∃ r, kvFind t.faults.recs i = some r ∧ classOf r.code = cls ∧ codeOf r.code = code % 8192 ∧ r.handle = h ∧ r.sel = sel ∧
        r.firstSec = s.clk.opSec ∧ r.detail = detail ∧ r.galSeq = s.gal.nextSeq ∧
        r.st = (if 3 ≤ cls then .active else if cls = 2 then .reacting else .testing)) ∧
  (∀ (i cls code : Nat) (h : Handle) (s : State) (r : FRec), kvFind s.faults.recs i = some r → cls ≤ classOf r.code →
    h = 0#16 → ∃ t, mergeRecord i cls code h s = t ∧ t = { s with faults := t.faults } ∧
      (∀ j, j ≠ i → kvFind t.faults.recs j = kvFind s.faults.recs j) ∧
      ∃ q, kvFind t.faults.recs i = some q ∧ q.merges = min 65535 (r.merges + 1) ∧ q.code = r.code ∧ q.st = r.st) ∧
  (∀ (k : Bool) (s : State),
    let t := lockout k s
    t.faults.lockout = true ∧ (∀ f ∈ t.land.flights, f.spoiled = true) ∧
      ∀ p ∈ t.lanes, p.2.mode = .off ∨ p.2.mode = .dark) ∧
  (∀ (i : Nat) (s : State),
    (∀ r, kvFind s.faults.recs i = some r → r.st = .reacting → r.lastSec + 1 ≤ s.clk.opSec →
      exec (.faultRecordClose i) s = .next (closeRecord i s)) ∧
    (∀ r, kvFind s.faults.recs i = some r → (r.st ≠ .reacting ∨ s.clk.opSec ≤ r.lastSec) →
      exec (.faultRecordClose i) s = .next s) ∧
    (kvFind s.faults.recs i = none → exec (.faultRecordClose i) s = .next s ∧ exec (.selfTestTimeout i) s = .next s) ∧
    (∀ r, kvFind s.faults.recs i = some r → codeOf r.code / 256 ≠ 9 →
      exec (.selfTestTimeout i) s = .next (testFailed i s)) ∧
    (∀ r, kvFind s.faults.recs i = some r → r.st ≠ .testing → testFailed i s = s)) ∧
  (∀ (c : Nat) (s : State), c ∉ s.faults.stalled → (∀ t ∈ s.faults.stallSec, t + 3600 < s.clk.opSec) →
    exec (.coreWatchdogExpiry c) s = .next (raise 0x0001 0#16 0 c
      (s.modFaults fun f => { f with stalled := f.stalled ++ [c], stallSec := [s.clk.opSec] }))) ∧
  (∀ (c : Nat) (s : State),
    (c ∈ s.faults.stalled → exec (.coreStallEscalation c) s = .next (stallLockout s)) ∧
    (c ∉ s.faults.stalled → exec (.coreStallEscalation c) s = .next s)) ∧
  (∀ (i : Nat) (s : State), recordOf s 0#16 0 = some i → stallLockout s = raiseClass i 4 0x0001 s) ∧
  (∀ (l : List Nat) (s : State), s.faults.stalled = [] → s.boot.aliveOn = true →
    (stopActive s = false → exec (.aliveToggle l) s =
      .next (s.modBoot fun b => { b with alive := !b.alive, faultN := true })) ∧
    (stopActive s = true → exec (.aliveToggle l) s =
      .next (s.modBoot fun b => { b with alive := false, faultN := false })))

/-- BOOT_CLAIM, CLAIM, CLAIM_CONFLICT, HELLO, SYNC_TIMEOUT and MIRROR_FRAME decide which device claims and what the
standby keeps (R338, R342, R343, R345, R346, R347, R348, R350, R351, R354, R355). -/
def Obligations.ThePairClaimsAndSynchronises : Prop :=
  (∀ (c : Bool) (s : State), running s = true → s.pair.claimOut = false → s.pair.dropped = false → s.power.seq = .none →
    s.ring.cyclic = true →
    (pairEn s = false → exec (.bootClaim c) s = .next (assertClaim .alone (recordCands s))) ∧
    (pairEn s = true → s.pair.st ≠ .alone →
      exec (.bootClaim true) s = .next (s.modPair fun p => { p with claimIn := true })) ∧
    (pairEn s = true → s.pair.clash = false → s.boot.pairSlot = 0 → ∃ t, t = { s with pair := t.pair } ∧
      t.pair.claimIn = false ∧ exec (.bootClaim false) s =
        .next (assertClaim (if s.pair.seenPeer then .active else .alone) (recordCands t)))) ∧
  (∀ (c : Bool) (s : State), (running s = false ∨ s.pair.claimOut = true) → exec (.bootClaim c) s = .next s) ∧
  (∀ (st : PairSt) (s : State), (assertClaim st s).pair.claimOut = true ∧ (assertClaim st s).pair.missRun = 0 ∧
    (assertClaim st s).pair.st = st) ∧
  (∀ (c a : Bool) (s : State), (s.pair.claimOut = true ∨ s.pair.missRun < 3) → exec (.claim c a) s = .next s) ∧
  (∀ (a : Bool) (s : State), running s = true → pairEn s = true → s.pair.claimOut = false → s.pair.dropped = false →
    s.pair.clash = false → s.faults.lockout = false → s.pair.st ≠ .alone → 3 ≤ s.pair.missRun →
    let t := s.modPair fun p => { p with claimIn := false, peerAlive := a, peerSynced := false, helloDone := false, snapDone := false }
    let u := s.modPair fun p => { p with claimIn := true, peerAlive := a, peerSynced := false }
    (s.pair.st = .synced → exec (.claim false a) s = .next (takeover a t)) ∧
    (s.pair.st ≠ .synced → exec (.claim false a) s = .next (coldTakeover t)) ∧
    ((s.pair.st = .syncing ∨ s.pair.st = .synced) → exec (.claim true a) s = .next (mirrorLost u)) ∧
    (s.pair.st ≠ .syncing → s.pair.st ≠ .synced → exec (.claim true a) s = .next u)) ∧
  (∀ s : State,
    ((pairEn s = false ∨ s.pair.claimOut = false) → exec .claimConflict s = .next s) ∧
    (pairEn s = true → s.pair.claimOut = true → s.boot.pairSlot = 0 →
      exec .claimConflict s = .next (s.modPair fun p => { p with claimIn := true })) ∧
    (pairEn s = true → s.pair.claimOut = true → s.boot.pairSlot ≠ 0 → ∃ t, t = { s with pair := t.pair } ∧
      t.pair.claimIn = true ∧ t.pair.claimOut = false ∧
      exec .claimConflict s = .next (setPair .unsynced (setLasers (darken t))))) ∧
  (∀ s : State, s.pair.claimOut = false → (setLasers s).boot.laserEn0 = false ∧ (setLasers s).boot.laserEn1 = false) ∧
  (∀ (k d v : Nat) (c : Bool) (s : State), running s = true → pairEn s = true →
    ∃ t, t = { s with pair := t.pair } ∧ t.pair.seenPeer = true ∧ t.pair.claimIn = c ∧ t.pair.peerVer = v ∧
      t.pair.peerSlot = some k ∧
      (k = s.boot.pairSlot → t.pair.clash = true ∧ exec (.hello k d v c) s =
        let u := raise 0x1604 mlH 0 k t
        .next (if u.pair.claimOut || u.pair.st == .alone || u.pair.st == .locked then u else setPair .unsynced u)) ∧
      (k ≠ s.boot.pairSlot → s.pair.claimOut = false → s.pair.st ≠ .locked → d ≠ s.boot.imageDigest →
        exec (.hello k d v c) s = .next (setPair .unsynced (raise 0x1605 mlH 0 k t))) ∧
      (k ≠ s.boot.pairSlot → s.pair.claimOut = false → s.pair.st ≠ .locked → d = s.boot.imageDigest → c = false →
        exec (.hello k d v c) s = .next t)) ∧
  (∀ (k v : Nat) (s : State), running s = true → pairEn s = true → k ≠ s.boot.pairSlot → s.pair.claimOut = false →
    s.pair.st ≠ .locked → ∃ t, exec (.hello k s.boot.imageDigest v true) s = .next t ∧ t.pair.st = .syncing ∧
      t.pair.helloDone = true ∧ t.pair.snapDone = false) ∧
  (∀ s : State,
    (s.pair.st ≠ .syncing → exec .syncTimeout s = .next s) ∧
    (s.pair.st = .syncing → exec .syncTimeout s = .next (restartHello (note 0x1608 mlH 0 s)))) ∧
  (∀ (f : BitVec 8) (cyc seq : Nat) (c a : Bool) (l : List MirrorSec) (s : State), (running s = false ∨ pairEn s = false) →
    exec (.mirrorFrame f cyc seq c a l) s = .next s) ∧
  (∀ (f : BitVec 8) (cyc seq : Nat) (a : Bool) (s : State), running s = true → pairEn s = true → s.pair.claimOut = true →
    s.pair.st = .active → f.getLsbD 1 = false → f.getLsbD 3 = false → ∃ t, exec (.mirrorFrame f cyc seq false a []) s = .next t ∧
      t = { s with pair := t.pair } ∧ t.pair.rxSeq = seq ∧ t.pair.got = true ∧ t.pair.peerAlive = a ∧
      t.pair.peerSynced = f.getLsbD 2 ∧ t.pair.disagree = 0 ∧ t.pair.st = .active) ∧
  (∀ (k : Nat) (x : MirrorSec) (s : State), (∀ r, x ≠ .gallery r) →
    (s.pair.claimOut = true ∨ (s.pair.st ≠ .syncing ∧ s.pair.st ≠ .synced) → applySection k s x = s) ∧
    (s.pair.claimOut = false → s.pair.st = .syncing ∨ s.pair.st = .synced → applySection k s x = standbySection s x)) ∧
  (∀ (act : Bool) (s : State), s.faults.lockout = false → act ≠ s.pair.claimIn → 3 ≤ s.pair.disagree →
    ∃ t, checkClaims act false s = raise 0x1603 mlH 0 (s.pair.disagree + 1) t ∧ t = { s with pair := t.pair })

/-- The boot ROM accepts a signed, approved image or refuses it; firmware starts only then, reads the stores and decides
the current set (R34, R35, R36, R292, R335, R371, R377, R378, R380, R396, R450). -/
def Obligations.BootReadsImagesAndStores : Prop :=
  (∀ (l : List (Option (Nat × Bool))) (s : State),
    (s.boot.porst = true ∨ s.clk.foscGood = false ∨ s.boot.stage ≠ .rom) → exec (.bootImageCheck l) s = .next s) ∧
  (∀ (d : Nat) (s : State), s.boot.porst = false → s.clk.foscGood = true → s.boot.stage = .rom →
    (s.auth.digests = [] ∨ d ∈ s.auth.digests) → ∀ (x : Option (Nat × Bool)),
    ∃ t, exec (.bootImageCheck [some (d, true), x]) s = .next t ∧ t.boot.stage = .accepted ∧ t.boot.imageDigest = d ∧
      t.boot.imageSlot = 0 ∧ t = { s with boot := t.boot, auth := t.auth }) ∧
  (∀ s : State, s.boot.porst = false → s.clk.foscGood = true → s.boot.stage = .rom →
    ∃ t, exec (.bootImageCheck [none, none]) s = .next t ∧ t.boot.stage = .none ∧
      t = { s with boot := t.boot, auth := t.auth }) ∧
  (∀ (k d : Nat) (sg : Bool) (s : State), s.boot.stage = .rom →
    (sg = false ∨ (s.auth.digests ≠ [] ∧ d ∉ s.auth.digests)) →
    (trySlot s k (some (d, sg))).boot.stage = .rom ∧
      (k < 16 → (trySlot s k (some (d, sg))).boot.refused.getLsbD k = true)) ∧
  (∀ (a c : Bool) (s : State),
    (s.boot.porst = true ∨ s.boot.stage ≠ .accepted ∨ (s.clk.stairDone = false ∧ s.boot.cause = 0#4)) →
    exec (.firmwareStart a c) s = .next s) ∧
  (∀ (a c : Bool) (s : State), s.boot.porst = false → s.boot.stage = .accepted →
    (s.clk.stairDone = true ∨ s.boot.cause ≠ 0#4) →
    ∃ t, exec (.firmwareStart a c) s = .next t ∧ t.mbx.live = true ∧ t.mbx.inRing = [] ∧
      (s.boot.cause = 0#4 → t.boot.stage = .running) ∧ (s.boot.cause ≠ 0#4 → t.boot.stage = .limp)) ∧
  (∀ c : Cfg,
    let t := loadSets c
    (c.slotA.good = true → c.slotB.good = true → c.slotB.version ≤ c.slotA.version → t.curVer = c.slotA.version ∧
      t.cur = c.slotA.set ∧ t.prev = some (c.slotB.version, c.slotB.set)) ∧
    (c.slotA.good = true → c.slotB.good = true → c.slotA.version < c.slotB.version → t.curVer = c.slotB.version ∧
      t.cur = c.slotB.set ∧ t.prev = some (c.slotA.version, c.slotA.set)) ∧
    (c.slotA.good = true → c.slotB.good = false → t.curVer = c.slotA.version ∧ t.cur = c.slotA.set ∧ t.prev = none ∧
      t.slotB = {}) ∧
    (c.slotA.good = false → c.slotB.good = true → t.curVer = c.slotB.version ∧ t.cur = c.slotB.set ∧ t.prev = none ∧
      t.slotA = {}) ∧
    (c.slotA.good = false → c.slotB.good = false → t.curVer = 0 ∧ t.cur = {} ∧ t.prev = none) ∧ t.highVer = c.highVer)

/-- Keys change after 20 scans, the LED chain follows the PWM step, touch reports and the token port's VBUS (R428, R429,
R430, R431). -/
def Obligations.PanelAndTokenPort : Prop :=
  (∀ (d : BitVec 64) (i : Nat) (s : State),
    (d.getLsbD i = s.panel.keys.getLsbD i → scanKey d s i = s.modPanel fun p => { p with scan := kvDel p.scan i }) ∧
    (d.getLsbD i ≠ s.panel.keys.getLsbD i → kvGet 0 s.panel.scan i < 19 →
      scanKey d s i = s.modPanel fun p => { p with scan := kvSet p.scan i (kvGet 0 s.panel.scan i + 1) }) ∧
    (d.getLsbD i = true → s.panel.keys.getLsbD i = false → fourthCorner s.panel.keys (i / 8) (i % 8) = true →
      (scanKey d s i).panel.keys = s.panel.keys) ∧
    (i < 64 → d.getLsbD i = false → s.panel.keys.getLsbD i = true → 19 ≤ kvGet 0 s.panel.scan i →
      ∃ t, scanKey d s i = post 0x8D01 0xFFFF#16 (leBytes 1 (i / 8) ++ leBytes 1 (i % 8) ++ leBytes 1 0) t ∧
        t.panel.keys.getLsbD i = false ∧ (∀ j < 64, j ≠ i → t.panel.keys.getLsbD j = s.panel.keys.getLsbD j) ∧
        t = { s with panel := t.panel })) ∧
  (∀ (d : BitVec 64) (s : State),
    (running s = false → exec (.keyScan d) s = .next s) ∧
    (running s = true → exec (.keyScan d) s = .next ((List.range 64).foldl (scanKey d) s)) ∧
    (running s = true → d = s.panel.keys → s.panel.scan = [] → exec (.keyScan d) s = .next s)) ∧
  (∀ s : State, running s = true → exec .ledPwmStep s = .next ((s.modPanel fun p => { p with
    chain := ledBits s, step := (p.step + 1) % 256, tick := p.tick + 1 }).send (.leds (ledBits s)))) ∧
  (∀ s : State, running s = true → touchEn s = true → s.panel.stuck = false →
    exec (.touchInterrupt none) s = .next (s.send .touchRead) ∧
    (∀ bs, exec (.touchInterrupt (some bs)) s = .next (touchReport bs (s.send .touchRead))) ∧
    exec .touchStuck s = .next (note 0x0608 0#16 0 (s.modPanel fun p => { p with stuck := true }))) ∧
  (∀ (r : Option (List Byte)) (s : State), s.panel.stuck = true →
    exec (.touchInterrupt r) s = .next s ∧ exec .touchStuck s = .next s) ∧
  (∀ s : State, exec .touchInterruptRelease s = .next (s.modPanel fun p => { p with stuck := false })) ∧
  (∀ (v p : Nat) (s : State), running s = true → s.panel.vbus = true → s.panel.plugged = none →
    let t := fun (c : Bool) => usbRecord 0 v p (s.modPanel fun x => { x with plugged := some (v % 65536, p % 65536), token := c })
    exec (.usbAttach v p true) s = .next (t true) ∧ exec (.usbAttach v p false) s = .next (note 0x0607 0#16 0 (t false))) ∧
  (∀ s : State,
    (s.panel.plugged = none → exec .usbDetach s = .next s) ∧
    (∀ v p, s.panel.plugged = some (v, p) → exec .usbDetach s =
      .next (usbRecord 1 v p (s.modPanel fun x => { x with plugged := none, token := false })))) ∧
  (∀ s : State, running s = true → s.panel.vbus = true → s.panel.plugged = none →
    exec .usbOverCurrent s = .next (finish (waitingOp 0x0809) .notAuthorised []
      ((usbRecord 2 0 0 (s.modPanel fun p => { p with
        vbus := false, vbusOver := true, token := false, plugged := none })).modAuth fun a => { a with signing := none }))) ∧
  (∀ s : State, running s = true → s.panel.vbusOver = true → s.panel.vbusDead = false → usbEn s = true →
    let recent := s.panel.restores.filter fun t => decide (s.clk.opSec < t + 60)
    (recent.length < 3 → exec .vbusRestore s = .next (s.modPanel fun p => { p with
      vbus := true, vbusOver := false, restores := recent ++ [s.clk.opSec] })) ∧
    (3 ≤ recent.length → exec .vbusRestore s = .next (s.modPanel fun p => { p with vbusDead := true, restores := recent }))) ∧
  (∀ s : State, s.panel.vbusDead = true → exec .vbusRestore s = .next s)

/-- A Z cell's pixels all take the level in [3:0]; a W cell's pixel p is payload bits [4p + 3:4p], so any 64 levels come
back from a W cell (R74). -/
def Obligations.CellsDecodeAsStated : Prop :=
  (∀ ratio s p : Nat, p < 64 →
    (cellPixels 0 ratio s)[p]? = some (bitsOf s 3 0) ∧ (cellPixels 3 ratio s)[p]? = some (bitsOf s (4 * p + 3) (4 * p))) ∧
  (∀ (ratio : Nat) (ls : List Nat), ls.length = 64 → (∀ l ∈ ls, l < 16) →
    cellPixels 3 ratio (ls.foldr (fun l r => l + 16 * r) 0) = ls)

/-- With no valid ACTIVE set in either slot the default set runs as version 0 with no previous set; a new device is
such, and so is one with both slots discarded (R36). -/
def Obligations.DefaultSetAtBoot : Prop :=
  (∀ c : Cfg, c.slotA.good = false → c.slotB.good = false →
    (loadSets c).cur = {} ∧ (loadSets c).curVer = 0 ∧ (loadSets c).prev = none) ∧
  (State.reset.cfg.slotA.good = false ∧ State.reset.cfg.slotB.good = false) ∧
  (∀ c : Cfg, c.slotA.discarded ≠ [] → c.slotB.discarded ≠ [] → (loadSets c).cur = {} ∧ (loadSets c).curVer = 0 ∧
    (loadSets c).prev = none ∧ (loadSets c).slotA = {} ∧ (loadSets c).slotB = {}) ∧
  (∀ s : State, (changeSets loadSets s).cfg = loadSets s.cfg)

/-- A refused command changes only the mailbox, the notes and what is sent; a command that firmware does not serve
changes nothing (R387, R388, R391, R393, R395). -/
def Obligations.ResponsesTouchOnlyTheMailbox : Prop :=
  (∀ (op : Nat) (m : Cmd) (st : Status) (p : List Byte) (s : State),
    let t := respond op m st p s
    t = { s with mbx := t.mbx, outbox := t.outbox, gal := t.gal, faults := t.faults, free := t.free } ∧
      t.faults.recs = s.faults.recs) ∧
  (∀ (i : CmdInfo) (need : State → Nat) (m : Cmd) (body : State → Reply) (s : State) (st : Status), serving s →
    vet i (need (startCmd i.op m s)) m (startCmd i.op m s) = some st →
    let t := runCmd i need m body s
    t = { s with mbx := t.mbx, outbox := t.outbox, gal := t.gal, faults := t.faults, free := t.free } ∧
      t.faults.recs = s.faults.recs) ∧
  (∀ (i : CmdInfo) (need : State → Nat) (m : Cmd) (body : State → Reply) (s : State),
    (s.mbx.live = false ∨ coreStalled s 0 = true) → runCmd i need m body s = s) ∧
  (∀ (op : Nat) (m : Cmd) (s : State),
    (startCmd op m s).mbx.inRing = s.mbx.inRing.filter fun e => !(e.1 == m.path && (cmdParts op m).contains e.2))

/-- Every command answers a next state in every state, but PORST_N_RELEASE in reset with TEST_EN high, which enters the
factory test (R436, 01_architecture.md). -/
def Obligations.NoCommandIsRefused : Prop :=
  (∀ (c : Instr) (s : State), (∀ p b e, c ≠ .porstNRelease p b e) → ∃ t, exec c s = .next t) ∧
  (∀ (p b : Nat) (e : Bool) (s : State),
    (s.boot.porst = true → e = true → exec (.porstNRelease p b e) s = .fault .factoryTest) ∧
    ((s.boot.porst = false ∨ e = false) → ∃ t, exec (.porstNRelease p b e) s = .next t))

/-- After reset the device is held, its outputs rest, its stores are empty and nothing is calibrated, locked, enabled or
claimed (R36, R93, R101, R207, R373, R435, R436). -/
def Obligations.ResetState : Prop :=
  State.reset.boot.porst = true ∧ State.reset.mbx.live = false ∧ State.reset.mbx.inRing = [] ∧ State.reset.mbx.outRing = [] ∧
  State.reset.mbx.evtRing = [] ∧ State.reset.boot.laserEn0 = false ∧ State.reset.boot.laserEn1 = false ∧
  State.reset.boot.alive = false ∧ State.reset.boot.faultN = false ∧ State.reset.pair.claimOut = false ∧
  (∀ l, (State.reset.lane l).mode = .off ∧ (State.reset.lane l).trained = false) ∧
  (∀ n, (State.reset.st n).scan.lock = false ∧ (State.reset.st n).anchor = none ∧ (State.reset.st n).save.valid = false) ∧
  (∀ a, (State.reset.axis a).enabled = false) ∧ (∀ r, (State.reset.rail r).st = .off) ∧ State.reset.newel.pos = 0 ∧
  State.reset.auth.keys = [] ∧ State.reset.cfg.cur = {} ∧ State.reset.cfg.curVer = 0 ∧ State.reset.jobs = [] ∧
  State.reset.land.flights = [] ∧ State.reset.faults.recs = [] ∧ State.reset.gal.recs = []
end

