-- ==== Sys2Proof/Laws/Bytes.lean ====
section
/-! SUPPORT. Fields of a byte string that is laid out by appending fields, and the superblock read back from its bytes. -/

namespace Sys2Proof.Machine

@[simp] theorem leBytes_length (k v : Nat) : (leBytes k v).length = k := by
  induction k generalizing v with
  | zero => rfl
  | succ k ih => simp [leBytes, ih]

theorem leNat_leBytes (k v : Nat) : leNat (leBytes k v) = v % 256 ^ k := by
  induction k generalizing v with
  | zero => simp [leBytes, leNat, Nat.mod_one]
  | succ k ih =>
    rw [leBytes, leNat, ih, BitVec.toNat_ofNat, Nat.pow_succ' (m := 256), Nat.mod_mul]

@[simp] theorem bytesAt_length (bs : List Byte) (o k : Nat) : (bytesAt bs o k).length = k := by
  simp [bytesAt]

@[simp] theorem padTo_length (k : Nat) (bs : List Byte) : (padTo k bs).length = k := bytesAt_length bs 0 k

/-- A field that lies after the first part is a field of the rest. -/
theorem fieldAt_append_right (a b : List Byte) (o k : Nat) (h : a.length ≤ o) :
    fieldAt (a ++ b) o k = fieldAt b (o - a.length) k := by
  simp [fieldAt, bytesAt, List.drop_append, List.drop_eq_nil_of_le h]

/-- A field that lies in the first part is a field of it. -/
theorem fieldAt_append_left (a b : List Byte) (o k : Nat) (h : o + k ≤ a.length) :
    fieldAt (a ++ b) o k = fieldAt a o k := by
  have h1 : o - a.length = 0 := by omega
  have h2 : k - (a.length - o) = 0 := by omega
  simp [fieldAt, bytesAt, List.drop_append, List.take_append, h1, h2]

/-- The first field of a string. -/
theorem fieldAt_head (k v : Nat) (r : List Byte) : fieldAt (leBytes k v ++ r) 0 k = v % 256 ^ k := by
  rw [fieldAt_append_left _ _ _ _ (by simp), ← leNat_leBytes]
  simp [fieldAt, bytesAt, List.take_of_length_le]

/-- The value that a layout has at offset `o` in a field of `k` bytes. -/
def fieldIn : List (Nat × Nat) → Nat → Nat → Option Nat
  | [], _, _ => none
  | (w, v) :: l, o, k => if o = 0 then (if w = k then some v else none) else if w ≤ o then fieldIn l (o - w) k else none

theorem fieldAt_layout (l : List (Nat × Nat)) (r : List Byte) (o k v : Nat) (h : fieldIn l o k = some v) :
    fieldAt (layout l r) o k = v % 256 ^ k := by
  induction l generalizing o with
  | nil => simp [fieldIn] at h
  | cons p l ih =>
    obtain ⟨w, x⟩ := p
    simp only [fieldIn] at h
    split at h
    · split at h
      · cases h; subst_vars; exact fieldAt_head _ _ _
      · cases h
    · split at h
      · rename_i hw
        rw [layout, fieldAt_append_right _ _ _ _ (by simpa using hw), leBytes_length]
        exact ih _ h
      · cases h

/-- A field of a layout lies in it. -/
theorem fieldIn_le (l : List (Nat × Nat)) (o k v : Nat) (h : fieldIn l o k = some v) : o + k ≤ (l.map (·.1)).sum := by
  induction l generalizing o with
  | nil => simp [fieldIn] at h
  | cons p l ih =>
    obtain ⟨w, x⟩ := p
    simp only [fieldIn] at h
    split at h
    · split at h
      · simp only [List.map_cons, List.sum_cons]; omega
      · cases h
    · split at h
      · have := ih _ h
        simp only [List.map_cons, List.sum_cons]; omega
      · cases h

/-- A string with its CRC-32C behind it: the CRC stands there. -/
theorem fieldAt_crc (x : List Byte) (n : Nat) (h : x.length = n) :
    fieldAt (x ++ leBytes 4 (crc32c x).toNat) n 4 = (crc32c ((x ++ leBytes 4 (crc32c x).toNat).take n)).toNat := by
  have hr := fieldAt_head 4 (crc32c x).toNat []
  rw [List.append_nil] at hr
  rw [fieldAt_append_right _ _ _ _ (by omega), h, Nat.sub_self, hr, List.take_append_of_le_length (by omega),
    List.take_of_length_le (by omega)]
  exact Nat.mod_eq_of_lt (BitVec.isLt _)

/-- A layout's length is the sum of its widths and the rest's. -/
theorem layout_length (l : List (Nat × Nat)) (r : List Byte) : (layout l r).length = (l.map (·.1)).sum + r.length := by
  induction l with
  | nil => simp [layout]
  | cons p l ih => obtain ⟨k, v⟩ := p; simp [layout, ih, Nat.add_assoc]

theorem Superblock.head_length (b : Superblock) (copy member lba : Nat) : (b.head copy member lba).length = 4092 := by
  rw [Superblock.head, layout_length, List.length_append, padTo_length, leBytes_length]
  simp [Superblock.fields]

/-- What a superblock that has been written reads as: valid, and each field as it was (R127, Table 06-4). -/
theorem superOf_toBytes (b : Superblock) (copy member lba : Nat) :
    let c := superOf (b.toBytes copy member lba)
    c.valid = true ∧ c.generation = b.generation % 256 ^ 8 ∧ c.spoolId = b.spoolId % 256 ^ 16 ∧
    c.member = member % 256 ^ 1 ∧ c.copy = copy % 256 ^ 1 ∧ c.width = b.width % 256 ^ 1 ∧ c.mounted = b.mounted ∧
    c.ledgerShare = b.ledgerShare % 256 ^ 1 ∧ c.memberPages = b.memberPages % 256 ^ 8 ∧
    c.sizes = [b.pages % 256 ^ 8, b.dirPages % 256 ^ 8, b.ledgerPages % 256 ^ 8, b.mapPages % 256 ^ 8,
      b.extentPages % 256 ^ 8] ∧
    c.keyCheck = b.keyCheck % 256 ^ 8 := by
  have hm : bitOf (bnat b.mounted % 256 ^ 1) 0 = b.mounted := by cases b.mounted <;> rfl
  obtain ⟨x, hx⟩ : ∃ x, x = b.toBytes copy member lba := ⟨_, rfl⟩
  rw [← hx]
  have hcrc : x.length = 4096 ∧ fieldAt x 4092 4 = (crc32c (x.take 4092)).toNat := by
    rw [hx, Superblock.toBytes]
    exact ⟨by rw [List.length_append, Superblock.head_length, leBytes_length], fieldAt_crc _ _ (b.head_length copy member lba)⟩
  have at_ : ∀ o k v, fieldIn (b.fields copy member lba) o k = some v →
      fieldAt x o k = v % 256 ^ k := fun o k v h => by
    rw [hx, Superblock.toBytes, fieldAt_append_left _ _ _ _ ?_]
    · exact fieldAt_layout _ _ _ _ _ h
    · have := fieldIn_le _ _ _ _ h
      rw [Superblock.head_length]
      simp only [Superblock.fields, List.map_cons, List.map_nil, List.sum_cons, List.sum_nil] at this
      omega
  refine ⟨?_, at_ _ _ _ rfl, at_ _ _ _ rfl, at_ _ _ _ rfl, at_ _ _ _ rfl, at_ _ _ _ rfl, ?_, at_ _ _ _ rfl, at_ _ _ _ rfl, ?_,
    at_ _ _ _ rfl⟩
  · simp only [superOf, hcrc.1, ← hcrc.2, at_ 0 4 _ rfl, at_ 4 2 _ rfl]
    simp
  · simp only [superOf, at_ 33 1 _ rfl, hm]
  · simp only [superOf, at_ 48 8 _ rfl, at_ 56 8 _ rfl, at_ 64 8 _ rfl, at_ 72 8 _ rfl, at_ 80 8 _ rfl]

/-- A field of `k` bytes is below 256 to the `k`. -/
theorem leNat_lt (bs : List Byte) : leNat bs < 256 ^ bs.length := by
  induction bs with
  | nil => simp [leNat]
  | cons b r ih =>
    have := b.isLt
    rw [leNat, List.length_cons, Nat.pow_succ]
    omega

theorem fieldAt_lt (bs : List Byte) (o k : Nat) : fieldAt bs o k < 256 ^ k := by
  have := leNat_lt (bytesAt bs o k)
  rwa [bytesAt_length] at this

end Sys2Proof.Machine
end

