-- ==== Sys2Proof/Laws/Commands.lean ====
section
/-! SUPPORT. What running a mailbox command can do, said once: it answers with the status of the first check that
fails, or has its effect and answers, or has its effect and waits. -/

namespace Sys2Proof.Machine

open Sys2Proof

variable {i : CmdInfo} {need : State → Nat} {m : Cmd} {body : State → Reply} {s t : State} {p : List Byte} {st : Status}

theorem serving_iff : (!s.mbx.live || coreStalled s 0) = false ↔ serving s := by simp [serving]

/-- A command that is not served has no effect. -/
theorem runCmd_not_served (h : ¬ serving s) : runCmd i need m body s = s := by
  unfold runCmd
  rw [if_pos]
  by_contra h'
  exact h (serving_iff.1 (by simpa using h'))

/-- A command that a check refuses is answered with that check's status alone. -/
theorem runCmd_refused (h : serving s) (hv : vet i (need (startCmd i.op m s)) m (startCmd i.op m s) = some st) :
    runCmd i need m body s = respond i.op m st [] (startCmd i.op m s) := by
  unfold runCmd
  rw [if_neg (by simpa using serving_iff.2 h)]
  simp [hv]

/-- What an accepted command does is what its body does in the state it enters. -/
theorem runCmd_accepted (h : accepted i (need (startCmd i.op m s)) m s) :
    runCmd i need m body s = match body (entered i m s) with
      | .done st p t => if st = Status.ok then respond i.op m st p (if i.recorded then galFlush t else t) else respond i.op m st p t
      | .later t => underWay i m t := by
  obtain ⟨hs, hp, hg⟩ := h
  have hp' : vet i (need (startCmd i.op m s)) m (startCmd i.op m s) = none := hp
  have hr : (i.recorded && galFull (entered i m s).gal) = false := by
    cases hi : i.recorded with
    | false => rfl
    | true => simpa using hg hi
  unfold runCmd
  rw [if_neg (by simpa using serving_iff.2 hs)]
  simp only [hp']
  change (match body (entered i m s) with
    | .done st p t =>
      if st ≠ Status.ok then respond i.op m st p t
      else if i.recorded && galFull (entered i m s).gal then respond i.op m .refusedFull [] (entered i m s)
      else respond i.op m st p (if i.recorded then galFlush t else t)
    | .later t =>
      if i.recorded && galFull (entered i m s).gal then respond i.op m .refusedFull [] (entered i m s)
      else underWay i m t) = _
  rw [hr]
  cases body (entered i m s) with
  | done st p t => by_cases hst : st = Status.ok <;> simp [hst]
  | later t => simp

/-- An accepted command whose body completes is answered OK. -/
theorem runCmd_ok (h : accepted i (need (startCmd i.op m s)) m s) (hb : body (entered i m s) = .done .ok p t) :
    answersOk i m (.next (runCmd i need m body s)) p t := by
  rw [runCmd_accepted h, hb]; simp [answersOk]

/-- An accepted command whose own check fails is answered with that status. -/
theorem runCmd_done (h : accepted i (need (startCmd i.op m s)) m s) (hb : body (entered i m s) = .done st p t)
    (hst : st ≠ Status.ok) : runCmd i need m body s = respond i.op m st p t := by
  rw [runCmd_accepted h, hb]; simp [hst]

/-- An accepted command that waits for its end is under way. -/
theorem runCmd_later (h : accepted i (need (startCmd i.op m s)) m s) (hb : body (entered i m s) = .later t) :
    runCmd i need m body s = underWay i m t := by
  rw [runCmd_accepted h, hb]

end Sys2Proof.Machine
end

