-- ==== Sys2Proof/Laws/Memory.lean ====
section
/-! SUPPORT. Sparse byte memory: a read after a write, and that every write keeps the canonical form. -/

namespace Sys2Proof.Machine

variable {d : Nat → Byte}

theorem memRead_memErase (m : List Host.Cell) (a x : Nat) :
    memRead d (memErase m a) x = if x = a then d x else memRead d m x := by
  induction m with
  | nil => simp [memErase, memRead]
  | cons p r ih =>
    obtain ⟨k, c⟩ := p
    by_cases hk : k = a
    · subst hk
      rw [memErase, if_pos rfl, ih, memRead]
      split_ifs with h1 h2
      · rfl
      · exact absurd h2.symm h1
      · rfl
    · rw [memErase, if_neg hk, memRead, memRead, ih]
      split_ifs with h1 h2 h3 <;> simp_all

theorem memRead_memInsert (m : List Host.Cell) (a : Nat) (b : Byte) (x : Nat) :
    memRead d (memInsert m a b) x = if x = a then b else memRead d m x := by
  induction m with
  | nil => simp [memInsert, memRead, eq_comm]
  | cons p r ih =>
    obtain ⟨k, c⟩ := p
    by_cases h1 : a < k
    · simp [memInsert, h1, memRead, eq_comm]
    · by_cases h2 : a = k
      · subst h2
        by_cases h3 : a = x
        · simp [memInsert, memRead, h3]
        · simp [memInsert, memRead, h3, Ne.symm h3]
      · by_cases h3 : k = x
        · have : x ≠ a := by omega
          subst h3
          simp [memInsert, h1, h2, memRead, this]
        · simp [memInsert, h1, h2, memRead, h3, ih]

/-- A read after a write gives what was written at its address and what stood elsewhere. -/
theorem memRead_memWrite (m : List Host.Cell) (a : Nat) (b : Byte) (x : Nat) :
    memRead d (memWrite d m a b) x = if x = a then b else memRead d m x := by
  unfold memWrite
  split_ifs with h1 h2 h2
  · subst h2; rw [memRead_memErase, if_pos rfl, h1]
  · rw [memRead_memErase, if_neg h2]
  · rw [memRead_memInsert, if_pos h2]
  · rw [memRead_memInsert, if_neg h2]

theorem memWfFrom_mono {m : List Host.Cell} {lo hi : Nat} (hl : lo ≤ hi) (h : memWfFrom d hi m = true) :
    memWfFrom d lo m = true := by
  cases m with
  | nil => rfl
  | cons p r =>
    simp only [memWfFrom, Bool.and_eq_true, decide_eq_true_eq] at h ⊢
    exact ⟨⟨hl.trans h.1.1, h.1.2⟩, h.2⟩

theorem memWfFrom_memErase {m : List Host.Cell} {lo : Nat} (a : Nat) (h : memWfFrom d lo m = true) :
    memWfFrom d lo (memErase m a) = true := by
  induction m generalizing lo with
  | nil => rfl
  | cons p r ih =>
    obtain ⟨k, c⟩ := p
    simp only [memWfFrom, Bool.and_eq_true, decide_eq_true_eq] at h
    unfold memErase
    split_ifs with hk
    · exact ih (memWfFrom_mono (by omega) h.2)
    · simp only [memWfFrom, Bool.and_eq_true, decide_eq_true_eq]
      exact ⟨h.1, ih h.2⟩

theorem memWfFrom_memInsert {m : List Host.Cell} {lo a : Nat} {b : Byte} (hl : lo ≤ a) (hb : b ≠ d a)
    (h : memWfFrom d lo m = true) : memWfFrom d lo (memInsert m a b) = true := by
  induction m generalizing lo with
  | nil => simp [memInsert, memWfFrom, hl, hb]
  | cons p r ih =>
    obtain ⟨k, c⟩ := p
    simp only [memWfFrom, Bool.and_eq_true, decide_eq_true_eq] at h
    unfold memInsert
    split_ifs with h1 h2
    · simp only [memWfFrom, Bool.and_eq_true, decide_eq_true_eq]
      exact ⟨⟨hl, hb⟩, ⟨h1, h.1.2⟩, h.2⟩
    · subst h2
      simp only [memWfFrom, Bool.and_eq_true, decide_eq_true_eq]
      exact ⟨⟨hl, hb⟩, h.2⟩
    · simp only [memWfFrom, Bool.and_eq_true, decide_eq_true_eq]
      exact ⟨h.1, ih (by omega) h.2⟩

/-- A write keeps the canonical form. -/
theorem memWf_memWrite {m : List Host.Cell} (a : Nat) (b : Byte) (h : memWf d m = true) :
    memWf d (memWrite d m a b) = true := by
  unfold memWrite
  split_ifs with hb
  · exact memWfFrom_memErase a h
  · exact memWfFrom_memInsert (Nat.zero_le a) hb h

/-- A write of a byte string keeps the canonical form. -/
theorem memWf_memWrites {m : List Host.Cell} (a : Nat) (bs : List Byte) (h : memWf d m = true) :
    memWf d (memWrites d m a bs) = true := by
  induction bs generalizing m a with
  | nil => exact h
  | cons b r ih => exact ih (a + 1) (memWf_memWrite a b h)

@[simp] theorem memWf_nil : memWf d [] = true := rfl

@[simp] theorem memRead_nil (a : Nat) : memRead d [] a = d a := rfl

end Sys2Proof.Machine
end

