-- ==== Sys2Proof/Laws/State.lean ====
section
/-! SUPPORT. What each updater of `State` does to each component: one lemma per component per updater. -/

namespace Sys2Proof.Machine

variable (s : State)

@[simp] theorem State.modPending_pending (f : List Instr → List Instr) : (s.modPending f).pending = f s.pending := rfl
@[simp] theorem State.modPending_clk (f : List Instr → List Instr) : (s.modPending f).clk = s.clk := rfl
@[simp] theorem State.modPending_boot (f : List Instr → List Instr) : (s.modPending f).boot = s.boot := rfl
@[simp] theorem State.modPending_mbx (f : List Instr → List Instr) : (s.modPending f).mbx = s.mbx := rfl
@[simp] theorem State.modPending_cfg (f : List Instr → List Instr) : (s.modPending f).cfg = s.cfg := rfl
@[simp] theorem State.modPending_units (f : List Instr → List Instr) : (s.modPending f).units = s.units := rfl
@[simp] theorem State.modPending_jobs (f : List Instr → List Instr) : (s.modPending f).jobs = s.jobs := rfl
@[simp] theorem State.modPending_land (f : List Instr → List Instr) : (s.modPending f).land = s.land := rfl
@[simp] theorem State.modPending_gov (f : List Instr → List Instr) : (s.modPending f).gov = s.gov := rfl
@[simp] theorem State.modPending_ingest (f : List Instr → List Instr) : (s.modPending f).ingest = s.ingest := rfl
@[simp] theorem State.modPending_host (f : List Instr → List Instr) : (s.modPending f).host = s.host := rfl
@[simp] theorem State.modPending_spool (f : List Instr → List Instr) : (s.modPending f).spool = s.spool := rfl
@[simp] theorem State.modPending_stations (f : List Instr → List Instr) : (s.modPending f).stations = s.stations := rfl
@[simp] theorem State.modPending_lanes (f : List Instr → List Instr) : (s.modPending f).lanes = s.lanes := rfl
@[simp] theorem State.modPending_intlk (f : List Instr → List Instr) : (s.modPending f).intlk = s.intlk := rfl
@[simp] theorem State.modPending_newel (f : List Instr → List Instr) : (s.modPending f).newel = s.newel := rfl
@[simp] theorem State.modPending_axes (f : List Instr → List Instr) : (s.modPending f).axes = s.axes := rfl
@[simp] theorem State.modPending_steppers (f : List Instr → List Instr) : (s.modPending f).steppers = s.steppers := rfl
@[simp] theorem State.modPending_sols (f : List Instr → List Instr) : (s.modPending f).sols = s.sols := rfl
@[simp] theorem State.modPending_ring (f : List Instr → List Instr) : (s.modPending f).ring = s.ring := rfl
@[simp] theorem State.modPending_loops (f : List Instr → List Instr) : (s.modPending f).loops = s.loops := rfl
@[simp] theorem State.modPending_power (f : List Instr → List Instr) : (s.modPending f).power = s.power := rfl
@[simp] theorem State.modPending_therm (f : List Instr → List Instr) : (s.modPending f).therm = s.therm := rfl
@[simp] theorem State.modPending_faults (f : List Instr → List Instr) : (s.modPending f).faults = s.faults := rfl
@[simp] theorem State.modPending_pair (f : List Instr → List Instr) : (s.modPending f).pair = s.pair := rfl
@[simp] theorem State.modPending_gal (f : List Instr → List Instr) : (s.modPending f).gal = s.gal := rfl
@[simp] theorem State.modPending_ledger (f : List Instr → List Instr) : (s.modPending f).ledger = s.ledger := rfl
@[simp] theorem State.modPending_auth (f : List Instr → List Instr) : (s.modPending f).auth = s.auth := rfl
@[simp] theorem State.modPending_cal (f : List Instr → List Instr) : (s.modPending f).cal = s.cal := rfl
@[simp] theorem State.modPending_maint (f : List Instr → List Instr) : (s.modPending f).maint = s.maint := rfl
@[simp] theorem State.modPending_panel (f : List Instr → List Instr) : (s.modPending f).panel = s.panel := rfl
@[simp] theorem State.modPending_outbox (f : List Instr → List Instr) : (s.modPending f).outbox = s.outbox := rfl
@[simp] theorem State.modPending_free (f : List Instr → List Instr) : (s.modPending f).free = s.free := rfl
@[simp] theorem State.modClk_pending (f : Clk → Clk) : (s.modClk f).pending = s.pending := rfl
@[simp] theorem State.modClk_clk (f : Clk → Clk) : (s.modClk f).clk = f s.clk := rfl
@[simp] theorem State.modClk_boot (f : Clk → Clk) : (s.modClk f).boot = s.boot := rfl
@[simp] theorem State.modClk_mbx (f : Clk → Clk) : (s.modClk f).mbx = s.mbx := rfl
@[simp] theorem State.modClk_cfg (f : Clk → Clk) : (s.modClk f).cfg = s.cfg := rfl
@[simp] theorem State.modClk_units (f : Clk → Clk) : (s.modClk f).units = s.units := rfl
@[simp] theorem State.modClk_jobs (f : Clk → Clk) : (s.modClk f).jobs = s.jobs := rfl
@[simp] theorem State.modClk_land (f : Clk → Clk) : (s.modClk f).land = s.land := rfl
@[simp] theorem State.modClk_gov (f : Clk → Clk) : (s.modClk f).gov = s.gov := rfl
@[simp] theorem State.modClk_ingest (f : Clk → Clk) : (s.modClk f).ingest = s.ingest := rfl
@[simp] theorem State.modClk_host (f : Clk → Clk) : (s.modClk f).host = s.host := rfl
@[simp] theorem State.modClk_spool (f : Clk → Clk) : (s.modClk f).spool = s.spool := rfl
@[simp] theorem State.modClk_stations (f : Clk → Clk) : (s.modClk f).stations = s.stations := rfl
@[simp] theorem State.modClk_lanes (f : Clk → Clk) : (s.modClk f).lanes = s.lanes := rfl
@[simp] theorem State.modClk_intlk (f : Clk → Clk) : (s.modClk f).intlk = s.intlk := rfl
@[simp] theorem State.modClk_newel (f : Clk → Clk) : (s.modClk f).newel = s.newel := rfl
@[simp] theorem State.modClk_axes (f : Clk → Clk) : (s.modClk f).axes = s.axes := rfl
@[simp] theorem State.modClk_steppers (f : Clk → Clk) : (s.modClk f).steppers = s.steppers := rfl
@[simp] theorem State.modClk_sols (f : Clk → Clk) : (s.modClk f).sols = s.sols := rfl
@[simp] theorem State.modClk_ring (f : Clk → Clk) : (s.modClk f).ring = s.ring := rfl
@[simp] theorem State.modClk_loops (f : Clk → Clk) : (s.modClk f).loops = s.loops := rfl
@[simp] theorem State.modClk_power (f : Clk → Clk) : (s.modClk f).power = s.power := rfl
@[simp] theorem State.modClk_therm (f : Clk → Clk) : (s.modClk f).therm = s.therm := rfl
@[simp] theorem State.modClk_faults (f : Clk → Clk) : (s.modClk f).faults = s.faults := rfl
@[simp] theorem State.modClk_pair (f : Clk → Clk) : (s.modClk f).pair = s.pair := rfl
@[simp] theorem State.modClk_gal (f : Clk → Clk) : (s.modClk f).gal = s.gal := rfl
@[simp] theorem State.modClk_ledger (f : Clk → Clk) : (s.modClk f).ledger = s.ledger := rfl
@[simp] theorem State.modClk_auth (f : Clk → Clk) : (s.modClk f).auth = s.auth := rfl
@[simp] theorem State.modClk_cal (f : Clk → Clk) : (s.modClk f).cal = s.cal := rfl
@[simp] theorem State.modClk_maint (f : Clk → Clk) : (s.modClk f).maint = s.maint := rfl
@[simp] theorem State.modClk_panel (f : Clk → Clk) : (s.modClk f).panel = s.panel := rfl
@[simp] theorem State.modClk_outbox (f : Clk → Clk) : (s.modClk f).outbox = s.outbox := rfl
@[simp] theorem State.modClk_free (f : Clk → Clk) : (s.modClk f).free = s.free := rfl
@[simp] theorem State.modBoot_pending (f : Boot → Boot) : (s.modBoot f).pending = s.pending := rfl
@[simp] theorem State.modBoot_clk (f : Boot → Boot) : (s.modBoot f).clk = s.clk := rfl
@[simp] theorem State.modBoot_boot (f : Boot → Boot) : (s.modBoot f).boot = f s.boot := rfl
@[simp] theorem State.modBoot_mbx (f : Boot → Boot) : (s.modBoot f).mbx = s.mbx := rfl
@[simp] theorem State.modBoot_cfg (f : Boot → Boot) : (s.modBoot f).cfg = s.cfg := rfl
@[simp] theorem State.modBoot_units (f : Boot → Boot) : (s.modBoot f).units = s.units := rfl
@[simp] theorem State.modBoot_jobs (f : Boot → Boot) : (s.modBoot f).jobs = s.jobs := rfl
@[simp] theorem State.modBoot_land (f : Boot → Boot) : (s.modBoot f).land = s.land := rfl
@[simp] theorem State.modBoot_gov (f : Boot → Boot) : (s.modBoot f).gov = s.gov := rfl
@[simp] theorem State.modBoot_ingest (f : Boot → Boot) : (s.modBoot f).ingest = s.ingest := rfl
@[simp] theorem State.modBoot_host (f : Boot → Boot) : (s.modBoot f).host = s.host := rfl
@[simp] theorem State.modBoot_spool (f : Boot → Boot) : (s.modBoot f).spool = s.spool := rfl
@[simp] theorem State.modBoot_stations (f : Boot → Boot) : (s.modBoot f).stations = s.stations := rfl
@[simp] theorem State.modBoot_lanes (f : Boot → Boot) : (s.modBoot f).lanes = s.lanes := rfl
@[simp] theorem State.modBoot_intlk (f : Boot → Boot) : (s.modBoot f).intlk = s.intlk := rfl
@[simp] theorem State.modBoot_newel (f : Boot → Boot) : (s.modBoot f).newel = s.newel := rfl
@[simp] theorem State.modBoot_axes (f : Boot → Boot) : (s.modBoot f).axes = s.axes := rfl
@[simp] theorem State.modBoot_steppers (f : Boot → Boot) : (s.modBoot f).steppers = s.steppers := rfl
@[simp] theorem State.modBoot_sols (f : Boot → Boot) : (s.modBoot f).sols = s.sols := rfl
@[simp] theorem State.modBoot_ring (f : Boot → Boot) : (s.modBoot f).ring = s.ring := rfl
@[simp] theorem State.modBoot_loops (f : Boot → Boot) : (s.modBoot f).loops = s.loops := rfl
@[simp] theorem State.modBoot_power (f : Boot → Boot) : (s.modBoot f).power = s.power := rfl
@[simp] theorem State.modBoot_therm (f : Boot → Boot) : (s.modBoot f).therm = s.therm := rfl
@[simp] theorem State.modBoot_faults (f : Boot → Boot) : (s.modBoot f).faults = s.faults := rfl
@[simp] theorem State.modBoot_pair (f : Boot → Boot) : (s.modBoot f).pair = s.pair := rfl
@[simp] theorem State.modBoot_gal (f : Boot → Boot) : (s.modBoot f).gal = s.gal := rfl
@[simp] theorem State.modBoot_ledger (f : Boot → Boot) : (s.modBoot f).ledger = s.ledger := rfl
@[simp] theorem State.modBoot_auth (f : Boot → Boot) : (s.modBoot f).auth = s.auth := rfl
@[simp] theorem State.modBoot_cal (f : Boot → Boot) : (s.modBoot f).cal = s.cal := rfl
@[simp] theorem State.modBoot_maint (f : Boot → Boot) : (s.modBoot f).maint = s.maint := rfl
@[simp] theorem State.modBoot_panel (f : Boot → Boot) : (s.modBoot f).panel = s.panel := rfl
@[simp] theorem State.modBoot_outbox (f : Boot → Boot) : (s.modBoot f).outbox = s.outbox := rfl
@[simp] theorem State.modBoot_free (f : Boot → Boot) : (s.modBoot f).free = s.free := rfl
@[simp] theorem State.modMbx_pending (f : Mbx → Mbx) : (s.modMbx f).pending = s.pending := rfl
@[simp] theorem State.modMbx_clk (f : Mbx → Mbx) : (s.modMbx f).clk = s.clk := rfl
@[simp] theorem State.modMbx_boot (f : Mbx → Mbx) : (s.modMbx f).boot = s.boot := rfl
@[simp] theorem State.modMbx_mbx (f : Mbx → Mbx) : (s.modMbx f).mbx = f s.mbx := rfl
@[simp] theorem State.modMbx_cfg (f : Mbx → Mbx) : (s.modMbx f).cfg = s.cfg := rfl
@[simp] theorem State.modMbx_units (f : Mbx → Mbx) : (s.modMbx f).units = s.units := rfl
@[simp] theorem State.modMbx_jobs (f : Mbx → Mbx) : (s.modMbx f).jobs = s.jobs := rfl
@[simp] theorem State.modMbx_land (f : Mbx → Mbx) : (s.modMbx f).land = s.land := rfl
@[simp] theorem State.modMbx_gov (f : Mbx → Mbx) : (s.modMbx f).gov = s.gov := rfl
@[simp] theorem State.modMbx_ingest (f : Mbx → Mbx) : (s.modMbx f).ingest = s.ingest := rfl
@[simp] theorem State.modMbx_host (f : Mbx → Mbx) : (s.modMbx f).host = s.host := rfl
@[simp] theorem State.modMbx_spool (f : Mbx → Mbx) : (s.modMbx f).spool = s.spool := rfl
@[simp] theorem State.modMbx_stations (f : Mbx → Mbx) : (s.modMbx f).stations = s.stations := rfl
@[simp] theorem State.modMbx_lanes (f : Mbx → Mbx) : (s.modMbx f).lanes = s.lanes := rfl
@[simp] theorem State.modMbx_intlk (f : Mbx → Mbx) : (s.modMbx f).intlk = s.intlk := rfl
@[simp] theorem State.modMbx_newel (f : Mbx → Mbx) : (s.modMbx f).newel = s.newel := rfl
@[simp] theorem State.modMbx_axes (f : Mbx → Mbx) : (s.modMbx f).axes = s.axes := rfl
@[simp] theorem State.modMbx_steppers (f : Mbx → Mbx) : (s.modMbx f).steppers = s.steppers := rfl
@[simp] theorem State.modMbx_sols (f : Mbx → Mbx) : (s.modMbx f).sols = s.sols := rfl
@[simp] theorem State.modMbx_ring (f : Mbx → Mbx) : (s.modMbx f).ring = s.ring := rfl
@[simp] theorem State.modMbx_loops (f : Mbx → Mbx) : (s.modMbx f).loops = s.loops := rfl
@[simp] theorem State.modMbx_power (f : Mbx → Mbx) : (s.modMbx f).power = s.power := rfl
@[simp] theorem State.modMbx_therm (f : Mbx → Mbx) : (s.modMbx f).therm = s.therm := rfl
@[simp] theorem State.modMbx_faults (f : Mbx → Mbx) : (s.modMbx f).faults = s.faults := rfl
@[simp] theorem State.modMbx_pair (f : Mbx → Mbx) : (s.modMbx f).pair = s.pair := rfl
@[simp] theorem State.modMbx_gal (f : Mbx → Mbx) : (s.modMbx f).gal = s.gal := rfl
@[simp] theorem State.modMbx_ledger (f : Mbx → Mbx) : (s.modMbx f).ledger = s.ledger := rfl
@[simp] theorem State.modMbx_auth (f : Mbx → Mbx) : (s.modMbx f).auth = s.auth := rfl
@[simp] theorem State.modMbx_cal (f : Mbx → Mbx) : (s.modMbx f).cal = s.cal := rfl
@[simp] theorem State.modMbx_maint (f : Mbx → Mbx) : (s.modMbx f).maint = s.maint := rfl
@[simp] theorem State.modMbx_panel (f : Mbx → Mbx) : (s.modMbx f).panel = s.panel := rfl
@[simp] theorem State.modMbx_outbox (f : Mbx → Mbx) : (s.modMbx f).outbox = s.outbox := rfl
@[simp] theorem State.modMbx_free (f : Mbx → Mbx) : (s.modMbx f).free = s.free := rfl
@[simp] theorem State.modCfg_pending (f : Cfg → Cfg) : (s.modCfg f).pending = s.pending := rfl
@[simp] theorem State.modCfg_clk (f : Cfg → Cfg) : (s.modCfg f).clk = s.clk := rfl
@[simp] theorem State.modCfg_boot (f : Cfg → Cfg) : (s.modCfg f).boot = s.boot := rfl
@[simp] theorem State.modCfg_mbx (f : Cfg → Cfg) : (s.modCfg f).mbx = s.mbx := rfl
@[simp] theorem State.modCfg_cfg (f : Cfg → Cfg) : (s.modCfg f).cfg = f s.cfg := rfl
@[simp] theorem State.modCfg_units (f : Cfg → Cfg) : (s.modCfg f).units = s.units := rfl
@[simp] theorem State.modCfg_jobs (f : Cfg → Cfg) : (s.modCfg f).jobs = s.jobs := rfl
@[simp] theorem State.modCfg_land (f : Cfg → Cfg) : (s.modCfg f).land = s.land := rfl
@[simp] theorem State.modCfg_gov (f : Cfg → Cfg) : (s.modCfg f).gov = s.gov := rfl
@[simp] theorem State.modCfg_ingest (f : Cfg → Cfg) : (s.modCfg f).ingest = s.ingest := rfl
@[simp] theorem State.modCfg_host (f : Cfg → Cfg) : (s.modCfg f).host = s.host := rfl
@[simp] theorem State.modCfg_spool (f : Cfg → Cfg) : (s.modCfg f).spool = s.spool := rfl
@[simp] theorem State.modCfg_stations (f : Cfg → Cfg) : (s.modCfg f).stations = s.stations := rfl
@[simp] theorem State.modCfg_lanes (f : Cfg → Cfg) : (s.modCfg f).lanes = s.lanes := rfl
@[simp] theorem State.modCfg_intlk (f : Cfg → Cfg) : (s.modCfg f).intlk = s.intlk := rfl
@[simp] theorem State.modCfg_newel (f : Cfg → Cfg) : (s.modCfg f).newel = s.newel := rfl
@[simp] theorem State.modCfg_axes (f : Cfg → Cfg) : (s.modCfg f).axes = s.axes := rfl
@[simp] theorem State.modCfg_steppers (f : Cfg → Cfg) : (s.modCfg f).steppers = s.steppers := rfl
@[simp] theorem State.modCfg_sols (f : Cfg → Cfg) : (s.modCfg f).sols = s.sols := rfl
@[simp] theorem State.modCfg_ring (f : Cfg → Cfg) : (s.modCfg f).ring = s.ring := rfl
@[simp] theorem State.modCfg_loops (f : Cfg → Cfg) : (s.modCfg f).loops = s.loops := rfl
@[simp] theorem State.modCfg_power (f : Cfg → Cfg) : (s.modCfg f).power = s.power := rfl
@[simp] theorem State.modCfg_therm (f : Cfg → Cfg) : (s.modCfg f).therm = s.therm := rfl
@[simp] theorem State.modCfg_faults (f : Cfg → Cfg) : (s.modCfg f).faults = s.faults := rfl
@[simp] theorem State.modCfg_pair (f : Cfg → Cfg) : (s.modCfg f).pair = s.pair := rfl
@[simp] theorem State.modCfg_gal (f : Cfg → Cfg) : (s.modCfg f).gal = s.gal := rfl
@[simp] theorem State.modCfg_ledger (f : Cfg → Cfg) : (s.modCfg f).ledger = s.ledger := rfl
@[simp] theorem State.modCfg_auth (f : Cfg → Cfg) : (s.modCfg f).auth = s.auth := rfl
@[simp] theorem State.modCfg_cal (f : Cfg → Cfg) : (s.modCfg f).cal = s.cal := rfl
@[simp] theorem State.modCfg_maint (f : Cfg → Cfg) : (s.modCfg f).maint = s.maint := rfl
@[simp] theorem State.modCfg_panel (f : Cfg → Cfg) : (s.modCfg f).panel = s.panel := rfl
@[simp] theorem State.modCfg_outbox (f : Cfg → Cfg) : (s.modCfg f).outbox = s.outbox := rfl
@[simp] theorem State.modCfg_free (f : Cfg → Cfg) : (s.modCfg f).free = s.free := rfl
@[simp] theorem State.modUnits_pending (f : Units → Units) : (s.modUnits f).pending = s.pending := rfl
@[simp] theorem State.modUnits_clk (f : Units → Units) : (s.modUnits f).clk = s.clk := rfl
@[simp] theorem State.modUnits_boot (f : Units → Units) : (s.modUnits f).boot = s.boot := rfl
@[simp] theorem State.modUnits_mbx (f : Units → Units) : (s.modUnits f).mbx = s.mbx := rfl
@[simp] theorem State.modUnits_cfg (f : Units → Units) : (s.modUnits f).cfg = s.cfg := rfl
@[simp] theorem State.modUnits_units (f : Units → Units) : (s.modUnits f).units = f s.units := rfl
@[simp] theorem State.modUnits_jobs (f : Units → Units) : (s.modUnits f).jobs = s.jobs := rfl
@[simp] theorem State.modUnits_land (f : Units → Units) : (s.modUnits f).land = s.land := rfl
@[simp] theorem State.modUnits_gov (f : Units → Units) : (s.modUnits f).gov = s.gov := rfl
@[simp] theorem State.modUnits_ingest (f : Units → Units) : (s.modUnits f).ingest = s.ingest := rfl
@[simp] theorem State.modUnits_host (f : Units → Units) : (s.modUnits f).host = s.host := rfl
@[simp] theorem State.modUnits_spool (f : Units → Units) : (s.modUnits f).spool = s.spool := rfl
@[simp] theorem State.modUnits_stations (f : Units → Units) : (s.modUnits f).stations = s.stations := rfl
@[simp] theorem State.modUnits_lanes (f : Units → Units) : (s.modUnits f).lanes = s.lanes := rfl
@[simp] theorem State.modUnits_intlk (f : Units → Units) : (s.modUnits f).intlk = s.intlk := rfl
@[simp] theorem State.modUnits_newel (f : Units → Units) : (s.modUnits f).newel = s.newel := rfl
@[simp] theorem State.modUnits_axes (f : Units → Units) : (s.modUnits f).axes = s.axes := rfl
@[simp] theorem State.modUnits_steppers (f : Units → Units) : (s.modUnits f).steppers = s.steppers := rfl
@[simp] theorem State.modUnits_sols (f : Units → Units) : (s.modUnits f).sols = s.sols := rfl
@[simp] theorem State.modUnits_ring (f : Units → Units) : (s.modUnits f).ring = s.ring := rfl
@[simp] theorem State.modUnits_loops (f : Units → Units) : (s.modUnits f).loops = s.loops := rfl
@[simp] theorem State.modUnits_power (f : Units → Units) : (s.modUnits f).power = s.power := rfl
@[simp] theorem State.modUnits_therm (f : Units → Units) : (s.modUnits f).therm = s.therm := rfl
@[simp] theorem State.modUnits_faults (f : Units → Units) : (s.modUnits f).faults = s.faults := rfl
@[simp] theorem State.modUnits_pair (f : Units → Units) : (s.modUnits f).pair = s.pair := rfl
@[simp] theorem State.modUnits_gal (f : Units → Units) : (s.modUnits f).gal = s.gal := rfl
@[simp] theorem State.modUnits_ledger (f : Units → Units) : (s.modUnits f).ledger = s.ledger := rfl
@[simp] theorem State.modUnits_auth (f : Units → Units) : (s.modUnits f).auth = s.auth := rfl
@[simp] theorem State.modUnits_cal (f : Units → Units) : (s.modUnits f).cal = s.cal := rfl
@[simp] theorem State.modUnits_maint (f : Units → Units) : (s.modUnits f).maint = s.maint := rfl
@[simp] theorem State.modUnits_panel (f : Units → Units) : (s.modUnits f).panel = s.panel := rfl
@[simp] theorem State.modUnits_outbox (f : Units → Units) : (s.modUnits f).outbox = s.outbox := rfl
@[simp] theorem State.modUnits_free (f : Units → Units) : (s.modUnits f).free = s.free := rfl
@[simp] theorem State.modJobs_pending (f : List Job → List Job) : (s.modJobs f).pending = s.pending := rfl
@[simp] theorem State.modJobs_clk (f : List Job → List Job) : (s.modJobs f).clk = s.clk := rfl
@[simp] theorem State.modJobs_boot (f : List Job → List Job) : (s.modJobs f).boot = s.boot := rfl
@[simp] theorem State.modJobs_mbx (f : List Job → List Job) : (s.modJobs f).mbx = s.mbx := rfl
@[simp] theorem State.modJobs_cfg (f : List Job → List Job) : (s.modJobs f).cfg = s.cfg := rfl
@[simp] theorem State.modJobs_units (f : List Job → List Job) : (s.modJobs f).units = s.units := rfl
@[simp] theorem State.modJobs_jobs (f : List Job → List Job) : (s.modJobs f).jobs = f s.jobs := rfl
@[simp] theorem State.modJobs_land (f : List Job → List Job) : (s.modJobs f).land = s.land := rfl
@[simp] theorem State.modJobs_gov (f : List Job → List Job) : (s.modJobs f).gov = s.gov := rfl
@[simp] theorem State.modJobs_ingest (f : List Job → List Job) : (s.modJobs f).ingest = s.ingest := rfl
@[simp] theorem State.modJobs_host (f : List Job → List Job) : (s.modJobs f).host = s.host := rfl
@[simp] theorem State.modJobs_spool (f : List Job → List Job) : (s.modJobs f).spool = s.spool := rfl
@[simp] theorem State.modJobs_stations (f : List Job → List Job) : (s.modJobs f).stations = s.stations := rfl
@[simp] theorem State.modJobs_lanes (f : List Job → List Job) : (s.modJobs f).lanes = s.lanes := rfl
@[simp] theorem State.modJobs_intlk (f : List Job → List Job) : (s.modJobs f).intlk = s.intlk := rfl
@[simp] theorem State.modJobs_newel (f : List Job → List Job) : (s.modJobs f).newel = s.newel := rfl
@[simp] theorem State.modJobs_axes (f : List Job → List Job) : (s.modJobs f).axes = s.axes := rfl
@[simp] theorem State.modJobs_steppers (f : List Job → List Job) : (s.modJobs f).steppers = s.steppers := rfl
@[simp] theorem State.modJobs_sols (f : List Job → List Job) : (s.modJobs f).sols = s.sols := rfl
@[simp] theorem State.modJobs_ring (f : List Job → List Job) : (s.modJobs f).ring = s.ring := rfl
@[simp] theorem State.modJobs_loops (f : List Job → List Job) : (s.modJobs f).loops = s.loops := rfl
@[simp] theorem State.modJobs_power (f : List Job → List Job) : (s.modJobs f).power = s.power := rfl
@[simp] theorem State.modJobs_therm (f : List Job → List Job) : (s.modJobs f).therm = s.therm := rfl
@[simp] theorem State.modJobs_faults (f : List Job → List Job) : (s.modJobs f).faults = s.faults := rfl
@[simp] theorem State.modJobs_pair (f : List Job → List Job) : (s.modJobs f).pair = s.pair := rfl
@[simp] theorem State.modJobs_gal (f : List Job → List Job) : (s.modJobs f).gal = s.gal := rfl
@[simp] theorem State.modJobs_ledger (f : List Job → List Job) : (s.modJobs f).ledger = s.ledger := rfl
@[simp] theorem State.modJobs_auth (f : List Job → List Job) : (s.modJobs f).auth = s.auth := rfl
@[simp] theorem State.modJobs_cal (f : List Job → List Job) : (s.modJobs f).cal = s.cal := rfl
@[simp] theorem State.modJobs_maint (f : List Job → List Job) : (s.modJobs f).maint = s.maint := rfl
@[simp] theorem State.modJobs_panel (f : List Job → List Job) : (s.modJobs f).panel = s.panel := rfl
@[simp] theorem State.modJobs_outbox (f : List Job → List Job) : (s.modJobs f).outbox = s.outbox := rfl
@[simp] theorem State.modJobs_free (f : List Job → List Job) : (s.modJobs f).free = s.free := rfl
@[simp] theorem State.modLand_pending (f : Land → Land) : (s.modLand f).pending = s.pending := rfl
@[simp] theorem State.modLand_clk (f : Land → Land) : (s.modLand f).clk = s.clk := rfl
@[simp] theorem State.modLand_boot (f : Land → Land) : (s.modLand f).boot = s.boot := rfl
@[simp] theorem State.modLand_mbx (f : Land → Land) : (s.modLand f).mbx = s.mbx := rfl
@[simp] theorem State.modLand_cfg (f : Land → Land) : (s.modLand f).cfg = s.cfg := rfl
@[simp] theorem State.modLand_units (f : Land → Land) : (s.modLand f).units = s.units := rfl
@[simp] theorem State.modLand_jobs (f : Land → Land) : (s.modLand f).jobs = s.jobs := rfl
@[simp] theorem State.modLand_land (f : Land → Land) : (s.modLand f).land = f s.land := rfl
@[simp] theorem State.modLand_gov (f : Land → Land) : (s.modLand f).gov = s.gov := rfl
@[simp] theorem State.modLand_ingest (f : Land → Land) : (s.modLand f).ingest = s.ingest := rfl
@[simp] theorem State.modLand_host (f : Land → Land) : (s.modLand f).host = s.host := rfl
@[simp] theorem State.modLand_spool (f : Land → Land) : (s.modLand f).spool = s.spool := rfl
@[simp] theorem State.modLand_stations (f : Land → Land) : (s.modLand f).stations = s.stations := rfl
@[simp] theorem State.modLand_lanes (f : Land → Land) : (s.modLand f).lanes = s.lanes := rfl
@[simp] theorem State.modLand_intlk (f : Land → Land) : (s.modLand f).intlk = s.intlk := rfl
@[simp] theorem State.modLand_newel (f : Land → Land) : (s.modLand f).newel = s.newel := rfl
@[simp] theorem State.modLand_axes (f : Land → Land) : (s.modLand f).axes = s.axes := rfl
@[simp] theorem State.modLand_steppers (f : Land → Land) : (s.modLand f).steppers = s.steppers := rfl
@[simp] theorem State.modLand_sols (f : Land → Land) : (s.modLand f).sols = s.sols := rfl
@[simp] theorem State.modLand_ring (f : Land → Land) : (s.modLand f).ring = s.ring := rfl
@[simp] theorem State.modLand_loops (f : Land → Land) : (s.modLand f).loops = s.loops := rfl
@[simp] theorem State.modLand_power (f : Land → Land) : (s.modLand f).power = s.power := rfl
@[simp] theorem State.modLand_therm (f : Land → Land) : (s.modLand f).therm = s.therm := rfl
@[simp] theorem State.modLand_faults (f : Land → Land) : (s.modLand f).faults = s.faults := rfl
@[simp] theorem State.modLand_pair (f : Land → Land) : (s.modLand f).pair = s.pair := rfl
@[simp] theorem State.modLand_gal (f : Land → Land) : (s.modLand f).gal = s.gal := rfl
@[simp] theorem State.modLand_ledger (f : Land → Land) : (s.modLand f).ledger = s.ledger := rfl
@[simp] theorem State.modLand_auth (f : Land → Land) : (s.modLand f).auth = s.auth := rfl
@[simp] theorem State.modLand_cal (f : Land → Land) : (s.modLand f).cal = s.cal := rfl
@[simp] theorem State.modLand_maint (f : Land → Land) : (s.modLand f).maint = s.maint := rfl
@[simp] theorem State.modLand_panel (f : Land → Land) : (s.modLand f).panel = s.panel := rfl
@[simp] theorem State.modLand_outbox (f : Land → Land) : (s.modLand f).outbox = s.outbox := rfl
@[simp] theorem State.modLand_free (f : Land → Land) : (s.modLand f).free = s.free := rfl
@[simp] theorem State.modGov_pending (f : Gov → Gov) : (s.modGov f).pending = s.pending := rfl
@[simp] theorem State.modGov_clk (f : Gov → Gov) : (s.modGov f).clk = s.clk := rfl
@[simp] theorem State.modGov_boot (f : Gov → Gov) : (s.modGov f).boot = s.boot := rfl
@[simp] theorem State.modGov_mbx (f : Gov → Gov) : (s.modGov f).mbx = s.mbx := rfl
@[simp] theorem State.modGov_cfg (f : Gov → Gov) : (s.modGov f).cfg = s.cfg := rfl
@[simp] theorem State.modGov_units (f : Gov → Gov) : (s.modGov f).units = s.units := rfl
@[simp] theorem State.modGov_jobs (f : Gov → Gov) : (s.modGov f).jobs = s.jobs := rfl
@[simp] theorem State.modGov_land (f : Gov → Gov) : (s.modGov f).land = s.land := rfl
@[simp] theorem State.modGov_gov (f : Gov → Gov) : (s.modGov f).gov = f s.gov := rfl
@[simp] theorem State.modGov_ingest (f : Gov → Gov) : (s.modGov f).ingest = s.ingest := rfl
@[simp] theorem State.modGov_host (f : Gov → Gov) : (s.modGov f).host = s.host := rfl
@[simp] theorem State.modGov_spool (f : Gov → Gov) : (s.modGov f).spool = s.spool := rfl
@[simp] theorem State.modGov_stations (f : Gov → Gov) : (s.modGov f).stations = s.stations := rfl
@[simp] theorem State.modGov_lanes (f : Gov → Gov) : (s.modGov f).lanes = s.lanes := rfl
@[simp] theorem State.modGov_intlk (f : Gov → Gov) : (s.modGov f).intlk = s.intlk := rfl
@[simp] theorem State.modGov_newel (f : Gov → Gov) : (s.modGov f).newel = s.newel := rfl
@[simp] theorem State.modGov_axes (f : Gov → Gov) : (s.modGov f).axes = s.axes := rfl
@[simp] theorem State.modGov_steppers (f : Gov → Gov) : (s.modGov f).steppers = s.steppers := rfl
@[simp] theorem State.modGov_sols (f : Gov → Gov) : (s.modGov f).sols = s.sols := rfl
@[simp] theorem State.modGov_ring (f : Gov → Gov) : (s.modGov f).ring = s.ring := rfl
@[simp] theorem State.modGov_loops (f : Gov → Gov) : (s.modGov f).loops = s.loops := rfl
@[simp] theorem State.modGov_power (f : Gov → Gov) : (s.modGov f).power = s.power := rfl
@[simp] theorem State.modGov_therm (f : Gov → Gov) : (s.modGov f).therm = s.therm := rfl
@[simp] theorem State.modGov_faults (f : Gov → Gov) : (s.modGov f).faults = s.faults := rfl
@[simp] theorem State.modGov_pair (f : Gov → Gov) : (s.modGov f).pair = s.pair := rfl
@[simp] theorem State.modGov_gal (f : Gov → Gov) : (s.modGov f).gal = s.gal := rfl
@[simp] theorem State.modGov_ledger (f : Gov → Gov) : (s.modGov f).ledger = s.ledger := rfl
@[simp] theorem State.modGov_auth (f : Gov → Gov) : (s.modGov f).auth = s.auth := rfl
@[simp] theorem State.modGov_cal (f : Gov → Gov) : (s.modGov f).cal = s.cal := rfl
@[simp] theorem State.modGov_maint (f : Gov → Gov) : (s.modGov f).maint = s.maint := rfl
@[simp] theorem State.modGov_panel (f : Gov → Gov) : (s.modGov f).panel = s.panel := rfl
@[simp] theorem State.modGov_outbox (f : Gov → Gov) : (s.modGov f).outbox = s.outbox := rfl
@[simp] theorem State.modGov_free (f : Gov → Gov) : (s.modGov f).free = s.free := rfl
@[simp] theorem State.modIngest_pending (f : Ingest → Ingest) : (s.modIngest f).pending = s.pending := rfl
@[simp] theorem State.modIngest_clk (f : Ingest → Ingest) : (s.modIngest f).clk = s.clk := rfl
@[simp] theorem State.modIngest_boot (f : Ingest → Ingest) : (s.modIngest f).boot = s.boot := rfl
@[simp] theorem State.modIngest_mbx (f : Ingest → Ingest) : (s.modIngest f).mbx = s.mbx := rfl
@[simp] theorem State.modIngest_cfg (f : Ingest → Ingest) : (s.modIngest f).cfg = s.cfg := rfl
@[simp] theorem State.modIngest_units (f : Ingest → Ingest) : (s.modIngest f).units = s.units := rfl
@[simp] theorem State.modIngest_jobs (f : Ingest → Ingest) : (s.modIngest f).jobs = s.jobs := rfl
@[simp] theorem State.modIngest_land (f : Ingest → Ingest) : (s.modIngest f).land = s.land := rfl
@[simp] theorem State.modIngest_gov (f : Ingest → Ingest) : (s.modIngest f).gov = s.gov := rfl
@[simp] theorem State.modIngest_ingest (f : Ingest → Ingest) : (s.modIngest f).ingest = f s.ingest := rfl
@[simp] theorem State.modIngest_host (f : Ingest → Ingest) : (s.modIngest f).host = s.host := rfl
@[simp] theorem State.modIngest_spool (f : Ingest → Ingest) : (s.modIngest f).spool = s.spool := rfl
@[simp] theorem State.modIngest_stations (f : Ingest → Ingest) : (s.modIngest f).stations = s.stations := rfl
@[simp] theorem State.modIngest_lanes (f : Ingest → Ingest) : (s.modIngest f).lanes = s.lanes := rfl
@[simp] theorem State.modIngest_intlk (f : Ingest → Ingest) : (s.modIngest f).intlk = s.intlk := rfl
@[simp] theorem State.modIngest_newel (f : Ingest → Ingest) : (s.modIngest f).newel = s.newel := rfl
@[simp] theorem State.modIngest_axes (f : Ingest → Ingest) : (s.modIngest f).axes = s.axes := rfl
@[simp] theorem State.modIngest_steppers (f : Ingest → Ingest) : (s.modIngest f).steppers = s.steppers := rfl
@[simp] theorem State.modIngest_sols (f : Ingest → Ingest) : (s.modIngest f).sols = s.sols := rfl
@[simp] theorem State.modIngest_ring (f : Ingest → Ingest) : (s.modIngest f).ring = s.ring := rfl
@[simp] theorem State.modIngest_loops (f : Ingest → Ingest) : (s.modIngest f).loops = s.loops := rfl
@[simp] theorem State.modIngest_power (f : Ingest → Ingest) : (s.modIngest f).power = s.power := rfl
@[simp] theorem State.modIngest_therm (f : Ingest → Ingest) : (s.modIngest f).therm = s.therm := rfl
@[simp] theorem State.modIngest_faults (f : Ingest → Ingest) : (s.modIngest f).faults = s.faults := rfl
@[simp] theorem State.modIngest_pair (f : Ingest → Ingest) : (s.modIngest f).pair = s.pair := rfl
@[simp] theorem State.modIngest_gal (f : Ingest → Ingest) : (s.modIngest f).gal = s.gal := rfl
@[simp] theorem State.modIngest_ledger (f : Ingest → Ingest) : (s.modIngest f).ledger = s.ledger := rfl
@[simp] theorem State.modIngest_auth (f : Ingest → Ingest) : (s.modIngest f).auth = s.auth := rfl
@[simp] theorem State.modIngest_cal (f : Ingest → Ingest) : (s.modIngest f).cal = s.cal := rfl
@[simp] theorem State.modIngest_maint (f : Ingest → Ingest) : (s.modIngest f).maint = s.maint := rfl
@[simp] theorem State.modIngest_panel (f : Ingest → Ingest) : (s.modIngest f).panel = s.panel := rfl
@[simp] theorem State.modIngest_outbox (f : Ingest → Ingest) : (s.modIngest f).outbox = s.outbox := rfl
@[simp] theorem State.modIngest_free (f : Ingest → Ingest) : (s.modIngest f).free = s.free := rfl
@[simp] theorem State.modHost_pending (f : HostL → HostL) : (s.modHost f).pending = s.pending := rfl
@[simp] theorem State.modHost_clk (f : HostL → HostL) : (s.modHost f).clk = s.clk := rfl
@[simp] theorem State.modHost_boot (f : HostL → HostL) : (s.modHost f).boot = s.boot := rfl
@[simp] theorem State.modHost_mbx (f : HostL → HostL) : (s.modHost f).mbx = s.mbx := rfl
@[simp] theorem State.modHost_cfg (f : HostL → HostL) : (s.modHost f).cfg = s.cfg := rfl
@[simp] theorem State.modHost_units (f : HostL → HostL) : (s.modHost f).units = s.units := rfl
@[simp] theorem State.modHost_jobs (f : HostL → HostL) : (s.modHost f).jobs = s.jobs := rfl
@[simp] theorem State.modHost_land (f : HostL → HostL) : (s.modHost f).land = s.land := rfl
@[simp] theorem State.modHost_gov (f : HostL → HostL) : (s.modHost f).gov = s.gov := rfl
@[simp] theorem State.modHost_ingest (f : HostL → HostL) : (s.modHost f).ingest = s.ingest := rfl
@[simp] theorem State.modHost_host (f : HostL → HostL) : (s.modHost f).host = f s.host := rfl
@[simp] theorem State.modHost_spool (f : HostL → HostL) : (s.modHost f).spool = s.spool := rfl
@[simp] theorem State.modHost_stations (f : HostL → HostL) : (s.modHost f).stations = s.stations := rfl
@[simp] theorem State.modHost_lanes (f : HostL → HostL) : (s.modHost f).lanes = s.lanes := rfl
@[simp] theorem State.modHost_intlk (f : HostL → HostL) : (s.modHost f).intlk = s.intlk := rfl
@[simp] theorem State.modHost_newel (f : HostL → HostL) : (s.modHost f).newel = s.newel := rfl
@[simp] theorem State.modHost_axes (f : HostL → HostL) : (s.modHost f).axes = s.axes := rfl
@[simp] theorem State.modHost_steppers (f : HostL → HostL) : (s.modHost f).steppers = s.steppers := rfl
@[simp] theorem State.modHost_sols (f : HostL → HostL) : (s.modHost f).sols = s.sols := rfl
@[simp] theorem State.modHost_ring (f : HostL → HostL) : (s.modHost f).ring = s.ring := rfl
@[simp] theorem State.modHost_loops (f : HostL → HostL) : (s.modHost f).loops = s.loops := rfl
@[simp] theorem State.modHost_power (f : HostL → HostL) : (s.modHost f).power = s.power := rfl
@[simp] theorem State.modHost_therm (f : HostL → HostL) : (s.modHost f).therm = s.therm := rfl
@[simp] theorem State.modHost_faults (f : HostL → HostL) : (s.modHost f).faults = s.faults := rfl
@[simp] theorem State.modHost_pair (f : HostL → HostL) : (s.modHost f).pair = s.pair := rfl
@[simp] theorem State.modHost_gal (f : HostL → HostL) : (s.modHost f).gal = s.gal := rfl
@[simp] theorem State.modHost_ledger (f : HostL → HostL) : (s.modHost f).ledger = s.ledger := rfl
@[simp] theorem State.modHost_auth (f : HostL → HostL) : (s.modHost f).auth = s.auth := rfl
@[simp] theorem State.modHost_cal (f : HostL → HostL) : (s.modHost f).cal = s.cal := rfl
@[simp] theorem State.modHost_maint (f : HostL → HostL) : (s.modHost f).maint = s.maint := rfl
@[simp] theorem State.modHost_panel (f : HostL → HostL) : (s.modHost f).panel = s.panel := rfl
@[simp] theorem State.modHost_outbox (f : HostL → HostL) : (s.modHost f).outbox = s.outbox := rfl
@[simp] theorem State.modHost_free (f : HostL → HostL) : (s.modHost f).free = s.free := rfl
@[simp] theorem State.modSpool_pending (f : Spool → Spool) : (s.modSpool f).pending = s.pending := rfl
@[simp] theorem State.modSpool_clk (f : Spool → Spool) : (s.modSpool f).clk = s.clk := rfl
@[simp] theorem State.modSpool_boot (f : Spool → Spool) : (s.modSpool f).boot = s.boot := rfl
@[simp] theorem State.modSpool_mbx (f : Spool → Spool) : (s.modSpool f).mbx = s.mbx := rfl
@[simp] theorem State.modSpool_cfg (f : Spool → Spool) : (s.modSpool f).cfg = s.cfg := rfl
@[simp] theorem State.modSpool_units (f : Spool → Spool) : (s.modSpool f).units = s.units := rfl
@[simp] theorem State.modSpool_jobs (f : Spool → Spool) : (s.modSpool f).jobs = s.jobs := rfl
@[simp] theorem State.modSpool_land (f : Spool → Spool) : (s.modSpool f).land = s.land := rfl
@[simp] theorem State.modSpool_gov (f : Spool → Spool) : (s.modSpool f).gov = s.gov := rfl
@[simp] theorem State.modSpool_ingest (f : Spool → Spool) : (s.modSpool f).ingest = s.ingest := rfl
@[simp] theorem State.modSpool_host (f : Spool → Spool) : (s.modSpool f).host = s.host := rfl
@[simp] theorem State.modSpool_spool (f : Spool → Spool) : (s.modSpool f).spool = f s.spool := rfl
@[simp] theorem State.modSpool_stations (f : Spool → Spool) : (s.modSpool f).stations = s.stations := rfl
@[simp] theorem State.modSpool_lanes (f : Spool → Spool) : (s.modSpool f).lanes = s.lanes := rfl
@[simp] theorem State.modSpool_intlk (f : Spool → Spool) : (s.modSpool f).intlk = s.intlk := rfl
@[simp] theorem State.modSpool_newel (f : Spool → Spool) : (s.modSpool f).newel = s.newel := rfl
@[simp] theorem State.modSpool_axes (f : Spool → Spool) : (s.modSpool f).axes = s.axes := rfl
@[simp] theorem State.modSpool_steppers (f : Spool → Spool) : (s.modSpool f).steppers = s.steppers := rfl
@[simp] theorem State.modSpool_sols (f : Spool → Spool) : (s.modSpool f).sols = s.sols := rfl
@[simp] theorem State.modSpool_ring (f : Spool → Spool) : (s.modSpool f).ring = s.ring := rfl
@[simp] theorem State.modSpool_loops (f : Spool → Spool) : (s.modSpool f).loops = s.loops := rfl
@[simp] theorem State.modSpool_power (f : Spool → Spool) : (s.modSpool f).power = s.power := rfl
@[simp] theorem State.modSpool_therm (f : Spool → Spool) : (s.modSpool f).therm = s.therm := rfl
@[simp] theorem State.modSpool_faults (f : Spool → Spool) : (s.modSpool f).faults = s.faults := rfl
@[simp] theorem State.modSpool_pair (f : Spool → Spool) : (s.modSpool f).pair = s.pair := rfl
@[simp] theorem State.modSpool_gal (f : Spool → Spool) : (s.modSpool f).gal = s.gal := rfl
@[simp] theorem State.modSpool_ledger (f : Spool → Spool) : (s.modSpool f).ledger = s.ledger := rfl
@[simp] theorem State.modSpool_auth (f : Spool → Spool) : (s.modSpool f).auth = s.auth := rfl
@[simp] theorem State.modSpool_cal (f : Spool → Spool) : (s.modSpool f).cal = s.cal := rfl
@[simp] theorem State.modSpool_maint (f : Spool → Spool) : (s.modSpool f).maint = s.maint := rfl
@[simp] theorem State.modSpool_panel (f : Spool → Spool) : (s.modSpool f).panel = s.panel := rfl
@[simp] theorem State.modSpool_outbox (f : Spool → Spool) : (s.modSpool f).outbox = s.outbox := rfl
@[simp] theorem State.modSpool_free (f : Spool → Spool) : (s.modSpool f).free = s.free := rfl
@[simp] theorem State.modStations_pending (f : KV Station → KV Station) : (s.modStations f).pending = s.pending := rfl
@[simp] theorem State.modStations_clk (f : KV Station → KV Station) : (s.modStations f).clk = s.clk := rfl
@[simp] theorem State.modStations_boot (f : KV Station → KV Station) : (s.modStations f).boot = s.boot := rfl
@[simp] theorem State.modStations_mbx (f : KV Station → KV Station) : (s.modStations f).mbx = s.mbx := rfl
@[simp] theorem State.modStations_cfg (f : KV Station → KV Station) : (s.modStations f).cfg = s.cfg := rfl
@[simp] theorem State.modStations_units (f : KV Station → KV Station) : (s.modStations f).units = s.units := rfl
@[simp] theorem State.modStations_jobs (f : KV Station → KV Station) : (s.modStations f).jobs = s.jobs := rfl
@[simp] theorem State.modStations_land (f : KV Station → KV Station) : (s.modStations f).land = s.land := rfl
@[simp] theorem State.modStations_gov (f : KV Station → KV Station) : (s.modStations f).gov = s.gov := rfl
@[simp] theorem State.modStations_ingest (f : KV Station → KV Station) : (s.modStations f).ingest = s.ingest := rfl
@[simp] theorem State.modStations_host (f : KV Station → KV Station) : (s.modStations f).host = s.host := rfl
@[simp] theorem State.modStations_spool (f : KV Station → KV Station) : (s.modStations f).spool = s.spool := rfl
@[simp] theorem State.modStations_stations (f : KV Station → KV Station) : (s.modStations f).stations = f s.stations := rfl
@[simp] theorem State.modStations_lanes (f : KV Station → KV Station) : (s.modStations f).lanes = s.lanes := rfl
@[simp] theorem State.modStations_intlk (f : KV Station → KV Station) : (s.modStations f).intlk = s.intlk := rfl
@[simp] theorem State.modStations_newel (f : KV Station → KV Station) : (s.modStations f).newel = s.newel := rfl
@[simp] theorem State.modStations_axes (f : KV Station → KV Station) : (s.modStations f).axes = s.axes := rfl
@[simp] theorem State.modStations_steppers (f : KV Station → KV Station) : (s.modStations f).steppers = s.steppers := rfl
@[simp] theorem State.modStations_sols (f : KV Station → KV Station) : (s.modStations f).sols = s.sols := rfl
@[simp] theorem State.modStations_ring (f : KV Station → KV Station) : (s.modStations f).ring = s.ring := rfl
@[simp] theorem State.modStations_loops (f : KV Station → KV Station) : (s.modStations f).loops = s.loops := rfl
@[simp] theorem State.modStations_power (f : KV Station → KV Station) : (s.modStations f).power = s.power := rfl
@[simp] theorem State.modStations_therm (f : KV Station → KV Station) : (s.modStations f).therm = s.therm := rfl
@[simp] theorem State.modStations_faults (f : KV Station → KV Station) : (s.modStations f).faults = s.faults := rfl
@[simp] theorem State.modStations_pair (f : KV Station → KV Station) : (s.modStations f).pair = s.pair := rfl
@[simp] theorem State.modStations_gal (f : KV Station → KV Station) : (s.modStations f).gal = s.gal := rfl
@[simp] theorem State.modStations_ledger (f : KV Station → KV Station) : (s.modStations f).ledger = s.ledger := rfl
@[simp] theorem State.modStations_auth (f : KV Station → KV Station) : (s.modStations f).auth = s.auth := rfl
@[simp] theorem State.modStations_cal (f : KV Station → KV Station) : (s.modStations f).cal = s.cal := rfl
@[simp] theorem State.modStations_maint (f : KV Station → KV Station) : (s.modStations f).maint = s.maint := rfl
@[simp] theorem State.modStations_panel (f : KV Station → KV Station) : (s.modStations f).panel = s.panel := rfl
@[simp] theorem State.modStations_outbox (f : KV Station → KV Station) : (s.modStations f).outbox = s.outbox := rfl
@[simp] theorem State.modStations_free (f : KV Station → KV Station) : (s.modStations f).free = s.free := rfl
@[simp] theorem State.modLanes_pending (f : KV Lane → KV Lane) : (s.modLanes f).pending = s.pending := rfl
@[simp] theorem State.modLanes_clk (f : KV Lane → KV Lane) : (s.modLanes f).clk = s.clk := rfl
@[simp] theorem State.modLanes_boot (f : KV Lane → KV Lane) : (s.modLanes f).boot = s.boot := rfl
@[simp] theorem State.modLanes_mbx (f : KV Lane → KV Lane) : (s.modLanes f).mbx = s.mbx := rfl
@[simp] theorem State.modLanes_cfg (f : KV Lane → KV Lane) : (s.modLanes f).cfg = s.cfg := rfl
@[simp] theorem State.modLanes_units (f : KV Lane → KV Lane) : (s.modLanes f).units = s.units := rfl
@[simp] theorem State.modLanes_jobs (f : KV Lane → KV Lane) : (s.modLanes f).jobs = s.jobs := rfl
@[simp] theorem State.modLanes_land (f : KV Lane → KV Lane) : (s.modLanes f).land = s.land := rfl
@[simp] theorem State.modLanes_gov (f : KV Lane → KV Lane) : (s.modLanes f).gov = s.gov := rfl
@[simp] theorem State.modLanes_ingest (f : KV Lane → KV Lane) : (s.modLanes f).ingest = s.ingest := rfl
@[simp] theorem State.modLanes_host (f : KV Lane → KV Lane) : (s.modLanes f).host = s.host := rfl
@[simp] theorem State.modLanes_spool (f : KV Lane → KV Lane) : (s.modLanes f).spool = s.spool := rfl
@[simp] theorem State.modLanes_stations (f : KV Lane → KV Lane) : (s.modLanes f).stations = s.stations := rfl
@[simp] theorem State.modLanes_lanes (f : KV Lane → KV Lane) : (s.modLanes f).lanes = f s.lanes := rfl
@[simp] theorem State.modLanes_intlk (f : KV Lane → KV Lane) : (s.modLanes f).intlk = s.intlk := rfl
@[simp] theorem State.modLanes_newel (f : KV Lane → KV Lane) : (s.modLanes f).newel = s.newel := rfl
@[simp] theorem State.modLanes_axes (f : KV Lane → KV Lane) : (s.modLanes f).axes = s.axes := rfl
@[simp] theorem State.modLanes_steppers (f : KV Lane → KV Lane) : (s.modLanes f).steppers = s.steppers := rfl
@[simp] theorem State.modLanes_sols (f : KV Lane → KV Lane) : (s.modLanes f).sols = s.sols := rfl
@[simp] theorem State.modLanes_ring (f : KV Lane → KV Lane) : (s.modLanes f).ring = s.ring := rfl
@[simp] theorem State.modLanes_loops (f : KV Lane → KV Lane) : (s.modLanes f).loops = s.loops := rfl
@[simp] theorem State.modLanes_power (f : KV Lane → KV Lane) : (s.modLanes f).power = s.power := rfl
@[simp] theorem State.modLanes_therm (f : KV Lane → KV Lane) : (s.modLanes f).therm = s.therm := rfl
@[simp] theorem State.modLanes_faults (f : KV Lane → KV Lane) : (s.modLanes f).faults = s.faults := rfl
@[simp] theorem State.modLanes_pair (f : KV Lane → KV Lane) : (s.modLanes f).pair = s.pair := rfl
@[simp] theorem State.modLanes_gal (f : KV Lane → KV Lane) : (s.modLanes f).gal = s.gal := rfl
@[simp] theorem State.modLanes_ledger (f : KV Lane → KV Lane) : (s.modLanes f).ledger = s.ledger := rfl
@[simp] theorem State.modLanes_auth (f : KV Lane → KV Lane) : (s.modLanes f).auth = s.auth := rfl
@[simp] theorem State.modLanes_cal (f : KV Lane → KV Lane) : (s.modLanes f).cal = s.cal := rfl
@[simp] theorem State.modLanes_maint (f : KV Lane → KV Lane) : (s.modLanes f).maint = s.maint := rfl
@[simp] theorem State.modLanes_panel (f : KV Lane → KV Lane) : (s.modLanes f).panel = s.panel := rfl
@[simp] theorem State.modLanes_outbox (f : KV Lane → KV Lane) : (s.modLanes f).outbox = s.outbox := rfl
@[simp] theorem State.modLanes_free (f : KV Lane → KV Lane) : (s.modLanes f).free = s.free := rfl
@[simp] theorem State.modIntlk_pending (f : Intlk → Intlk) : (s.modIntlk f).pending = s.pending := rfl
@[simp] theorem State.modIntlk_clk (f : Intlk → Intlk) : (s.modIntlk f).clk = s.clk := rfl
@[simp] theorem State.modIntlk_boot (f : Intlk → Intlk) : (s.modIntlk f).boot = s.boot := rfl
@[simp] theorem State.modIntlk_mbx (f : Intlk → Intlk) : (s.modIntlk f).mbx = s.mbx := rfl
@[simp] theorem State.modIntlk_cfg (f : Intlk → Intlk) : (s.modIntlk f).cfg = s.cfg := rfl
@[simp] theorem State.modIntlk_units (f : Intlk → Intlk) : (s.modIntlk f).units = s.units := rfl
@[simp] theorem State.modIntlk_jobs (f : Intlk → Intlk) : (s.modIntlk f).jobs = s.jobs := rfl
@[simp] theorem State.modIntlk_land (f : Intlk → Intlk) : (s.modIntlk f).land = s.land := rfl
@[simp] theorem State.modIntlk_gov (f : Intlk → Intlk) : (s.modIntlk f).gov = s.gov := rfl
@[simp] theorem State.modIntlk_ingest (f : Intlk → Intlk) : (s.modIntlk f).ingest = s.ingest := rfl
@[simp] theorem State.modIntlk_host (f : Intlk → Intlk) : (s.modIntlk f).host = s.host := rfl
@[simp] theorem State.modIntlk_spool (f : Intlk → Intlk) : (s.modIntlk f).spool = s.spool := rfl
@[simp] theorem State.modIntlk_stations (f : Intlk → Intlk) : (s.modIntlk f).stations = s.stations := rfl
@[simp] theorem State.modIntlk_lanes (f : Intlk → Intlk) : (s.modIntlk f).lanes = s.lanes := rfl
@[simp] theorem State.modIntlk_intlk (f : Intlk → Intlk) : (s.modIntlk f).intlk = f s.intlk := rfl
@[simp] theorem State.modIntlk_newel (f : Intlk → Intlk) : (s.modIntlk f).newel = s.newel := rfl
@[simp] theorem State.modIntlk_axes (f : Intlk → Intlk) : (s.modIntlk f).axes = s.axes := rfl
@[simp] theorem State.modIntlk_steppers (f : Intlk → Intlk) : (s.modIntlk f).steppers = s.steppers := rfl
@[simp] theorem State.modIntlk_sols (f : Intlk → Intlk) : (s.modIntlk f).sols = s.sols := rfl
@[simp] theorem State.modIntlk_ring (f : Intlk → Intlk) : (s.modIntlk f).ring = s.ring := rfl
@[simp] theorem State.modIntlk_loops (f : Intlk → Intlk) : (s.modIntlk f).loops = s.loops := rfl
@[simp] theorem State.modIntlk_power (f : Intlk → Intlk) : (s.modIntlk f).power = s.power := rfl
@[simp] theorem State.modIntlk_therm (f : Intlk → Intlk) : (s.modIntlk f).therm = s.therm := rfl
@[simp] theorem State.modIntlk_faults (f : Intlk → Intlk) : (s.modIntlk f).faults = s.faults := rfl
@[simp] theorem State.modIntlk_pair (f : Intlk → Intlk) : (s.modIntlk f).pair = s.pair := rfl
@[simp] theorem State.modIntlk_gal (f : Intlk → Intlk) : (s.modIntlk f).gal = s.gal := rfl
@[simp] theorem State.modIntlk_ledger (f : Intlk → Intlk) : (s.modIntlk f).ledger = s.ledger := rfl
@[simp] theorem State.modIntlk_auth (f : Intlk → Intlk) : (s.modIntlk f).auth = s.auth := rfl
@[simp] theorem State.modIntlk_cal (f : Intlk → Intlk) : (s.modIntlk f).cal = s.cal := rfl
@[simp] theorem State.modIntlk_maint (f : Intlk → Intlk) : (s.modIntlk f).maint = s.maint := rfl
@[simp] theorem State.modIntlk_panel (f : Intlk → Intlk) : (s.modIntlk f).panel = s.panel := rfl
@[simp] theorem State.modIntlk_outbox (f : Intlk → Intlk) : (s.modIntlk f).outbox = s.outbox := rfl
@[simp] theorem State.modIntlk_free (f : Intlk → Intlk) : (s.modIntlk f).free = s.free := rfl
@[simp] theorem State.modNewel_pending (f : Newel → Newel) : (s.modNewel f).pending = s.pending := rfl
@[simp] theorem State.modNewel_clk (f : Newel → Newel) : (s.modNewel f).clk = s.clk := rfl
@[simp] theorem State.modNewel_boot (f : Newel → Newel) : (s.modNewel f).boot = s.boot := rfl
@[simp] theorem State.modNewel_mbx (f : Newel → Newel) : (s.modNewel f).mbx = s.mbx := rfl
@[simp] theorem State.modNewel_cfg (f : Newel → Newel) : (s.modNewel f).cfg = s.cfg := rfl
@[simp] theorem State.modNewel_units (f : Newel → Newel) : (s.modNewel f).units = s.units := rfl
@[simp] theorem State.modNewel_jobs (f : Newel → Newel) : (s.modNewel f).jobs = s.jobs := rfl
@[simp] theorem State.modNewel_land (f : Newel → Newel) : (s.modNewel f).land = s.land := rfl
@[simp] theorem State.modNewel_gov (f : Newel → Newel) : (s.modNewel f).gov = s.gov := rfl
@[simp] theorem State.modNewel_ingest (f : Newel → Newel) : (s.modNewel f).ingest = s.ingest := rfl
@[simp] theorem State.modNewel_host (f : Newel → Newel) : (s.modNewel f).host = s.host := rfl
@[simp] theorem State.modNewel_spool (f : Newel → Newel) : (s.modNewel f).spool = s.spool := rfl
@[simp] theorem State.modNewel_stations (f : Newel → Newel) : (s.modNewel f).stations = s.stations := rfl
@[simp] theorem State.modNewel_lanes (f : Newel → Newel) : (s.modNewel f).lanes = s.lanes := rfl
@[simp] theorem State.modNewel_intlk (f : Newel → Newel) : (s.modNewel f).intlk = s.intlk := rfl
@[simp] theorem State.modNewel_newel (f : Newel → Newel) : (s.modNewel f).newel = f s.newel := rfl
@[simp] theorem State.modNewel_axes (f : Newel → Newel) : (s.modNewel f).axes = s.axes := rfl
@[simp] theorem State.modNewel_steppers (f : Newel → Newel) : (s.modNewel f).steppers = s.steppers := rfl
@[simp] theorem State.modNewel_sols (f : Newel → Newel) : (s.modNewel f).sols = s.sols := rfl
@[simp] theorem State.modNewel_ring (f : Newel → Newel) : (s.modNewel f).ring = s.ring := rfl
@[simp] theorem State.modNewel_loops (f : Newel → Newel) : (s.modNewel f).loops = s.loops := rfl
@[simp] theorem State.modNewel_power (f : Newel → Newel) : (s.modNewel f).power = s.power := rfl
@[simp] theorem State.modNewel_therm (f : Newel → Newel) : (s.modNewel f).therm = s.therm := rfl
@[simp] theorem State.modNewel_faults (f : Newel → Newel) : (s.modNewel f).faults = s.faults := rfl
@[simp] theorem State.modNewel_pair (f : Newel → Newel) : (s.modNewel f).pair = s.pair := rfl
@[simp] theorem State.modNewel_gal (f : Newel → Newel) : (s.modNewel f).gal = s.gal := rfl
@[simp] theorem State.modNewel_ledger (f : Newel → Newel) : (s.modNewel f).ledger = s.ledger := rfl
@[simp] theorem State.modNewel_auth (f : Newel → Newel) : (s.modNewel f).auth = s.auth := rfl
@[simp] theorem State.modNewel_cal (f : Newel → Newel) : (s.modNewel f).cal = s.cal := rfl
@[simp] theorem State.modNewel_maint (f : Newel → Newel) : (s.modNewel f).maint = s.maint := rfl
@[simp] theorem State.modNewel_panel (f : Newel → Newel) : (s.modNewel f).panel = s.panel := rfl
@[simp] theorem State.modNewel_outbox (f : Newel → Newel) : (s.modNewel f).outbox = s.outbox := rfl
@[simp] theorem State.modNewel_free (f : Newel → Newel) : (s.modNewel f).free = s.free := rfl
@[simp] theorem State.modAxes_pending (f : KV Axis → KV Axis) : (s.modAxes f).pending = s.pending := rfl
@[simp] theorem State.modAxes_clk (f : KV Axis → KV Axis) : (s.modAxes f).clk = s.clk := rfl
@[simp] theorem State.modAxes_boot (f : KV Axis → KV Axis) : (s.modAxes f).boot = s.boot := rfl
@[simp] theorem State.modAxes_mbx (f : KV Axis → KV Axis) : (s.modAxes f).mbx = s.mbx := rfl
@[simp] theorem State.modAxes_cfg (f : KV Axis → KV Axis) : (s.modAxes f).cfg = s.cfg := rfl
@[simp] theorem State.modAxes_units (f : KV Axis → KV Axis) : (s.modAxes f).units = s.units := rfl
@[simp] theorem State.modAxes_jobs (f : KV Axis → KV Axis) : (s.modAxes f).jobs = s.jobs := rfl
@[simp] theorem State.modAxes_land (f : KV Axis → KV Axis) : (s.modAxes f).land = s.land := rfl
@[simp] theorem State.modAxes_gov (f : KV Axis → KV Axis) : (s.modAxes f).gov = s.gov := rfl
@[simp] theorem State.modAxes_ingest (f : KV Axis → KV Axis) : (s.modAxes f).ingest = s.ingest := rfl
@[simp] theorem State.modAxes_host (f : KV Axis → KV Axis) : (s.modAxes f).host = s.host := rfl
@[simp] theorem State.modAxes_spool (f : KV Axis → KV Axis) : (s.modAxes f).spool = s.spool := rfl
@[simp] theorem State.modAxes_stations (f : KV Axis → KV Axis) : (s.modAxes f).stations = s.stations := rfl
@[simp] theorem State.modAxes_lanes (f : KV Axis → KV Axis) : (s.modAxes f).lanes = s.lanes := rfl
@[simp] theorem State.modAxes_intlk (f : KV Axis → KV Axis) : (s.modAxes f).intlk = s.intlk := rfl
@[simp] theorem State.modAxes_newel (f : KV Axis → KV Axis) : (s.modAxes f).newel = s.newel := rfl
@[simp] theorem State.modAxes_axes (f : KV Axis → KV Axis) : (s.modAxes f).axes = f s.axes := rfl
@[simp] theorem State.modAxes_steppers (f : KV Axis → KV Axis) : (s.modAxes f).steppers = s.steppers := rfl
@[simp] theorem State.modAxes_sols (f : KV Axis → KV Axis) : (s.modAxes f).sols = s.sols := rfl
@[simp] theorem State.modAxes_ring (f : KV Axis → KV Axis) : (s.modAxes f).ring = s.ring := rfl
@[simp] theorem State.modAxes_loops (f : KV Axis → KV Axis) : (s.modAxes f).loops = s.loops := rfl
@[simp] theorem State.modAxes_power (f : KV Axis → KV Axis) : (s.modAxes f).power = s.power := rfl
@[simp] theorem State.modAxes_therm (f : KV Axis → KV Axis) : (s.modAxes f).therm = s.therm := rfl
@[simp] theorem State.modAxes_faults (f : KV Axis → KV Axis) : (s.modAxes f).faults = s.faults := rfl
@[simp] theorem State.modAxes_pair (f : KV Axis → KV Axis) : (s.modAxes f).pair = s.pair := rfl
@[simp] theorem State.modAxes_gal (f : KV Axis → KV Axis) : (s.modAxes f).gal = s.gal := rfl
@[simp] theorem State.modAxes_ledger (f : KV Axis → KV Axis) : (s.modAxes f).ledger = s.ledger := rfl
@[simp] theorem State.modAxes_auth (f : KV Axis → KV Axis) : (s.modAxes f).auth = s.auth := rfl
@[simp] theorem State.modAxes_cal (f : KV Axis → KV Axis) : (s.modAxes f).cal = s.cal := rfl
@[simp] theorem State.modAxes_maint (f : KV Axis → KV Axis) : (s.modAxes f).maint = s.maint := rfl
@[simp] theorem State.modAxes_panel (f : KV Axis → KV Axis) : (s.modAxes f).panel = s.panel := rfl
@[simp] theorem State.modAxes_outbox (f : KV Axis → KV Axis) : (s.modAxes f).outbox = s.outbox := rfl
@[simp] theorem State.modAxes_free (f : KV Axis → KV Axis) : (s.modAxes f).free = s.free := rfl
@[simp] theorem State.modSteppers_pending (f : KV Stepper → KV Stepper) : (s.modSteppers f).pending = s.pending := rfl
@[simp] theorem State.modSteppers_clk (f : KV Stepper → KV Stepper) : (s.modSteppers f).clk = s.clk := rfl
@[simp] theorem State.modSteppers_boot (f : KV Stepper → KV Stepper) : (s.modSteppers f).boot = s.boot := rfl
@[simp] theorem State.modSteppers_mbx (f : KV Stepper → KV Stepper) : (s.modSteppers f).mbx = s.mbx := rfl
@[simp] theorem State.modSteppers_cfg (f : KV Stepper → KV Stepper) : (s.modSteppers f).cfg = s.cfg := rfl
@[simp] theorem State.modSteppers_units (f : KV Stepper → KV Stepper) : (s.modSteppers f).units = s.units := rfl
@[simp] theorem State.modSteppers_jobs (f : KV Stepper → KV Stepper) : (s.modSteppers f).jobs = s.jobs := rfl
@[simp] theorem State.modSteppers_land (f : KV Stepper → KV Stepper) : (s.modSteppers f).land = s.land := rfl
@[simp] theorem State.modSteppers_gov (f : KV Stepper → KV Stepper) : (s.modSteppers f).gov = s.gov := rfl
@[simp] theorem State.modSteppers_ingest (f : KV Stepper → KV Stepper) : (s.modSteppers f).ingest = s.ingest := rfl
@[simp] theorem State.modSteppers_host (f : KV Stepper → KV Stepper) : (s.modSteppers f).host = s.host := rfl
@[simp] theorem State.modSteppers_spool (f : KV Stepper → KV Stepper) : (s.modSteppers f).spool = s.spool := rfl
@[simp] theorem State.modSteppers_stations (f : KV Stepper → KV Stepper) : (s.modSteppers f).stations = s.stations := rfl
@[simp] theorem State.modSteppers_lanes (f : KV Stepper → KV Stepper) : (s.modSteppers f).lanes = s.lanes := rfl
@[simp] theorem State.modSteppers_intlk (f : KV Stepper → KV Stepper) : (s.modSteppers f).intlk = s.intlk := rfl
@[simp] theorem State.modSteppers_newel (f : KV Stepper → KV Stepper) : (s.modSteppers f).newel = s.newel := rfl
@[simp] theorem State.modSteppers_axes (f : KV Stepper → KV Stepper) : (s.modSteppers f).axes = s.axes := rfl
@[simp] theorem State.modSteppers_steppers (f : KV Stepper → KV Stepper) : (s.modSteppers f).steppers = f s.steppers := rfl
@[simp] theorem State.modSteppers_sols (f : KV Stepper → KV Stepper) : (s.modSteppers f).sols = s.sols := rfl
@[simp] theorem State.modSteppers_ring (f : KV Stepper → KV Stepper) : (s.modSteppers f).ring = s.ring := rfl
@[simp] theorem State.modSteppers_loops (f : KV Stepper → KV Stepper) : (s.modSteppers f).loops = s.loops := rfl
@[simp] theorem State.modSteppers_power (f : KV Stepper → KV Stepper) : (s.modSteppers f).power = s.power := rfl
@[simp] theorem State.modSteppers_therm (f : KV Stepper → KV Stepper) : (s.modSteppers f).therm = s.therm := rfl
@[simp] theorem State.modSteppers_faults (f : KV Stepper → KV Stepper) : (s.modSteppers f).faults = s.faults := rfl
@[simp] theorem State.modSteppers_pair (f : KV Stepper → KV Stepper) : (s.modSteppers f).pair = s.pair := rfl
@[simp] theorem State.modSteppers_gal (f : KV Stepper → KV Stepper) : (s.modSteppers f).gal = s.gal := rfl
@[simp] theorem State.modSteppers_ledger (f : KV Stepper → KV Stepper) : (s.modSteppers f).ledger = s.ledger := rfl
@[simp] theorem State.modSteppers_auth (f : KV Stepper → KV Stepper) : (s.modSteppers f).auth = s.auth := rfl
@[simp] theorem State.modSteppers_cal (f : KV Stepper → KV Stepper) : (s.modSteppers f).cal = s.cal := rfl
@[simp] theorem State.modSteppers_maint (f : KV Stepper → KV Stepper) : (s.modSteppers f).maint = s.maint := rfl
@[simp] theorem State.modSteppers_panel (f : KV Stepper → KV Stepper) : (s.modSteppers f).panel = s.panel := rfl
@[simp] theorem State.modSteppers_outbox (f : KV Stepper → KV Stepper) : (s.modSteppers f).outbox = s.outbox := rfl
@[simp] theorem State.modSteppers_free (f : KV Stepper → KV Stepper) : (s.modSteppers f).free = s.free := rfl
@[simp] theorem State.modSols_pending (f : KV Solenoid → KV Solenoid) : (s.modSols f).pending = s.pending := rfl
@[simp] theorem State.modSols_clk (f : KV Solenoid → KV Solenoid) : (s.modSols f).clk = s.clk := rfl
@[simp] theorem State.modSols_boot (f : KV Solenoid → KV Solenoid) : (s.modSols f).boot = s.boot := rfl
@[simp] theorem State.modSols_mbx (f : KV Solenoid → KV Solenoid) : (s.modSols f).mbx = s.mbx := rfl
@[simp] theorem State.modSols_cfg (f : KV Solenoid → KV Solenoid) : (s.modSols f).cfg = s.cfg := rfl
@[simp] theorem State.modSols_units (f : KV Solenoid → KV Solenoid) : (s.modSols f).units = s.units := rfl
@[simp] theorem State.modSols_jobs (f : KV Solenoid → KV Solenoid) : (s.modSols f).jobs = s.jobs := rfl
@[simp] theorem State.modSols_land (f : KV Solenoid → KV Solenoid) : (s.modSols f).land = s.land := rfl
@[simp] theorem State.modSols_gov (f : KV Solenoid → KV Solenoid) : (s.modSols f).gov = s.gov := rfl
@[simp] theorem State.modSols_ingest (f : KV Solenoid → KV Solenoid) : (s.modSols f).ingest = s.ingest := rfl
@[simp] theorem State.modSols_host (f : KV Solenoid → KV Solenoid) : (s.modSols f).host = s.host := rfl
@[simp] theorem State.modSols_spool (f : KV Solenoid → KV Solenoid) : (s.modSols f).spool = s.spool := rfl
@[simp] theorem State.modSols_stations (f : KV Solenoid → KV Solenoid) : (s.modSols f).stations = s.stations := rfl
@[simp] theorem State.modSols_lanes (f : KV Solenoid → KV Solenoid) : (s.modSols f).lanes = s.lanes := rfl
@[simp] theorem State.modSols_intlk (f : KV Solenoid → KV Solenoid) : (s.modSols f).intlk = s.intlk := rfl
@[simp] theorem State.modSols_newel (f : KV Solenoid → KV Solenoid) : (s.modSols f).newel = s.newel := rfl
@[simp] theorem State.modSols_axes (f : KV Solenoid → KV Solenoid) : (s.modSols f).axes = s.axes := rfl
@[simp] theorem State.modSols_steppers (f : KV Solenoid → KV Solenoid) : (s.modSols f).steppers = s.steppers := rfl
@[simp] theorem State.modSols_sols (f : KV Solenoid → KV Solenoid) : (s.modSols f).sols = f s.sols := rfl
@[simp] theorem State.modSols_ring (f : KV Solenoid → KV Solenoid) : (s.modSols f).ring = s.ring := rfl
@[simp] theorem State.modSols_loops (f : KV Solenoid → KV Solenoid) : (s.modSols f).loops = s.loops := rfl
@[simp] theorem State.modSols_power (f : KV Solenoid → KV Solenoid) : (s.modSols f).power = s.power := rfl
@[simp] theorem State.modSols_therm (f : KV Solenoid → KV Solenoid) : (s.modSols f).therm = s.therm := rfl
@[simp] theorem State.modSols_faults (f : KV Solenoid → KV Solenoid) : (s.modSols f).faults = s.faults := rfl
@[simp] theorem State.modSols_pair (f : KV Solenoid → KV Solenoid) : (s.modSols f).pair = s.pair := rfl
@[simp] theorem State.modSols_gal (f : KV Solenoid → KV Solenoid) : (s.modSols f).gal = s.gal := rfl
@[simp] theorem State.modSols_ledger (f : KV Solenoid → KV Solenoid) : (s.modSols f).ledger = s.ledger := rfl
@[simp] theorem State.modSols_auth (f : KV Solenoid → KV Solenoid) : (s.modSols f).auth = s.auth := rfl
@[simp] theorem State.modSols_cal (f : KV Solenoid → KV Solenoid) : (s.modSols f).cal = s.cal := rfl
@[simp] theorem State.modSols_maint (f : KV Solenoid → KV Solenoid) : (s.modSols f).maint = s.maint := rfl
@[simp] theorem State.modSols_panel (f : KV Solenoid → KV Solenoid) : (s.modSols f).panel = s.panel := rfl
@[simp] theorem State.modSols_outbox (f : KV Solenoid → KV Solenoid) : (s.modSols f).outbox = s.outbox := rfl
@[simp] theorem State.modSols_free (f : KV Solenoid → KV Solenoid) : (s.modSols f).free = s.free := rfl
@[simp] theorem State.modRing_pending (f : Ring → Ring) : (s.modRing f).pending = s.pending := rfl
@[simp] theorem State.modRing_clk (f : Ring → Ring) : (s.modRing f).clk = s.clk := rfl
@[simp] theorem State.modRing_boot (f : Ring → Ring) : (s.modRing f).boot = s.boot := rfl
@[simp] theorem State.modRing_mbx (f : Ring → Ring) : (s.modRing f).mbx = s.mbx := rfl
@[simp] theorem State.modRing_cfg (f : Ring → Ring) : (s.modRing f).cfg = s.cfg := rfl
@[simp] theorem State.modRing_units (f : Ring → Ring) : (s.modRing f).units = s.units := rfl
@[simp] theorem State.modRing_jobs (f : Ring → Ring) : (s.modRing f).jobs = s.jobs := rfl
@[simp] theorem State.modRing_land (f : Ring → Ring) : (s.modRing f).land = s.land := rfl
@[simp] theorem State.modRing_gov (f : Ring → Ring) : (s.modRing f).gov = s.gov := rfl
@[simp] theorem State.modRing_ingest (f : Ring → Ring) : (s.modRing f).ingest = s.ingest := rfl
@[simp] theorem State.modRing_host (f : Ring → Ring) : (s.modRing f).host = s.host := rfl
@[simp] theorem State.modRing_spool (f : Ring → Ring) : (s.modRing f).spool = s.spool := rfl
@[simp] theorem State.modRing_stations (f : Ring → Ring) : (s.modRing f).stations = s.stations := rfl
@[simp] theorem State.modRing_lanes (f : Ring → Ring) : (s.modRing f).lanes = s.lanes := rfl
@[simp] theorem State.modRing_intlk (f : Ring → Ring) : (s.modRing f).intlk = s.intlk := rfl
@[simp] theorem State.modRing_newel (f : Ring → Ring) : (s.modRing f).newel = s.newel := rfl
@[simp] theorem State.modRing_axes (f : Ring → Ring) : (s.modRing f).axes = s.axes := rfl
@[simp] theorem State.modRing_steppers (f : Ring → Ring) : (s.modRing f).steppers = s.steppers := rfl
@[simp] theorem State.modRing_sols (f : Ring → Ring) : (s.modRing f).sols = s.sols := rfl
@[simp] theorem State.modRing_ring (f : Ring → Ring) : (s.modRing f).ring = f s.ring := rfl
@[simp] theorem State.modRing_loops (f : Ring → Ring) : (s.modRing f).loops = s.loops := rfl
@[simp] theorem State.modRing_power (f : Ring → Ring) : (s.modRing f).power = s.power := rfl
@[simp] theorem State.modRing_therm (f : Ring → Ring) : (s.modRing f).therm = s.therm := rfl
@[simp] theorem State.modRing_faults (f : Ring → Ring) : (s.modRing f).faults = s.faults := rfl
@[simp] theorem State.modRing_pair (f : Ring → Ring) : (s.modRing f).pair = s.pair := rfl
@[simp] theorem State.modRing_gal (f : Ring → Ring) : (s.modRing f).gal = s.gal := rfl
@[simp] theorem State.modRing_ledger (f : Ring → Ring) : (s.modRing f).ledger = s.ledger := rfl
@[simp] theorem State.modRing_auth (f : Ring → Ring) : (s.modRing f).auth = s.auth := rfl
@[simp] theorem State.modRing_cal (f : Ring → Ring) : (s.modRing f).cal = s.cal := rfl
@[simp] theorem State.modRing_maint (f : Ring → Ring) : (s.modRing f).maint = s.maint := rfl
@[simp] theorem State.modRing_panel (f : Ring → Ring) : (s.modRing f).panel = s.panel := rfl
@[simp] theorem State.modRing_outbox (f : Ring → Ring) : (s.modRing f).outbox = s.outbox := rfl
@[simp] theorem State.modRing_free (f : Ring → Ring) : (s.modRing f).free = s.free := rfl
@[simp] theorem State.modLoops_pending (f : KV LoopSlot → KV LoopSlot) : (s.modLoops f).pending = s.pending := rfl
@[simp] theorem State.modLoops_clk (f : KV LoopSlot → KV LoopSlot) : (s.modLoops f).clk = s.clk := rfl
@[simp] theorem State.modLoops_boot (f : KV LoopSlot → KV LoopSlot) : (s.modLoops f).boot = s.boot := rfl
@[simp] theorem State.modLoops_mbx (f : KV LoopSlot → KV LoopSlot) : (s.modLoops f).mbx = s.mbx := rfl
@[simp] theorem State.modLoops_cfg (f : KV LoopSlot → KV LoopSlot) : (s.modLoops f).cfg = s.cfg := rfl
@[simp] theorem State.modLoops_units (f : KV LoopSlot → KV LoopSlot) : (s.modLoops f).units = s.units := rfl
@[simp] theorem State.modLoops_jobs (f : KV LoopSlot → KV LoopSlot) : (s.modLoops f).jobs = s.jobs := rfl
@[simp] theorem State.modLoops_land (f : KV LoopSlot → KV LoopSlot) : (s.modLoops f).land = s.land := rfl
@[simp] theorem State.modLoops_gov (f : KV LoopSlot → KV LoopSlot) : (s.modLoops f).gov = s.gov := rfl
@[simp] theorem State.modLoops_ingest (f : KV LoopSlot → KV LoopSlot) : (s.modLoops f).ingest = s.ingest := rfl
@[simp] theorem State.modLoops_host (f : KV LoopSlot → KV LoopSlot) : (s.modLoops f).host = s.host := rfl
@[simp] theorem State.modLoops_spool (f : KV LoopSlot → KV LoopSlot) : (s.modLoops f).spool = s.spool := rfl
@[simp] theorem State.modLoops_stations (f : KV LoopSlot → KV LoopSlot) : (s.modLoops f).stations = s.stations := rfl
@[simp] theorem State.modLoops_lanes (f : KV LoopSlot → KV LoopSlot) : (s.modLoops f).lanes = s.lanes := rfl
@[simp] theorem State.modLoops_intlk (f : KV LoopSlot → KV LoopSlot) : (s.modLoops f).intlk = s.intlk := rfl
@[simp] theorem State.modLoops_newel (f : KV LoopSlot → KV LoopSlot) : (s.modLoops f).newel = s.newel := rfl
@[simp] theorem State.modLoops_axes (f : KV LoopSlot → KV LoopSlot) : (s.modLoops f).axes = s.axes := rfl
@[simp] theorem State.modLoops_steppers (f : KV LoopSlot → KV LoopSlot) : (s.modLoops f).steppers = s.steppers := rfl
@[simp] theorem State.modLoops_sols (f : KV LoopSlot → KV LoopSlot) : (s.modLoops f).sols = s.sols := rfl
@[simp] theorem State.modLoops_ring (f : KV LoopSlot → KV LoopSlot) : (s.modLoops f).ring = s.ring := rfl
@[simp] theorem State.modLoops_loops (f : KV LoopSlot → KV LoopSlot) : (s.modLoops f).loops = f s.loops := rfl
@[simp] theorem State.modLoops_power (f : KV LoopSlot → KV LoopSlot) : (s.modLoops f).power = s.power := rfl
@[simp] theorem State.modLoops_therm (f : KV LoopSlot → KV LoopSlot) : (s.modLoops f).therm = s.therm := rfl
@[simp] theorem State.modLoops_faults (f : KV LoopSlot → KV LoopSlot) : (s.modLoops f).faults = s.faults := rfl
@[simp] theorem State.modLoops_pair (f : KV LoopSlot → KV LoopSlot) : (s.modLoops f).pair = s.pair := rfl
@[simp] theorem State.modLoops_gal (f : KV LoopSlot → KV LoopSlot) : (s.modLoops f).gal = s.gal := rfl
@[simp] theorem State.modLoops_ledger (f : KV LoopSlot → KV LoopSlot) : (s.modLoops f).ledger = s.ledger := rfl
@[simp] theorem State.modLoops_auth (f : KV LoopSlot → KV LoopSlot) : (s.modLoops f).auth = s.auth := rfl
@[simp] theorem State.modLoops_cal (f : KV LoopSlot → KV LoopSlot) : (s.modLoops f).cal = s.cal := rfl
@[simp] theorem State.modLoops_maint (f : KV LoopSlot → KV LoopSlot) : (s.modLoops f).maint = s.maint := rfl
@[simp] theorem State.modLoops_panel (f : KV LoopSlot → KV LoopSlot) : (s.modLoops f).panel = s.panel := rfl
@[simp] theorem State.modLoops_outbox (f : KV LoopSlot → KV LoopSlot) : (s.modLoops f).outbox = s.outbox := rfl
@[simp] theorem State.modLoops_free (f : KV LoopSlot → KV LoopSlot) : (s.modLoops f).free = s.free := rfl
@[simp] theorem State.modPower_pending (f : Power → Power) : (s.modPower f).pending = s.pending := rfl
@[simp] theorem State.modPower_clk (f : Power → Power) : (s.modPower f).clk = s.clk := rfl
@[simp] theorem State.modPower_boot (f : Power → Power) : (s.modPower f).boot = s.boot := rfl
@[simp] theorem State.modPower_mbx (f : Power → Power) : (s.modPower f).mbx = s.mbx := rfl
@[simp] theorem State.modPower_cfg (f : Power → Power) : (s.modPower f).cfg = s.cfg := rfl
@[simp] theorem State.modPower_units (f : Power → Power) : (s.modPower f).units = s.units := rfl
@[simp] theorem State.modPower_jobs (f : Power → Power) : (s.modPower f).jobs = s.jobs := rfl
@[simp] theorem State.modPower_land (f : Power → Power) : (s.modPower f).land = s.land := rfl
@[simp] theorem State.modPower_gov (f : Power → Power) : (s.modPower f).gov = s.gov := rfl
@[simp] theorem State.modPower_ingest (f : Power → Power) : (s.modPower f).ingest = s.ingest := rfl
@[simp] theorem State.modPower_host (f : Power → Power) : (s.modPower f).host = s.host := rfl
@[simp] theorem State.modPower_spool (f : Power → Power) : (s.modPower f).spool = s.spool := rfl
@[simp] theorem State.modPower_stations (f : Power → Power) : (s.modPower f).stations = s.stations := rfl
@[simp] theorem State.modPower_lanes (f : Power → Power) : (s.modPower f).lanes = s.lanes := rfl
@[simp] theorem State.modPower_intlk (f : Power → Power) : (s.modPower f).intlk = s.intlk := rfl
@[simp] theorem State.modPower_newel (f : Power → Power) : (s.modPower f).newel = s.newel := rfl
@[simp] theorem State.modPower_axes (f : Power → Power) : (s.modPower f).axes = s.axes := rfl
@[simp] theorem State.modPower_steppers (f : Power → Power) : (s.modPower f).steppers = s.steppers := rfl
@[simp] theorem State.modPower_sols (f : Power → Power) : (s.modPower f).sols = s.sols := rfl
@[simp] theorem State.modPower_ring (f : Power → Power) : (s.modPower f).ring = s.ring := rfl
@[simp] theorem State.modPower_loops (f : Power → Power) : (s.modPower f).loops = s.loops := rfl
@[simp] theorem State.modPower_power (f : Power → Power) : (s.modPower f).power = f s.power := rfl
@[simp] theorem State.modPower_therm (f : Power → Power) : (s.modPower f).therm = s.therm := rfl
@[simp] theorem State.modPower_faults (f : Power → Power) : (s.modPower f).faults = s.faults := rfl
@[simp] theorem State.modPower_pair (f : Power → Power) : (s.modPower f).pair = s.pair := rfl
@[simp] theorem State.modPower_gal (f : Power → Power) : (s.modPower f).gal = s.gal := rfl
@[simp] theorem State.modPower_ledger (f : Power → Power) : (s.modPower f).ledger = s.ledger := rfl
@[simp] theorem State.modPower_auth (f : Power → Power) : (s.modPower f).auth = s.auth := rfl
@[simp] theorem State.modPower_cal (f : Power → Power) : (s.modPower f).cal = s.cal := rfl
@[simp] theorem State.modPower_maint (f : Power → Power) : (s.modPower f).maint = s.maint := rfl
@[simp] theorem State.modPower_panel (f : Power → Power) : (s.modPower f).panel = s.panel := rfl
@[simp] theorem State.modPower_outbox (f : Power → Power) : (s.modPower f).outbox = s.outbox := rfl
@[simp] theorem State.modPower_free (f : Power → Power) : (s.modPower f).free = s.free := rfl
@[simp] theorem State.modTherm_pending (f : Therm → Therm) : (s.modTherm f).pending = s.pending := rfl
@[simp] theorem State.modTherm_clk (f : Therm → Therm) : (s.modTherm f).clk = s.clk := rfl
@[simp] theorem State.modTherm_boot (f : Therm → Therm) : (s.modTherm f).boot = s.boot := rfl
@[simp] theorem State.modTherm_mbx (f : Therm → Therm) : (s.modTherm f).mbx = s.mbx := rfl
@[simp] theorem State.modTherm_cfg (f : Therm → Therm) : (s.modTherm f).cfg = s.cfg := rfl
@[simp] theorem State.modTherm_units (f : Therm → Therm) : (s.modTherm f).units = s.units := rfl
@[simp] theorem State.modTherm_jobs (f : Therm → Therm) : (s.modTherm f).jobs = s.jobs := rfl
@[simp] theorem State.modTherm_land (f : Therm → Therm) : (s.modTherm f).land = s.land := rfl
@[simp] theorem State.modTherm_gov (f : Therm → Therm) : (s.modTherm f).gov = s.gov := rfl
@[simp] theorem State.modTherm_ingest (f : Therm → Therm) : (s.modTherm f).ingest = s.ingest := rfl
@[simp] theorem State.modTherm_host (f : Therm → Therm) : (s.modTherm f).host = s.host := rfl
@[simp] theorem State.modTherm_spool (f : Therm → Therm) : (s.modTherm f).spool = s.spool := rfl
@[simp] theorem State.modTherm_stations (f : Therm → Therm) : (s.modTherm f).stations = s.stations := rfl
@[simp] theorem State.modTherm_lanes (f : Therm → Therm) : (s.modTherm f).lanes = s.lanes := rfl
@[simp] theorem State.modTherm_intlk (f : Therm → Therm) : (s.modTherm f).intlk = s.intlk := rfl
@[simp] theorem State.modTherm_newel (f : Therm → Therm) : (s.modTherm f).newel = s.newel := rfl
@[simp] theorem State.modTherm_axes (f : Therm → Therm) : (s.modTherm f).axes = s.axes := rfl
@[simp] theorem State.modTherm_steppers (f : Therm → Therm) : (s.modTherm f).steppers = s.steppers := rfl
@[simp] theorem State.modTherm_sols (f : Therm → Therm) : (s.modTherm f).sols = s.sols := rfl
@[simp] theorem State.modTherm_ring (f : Therm → Therm) : (s.modTherm f).ring = s.ring := rfl
@[simp] theorem State.modTherm_loops (f : Therm → Therm) : (s.modTherm f).loops = s.loops := rfl
@[simp] theorem State.modTherm_power (f : Therm → Therm) : (s.modTherm f).power = s.power := rfl
@[simp] theorem State.modTherm_therm (f : Therm → Therm) : (s.modTherm f).therm = f s.therm := rfl
@[simp] theorem State.modTherm_faults (f : Therm → Therm) : (s.modTherm f).faults = s.faults := rfl
@[simp] theorem State.modTherm_pair (f : Therm → Therm) : (s.modTherm f).pair = s.pair := rfl
@[simp] theorem State.modTherm_gal (f : Therm → Therm) : (s.modTherm f).gal = s.gal := rfl
@[simp] theorem State.modTherm_ledger (f : Therm → Therm) : (s.modTherm f).ledger = s.ledger := rfl
@[simp] theorem State.modTherm_auth (f : Therm → Therm) : (s.modTherm f).auth = s.auth := rfl
@[simp] theorem State.modTherm_cal (f : Therm → Therm) : (s.modTherm f).cal = s.cal := rfl
@[simp] theorem State.modTherm_maint (f : Therm → Therm) : (s.modTherm f).maint = s.maint := rfl
@[simp] theorem State.modTherm_panel (f : Therm → Therm) : (s.modTherm f).panel = s.panel := rfl
@[simp] theorem State.modTherm_outbox (f : Therm → Therm) : (s.modTherm f).outbox = s.outbox := rfl
@[simp] theorem State.modTherm_free (f : Therm → Therm) : (s.modTherm f).free = s.free := rfl
@[simp] theorem State.modFaults_pending (f : Faults → Faults) : (s.modFaults f).pending = s.pending := rfl
@[simp] theorem State.modFaults_clk (f : Faults → Faults) : (s.modFaults f).clk = s.clk := rfl
@[simp] theorem State.modFaults_boot (f : Faults → Faults) : (s.modFaults f).boot = s.boot := rfl
@[simp] theorem State.modFaults_mbx (f : Faults → Faults) : (s.modFaults f).mbx = s.mbx := rfl
@[simp] theorem State.modFaults_cfg (f : Faults → Faults) : (s.modFaults f).cfg = s.cfg := rfl
@[simp] theorem State.modFaults_units (f : Faults → Faults) : (s.modFaults f).units = s.units := rfl
@[simp] theorem State.modFaults_jobs (f : Faults → Faults) : (s.modFaults f).jobs = s.jobs := rfl
@[simp] theorem State.modFaults_land (f : Faults → Faults) : (s.modFaults f).land = s.land := rfl
@[simp] theorem State.modFaults_gov (f : Faults → Faults) : (s.modFaults f).gov = s.gov := rfl
@[simp] theorem State.modFaults_ingest (f : Faults → Faults) : (s.modFaults f).ingest = s.ingest := rfl
@[simp] theorem State.modFaults_host (f : Faults → Faults) : (s.modFaults f).host = s.host := rfl
@[simp] theorem State.modFaults_spool (f : Faults → Faults) : (s.modFaults f).spool = s.spool := rfl
@[simp] theorem State.modFaults_stations (f : Faults → Faults) : (s.modFaults f).stations = s.stations := rfl
@[simp] theorem State.modFaults_lanes (f : Faults → Faults) : (s.modFaults f).lanes = s.lanes := rfl
@[simp] theorem State.modFaults_intlk (f : Faults → Faults) : (s.modFaults f).intlk = s.intlk := rfl
@[simp] theorem State.modFaults_newel (f : Faults → Faults) : (s.modFaults f).newel = s.newel := rfl
@[simp] theorem State.modFaults_axes (f : Faults → Faults) : (s.modFaults f).axes = s.axes := rfl
@[simp] theorem State.modFaults_steppers (f : Faults → Faults) : (s.modFaults f).steppers = s.steppers := rfl
@[simp] theorem State.modFaults_sols (f : Faults → Faults) : (s.modFaults f).sols = s.sols := rfl
@[simp] theorem State.modFaults_ring (f : Faults → Faults) : (s.modFaults f).ring = s.ring := rfl
@[simp] theorem State.modFaults_loops (f : Faults → Faults) : (s.modFaults f).loops = s.loops := rfl
@[simp] theorem State.modFaults_power (f : Faults → Faults) : (s.modFaults f).power = s.power := rfl
@[simp] theorem State.modFaults_therm (f : Faults → Faults) : (s.modFaults f).therm = s.therm := rfl
@[simp] theorem State.modFaults_faults (f : Faults → Faults) : (s.modFaults f).faults = f s.faults := rfl
@[simp] theorem State.modFaults_pair (f : Faults → Faults) : (s.modFaults f).pair = s.pair := rfl
@[simp] theorem State.modFaults_gal (f : Faults → Faults) : (s.modFaults f).gal = s.gal := rfl
@[simp] theorem State.modFaults_ledger (f : Faults → Faults) : (s.modFaults f).ledger = s.ledger := rfl
@[simp] theorem State.modFaults_auth (f : Faults → Faults) : (s.modFaults f).auth = s.auth := rfl
@[simp] theorem State.modFaults_cal (f : Faults → Faults) : (s.modFaults f).cal = s.cal := rfl
@[simp] theorem State.modFaults_maint (f : Faults → Faults) : (s.modFaults f).maint = s.maint := rfl
@[simp] theorem State.modFaults_panel (f : Faults → Faults) : (s.modFaults f).panel = s.panel := rfl
@[simp] theorem State.modFaults_outbox (f : Faults → Faults) : (s.modFaults f).outbox = s.outbox := rfl
@[simp] theorem State.modFaults_free (f : Faults → Faults) : (s.modFaults f).free = s.free := rfl
@[simp] theorem State.modPair_pending (f : Pair → Pair) : (s.modPair f).pending = s.pending := rfl
@[simp] theorem State.modPair_clk (f : Pair → Pair) : (s.modPair f).clk = s.clk := rfl
@[simp] theorem State.modPair_boot (f : Pair → Pair) : (s.modPair f).boot = s.boot := rfl
@[simp] theorem State.modPair_mbx (f : Pair → Pair) : (s.modPair f).mbx = s.mbx := rfl
@[simp] theorem State.modPair_cfg (f : Pair → Pair) : (s.modPair f).cfg = s.cfg := rfl
@[simp] theorem State.modPair_units (f : Pair → Pair) : (s.modPair f).units = s.units := rfl
@[simp] theorem State.modPair_jobs (f : Pair → Pair) : (s.modPair f).jobs = s.jobs := rfl
@[simp] theorem State.modPair_land (f : Pair → Pair) : (s.modPair f).land = s.land := rfl
@[simp] theorem State.modPair_gov (f : Pair → Pair) : (s.modPair f).gov = s.gov := rfl
@[simp] theorem State.modPair_ingest (f : Pair → Pair) : (s.modPair f).ingest = s.ingest := rfl
@[simp] theorem State.modPair_host (f : Pair → Pair) : (s.modPair f).host = s.host := rfl
@[simp] theorem State.modPair_spool (f : Pair → Pair) : (s.modPair f).spool = s.spool := rfl
@[simp] theorem State.modPair_stations (f : Pair → Pair) : (s.modPair f).stations = s.stations := rfl
@[simp] theorem State.modPair_lanes (f : Pair → Pair) : (s.modPair f).lanes = s.lanes := rfl
@[simp] theorem State.modPair_intlk (f : Pair → Pair) : (s.modPair f).intlk = s.intlk := rfl
@[simp] theorem State.modPair_newel (f : Pair → Pair) : (s.modPair f).newel = s.newel := rfl
@[simp] theorem State.modPair_axes (f : Pair → Pair) : (s.modPair f).axes = s.axes := rfl
@[simp] theorem State.modPair_steppers (f : Pair → Pair) : (s.modPair f).steppers = s.steppers := rfl
@[simp] theorem State.modPair_sols (f : Pair → Pair) : (s.modPair f).sols = s.sols := rfl
@[simp] theorem State.modPair_ring (f : Pair → Pair) : (s.modPair f).ring = s.ring := rfl
@[simp] theorem State.modPair_loops (f : Pair → Pair) : (s.modPair f).loops = s.loops := rfl
@[simp] theorem State.modPair_power (f : Pair → Pair) : (s.modPair f).power = s.power := rfl
@[simp] theorem State.modPair_therm (f : Pair → Pair) : (s.modPair f).therm = s.therm := rfl
@[simp] theorem State.modPair_faults (f : Pair → Pair) : (s.modPair f).faults = s.faults := rfl
@[simp] theorem State.modPair_pair (f : Pair → Pair) : (s.modPair f).pair = f s.pair := rfl
@[simp] theorem State.modPair_gal (f : Pair → Pair) : (s.modPair f).gal = s.gal := rfl
@[simp] theorem State.modPair_ledger (f : Pair → Pair) : (s.modPair f).ledger = s.ledger := rfl
@[simp] theorem State.modPair_auth (f : Pair → Pair) : (s.modPair f).auth = s.auth := rfl
@[simp] theorem State.modPair_cal (f : Pair → Pair) : (s.modPair f).cal = s.cal := rfl
@[simp] theorem State.modPair_maint (f : Pair → Pair) : (s.modPair f).maint = s.maint := rfl
@[simp] theorem State.modPair_panel (f : Pair → Pair) : (s.modPair f).panel = s.panel := rfl
@[simp] theorem State.modPair_outbox (f : Pair → Pair) : (s.modPair f).outbox = s.outbox := rfl
@[simp] theorem State.modPair_free (f : Pair → Pair) : (s.modPair f).free = s.free := rfl
@[simp] theorem State.modGal_pending (f : Gallery → Gallery) : (s.modGal f).pending = s.pending := rfl
@[simp] theorem State.modGal_clk (f : Gallery → Gallery) : (s.modGal f).clk = s.clk := rfl
@[simp] theorem State.modGal_boot (f : Gallery → Gallery) : (s.modGal f).boot = s.boot := rfl
@[simp] theorem State.modGal_mbx (f : Gallery → Gallery) : (s.modGal f).mbx = s.mbx := rfl
@[simp] theorem State.modGal_cfg (f : Gallery → Gallery) : (s.modGal f).cfg = s.cfg := rfl
@[simp] theorem State.modGal_units (f : Gallery → Gallery) : (s.modGal f).units = s.units := rfl
@[simp] theorem State.modGal_jobs (f : Gallery → Gallery) : (s.modGal f).jobs = s.jobs := rfl
@[simp] theorem State.modGal_land (f : Gallery → Gallery) : (s.modGal f).land = s.land := rfl
@[simp] theorem State.modGal_gov (f : Gallery → Gallery) : (s.modGal f).gov = s.gov := rfl
@[simp] theorem State.modGal_ingest (f : Gallery → Gallery) : (s.modGal f).ingest = s.ingest := rfl
@[simp] theorem State.modGal_host (f : Gallery → Gallery) : (s.modGal f).host = s.host := rfl
@[simp] theorem State.modGal_spool (f : Gallery → Gallery) : (s.modGal f).spool = s.spool := rfl
@[simp] theorem State.modGal_stations (f : Gallery → Gallery) : (s.modGal f).stations = s.stations := rfl
@[simp] theorem State.modGal_lanes (f : Gallery → Gallery) : (s.modGal f).lanes = s.lanes := rfl
@[simp] theorem State.modGal_intlk (f : Gallery → Gallery) : (s.modGal f).intlk = s.intlk := rfl
@[simp] theorem State.modGal_newel (f : Gallery → Gallery) : (s.modGal f).newel = s.newel := rfl
@[simp] theorem State.modGal_axes (f : Gallery → Gallery) : (s.modGal f).axes = s.axes := rfl
@[simp] theorem State.modGal_steppers (f : Gallery → Gallery) : (s.modGal f).steppers = s.steppers := rfl
@[simp] theorem State.modGal_sols (f : Gallery → Gallery) : (s.modGal f).sols = s.sols := rfl
@[simp] theorem State.modGal_ring (f : Gallery → Gallery) : (s.modGal f).ring = s.ring := rfl
@[simp] theorem State.modGal_loops (f : Gallery → Gallery) : (s.modGal f).loops = s.loops := rfl
@[simp] theorem State.modGal_power (f : Gallery → Gallery) : (s.modGal f).power = s.power := rfl
@[simp] theorem State.modGal_therm (f : Gallery → Gallery) : (s.modGal f).therm = s.therm := rfl
@[simp] theorem State.modGal_faults (f : Gallery → Gallery) : (s.modGal f).faults = s.faults := rfl
@[simp] theorem State.modGal_pair (f : Gallery → Gallery) : (s.modGal f).pair = s.pair := rfl
@[simp] theorem State.modGal_gal (f : Gallery → Gallery) : (s.modGal f).gal = f s.gal := rfl
@[simp] theorem State.modGal_ledger (f : Gallery → Gallery) : (s.modGal f).ledger = s.ledger := rfl
@[simp] theorem State.modGal_auth (f : Gallery → Gallery) : (s.modGal f).auth = s.auth := rfl
@[simp] theorem State.modGal_cal (f : Gallery → Gallery) : (s.modGal f).cal = s.cal := rfl
@[simp] theorem State.modGal_maint (f : Gallery → Gallery) : (s.modGal f).maint = s.maint := rfl
@[simp] theorem State.modGal_panel (f : Gallery → Gallery) : (s.modGal f).panel = s.panel := rfl
@[simp] theorem State.modGal_outbox (f : Gallery → Gallery) : (s.modGal f).outbox = s.outbox := rfl
@[simp] theorem State.modGal_free (f : Gallery → Gallery) : (s.modGal f).free = s.free := rfl
@[simp] theorem State.modLedger_pending (f : Ledger → Ledger) : (s.modLedger f).pending = s.pending := rfl
@[simp] theorem State.modLedger_clk (f : Ledger → Ledger) : (s.modLedger f).clk = s.clk := rfl
@[simp] theorem State.modLedger_boot (f : Ledger → Ledger) : (s.modLedger f).boot = s.boot := rfl
@[simp] theorem State.modLedger_mbx (f : Ledger → Ledger) : (s.modLedger f).mbx = s.mbx := rfl
@[simp] theorem State.modLedger_cfg (f : Ledger → Ledger) : (s.modLedger f).cfg = s.cfg := rfl
@[simp] theorem State.modLedger_units (f : Ledger → Ledger) : (s.modLedger f).units = s.units := rfl
@[simp] theorem State.modLedger_jobs (f : Ledger → Ledger) : (s.modLedger f).jobs = s.jobs := rfl
@[simp] theorem State.modLedger_land (f : Ledger → Ledger) : (s.modLedger f).land = s.land := rfl
@[simp] theorem State.modLedger_gov (f : Ledger → Ledger) : (s.modLedger f).gov = s.gov := rfl
@[simp] theorem State.modLedger_ingest (f : Ledger → Ledger) : (s.modLedger f).ingest = s.ingest := rfl
@[simp] theorem State.modLedger_host (f : Ledger → Ledger) : (s.modLedger f).host = s.host := rfl
@[simp] theorem State.modLedger_spool (f : Ledger → Ledger) : (s.modLedger f).spool = s.spool := rfl
@[simp] theorem State.modLedger_stations (f : Ledger → Ledger) : (s.modLedger f).stations = s.stations := rfl
@[simp] theorem State.modLedger_lanes (f : Ledger → Ledger) : (s.modLedger f).lanes = s.lanes := rfl
@[simp] theorem State.modLedger_intlk (f : Ledger → Ledger) : (s.modLedger f).intlk = s.intlk := rfl
@[simp] theorem State.modLedger_newel (f : Ledger → Ledger) : (s.modLedger f).newel = s.newel := rfl
@[simp] theorem State.modLedger_axes (f : Ledger → Ledger) : (s.modLedger f).axes = s.axes := rfl
@[simp] theorem State.modLedger_steppers (f : Ledger → Ledger) : (s.modLedger f).steppers = s.steppers := rfl
@[simp] theorem State.modLedger_sols (f : Ledger → Ledger) : (s.modLedger f).sols = s.sols := rfl
@[simp] theorem State.modLedger_ring (f : Ledger → Ledger) : (s.modLedger f).ring = s.ring := rfl
@[simp] theorem State.modLedger_loops (f : Ledger → Ledger) : (s.modLedger f).loops = s.loops := rfl
@[simp] theorem State.modLedger_power (f : Ledger → Ledger) : (s.modLedger f).power = s.power := rfl
@[simp] theorem State.modLedger_therm (f : Ledger → Ledger) : (s.modLedger f).therm = s.therm := rfl
@[simp] theorem State.modLedger_faults (f : Ledger → Ledger) : (s.modLedger f).faults = s.faults := rfl
@[simp] theorem State.modLedger_pair (f : Ledger → Ledger) : (s.modLedger f).pair = s.pair := rfl
@[simp] theorem State.modLedger_gal (f : Ledger → Ledger) : (s.modLedger f).gal = s.gal := rfl
@[simp] theorem State.modLedger_ledger (f : Ledger → Ledger) : (s.modLedger f).ledger = f s.ledger := rfl
@[simp] theorem State.modLedger_auth (f : Ledger → Ledger) : (s.modLedger f).auth = s.auth := rfl
@[simp] theorem State.modLedger_cal (f : Ledger → Ledger) : (s.modLedger f).cal = s.cal := rfl
@[simp] theorem State.modLedger_maint (f : Ledger → Ledger) : (s.modLedger f).maint = s.maint := rfl
@[simp] theorem State.modLedger_panel (f : Ledger → Ledger) : (s.modLedger f).panel = s.panel := rfl
@[simp] theorem State.modLedger_outbox (f : Ledger → Ledger) : (s.modLedger f).outbox = s.outbox := rfl
@[simp] theorem State.modLedger_free (f : Ledger → Ledger) : (s.modLedger f).free = s.free := rfl
@[simp] theorem State.modAuth_pending (f : Auth → Auth) : (s.modAuth f).pending = s.pending := rfl
@[simp] theorem State.modAuth_clk (f : Auth → Auth) : (s.modAuth f).clk = s.clk := rfl
@[simp] theorem State.modAuth_boot (f : Auth → Auth) : (s.modAuth f).boot = s.boot := rfl
@[simp] theorem State.modAuth_mbx (f : Auth → Auth) : (s.modAuth f).mbx = s.mbx := rfl
@[simp] theorem State.modAuth_cfg (f : Auth → Auth) : (s.modAuth f).cfg = s.cfg := rfl
@[simp] theorem State.modAuth_units (f : Auth → Auth) : (s.modAuth f).units = s.units := rfl
@[simp] theorem State.modAuth_jobs (f : Auth → Auth) : (s.modAuth f).jobs = s.jobs := rfl
@[simp] theorem State.modAuth_land (f : Auth → Auth) : (s.modAuth f).land = s.land := rfl
@[simp] theorem State.modAuth_gov (f : Auth → Auth) : (s.modAuth f).gov = s.gov := rfl
@[simp] theorem State.modAuth_ingest (f : Auth → Auth) : (s.modAuth f).ingest = s.ingest := rfl
@[simp] theorem State.modAuth_host (f : Auth → Auth) : (s.modAuth f).host = s.host := rfl
@[simp] theorem State.modAuth_spool (f : Auth → Auth) : (s.modAuth f).spool = s.spool := rfl
@[simp] theorem State.modAuth_stations (f : Auth → Auth) : (s.modAuth f).stations = s.stations := rfl
@[simp] theorem State.modAuth_lanes (f : Auth → Auth) : (s.modAuth f).lanes = s.lanes := rfl
@[simp] theorem State.modAuth_intlk (f : Auth → Auth) : (s.modAuth f).intlk = s.intlk := rfl
@[simp] theorem State.modAuth_newel (f : Auth → Auth) : (s.modAuth f).newel = s.newel := rfl
@[simp] theorem State.modAuth_axes (f : Auth → Auth) : (s.modAuth f).axes = s.axes := rfl
@[simp] theorem State.modAuth_steppers (f : Auth → Auth) : (s.modAuth f).steppers = s.steppers := rfl
@[simp] theorem State.modAuth_sols (f : Auth → Auth) : (s.modAuth f).sols = s.sols := rfl
@[simp] theorem State.modAuth_ring (f : Auth → Auth) : (s.modAuth f).ring = s.ring := rfl
@[simp] theorem State.modAuth_loops (f : Auth → Auth) : (s.modAuth f).loops = s.loops := rfl
@[simp] theorem State.modAuth_power (f : Auth → Auth) : (s.modAuth f).power = s.power := rfl
@[simp] theorem State.modAuth_therm (f : Auth → Auth) : (s.modAuth f).therm = s.therm := rfl
@[simp] theorem State.modAuth_faults (f : Auth → Auth) : (s.modAuth f).faults = s.faults := rfl
@[simp] theorem State.modAuth_pair (f : Auth → Auth) : (s.modAuth f).pair = s.pair := rfl
@[simp] theorem State.modAuth_gal (f : Auth → Auth) : (s.modAuth f).gal = s.gal := rfl
@[simp] theorem State.modAuth_ledger (f : Auth → Auth) : (s.modAuth f).ledger = s.ledger := rfl
@[simp] theorem State.modAuth_auth (f : Auth → Auth) : (s.modAuth f).auth = f s.auth := rfl
@[simp] theorem State.modAuth_cal (f : Auth → Auth) : (s.modAuth f).cal = s.cal := rfl
@[simp] theorem State.modAuth_maint (f : Auth → Auth) : (s.modAuth f).maint = s.maint := rfl
@[simp] theorem State.modAuth_panel (f : Auth → Auth) : (s.modAuth f).panel = s.panel := rfl
@[simp] theorem State.modAuth_outbox (f : Auth → Auth) : (s.modAuth f).outbox = s.outbox := rfl
@[simp] theorem State.modAuth_free (f : Auth → Auth) : (s.modAuth f).free = s.free := rfl
@[simp] theorem State.modCal_pending (f : Cal → Cal) : (s.modCal f).pending = s.pending := rfl
@[simp] theorem State.modCal_clk (f : Cal → Cal) : (s.modCal f).clk = s.clk := rfl
@[simp] theorem State.modCal_boot (f : Cal → Cal) : (s.modCal f).boot = s.boot := rfl
@[simp] theorem State.modCal_mbx (f : Cal → Cal) : (s.modCal f).mbx = s.mbx := rfl
@[simp] theorem State.modCal_cfg (f : Cal → Cal) : (s.modCal f).cfg = s.cfg := rfl
@[simp] theorem State.modCal_units (f : Cal → Cal) : (s.modCal f).units = s.units := rfl
@[simp] theorem State.modCal_jobs (f : Cal → Cal) : (s.modCal f).jobs = s.jobs := rfl
@[simp] theorem State.modCal_land (f : Cal → Cal) : (s.modCal f).land = s.land := rfl
@[simp] theorem State.modCal_gov (f : Cal → Cal) : (s.modCal f).gov = s.gov := rfl
@[simp] theorem State.modCal_ingest (f : Cal → Cal) : (s.modCal f).ingest = s.ingest := rfl
@[simp] theorem State.modCal_host (f : Cal → Cal) : (s.modCal f).host = s.host := rfl
@[simp] theorem State.modCal_spool (f : Cal → Cal) : (s.modCal f).spool = s.spool := rfl
@[simp] theorem State.modCal_stations (f : Cal → Cal) : (s.modCal f).stations = s.stations := rfl
@[simp] theorem State.modCal_lanes (f : Cal → Cal) : (s.modCal f).lanes = s.lanes := rfl
@[simp] theorem State.modCal_intlk (f : Cal → Cal) : (s.modCal f).intlk = s.intlk := rfl
@[simp] theorem State.modCal_newel (f : Cal → Cal) : (s.modCal f).newel = s.newel := rfl
@[simp] theorem State.modCal_axes (f : Cal → Cal) : (s.modCal f).axes = s.axes := rfl
@[simp] theorem State.modCal_steppers (f : Cal → Cal) : (s.modCal f).steppers = s.steppers := rfl
@[simp] theorem State.modCal_sols (f : Cal → Cal) : (s.modCal f).sols = s.sols := rfl
@[simp] theorem State.modCal_ring (f : Cal → Cal) : (s.modCal f).ring = s.ring := rfl
@[simp] theorem State.modCal_loops (f : Cal → Cal) : (s.modCal f).loops = s.loops := rfl
@[simp] theorem State.modCal_power (f : Cal → Cal) : (s.modCal f).power = s.power := rfl
@[simp] theorem State.modCal_therm (f : Cal → Cal) : (s.modCal f).therm = s.therm := rfl
@[simp] theorem State.modCal_faults (f : Cal → Cal) : (s.modCal f).faults = s.faults := rfl
@[simp] theorem State.modCal_pair (f : Cal → Cal) : (s.modCal f).pair = s.pair := rfl
@[simp] theorem State.modCal_gal (f : Cal → Cal) : (s.modCal f).gal = s.gal := rfl
@[simp] theorem State.modCal_ledger (f : Cal → Cal) : (s.modCal f).ledger = s.ledger := rfl
@[simp] theorem State.modCal_auth (f : Cal → Cal) : (s.modCal f).auth = s.auth := rfl
@[simp] theorem State.modCal_cal (f : Cal → Cal) : (s.modCal f).cal = f s.cal := rfl
@[simp] theorem State.modCal_maint (f : Cal → Cal) : (s.modCal f).maint = s.maint := rfl
@[simp] theorem State.modCal_panel (f : Cal → Cal) : (s.modCal f).panel = s.panel := rfl
@[simp] theorem State.modCal_outbox (f : Cal → Cal) : (s.modCal f).outbox = s.outbox := rfl
@[simp] theorem State.modCal_free (f : Cal → Cal) : (s.modCal f).free = s.free := rfl
@[simp] theorem State.modMaint_pending (f : Maint → Maint) : (s.modMaint f).pending = s.pending := rfl
@[simp] theorem State.modMaint_clk (f : Maint → Maint) : (s.modMaint f).clk = s.clk := rfl
@[simp] theorem State.modMaint_boot (f : Maint → Maint) : (s.modMaint f).boot = s.boot := rfl
@[simp] theorem State.modMaint_mbx (f : Maint → Maint) : (s.modMaint f).mbx = s.mbx := rfl
@[simp] theorem State.modMaint_cfg (f : Maint → Maint) : (s.modMaint f).cfg = s.cfg := rfl
@[simp] theorem State.modMaint_units (f : Maint → Maint) : (s.modMaint f).units = s.units := rfl
@[simp] theorem State.modMaint_jobs (f : Maint → Maint) : (s.modMaint f).jobs = s.jobs := rfl
@[simp] theorem State.modMaint_land (f : Maint → Maint) : (s.modMaint f).land = s.land := rfl
@[simp] theorem State.modMaint_gov (f : Maint → Maint) : (s.modMaint f).gov = s.gov := rfl
@[simp] theorem State.modMaint_ingest (f : Maint → Maint) : (s.modMaint f).ingest = s.ingest := rfl
@[simp] theorem State.modMaint_host (f : Maint → Maint) : (s.modMaint f).host = s.host := rfl
@[simp] theorem State.modMaint_spool (f : Maint → Maint) : (s.modMaint f).spool = s.spool := rfl
@[simp] theorem State.modMaint_stations (f : Maint → Maint) : (s.modMaint f).stations = s.stations := rfl
@[simp] theorem State.modMaint_lanes (f : Maint → Maint) : (s.modMaint f).lanes = s.lanes := rfl
@[simp] theorem State.modMaint_intlk (f : Maint → Maint) : (s.modMaint f).intlk = s.intlk := rfl
@[simp] theorem State.modMaint_newel (f : Maint → Maint) : (s.modMaint f).newel = s.newel := rfl
@[simp] theorem State.modMaint_axes (f : Maint → Maint) : (s.modMaint f).axes = s.axes := rfl
@[simp] theorem State.modMaint_steppers (f : Maint → Maint) : (s.modMaint f).steppers = s.steppers := rfl
@[simp] theorem State.modMaint_sols (f : Maint → Maint) : (s.modMaint f).sols = s.sols := rfl
@[simp] theorem State.modMaint_ring (f : Maint → Maint) : (s.modMaint f).ring = s.ring := rfl
@[simp] theorem State.modMaint_loops (f : Maint → Maint) : (s.modMaint f).loops = s.loops := rfl
@[simp] theorem State.modMaint_power (f : Maint → Maint) : (s.modMaint f).power = s.power := rfl
@[simp] theorem State.modMaint_therm (f : Maint → Maint) : (s.modMaint f).therm = s.therm := rfl
@[simp] theorem State.modMaint_faults (f : Maint → Maint) : (s.modMaint f).faults = s.faults := rfl
@[simp] theorem State.modMaint_pair (f : Maint → Maint) : (s.modMaint f).pair = s.pair := rfl
@[simp] theorem State.modMaint_gal (f : Maint → Maint) : (s.modMaint f).gal = s.gal := rfl
@[simp] theorem State.modMaint_ledger (f : Maint → Maint) : (s.modMaint f).ledger = s.ledger := rfl
@[simp] theorem State.modMaint_auth (f : Maint → Maint) : (s.modMaint f).auth = s.auth := rfl
@[simp] theorem State.modMaint_cal (f : Maint → Maint) : (s.modMaint f).cal = s.cal := rfl
@[simp] theorem State.modMaint_maint (f : Maint → Maint) : (s.modMaint f).maint = f s.maint := rfl
@[simp] theorem State.modMaint_panel (f : Maint → Maint) : (s.modMaint f).panel = s.panel := rfl
@[simp] theorem State.modMaint_outbox (f : Maint → Maint) : (s.modMaint f).outbox = s.outbox := rfl
@[simp] theorem State.modMaint_free (f : Maint → Maint) : (s.modMaint f).free = s.free := rfl
@[simp] theorem State.modPanel_pending (f : Panel → Panel) : (s.modPanel f).pending = s.pending := rfl
@[simp] theorem State.modPanel_clk (f : Panel → Panel) : (s.modPanel f).clk = s.clk := rfl
@[simp] theorem State.modPanel_boot (f : Panel → Panel) : (s.modPanel f).boot = s.boot := rfl
@[simp] theorem State.modPanel_mbx (f : Panel → Panel) : (s.modPanel f).mbx = s.mbx := rfl
@[simp] theorem State.modPanel_cfg (f : Panel → Panel) : (s.modPanel f).cfg = s.cfg := rfl
@[simp] theorem State.modPanel_units (f : Panel → Panel) : (s.modPanel f).units = s.units := rfl
@[simp] theorem State.modPanel_jobs (f : Panel → Panel) : (s.modPanel f).jobs = s.jobs := rfl
@[simp] theorem State.modPanel_land (f : Panel → Panel) : (s.modPanel f).land = s.land := rfl
@[simp] theorem State.modPanel_gov (f : Panel → Panel) : (s.modPanel f).gov = s.gov := rfl
@[simp] theorem State.modPanel_ingest (f : Panel → Panel) : (s.modPanel f).ingest = s.ingest := rfl
@[simp] theorem State.modPanel_host (f : Panel → Panel) : (s.modPanel f).host = s.host := rfl
@[simp] theorem State.modPanel_spool (f : Panel → Panel) : (s.modPanel f).spool = s.spool := rfl
@[simp] theorem State.modPanel_stations (f : Panel → Panel) : (s.modPanel f).stations = s.stations := rfl
@[simp] theorem State.modPanel_lanes (f : Panel → Panel) : (s.modPanel f).lanes = s.lanes := rfl
@[simp] theorem State.modPanel_intlk (f : Panel → Panel) : (s.modPanel f).intlk = s.intlk := rfl
@[simp] theorem State.modPanel_newel (f : Panel → Panel) : (s.modPanel f).newel = s.newel := rfl
@[simp] theorem State.modPanel_axes (f : Panel → Panel) : (s.modPanel f).axes = s.axes := rfl
@[simp] theorem State.modPanel_steppers (f : Panel → Panel) : (s.modPanel f).steppers = s.steppers := rfl
@[simp] theorem State.modPanel_sols (f : Panel → Panel) : (s.modPanel f).sols = s.sols := rfl
@[simp] theorem State.modPanel_ring (f : Panel → Panel) : (s.modPanel f).ring = s.ring := rfl
@[simp] theorem State.modPanel_loops (f : Panel → Panel) : (s.modPanel f).loops = s.loops := rfl
@[simp] theorem State.modPanel_power (f : Panel → Panel) : (s.modPanel f).power = s.power := rfl
@[simp] theorem State.modPanel_therm (f : Panel → Panel) : (s.modPanel f).therm = s.therm := rfl
@[simp] theorem State.modPanel_faults (f : Panel → Panel) : (s.modPanel f).faults = s.faults := rfl
@[simp] theorem State.modPanel_pair (f : Panel → Panel) : (s.modPanel f).pair = s.pair := rfl
@[simp] theorem State.modPanel_gal (f : Panel → Panel) : (s.modPanel f).gal = s.gal := rfl
@[simp] theorem State.modPanel_ledger (f : Panel → Panel) : (s.modPanel f).ledger = s.ledger := rfl
@[simp] theorem State.modPanel_auth (f : Panel → Panel) : (s.modPanel f).auth = s.auth := rfl
@[simp] theorem State.modPanel_cal (f : Panel → Panel) : (s.modPanel f).cal = s.cal := rfl
@[simp] theorem State.modPanel_maint (f : Panel → Panel) : (s.modPanel f).maint = s.maint := rfl
@[simp] theorem State.modPanel_panel (f : Panel → Panel) : (s.modPanel f).panel = f s.panel := rfl
@[simp] theorem State.modPanel_outbox (f : Panel → Panel) : (s.modPanel f).outbox = s.outbox := rfl
@[simp] theorem State.modPanel_free (f : Panel → Panel) : (s.modPanel f).free = s.free := rfl
@[simp] theorem State.modOutbox_pending (f : List OutMsg → List OutMsg) : (s.modOutbox f).pending = s.pending := rfl
@[simp] theorem State.modOutbox_clk (f : List OutMsg → List OutMsg) : (s.modOutbox f).clk = s.clk := rfl
@[simp] theorem State.modOutbox_boot (f : List OutMsg → List OutMsg) : (s.modOutbox f).boot = s.boot := rfl
@[simp] theorem State.modOutbox_mbx (f : List OutMsg → List OutMsg) : (s.modOutbox f).mbx = s.mbx := rfl
@[simp] theorem State.modOutbox_cfg (f : List OutMsg → List OutMsg) : (s.modOutbox f).cfg = s.cfg := rfl
@[simp] theorem State.modOutbox_units (f : List OutMsg → List OutMsg) : (s.modOutbox f).units = s.units := rfl
@[simp] theorem State.modOutbox_jobs (f : List OutMsg → List OutMsg) : (s.modOutbox f).jobs = s.jobs := rfl
@[simp] theorem State.modOutbox_land (f : List OutMsg → List OutMsg) : (s.modOutbox f).land = s.land := rfl
@[simp] theorem State.modOutbox_gov (f : List OutMsg → List OutMsg) : (s.modOutbox f).gov = s.gov := rfl
@[simp] theorem State.modOutbox_ingest (f : List OutMsg → List OutMsg) : (s.modOutbox f).ingest = s.ingest := rfl
@[simp] theorem State.modOutbox_host (f : List OutMsg → List OutMsg) : (s.modOutbox f).host = s.host := rfl
@[simp] theorem State.modOutbox_spool (f : List OutMsg → List OutMsg) : (s.modOutbox f).spool = s.spool := rfl
@[simp] theorem State.modOutbox_stations (f : List OutMsg → List OutMsg) : (s.modOutbox f).stations = s.stations := rfl
@[simp] theorem State.modOutbox_lanes (f : List OutMsg → List OutMsg) : (s.modOutbox f).lanes = s.lanes := rfl
@[simp] theorem State.modOutbox_intlk (f : List OutMsg → List OutMsg) : (s.modOutbox f).intlk = s.intlk := rfl
@[simp] theorem State.modOutbox_newel (f : List OutMsg → List OutMsg) : (s.modOutbox f).newel = s.newel := rfl
@[simp] theorem State.modOutbox_axes (f : List OutMsg → List OutMsg) : (s.modOutbox f).axes = s.axes := rfl
@[simp] theorem State.modOutbox_steppers (f : List OutMsg → List OutMsg) : (s.modOutbox f).steppers = s.steppers := rfl
@[simp] theorem State.modOutbox_sols (f : List OutMsg → List OutMsg) : (s.modOutbox f).sols = s.sols := rfl
@[simp] theorem State.modOutbox_ring (f : List OutMsg → List OutMsg) : (s.modOutbox f).ring = s.ring := rfl
@[simp] theorem State.modOutbox_loops (f : List OutMsg → List OutMsg) : (s.modOutbox f).loops = s.loops := rfl
@[simp] theorem State.modOutbox_power (f : List OutMsg → List OutMsg) : (s.modOutbox f).power = s.power := rfl
@[simp] theorem State.modOutbox_therm (f : List OutMsg → List OutMsg) : (s.modOutbox f).therm = s.therm := rfl
@[simp] theorem State.modOutbox_faults (f : List OutMsg → List OutMsg) : (s.modOutbox f).faults = s.faults := rfl
@[simp] theorem State.modOutbox_pair (f : List OutMsg → List OutMsg) : (s.modOutbox f).pair = s.pair := rfl
@[simp] theorem State.modOutbox_gal (f : List OutMsg → List OutMsg) : (s.modOutbox f).gal = s.gal := rfl
@[simp] theorem State.modOutbox_ledger (f : List OutMsg → List OutMsg) : (s.modOutbox f).ledger = s.ledger := rfl
@[simp] theorem State.modOutbox_auth (f : List OutMsg → List OutMsg) : (s.modOutbox f).auth = s.auth := rfl
@[simp] theorem State.modOutbox_cal (f : List OutMsg → List OutMsg) : (s.modOutbox f).cal = s.cal := rfl
@[simp] theorem State.modOutbox_maint (f : List OutMsg → List OutMsg) : (s.modOutbox f).maint = s.maint := rfl
@[simp] theorem State.modOutbox_panel (f : List OutMsg → List OutMsg) : (s.modOutbox f).panel = s.panel := rfl
@[simp] theorem State.modOutbox_outbox (f : List OutMsg → List OutMsg) : (s.modOutbox f).outbox = f s.outbox := rfl
@[simp] theorem State.modOutbox_free (f : List OutMsg → List OutMsg) : (s.modOutbox f).free = s.free := rfl
@[simp] theorem State.modFree_pending (f : Nat → Nat) : (s.modFree f).pending = s.pending := rfl
@[simp] theorem State.modFree_clk (f : Nat → Nat) : (s.modFree f).clk = s.clk := rfl
@[simp] theorem State.modFree_boot (f : Nat → Nat) : (s.modFree f).boot = s.boot := rfl
@[simp] theorem State.modFree_mbx (f : Nat → Nat) : (s.modFree f).mbx = s.mbx := rfl
@[simp] theorem State.modFree_cfg (f : Nat → Nat) : (s.modFree f).cfg = s.cfg := rfl
@[simp] theorem State.modFree_units (f : Nat → Nat) : (s.modFree f).units = s.units := rfl
@[simp] theorem State.modFree_jobs (f : Nat → Nat) : (s.modFree f).jobs = s.jobs := rfl
@[simp] theorem State.modFree_land (f : Nat → Nat) : (s.modFree f).land = s.land := rfl
@[simp] theorem State.modFree_gov (f : Nat → Nat) : (s.modFree f).gov = s.gov := rfl
@[simp] theorem State.modFree_ingest (f : Nat → Nat) : (s.modFree f).ingest = s.ingest := rfl
@[simp] theorem State.modFree_host (f : Nat → Nat) : (s.modFree f).host = s.host := rfl
@[simp] theorem State.modFree_spool (f : Nat → Nat) : (s.modFree f).spool = s.spool := rfl
@[simp] theorem State.modFree_stations (f : Nat → Nat) : (s.modFree f).stations = s.stations := rfl
@[simp] theorem State.modFree_lanes (f : Nat → Nat) : (s.modFree f).lanes = s.lanes := rfl
@[simp] theorem State.modFree_intlk (f : Nat → Nat) : (s.modFree f).intlk = s.intlk := rfl
@[simp] theorem State.modFree_newel (f : Nat → Nat) : (s.modFree f).newel = s.newel := rfl
@[simp] theorem State.modFree_axes (f : Nat → Nat) : (s.modFree f).axes = s.axes := rfl
@[simp] theorem State.modFree_steppers (f : Nat → Nat) : (s.modFree f).steppers = s.steppers := rfl
@[simp] theorem State.modFree_sols (f : Nat → Nat) : (s.modFree f).sols = s.sols := rfl
@[simp] theorem State.modFree_ring (f : Nat → Nat) : (s.modFree f).ring = s.ring := rfl
@[simp] theorem State.modFree_loops (f : Nat → Nat) : (s.modFree f).loops = s.loops := rfl
@[simp] theorem State.modFree_power (f : Nat → Nat) : (s.modFree f).power = s.power := rfl
@[simp] theorem State.modFree_therm (f : Nat → Nat) : (s.modFree f).therm = s.therm := rfl
@[simp] theorem State.modFree_faults (f : Nat → Nat) : (s.modFree f).faults = s.faults := rfl
@[simp] theorem State.modFree_pair (f : Nat → Nat) : (s.modFree f).pair = s.pair := rfl
@[simp] theorem State.modFree_gal (f : Nat → Nat) : (s.modFree f).gal = s.gal := rfl
@[simp] theorem State.modFree_ledger (f : Nat → Nat) : (s.modFree f).ledger = s.ledger := rfl
@[simp] theorem State.modFree_auth (f : Nat → Nat) : (s.modFree f).auth = s.auth := rfl
@[simp] theorem State.modFree_cal (f : Nat → Nat) : (s.modFree f).cal = s.cal := rfl
@[simp] theorem State.modFree_maint (f : Nat → Nat) : (s.modFree f).maint = s.maint := rfl
@[simp] theorem State.modFree_panel (f : Nat → Nat) : (s.modFree f).panel = s.panel := rfl
@[simp] theorem State.modFree_outbox (f : Nat → Nat) : (s.modFree f).outbox = s.outbox := rfl
@[simp] theorem State.modFree_free (f : Nat → Nat) : (s.modFree f).free = f s.free := rfl

end Sys2Proof.Machine
end

