-- ==== Sys2Proof/Laws/Tables.lean ====
section
/-! SUPPORT. Keyed tables: what a read after a change gives, and that every change keeps the keys rising. -/

namespace Sys2Proof.Machine

open Sys2Proof

variable {α : Type}

@[simp] theorem kvFind_kvSet_self (t : KV α) (n : Nat) (v : α) : kvFind (kvSet t n v) n = some v := by
  induction t with
  | nil => simp [kvSet, kvFind]
  | cons p r ih =>
    obtain ⟨k, w⟩ := p
    unfold kvSet
    split_ifs with h1 h2
    · simp [kvFind]
    · simp [kvFind]
    · rw [kvFind, if_neg (Ne.symm h1), ih]

theorem kvFind_kvSet_ne (t : KV α) {n m : Nat} (v : α) (h : m ≠ n) : kvFind (kvSet t n v) m = kvFind t m := by
  induction t with
  | nil => simp [kvSet, kvFind, Ne.symm h]
  | cons p r ih =>
    obtain ⟨k, w⟩ := p
    unfold kvSet
    split_ifs with h1 h2
    · subst h1; simp [kvFind, Ne.symm h]
    · rw [kvFind, if_neg (Ne.symm h)]
    · rw [kvFind, kvFind, ih]

@[simp] theorem kvGet_kvSet_self (d : α) (t : KV α) (n : Nat) (v : α) : kvGet d (kvSet t n v) n = v := by simp [kvGet]

theorem kvGet_kvSet_ne (d : α) (t : KV α) {n m : Nat} (v : α) (h : m ≠ n) : kvGet d (kvSet t n v) m = kvGet d t m := by
  simp [kvGet, kvFind_kvSet_ne t v h]

@[simp] theorem kvGet_kvMod_self (d : α) (t : KV α) (n : Nat) (f : α → α) :
    kvGet d (kvMod d t n f) n = f (kvGet d t n) := by simp [kvMod]

theorem kvGet_kvMod_ne (d : α) (t : KV α) {n m : Nat} (f : α → α) (h : m ≠ n) :
    kvGet d (kvMod d t n f) m = kvGet d t m := kvGet_kvSet_ne d t _ h

@[simp] theorem kvFind_kvMod_self (d : α) (t : KV α) (n : Nat) (f : α → α) :
    kvFind (kvMod d t n f) n = some (f (kvGet d t n)) := kvFind_kvSet_self t n _

theorem kvFind_kvMod_ne (d : α) (t : KV α) {n m : Nat} (f : α → α) (h : m ≠ n) :
    kvFind (kvMod d t n f) m = kvFind t m := kvFind_kvSet_ne t _ h

/-- Two changes of one entry are one change. -/
theorem kvSet_kvSet (t : KV α) (n : Nat) (v w : α) : kvSet (kvSet t n v) n w = kvSet t n w := by
  induction t with
  | nil => simp [kvSet]
  | cons p r ih =>
    obtain ⟨k, u⟩ := p
    by_cases h1 : n = k
    · simp [kvSet, h1]
    · by_cases h2 : n < k
      · simp [kvSet, h1, h2]
      · simp only [kvSet, if_neg h1, if_neg h2, ih]

theorem kvMod_kvMod (d : α) (t : KV α) (n : Nat) (f g : α → α) :
    kvMod d (kvMod d t n f) n g = kvMod d t n fun x => g (f x) := by simp [kvMod, kvSet_kvSet]

@[simp] theorem kvFind_kvDel_self (t : KV α) (n : Nat) : kvFind (kvDel t n) n = none := by
  induction t with
  | nil => rfl
  | cons p r ih =>
    obtain ⟨k, v⟩ := p
    by_cases h : k = n
    · subst h; simpa [kvDel] using ih
    · have e : kvDel ((k, v) :: r) n = (k, v) :: kvDel r n := by simp [kvDel, h]
      rw [e, kvFind, if_neg h, ih]

theorem kvFind_kvDel_ne (t : KV α) {n m : Nat} (h : m ≠ n) : kvFind (kvDel t n) m = kvFind t m := by
  induction t with
  | nil => rfl
  | cons p r ih =>
    obtain ⟨k, v⟩ := p
    by_cases hk : k = n
    · have e : kvDel ((k, v) :: r) n = kvDel r n := by simp [kvDel, hk]
      rw [e, ih, kvFind, if_neg (by omega)]
    · have e : kvDel ((k, v) :: r) n = (k, v) :: kvDel r n := by simp [kvDel, hk]
      rw [e, kvFind, kvFind, ih]

/-! ### Rising keys -/

theorem kvSet_keys {t : KV α} {n : Nat} {v : α} {p : Nat × α} (h : p ∈ kvSet t n v) : p = (n, v) ∨ p ∈ t := by
  induction t with
  | nil => simpa [kvSet] using h
  | cons q r ih =>
    obtain ⟨k, w⟩ := q
    unfold kvSet at h
    split_ifs at h with h1 h2
    · rcases List.mem_cons.1 h with h | h
      · exact .inl h
      · exact .inr (List.mem_cons_of_mem _ h)
    · rcases List.mem_cons.1 h with h | h
      · exact .inl h
      · exact .inr h
    · rcases List.mem_cons.1 h with h | h
      · exact .inr (h ▸ List.mem_cons_self)
      · exact (ih h).imp_right (List.mem_cons_of_mem _)

theorem kvRising_kvSet {t : KV α} (h : kvRising t) (n : Nat) (v : α) : kvRising (kvSet t n v) := by
  induction t with
  | nil => simp [kvSet, kvRising]
  | cons q r ih =>
    obtain ⟨k, w⟩ := q
    obtain ⟨h1, h2⟩ := h
    unfold kvSet
    split_ifs with e1 e2
    · subst e1; exact ⟨h1, h2⟩
    · refine ⟨fun p hp => ?_, h1, h2⟩
      rcases List.mem_cons.1 hp with hp | hp
      · subst hp; exact e2
      · exact e2.trans (h1 p hp)
    · refine ⟨fun p hp => ?_, ih h2⟩
      rcases kvSet_keys hp with hp | hp
      · subst hp; show k < n; omega
      · exact h1 p hp

theorem kvRising_kvMod {t : KV α} (d : α) (h : kvRising t) (n : Nat) (f : α → α) : kvRising (kvMod d t n f) :=
  kvRising_kvSet h n _

theorem kvRising_filter {t : KV α} (h : kvRising t) (f : Nat × α → Bool) : kvRising (t.filter f) := by
  induction t with
  | nil => simp [kvRising]
  | cons q r ih =>
    obtain ⟨k, w⟩ := q
    obtain ⟨h1, h2⟩ := h
    rw [List.filter_cons]
    split
    · exact ⟨fun p hp => h1 p (List.mem_filter.1 hp).1, ih h2⟩
    · exact ih h2

theorem kvRising_kvDel {t : KV α} (h : kvRising t) (n : Nat) : kvRising (kvDel t n) := kvRising_filter h _

end Sys2Proof.Machine
end

