-- ==== Sys2Proof/Laws/Parts.lean ====
section
/-! SUPPORT. Stations, lanes, axes, loop slots, nodes and rails: what a read gives after a change, and that a change
of one leaves everything else alone. -/

namespace Sys2Proof.Machine

open Sys2Proof

variable (s : State)

/-! ### modSt -/

@[simp] theorem st_modSt_self (n : Nat) (f : Station → Station) : (modSt n f s).st n = f (s.st n) :=
  kvGet_kvMod_self _ _ _ _
theorem st_modSt_ne {n j : Nat} (f : Station → Station) (h : j ≠ n) : (modSt n f s).st j = s.st j :=
  kvGet_kvMod_ne _ _ _ h
@[simp] theorem modSt_pending (n : Nat) (f : Station → Station) : (modSt n f s).pending = s.pending := rfl
@[simp] theorem modSt_clk (n : Nat) (f : Station → Station) : (modSt n f s).clk = s.clk := rfl
@[simp] theorem modSt_boot (n : Nat) (f : Station → Station) : (modSt n f s).boot = s.boot := rfl
@[simp] theorem modSt_mbx (n : Nat) (f : Station → Station) : (modSt n f s).mbx = s.mbx := rfl
@[simp] theorem modSt_cfg (n : Nat) (f : Station → Station) : (modSt n f s).cfg = s.cfg := rfl
@[simp] theorem modSt_units (n : Nat) (f : Station → Station) : (modSt n f s).units = s.units := rfl
@[simp] theorem modSt_jobs (n : Nat) (f : Station → Station) : (modSt n f s).jobs = s.jobs := rfl
@[simp] theorem modSt_land (n : Nat) (f : Station → Station) : (modSt n f s).land = s.land := rfl
@[simp] theorem modSt_gov (n : Nat) (f : Station → Station) : (modSt n f s).gov = s.gov := rfl
@[simp] theorem modSt_ingest (n : Nat) (f : Station → Station) : (modSt n f s).ingest = s.ingest := rfl
@[simp] theorem modSt_host (n : Nat) (f : Station → Station) : (modSt n f s).host = s.host := rfl
@[simp] theorem modSt_spool (n : Nat) (f : Station → Station) : (modSt n f s).spool = s.spool := rfl
@[simp] theorem modSt_lanes (n : Nat) (f : Station → Station) : (modSt n f s).lanes = s.lanes := rfl
@[simp] theorem modSt_intlk (n : Nat) (f : Station → Station) : (modSt n f s).intlk = s.intlk := rfl
@[simp] theorem modSt_newel (n : Nat) (f : Station → Station) : (modSt n f s).newel = s.newel := rfl
@[simp] theorem modSt_axes (n : Nat) (f : Station → Station) : (modSt n f s).axes = s.axes := rfl
@[simp] theorem modSt_steppers (n : Nat) (f : Station → Station) : (modSt n f s).steppers = s.steppers := rfl
@[simp] theorem modSt_sols (n : Nat) (f : Station → Station) : (modSt n f s).sols = s.sols := rfl
@[simp] theorem modSt_ring (n : Nat) (f : Station → Station) : (modSt n f s).ring = s.ring := rfl
@[simp] theorem modSt_loops (n : Nat) (f : Station → Station) : (modSt n f s).loops = s.loops := rfl
@[simp] theorem modSt_power (n : Nat) (f : Station → Station) : (modSt n f s).power = s.power := rfl
@[simp] theorem modSt_therm (n : Nat) (f : Station → Station) : (modSt n f s).therm = s.therm := rfl
@[simp] theorem modSt_faults (n : Nat) (f : Station → Station) : (modSt n f s).faults = s.faults := rfl
@[simp] theorem modSt_pair (n : Nat) (f : Station → Station) : (modSt n f s).pair = s.pair := rfl
@[simp] theorem modSt_gal (n : Nat) (f : Station → Station) : (modSt n f s).gal = s.gal := rfl
@[simp] theorem modSt_ledger (n : Nat) (f : Station → Station) : (modSt n f s).ledger = s.ledger := rfl
@[simp] theorem modSt_auth (n : Nat) (f : Station → Station) : (modSt n f s).auth = s.auth := rfl
@[simp] theorem modSt_cal (n : Nat) (f : Station → Station) : (modSt n f s).cal = s.cal := rfl
@[simp] theorem modSt_maint (n : Nat) (f : Station → Station) : (modSt n f s).maint = s.maint := rfl
@[simp] theorem modSt_panel (n : Nat) (f : Station → Station) : (modSt n f s).panel = s.panel := rfl
@[simp] theorem modSt_outbox (n : Nat) (f : Station → Station) : (modSt n f s).outbox = s.outbox := rfl
@[simp] theorem modSt_free (n : Nat) (f : Station → Station) : (modSt n f s).free = s.free := rfl
@[simp] theorem modSt_lane (n j : Nat) (f : Station → Station) : (modSt n f s).lane j = s.lane j := rfl
@[simp] theorem modSt_axis (n j : Nat) (f : Station → Station) : (modSt n f s).axis j = s.axis j := rfl
@[simp] theorem modSt_loop (n j : Nat) (f : Station → Station) : (modSt n f s).loop j = s.loop j := rfl
@[simp] theorem modSt_node (n j : Nat) (f : Station → Station) : (modSt n f s).node j = s.node j := rfl
@[simp] theorem modSt_rail (n j : Nat) (f : Station → Station) : (modSt n f s).rail j = s.rail j := rfl

/-! ### modLane -/

@[simp] theorem lane_modLane_self (l : Nat) (f : Lane → Lane) : (modLane l f s).lane l = f (s.lane l) :=
  kvGet_kvMod_self _ _ _ _
theorem lane_modLane_ne {l j : Nat} (f : Lane → Lane) (h : j ≠ l) : (modLane l f s).lane j = s.lane j :=
  kvGet_kvMod_ne _ _ _ h
@[simp] theorem modLane_pending (l : Nat) (f : Lane → Lane) : (modLane l f s).pending = s.pending := rfl
@[simp] theorem modLane_clk (l : Nat) (f : Lane → Lane) : (modLane l f s).clk = s.clk := rfl
@[simp] theorem modLane_boot (l : Nat) (f : Lane → Lane) : (modLane l f s).boot = s.boot := rfl
@[simp] theorem modLane_mbx (l : Nat) (f : Lane → Lane) : (modLane l f s).mbx = s.mbx := rfl
@[simp] theorem modLane_cfg (l : Nat) (f : Lane → Lane) : (modLane l f s).cfg = s.cfg := rfl
@[simp] theorem modLane_units (l : Nat) (f : Lane → Lane) : (modLane l f s).units = s.units := rfl
@[simp] theorem modLane_jobs (l : Nat) (f : Lane → Lane) : (modLane l f s).jobs = s.jobs := rfl
@[simp] theorem modLane_land (l : Nat) (f : Lane → Lane) : (modLane l f s).land = s.land := rfl
@[simp] theorem modLane_gov (l : Nat) (f : Lane → Lane) : (modLane l f s).gov = s.gov := rfl
@[simp] theorem modLane_ingest (l : Nat) (f : Lane → Lane) : (modLane l f s).ingest = s.ingest := rfl
@[simp] theorem modLane_host (l : Nat) (f : Lane → Lane) : (modLane l f s).host = s.host := rfl
@[simp] theorem modLane_spool (l : Nat) (f : Lane → Lane) : (modLane l f s).spool = s.spool := rfl
@[simp] theorem modLane_stations (l : Nat) (f : Lane → Lane) : (modLane l f s).stations = s.stations := rfl
@[simp] theorem modLane_intlk (l : Nat) (f : Lane → Lane) : (modLane l f s).intlk = s.intlk := rfl
@[simp] theorem modLane_newel (l : Nat) (f : Lane → Lane) : (modLane l f s).newel = s.newel := rfl
@[simp] theorem modLane_axes (l : Nat) (f : Lane → Lane) : (modLane l f s).axes = s.axes := rfl
@[simp] theorem modLane_steppers (l : Nat) (f : Lane → Lane) : (modLane l f s).steppers = s.steppers := rfl
@[simp] theorem modLane_sols (l : Nat) (f : Lane → Lane) : (modLane l f s).sols = s.sols := rfl
@[simp] theorem modLane_ring (l : Nat) (f : Lane → Lane) : (modLane l f s).ring = s.ring := rfl
@[simp] theorem modLane_loops (l : Nat) (f : Lane → Lane) : (modLane l f s).loops = s.loops := rfl
@[simp] theorem modLane_power (l : Nat) (f : Lane → Lane) : (modLane l f s).power = s.power := rfl
@[simp] theorem modLane_therm (l : Nat) (f : Lane → Lane) : (modLane l f s).therm = s.therm := rfl
@[simp] theorem modLane_faults (l : Nat) (f : Lane → Lane) : (modLane l f s).faults = s.faults := rfl
@[simp] theorem modLane_pair (l : Nat) (f : Lane → Lane) : (modLane l f s).pair = s.pair := rfl
@[simp] theorem modLane_gal (l : Nat) (f : Lane → Lane) : (modLane l f s).gal = s.gal := rfl
@[simp] theorem modLane_ledger (l : Nat) (f : Lane → Lane) : (modLane l f s).ledger = s.ledger := rfl
@[simp] theorem modLane_auth (l : Nat) (f : Lane → Lane) : (modLane l f s).auth = s.auth := rfl
@[simp] theorem modLane_cal (l : Nat) (f : Lane → Lane) : (modLane l f s).cal = s.cal := rfl
@[simp] theorem modLane_maint (l : Nat) (f : Lane → Lane) : (modLane l f s).maint = s.maint := rfl
@[simp] theorem modLane_panel (l : Nat) (f : Lane → Lane) : (modLane l f s).panel = s.panel := rfl
@[simp] theorem modLane_outbox (l : Nat) (f : Lane → Lane) : (modLane l f s).outbox = s.outbox := rfl
@[simp] theorem modLane_free (l : Nat) (f : Lane → Lane) : (modLane l f s).free = s.free := rfl
@[simp] theorem modLane_st (l j : Nat) (f : Lane → Lane) : (modLane l f s).st j = s.st j := rfl
@[simp] theorem modLane_axis (l j : Nat) (f : Lane → Lane) : (modLane l f s).axis j = s.axis j := rfl
@[simp] theorem modLane_loop (l j : Nat) (f : Lane → Lane) : (modLane l f s).loop j = s.loop j := rfl
@[simp] theorem modLane_node (l j : Nat) (f : Lane → Lane) : (modLane l f s).node j = s.node j := rfl
@[simp] theorem modLane_rail (l j : Nat) (f : Lane → Lane) : (modLane l f s).rail j = s.rail j := rfl

/-! ### modAxis -/

@[simp] theorem axis_modAxis_self (a : Nat) (f : Axis → Axis) : (modAxis a f s).axis a = f (s.axis a) :=
  kvGet_kvMod_self _ _ _ _
theorem axis_modAxis_ne {a j : Nat} (f : Axis → Axis) (h : j ≠ a) : (modAxis a f s).axis j = s.axis j :=
  kvGet_kvMod_ne _ _ _ h
@[simp] theorem modAxis_pending (a : Nat) (f : Axis → Axis) : (modAxis a f s).pending = s.pending := rfl
@[simp] theorem modAxis_clk (a : Nat) (f : Axis → Axis) : (modAxis a f s).clk = s.clk := rfl
@[simp] theorem modAxis_boot (a : Nat) (f : Axis → Axis) : (modAxis a f s).boot = s.boot := rfl
@[simp] theorem modAxis_mbx (a : Nat) (f : Axis → Axis) : (modAxis a f s).mbx = s.mbx := rfl
@[simp] theorem modAxis_cfg (a : Nat) (f : Axis → Axis) : (modAxis a f s).cfg = s.cfg := rfl
@[simp] theorem modAxis_units (a : Nat) (f : Axis → Axis) : (modAxis a f s).units = s.units := rfl
@[simp] theorem modAxis_jobs (a : Nat) (f : Axis → Axis) : (modAxis a f s).jobs = s.jobs := rfl
@[simp] theorem modAxis_land (a : Nat) (f : Axis → Axis) : (modAxis a f s).land = s.land := rfl
@[simp] theorem modAxis_gov (a : Nat) (f : Axis → Axis) : (modAxis a f s).gov = s.gov := rfl
@[simp] theorem modAxis_ingest (a : Nat) (f : Axis → Axis) : (modAxis a f s).ingest = s.ingest := rfl
@[simp] theorem modAxis_host (a : Nat) (f : Axis → Axis) : (modAxis a f s).host = s.host := rfl
@[simp] theorem modAxis_spool (a : Nat) (f : Axis → Axis) : (modAxis a f s).spool = s.spool := rfl
@[simp] theorem modAxis_stations (a : Nat) (f : Axis → Axis) : (modAxis a f s).stations = s.stations := rfl
@[simp] theorem modAxis_lanes (a : Nat) (f : Axis → Axis) : (modAxis a f s).lanes = s.lanes := rfl
@[simp] theorem modAxis_intlk (a : Nat) (f : Axis → Axis) : (modAxis a f s).intlk = s.intlk := rfl
@[simp] theorem modAxis_newel (a : Nat) (f : Axis → Axis) : (modAxis a f s).newel = s.newel := rfl
@[simp] theorem modAxis_steppers (a : Nat) (f : Axis → Axis) : (modAxis a f s).steppers = s.steppers := rfl
@[simp] theorem modAxis_sols (a : Nat) (f : Axis → Axis) : (modAxis a f s).sols = s.sols := rfl
@[simp] theorem modAxis_ring (a : Nat) (f : Axis → Axis) : (modAxis a f s).ring = s.ring := rfl
@[simp] theorem modAxis_loops (a : Nat) (f : Axis → Axis) : (modAxis a f s).loops = s.loops := rfl
@[simp] theorem modAxis_power (a : Nat) (f : Axis → Axis) : (modAxis a f s).power = s.power := rfl
@[simp] theorem modAxis_therm (a : Nat) (f : Axis → Axis) : (modAxis a f s).therm = s.therm := rfl
@[simp] theorem modAxis_faults (a : Nat) (f : Axis → Axis) : (modAxis a f s).faults = s.faults := rfl
@[simp] theorem modAxis_pair (a : Nat) (f : Axis → Axis) : (modAxis a f s).pair = s.pair := rfl
@[simp] theorem modAxis_gal (a : Nat) (f : Axis → Axis) : (modAxis a f s).gal = s.gal := rfl
@[simp] theorem modAxis_ledger (a : Nat) (f : Axis → Axis) : (modAxis a f s).ledger = s.ledger := rfl
@[simp] theorem modAxis_auth (a : Nat) (f : Axis → Axis) : (modAxis a f s).auth = s.auth := rfl
@[simp] theorem modAxis_cal (a : Nat) (f : Axis → Axis) : (modAxis a f s).cal = s.cal := rfl
@[simp] theorem modAxis_maint (a : Nat) (f : Axis → Axis) : (modAxis a f s).maint = s.maint := rfl
@[simp] theorem modAxis_panel (a : Nat) (f : Axis → Axis) : (modAxis a f s).panel = s.panel := rfl
@[simp] theorem modAxis_outbox (a : Nat) (f : Axis → Axis) : (modAxis a f s).outbox = s.outbox := rfl
@[simp] theorem modAxis_free (a : Nat) (f : Axis → Axis) : (modAxis a f s).free = s.free := rfl
@[simp] theorem modAxis_st (a j : Nat) (f : Axis → Axis) : (modAxis a f s).st j = s.st j := rfl
@[simp] theorem modAxis_lane (a j : Nat) (f : Axis → Axis) : (modAxis a f s).lane j = s.lane j := rfl
@[simp] theorem modAxis_loop (a j : Nat) (f : Axis → Axis) : (modAxis a f s).loop j = s.loop j := rfl
@[simp] theorem modAxis_node (a j : Nat) (f : Axis → Axis) : (modAxis a f s).node j = s.node j := rfl
@[simp] theorem modAxis_rail (a j : Nat) (f : Axis → Axis) : (modAxis a f s).rail j = s.rail j := rfl

/-! ### modLoop -/

@[simp] theorem loop_modLoop_self (k : Nat) (f : LoopSlot → LoopSlot) : (modLoop k f s).loop k = f (s.loop k) :=
  kvGet_kvMod_self _ _ _ _
theorem loop_modLoop_ne {k j : Nat} (f : LoopSlot → LoopSlot) (h : j ≠ k) : (modLoop k f s).loop j = s.loop j :=
  kvGet_kvMod_ne _ _ _ h
@[simp] theorem modLoop_pending (k : Nat) (f : LoopSlot → LoopSlot) : (modLoop k f s).pending = s.pending := rfl
@[simp] theorem modLoop_clk (k : Nat) (f : LoopSlot → LoopSlot) : (modLoop k f s).clk = s.clk := rfl
@[simp] theorem modLoop_boot (k : Nat) (f : LoopSlot → LoopSlot) : (modLoop k f s).boot = s.boot := rfl
@[simp] theorem modLoop_mbx (k : Nat) (f : LoopSlot → LoopSlot) : (modLoop k f s).mbx = s.mbx := rfl
@[simp] theorem modLoop_cfg (k : Nat) (f : LoopSlot → LoopSlot) : (modLoop k f s).cfg = s.cfg := rfl
@[simp] theorem modLoop_units (k : Nat) (f : LoopSlot → LoopSlot) : (modLoop k f s).units = s.units := rfl
@[simp] theorem modLoop_jobs (k : Nat) (f : LoopSlot → LoopSlot) : (modLoop k f s).jobs = s.jobs := rfl
@[simp] theorem modLoop_land (k : Nat) (f : LoopSlot → LoopSlot) : (modLoop k f s).land = s.land := rfl
@[simp] theorem modLoop_gov (k : Nat) (f : LoopSlot → LoopSlot) : (modLoop k f s).gov = s.gov := rfl
@[simp] theorem modLoop_ingest (k : Nat) (f : LoopSlot → LoopSlot) : (modLoop k f s).ingest = s.ingest := rfl
@[simp] theorem modLoop_host (k : Nat) (f : LoopSlot → LoopSlot) : (modLoop k f s).host = s.host := rfl
@[simp] theorem modLoop_spool (k : Nat) (f : LoopSlot → LoopSlot) : (modLoop k f s).spool = s.spool := rfl
@[simp] theorem modLoop_stations (k : Nat) (f : LoopSlot → LoopSlot) : (modLoop k f s).stations = s.stations := rfl
@[simp] theorem modLoop_lanes (k : Nat) (f : LoopSlot → LoopSlot) : (modLoop k f s).lanes = s.lanes := rfl
@[simp] theorem modLoop_intlk (k : Nat) (f : LoopSlot → LoopSlot) : (modLoop k f s).intlk = s.intlk := rfl
@[simp] theorem modLoop_newel (k : Nat) (f : LoopSlot → LoopSlot) : (modLoop k f s).newel = s.newel := rfl
@[simp] theorem modLoop_axes (k : Nat) (f : LoopSlot → LoopSlot) : (modLoop k f s).axes = s.axes := rfl
@[simp] theorem modLoop_steppers (k : Nat) (f : LoopSlot → LoopSlot) : (modLoop k f s).steppers = s.steppers := rfl
@[simp] theorem modLoop_sols (k : Nat) (f : LoopSlot → LoopSlot) : (modLoop k f s).sols = s.sols := rfl
@[simp] theorem modLoop_ring (k : Nat) (f : LoopSlot → LoopSlot) : (modLoop k f s).ring = s.ring := rfl
@[simp] theorem modLoop_power (k : Nat) (f : LoopSlot → LoopSlot) : (modLoop k f s).power = s.power := rfl
@[simp] theorem modLoop_therm (k : Nat) (f : LoopSlot → LoopSlot) : (modLoop k f s).therm = s.therm := rfl
@[simp] theorem modLoop_faults (k : Nat) (f : LoopSlot → LoopSlot) : (modLoop k f s).faults = s.faults := rfl
@[simp] theorem modLoop_pair (k : Nat) (f : LoopSlot → LoopSlot) : (modLoop k f s).pair = s.pair := rfl
@[simp] theorem modLoop_gal (k : Nat) (f : LoopSlot → LoopSlot) : (modLoop k f s).gal = s.gal := rfl
@[simp] theorem modLoop_ledger (k : Nat) (f : LoopSlot → LoopSlot) : (modLoop k f s).ledger = s.ledger := rfl
@[simp] theorem modLoop_auth (k : Nat) (f : LoopSlot → LoopSlot) : (modLoop k f s).auth = s.auth := rfl
@[simp] theorem modLoop_cal (k : Nat) (f : LoopSlot → LoopSlot) : (modLoop k f s).cal = s.cal := rfl
@[simp] theorem modLoop_maint (k : Nat) (f : LoopSlot → LoopSlot) : (modLoop k f s).maint = s.maint := rfl
@[simp] theorem modLoop_panel (k : Nat) (f : LoopSlot → LoopSlot) : (modLoop k f s).panel = s.panel := rfl
@[simp] theorem modLoop_outbox (k : Nat) (f : LoopSlot → LoopSlot) : (modLoop k f s).outbox = s.outbox := rfl
@[simp] theorem modLoop_free (k : Nat) (f : LoopSlot → LoopSlot) : (modLoop k f s).free = s.free := rfl
@[simp] theorem modLoop_st (k j : Nat) (f : LoopSlot → LoopSlot) : (modLoop k f s).st j = s.st j := rfl
@[simp] theorem modLoop_lane (k j : Nat) (f : LoopSlot → LoopSlot) : (modLoop k f s).lane j = s.lane j := rfl
@[simp] theorem modLoop_axis (k j : Nat) (f : LoopSlot → LoopSlot) : (modLoop k f s).axis j = s.axis j := rfl
@[simp] theorem modLoop_node (k j : Nat) (f : LoopSlot → LoopSlot) : (modLoop k f s).node j = s.node j := rfl
@[simp] theorem modLoop_rail (k j : Nat) (f : LoopSlot → LoopSlot) : (modLoop k f s).rail j = s.rail j := rfl

/-! ### modNode -/

@[simp] theorem node_modNode_self (n : Nat) (f : Node → Node) : (modNode n f s).node n = f (s.node n) :=
  kvGet_kvMod_self _ _ _ _
theorem node_modNode_ne {n j : Nat} (f : Node → Node) (h : j ≠ n) : (modNode n f s).node j = s.node j :=
  kvGet_kvMod_ne _ _ _ h
@[simp] theorem modNode_pending (n : Nat) (f : Node → Node) : (modNode n f s).pending = s.pending := rfl
@[simp] theorem modNode_clk (n : Nat) (f : Node → Node) : (modNode n f s).clk = s.clk := rfl
@[simp] theorem modNode_boot (n : Nat) (f : Node → Node) : (modNode n f s).boot = s.boot := rfl
@[simp] theorem modNode_mbx (n : Nat) (f : Node → Node) : (modNode n f s).mbx = s.mbx := rfl
@[simp] theorem modNode_cfg (n : Nat) (f : Node → Node) : (modNode n f s).cfg = s.cfg := rfl
@[simp] theorem modNode_units (n : Nat) (f : Node → Node) : (modNode n f s).units = s.units := rfl
@[simp] theorem modNode_jobs (n : Nat) (f : Node → Node) : (modNode n f s).jobs = s.jobs := rfl
@[simp] theorem modNode_land (n : Nat) (f : Node → Node) : (modNode n f s).land = s.land := rfl
@[simp] theorem modNode_gov (n : Nat) (f : Node → Node) : (modNode n f s).gov = s.gov := rfl
@[simp] theorem modNode_ingest (n : Nat) (f : Node → Node) : (modNode n f s).ingest = s.ingest := rfl
@[simp] theorem modNode_host (n : Nat) (f : Node → Node) : (modNode n f s).host = s.host := rfl
@[simp] theorem modNode_spool (n : Nat) (f : Node → Node) : (modNode n f s).spool = s.spool := rfl
@[simp] theorem modNode_stations (n : Nat) (f : Node → Node) : (modNode n f s).stations = s.stations := rfl
@[simp] theorem modNode_lanes (n : Nat) (f : Node → Node) : (modNode n f s).lanes = s.lanes := rfl
@[simp] theorem modNode_intlk (n : Nat) (f : Node → Node) : (modNode n f s).intlk = s.intlk := rfl
@[simp] theorem modNode_newel (n : Nat) (f : Node → Node) : (modNode n f s).newel = s.newel := rfl
@[simp] theorem modNode_axes (n : Nat) (f : Node → Node) : (modNode n f s).axes = s.axes := rfl
@[simp] theorem modNode_steppers (n : Nat) (f : Node → Node) : (modNode n f s).steppers = s.steppers := rfl
@[simp] theorem modNode_sols (n : Nat) (f : Node → Node) : (modNode n f s).sols = s.sols := rfl
@[simp] theorem modNode_loops (n : Nat) (f : Node → Node) : (modNode n f s).loops = s.loops := rfl
@[simp] theorem modNode_power (n : Nat) (f : Node → Node) : (modNode n f s).power = s.power := rfl
@[simp] theorem modNode_therm (n : Nat) (f : Node → Node) : (modNode n f s).therm = s.therm := rfl
@[simp] theorem modNode_faults (n : Nat) (f : Node → Node) : (modNode n f s).faults = s.faults := rfl
@[simp] theorem modNode_pair (n : Nat) (f : Node → Node) : (modNode n f s).pair = s.pair := rfl
@[simp] theorem modNode_gal (n : Nat) (f : Node → Node) : (modNode n f s).gal = s.gal := rfl
@[simp] theorem modNode_ledger (n : Nat) (f : Node → Node) : (modNode n f s).ledger = s.ledger := rfl
@[simp] theorem modNode_auth (n : Nat) (f : Node → Node) : (modNode n f s).auth = s.auth := rfl
@[simp] theorem modNode_cal (n : Nat) (f : Node → Node) : (modNode n f s).cal = s.cal := rfl
@[simp] theorem modNode_maint (n : Nat) (f : Node → Node) : (modNode n f s).maint = s.maint := rfl
@[simp] theorem modNode_panel (n : Nat) (f : Node → Node) : (modNode n f s).panel = s.panel := rfl
@[simp] theorem modNode_outbox (n : Nat) (f : Node → Node) : (modNode n f s).outbox = s.outbox := rfl
@[simp] theorem modNode_free (n : Nat) (f : Node → Node) : (modNode n f s).free = s.free := rfl
@[simp] theorem modNode_st (n j : Nat) (f : Node → Node) : (modNode n f s).st j = s.st j := rfl
@[simp] theorem modNode_lane (n j : Nat) (f : Node → Node) : (modNode n f s).lane j = s.lane j := rfl
@[simp] theorem modNode_axis (n j : Nat) (f : Node → Node) : (modNode n f s).axis j = s.axis j := rfl
@[simp] theorem modNode_loop (n j : Nat) (f : Node → Node) : (modNode n f s).loop j = s.loop j := rfl
@[simp] theorem modNode_rail (n j : Nat) (f : Node → Node) : (modNode n f s).rail j = s.rail j := rfl

/-! ### modRail -/

@[simp] theorem rail_modRail_self (r : Nat) (f : Rail → Rail) : (modRail r f s).rail r = f (s.rail r) :=
  kvGet_kvMod_self _ _ _ _
theorem rail_modRail_ne {r j : Nat} (f : Rail → Rail) (h : j ≠ r) : (modRail r f s).rail j = s.rail j :=
  kvGet_kvMod_ne _ _ _ h
@[simp] theorem modRail_pending (r : Nat) (f : Rail → Rail) : (modRail r f s).pending = s.pending := rfl
@[simp] theorem modRail_clk (r : Nat) (f : Rail → Rail) : (modRail r f s).clk = s.clk := rfl
@[simp] theorem modRail_boot (r : Nat) (f : Rail → Rail) : (modRail r f s).boot = s.boot := rfl
@[simp] theorem modRail_mbx (r : Nat) (f : Rail → Rail) : (modRail r f s).mbx = s.mbx := rfl
@[simp] theorem modRail_cfg (r : Nat) (f : Rail → Rail) : (modRail r f s).cfg = s.cfg := rfl
@[simp] theorem modRail_units (r : Nat) (f : Rail → Rail) : (modRail r f s).units = s.units := rfl
@[simp] theorem modRail_jobs (r : Nat) (f : Rail → Rail) : (modRail r f s).jobs = s.jobs := rfl
@[simp] theorem modRail_land (r : Nat) (f : Rail → Rail) : (modRail r f s).land = s.land := rfl
@[simp] theorem modRail_gov (r : Nat) (f : Rail → Rail) : (modRail r f s).gov = s.gov := rfl
@[simp] theorem modRail_ingest (r : Nat) (f : Rail → Rail) : (modRail r f s).ingest = s.ingest := rfl
@[simp] theorem modRail_host (r : Nat) (f : Rail → Rail) : (modRail r f s).host = s.host := rfl
@[simp] theorem modRail_spool (r : Nat) (f : Rail → Rail) : (modRail r f s).spool = s.spool := rfl
@[simp] theorem modRail_stations (r : Nat) (f : Rail → Rail) : (modRail r f s).stations = s.stations := rfl
@[simp] theorem modRail_lanes (r : Nat) (f : Rail → Rail) : (modRail r f s).lanes = s.lanes := rfl
@[simp] theorem modRail_intlk (r : Nat) (f : Rail → Rail) : (modRail r f s).intlk = s.intlk := rfl
@[simp] theorem modRail_newel (r : Nat) (f : Rail → Rail) : (modRail r f s).newel = s.newel := rfl
@[simp] theorem modRail_axes (r : Nat) (f : Rail → Rail) : (modRail r f s).axes = s.axes := rfl
@[simp] theorem modRail_steppers (r : Nat) (f : Rail → Rail) : (modRail r f s).steppers = s.steppers := rfl
@[simp] theorem modRail_sols (r : Nat) (f : Rail → Rail) : (modRail r f s).sols = s.sols := rfl
@[simp] theorem modRail_ring (r : Nat) (f : Rail → Rail) : (modRail r f s).ring = s.ring := rfl
@[simp] theorem modRail_loops (r : Nat) (f : Rail → Rail) : (modRail r f s).loops = s.loops := rfl
@[simp] theorem modRail_therm (r : Nat) (f : Rail → Rail) : (modRail r f s).therm = s.therm := rfl
@[simp] theorem modRail_faults (r : Nat) (f : Rail → Rail) : (modRail r f s).faults = s.faults := rfl
@[simp] theorem modRail_pair (r : Nat) (f : Rail → Rail) : (modRail r f s).pair = s.pair := rfl
@[simp] theorem modRail_gal (r : Nat) (f : Rail → Rail) : (modRail r f s).gal = s.gal := rfl
@[simp] theorem modRail_ledger (r : Nat) (f : Rail → Rail) : (modRail r f s).ledger = s.ledger := rfl
@[simp] theorem modRail_auth (r : Nat) (f : Rail → Rail) : (modRail r f s).auth = s.auth := rfl
@[simp] theorem modRail_cal (r : Nat) (f : Rail → Rail) : (modRail r f s).cal = s.cal := rfl
@[simp] theorem modRail_maint (r : Nat) (f : Rail → Rail) : (modRail r f s).maint = s.maint := rfl
@[simp] theorem modRail_panel (r : Nat) (f : Rail → Rail) : (modRail r f s).panel = s.panel := rfl
@[simp] theorem modRail_outbox (r : Nat) (f : Rail → Rail) : (modRail r f s).outbox = s.outbox := rfl
@[simp] theorem modRail_free (r : Nat) (f : Rail → Rail) : (modRail r f s).free = s.free := rfl
@[simp] theorem modRail_st (r j : Nat) (f : Rail → Rail) : (modRail r f s).st j = s.st j := rfl
@[simp] theorem modRail_lane (r j : Nat) (f : Rail → Rail) : (modRail r f s).lane j = s.lane j := rfl
@[simp] theorem modRail_axis (r j : Nat) (f : Rail → Rail) : (modRail r f s).axis j = s.axis j := rfl
@[simp] theorem modRail_loop (r j : Nat) (f : Rail → Rail) : (modRail r f s).loop j = s.loop j := rfl
@[simp] theorem modRail_node (r j : Nat) (f : Rail → Rail) : (modRail r f s).node j = s.node j := rfl

end Sys2Proof.Machine
end

