-- ==== Sys2Proof/Laws/Record.lean ====
section
/-! SUPPORT. What telling the outside can do, said once for each operation that posts an event, writes a gallery record
or answers a command: only the mailbox, the gallery, the note counters, the messages sent and the free-value counter may
change, the rings stay within their capacities and the gallery's numbers do not fall. -/

namespace Sys2Proof.Machine

open Sys2Proof

/-- All that telling the outside can do to a state `s` that becomes `t`. -/
structure Tells (s t : State) : Prop where
  rest : t = { s with mbx := t.mbx, outbox := t.outbox, gal := t.gal, faults := t.faults, free := t.free }
  recs : t.faults.recs = s.faults.recs
  stalled : t.faults.stalled = s.faults.stalled
  inRing : t.mbx.inRing = s.mbx.inRing
  inWin : t.mbx.inWin = s.mbx.inWin
  live : t.mbx.live = s.mbx.live
  rings : s.mbx.ringsFit → t.mbx.ringsFit
  seq : s.gal.nextSeq ≤ t.gal.nextSeq

theorem Tells.refl (s : State) : Tells s s := ⟨rfl, rfl, rfl, rfl, rfl, rfl, id, Nat.le_refl _⟩

theorem Tells.trans {s t u : State} (a : Tells s t) (b : Tells t u) : Tells s u :=
  ⟨by rw [b.rest, a.rest], b.recs.trans a.recs, b.stalled.trans a.stalled, b.inRing.trans a.inRing,
    b.inWin.trans a.inWin, b.live.trans a.live, b.rings ∘ a.rings, Nat.le_trans a.seq b.seq⟩

theorem Tells.clk {s t : State} (h : Tells s t) : t.clk = s.clk := by rw [h.rest]
theorem Tells.boot {s t : State} (h : Tells s t) : t.boot = s.boot := by rw [h.rest]
theorem Tells.cfg {s t : State} (h : Tells s t) : t.cfg = s.cfg := by rw [h.rest]
theorem Tells.units {s t : State} (h : Tells s t) : t.units = s.units := by rw [h.rest]
theorem Tells.jobs {s t : State} (h : Tells s t) : t.jobs = s.jobs := by rw [h.rest]
theorem Tells.land {s t : State} (h : Tells s t) : t.land = s.land := by rw [h.rest]
theorem Tells.gov {s t : State} (h : Tells s t) : t.gov = s.gov := by rw [h.rest]
theorem Tells.ingest {s t : State} (h : Tells s t) : t.ingest = s.ingest := by rw [h.rest]
theorem Tells.host {s t : State} (h : Tells s t) : t.host = s.host := by rw [h.rest]
theorem Tells.spool {s t : State} (h : Tells s t) : t.spool = s.spool := by rw [h.rest]
theorem Tells.stations {s t : State} (h : Tells s t) : t.stations = s.stations := by rw [h.rest]
theorem Tells.lanes {s t : State} (h : Tells s t) : t.lanes = s.lanes := by rw [h.rest]
theorem Tells.intlk {s t : State} (h : Tells s t) : t.intlk = s.intlk := by rw [h.rest]
theorem Tells.newel {s t : State} (h : Tells s t) : t.newel = s.newel := by rw [h.rest]
theorem Tells.axes {s t : State} (h : Tells s t) : t.axes = s.axes := by rw [h.rest]
theorem Tells.steppers {s t : State} (h : Tells s t) : t.steppers = s.steppers := by rw [h.rest]
theorem Tells.sols {s t : State} (h : Tells s t) : t.sols = s.sols := by rw [h.rest]
theorem Tells.ring {s t : State} (h : Tells s t) : t.ring = s.ring := by rw [h.rest]
theorem Tells.loops {s t : State} (h : Tells s t) : t.loops = s.loops := by rw [h.rest]
theorem Tells.power {s t : State} (h : Tells s t) : t.power = s.power := by rw [h.rest]
theorem Tells.therm {s t : State} (h : Tells s t) : t.therm = s.therm := by rw [h.rest]
theorem Tells.pair {s t : State} (h : Tells s t) : t.pair = s.pair := by rw [h.rest]
theorem Tells.ledger {s t : State} (h : Tells s t) : t.ledger = s.ledger := by rw [h.rest]
theorem Tells.auth {s t : State} (h : Tells s t) : t.auth = s.auth := by rw [h.rest]
theorem Tells.cal {s t : State} (h : Tells s t) : t.cal = s.cal := by rw [h.rest]
theorem Tells.maint {s t : State} (h : Tells s t) : t.maint = s.maint := by rw [h.rest]
theorem Tells.panel {s t : State} (h : Tells s t) : t.panel = s.panel := by rw [h.rest]
theorem Tells.pending {s t : State} (h : Tells s t) : t.pending = s.pending := by rw [h.rest]

/-- Either branch tells. -/
theorem Tells.ite {s t u : State} {c : Prop} [Decidable c] (a : Tells s t) (b : Tells s u) :
    Tells s (if c then t else u) := by split <;> assumption

/-- A run of tellings is a telling. -/
theorem Tells.foldl {α : Type} (f : State → α → State) (h : ∀ s a, Tells s (f s a)) :
    ∀ (l : List α) (s : State), Tells s (l.foldl f s)
  | [], s => .refl s
  | a :: l, s => (h s a).trans (Tells.foldl f h l (f s a))

theorem tells_send (x : OutMsg) (s : State) : Tells s (s.send x) := ⟨rfl, rfl, rfl, rfl, rfl, rfl, id, Nat.le_refl _⟩

/-- A change of the gallery that does not lower its next number. -/
theorem tells_modGal (f : Gallery → Gallery) (s : State) (h : s.gal.nextSeq ≤ (f s.gal).nextSeq) : Tells s (s.modGal f) :=
  ⟨rfl, rfl, rfl, rfl, rfl, rfl, id, h⟩

/-- A change of the fault unit's note counters. -/
theorem tells_modFaults (f : Faults → Faults) (s : State) (h : (f s.faults).recs = s.faults.recs)
    (k : (f s.faults).stalled = s.faults.stalled) : Tells s (s.modFaults f) :=
  ⟨rfl, h, k, rfl, rfl, rfl, id, Nat.le_refl _⟩

/-- A change of the mailbox beside its rings and window. -/
theorem tells_modMbx (f : Mbx → Mbx) (s : State) (hi : (f s.mbx).inRing = s.mbx.inRing)
    (hw : (f s.mbx).inWin = s.mbx.inWin) (hl : (f s.mbx).live = s.mbx.live)
    (hr : s.mbx.ringsFit → (f s.mbx).ringsFit) : Tells s (s.modMbx f) :=
  ⟨rfl, rfl, rfl, hi, hw, hl, hr, Nat.le_refl _⟩

/-- An event enters the event ring only below its capacity; else it is counted (R388). -/
theorem tells_store (m : Msg) (u : State) :
    Tells u (if u.mbx.evtLost = 0 ∧ u.mbx.evtRing.length < 128 then evtPush m u
      else u.modMbx fun b => { b with evtLost := b.evtLost + 1 }) := by
  split
  · rename_i g
    refine tells_modMbx (fun b => { b with evtRing := b.evtRing ++ [m], evtProd := b.evtProd + 1#16 }) u rfl rfl rfl
      fun r => ?_
    simp only [Mbx.ringsFit, List.length_append, List.length_singleton] at *
    omega
  · exact tells_modMbx (fun b => { b with evtLost := b.evtLost + 1 }) u rfl rfl rfl id

/-- Posting an event (R388, R389). -/
theorem tells_post (code : Nat) (h : Handle) (p : List Byte) (s : State) : Tells s (post code h p s) := by
  have h0 := tells_modMbx (fun b => { b with evtCount := b.evtCount + 1 }) s rfl rfl rfl id
  refine Tells.trans ?_ (tells_store _ _)
  split
  · exact h0.trans (tells_send _ _)
  · exact h0

theorem tells_galFlush (s : State) : Tells s (galFlush s) := by
  unfold galFlush
  split
  · exact .refl s
  · refine tells_modGal _ s ?_
    simp only
    split
    · exact Nat.le_refl _
    · split
      · exact Nat.le_refl _
      · exact Nat.le_succ _

theorem tells_galNew (n : GalRec) (s : State) : Tells s (galPut.galNew n s) := by
  unfold galPut.galNew
  simp only
  split
  · exact tells_modGal _ s (Nat.le_refl _)
  · split
    · exact tells_modGal _ s (Nat.le_refl _)
    · have h := tells_modGal (fun g => { g with buf := g.buf ++ [{ n with seq := s.gal.nextSeq }], nextSeq := g.nextSeq + 1 })
        s (Nat.le_succ _)
      split
      · exact h.trans (tells_galFlush _)
      · exact h

theorem tells_galPut (n : GalRec) (s : State) : Tells s (galPut n s) := by
  unfold galPut
  simp only
  split
  · refine .ite (tells_modGal _ s ?_) (tells_galNew _ s)
    exact Nat.le_refl _
  · exact tells_galNew _ s

theorem tells_noteBase (code : Nat) (h : Handle) (sel : Nat) (s : State) : Tells s (noteBase code h sel s) := by
  unfold noteBase
  simp only
  have h1 := (tells_modFaults (fun f => { f with notes := noteCount f.notes (noteKey h sel) code }) s rfl rfl).trans
    (tells_post 0x8002 h (leBytes 2 code ++ leBytes 2 (noteVal (s.modFaults fun f =>
      { f with notes := noteCount f.notes (noteKey h sel) code }).faults.notes (noteKey h sel) code)) _)
  revert h1
  generalize post 0x8002 h _ _ = u
  intro h1
  refine h1.trans ?_
  split
  · split
    · exact tells_modFaults _ _ rfl rfl
    · exact (tells_modFaults _ _ rfl rfl).trans (tells_galPut _ _)
  · exact (tells_modFaults _ _ rfl rfl).trans (tells_galPut _ _)

theorem tells_galLevel (s : State) : Tells s (galLevel s) := by
  have step : ∀ (c : Prop) [Decidable c] (f : Gallery → Gallery) (k n : Nat) (p : List Byte) (u : State),
      (∀ g : Gallery, (f g).nextSeq = g.nextSeq) →
      Tells u (if c then noteBase k 0#16 0 (post n 0xFFFF#16 p (u.modGal f)) else u) := by
    intro c _ f k n p u hf
    split
    · exact ((tells_modGal f u (Nat.le_of_eq (hf _).symm)).trans (tells_post ..)).trans (tells_noteBase ..)
    · exact .refl u
  unfold galLevel
  exact (step (galNear s.gal && !s.gal.near) (fun g => { g with near := true }) 0x1801 0x8601 [0#8] s fun _ => rfl).trans
    (step _ (fun g => { g with full := true }) 0x1802 0x8601 [1#8] _ fun _ => rfl)

/-- A gallery record (R360 to R364). -/
theorem tells_galWrite (t : Nat) (h : Handle) (sel aux : Nat) (p : List Byte) (s : State) :
    Tells s (galWrite t h sel aux p s) := (tells_galPut _ s).trans (tells_galLevel _)

/-- A class 0 note (R330). -/
theorem tells_note (code : Nat) (h : Handle) (sel : Nat) (s : State) : Tells s (note code h sel s) :=
  (tells_noteBase code h sel s).trans (tells_galLevel _)

theorem tells_pump (s : State) : Tells s (pump s) := by
  refine tells_modMbx _ s rfl rfl rfl fun r => ?_
  simp only [Mbx.ringsFit, List.length_append, List.length_take] at *
  omega

theorem tells_deliver (p : Path) (ms : List Msg) (s : State) : Tells s (deliver p ms s) := by
  cases p
  · exact (tells_modMbx (fun b => { b with waiting := b.waiting ++ ms }) s rfl rfl rfl id).trans (tells_pump _)
  · exact tells_modMbx (fun b => { b with
      held := b.held ++ ms.map fun m => (_, m)
      outstanding := b.outstanding.filter fun o => !(ms.any fun m => m.tag.toNat == o.tag) }) s rfl rfl rfl id

/-- Answering a command (R387, R391). -/
theorem tells_respond (op : Nat) (m : Cmd) (st : Status) (p : List Byte) (s : State) : Tells s (respond op m st p s) :=
  (tells_modMbx _ s rfl rfl rfl id).trans (tells_deliver ..)

/-- Answering the commands that wait (R392). -/
theorem tells_finish (p : Waiter → Bool) (st : Status) (b : List Byte) (s : State) : Tells s (finish p st b s) :=
  (tells_modMbx _ s rfl rfl rfl id).trans (Tells.foldl _ (fun _ _ => tells_respond ..) _ _)

theorem tells_seqCheck (q : Nat) (s : State) : Tells s (seqCheck q s) := by
  unfold seqCheck
  split
  · split
    · exact tells_modMbx _ s rfl rfl rfl id
    · exact (tells_modMbx _ s rfl rfl rfl id).trans (tells_note ..)
  · exact tells_modMbx _ s rfl rfl rfl id

@[simp] theorem post_clk (c : Nat) (h : Handle) (p : List Byte) (s : State) : (post c h p s).clk = s.clk := (tells_post ..).clk
@[simp] theorem post_boot (c : Nat) (h : Handle) (p : List Byte) (s : State) : (post c h p s).boot = s.boot := (tells_post ..).boot
@[simp] theorem post_cfg (c : Nat) (h : Handle) (p : List Byte) (s : State) : (post c h p s).cfg = s.cfg := (tells_post ..).cfg
@[simp] theorem post_units (c : Nat) (h : Handle) (p : List Byte) (s : State) : (post c h p s).units = s.units := (tells_post ..).units
@[simp] theorem post_jobs (c : Nat) (h : Handle) (p : List Byte) (s : State) : (post c h p s).jobs = s.jobs := (tells_post ..).jobs
@[simp] theorem post_land (c : Nat) (h : Handle) (p : List Byte) (s : State) : (post c h p s).land = s.land := (tells_post ..).land
@[simp] theorem post_gov (c : Nat) (h : Handle) (p : List Byte) (s : State) : (post c h p s).gov = s.gov := (tells_post ..).gov
@[simp] theorem post_ingest (c : Nat) (h : Handle) (p : List Byte) (s : State) : (post c h p s).ingest = s.ingest := (tells_post ..).ingest
@[simp] theorem post_host (c : Nat) (h : Handle) (p : List Byte) (s : State) : (post c h p s).host = s.host := (tells_post ..).host
@[simp] theorem post_spool (c : Nat) (h : Handle) (p : List Byte) (s : State) : (post c h p s).spool = s.spool := (tells_post ..).spool
@[simp] theorem post_stations (c : Nat) (h : Handle) (p : List Byte) (s : State) : (post c h p s).stations = s.stations := (tells_post ..).stations
@[simp] theorem post_lanes (c : Nat) (h : Handle) (p : List Byte) (s : State) : (post c h p s).lanes = s.lanes := (tells_post ..).lanes
@[simp] theorem post_intlk (c : Nat) (h : Handle) (p : List Byte) (s : State) : (post c h p s).intlk = s.intlk := (tells_post ..).intlk
@[simp] theorem post_newel (c : Nat) (h : Handle) (p : List Byte) (s : State) : (post c h p s).newel = s.newel := (tells_post ..).newel
@[simp] theorem post_axes (c : Nat) (h : Handle) (p : List Byte) (s : State) : (post c h p s).axes = s.axes := (tells_post ..).axes
@[simp] theorem post_steppers (c : Nat) (h : Handle) (p : List Byte) (s : State) : (post c h p s).steppers = s.steppers := (tells_post ..).steppers
@[simp] theorem post_sols (c : Nat) (h : Handle) (p : List Byte) (s : State) : (post c h p s).sols = s.sols := (tells_post ..).sols
@[simp] theorem post_ring (c : Nat) (h : Handle) (p : List Byte) (s : State) : (post c h p s).ring = s.ring := (tells_post ..).ring
@[simp] theorem post_loops (c : Nat) (h : Handle) (p : List Byte) (s : State) : (post c h p s).loops = s.loops := (tells_post ..).loops
@[simp] theorem post_power (c : Nat) (h : Handle) (p : List Byte) (s : State) : (post c h p s).power = s.power := (tells_post ..).power
@[simp] theorem post_therm (c : Nat) (h : Handle) (p : List Byte) (s : State) : (post c h p s).therm = s.therm := (tells_post ..).therm
@[simp] theorem post_pair (c : Nat) (h : Handle) (p : List Byte) (s : State) : (post c h p s).pair = s.pair := (tells_post ..).pair
@[simp] theorem post_ledger (c : Nat) (h : Handle) (p : List Byte) (s : State) : (post c h p s).ledger = s.ledger := (tells_post ..).ledger
@[simp] theorem post_auth (c : Nat) (h : Handle) (p : List Byte) (s : State) : (post c h p s).auth = s.auth := (tells_post ..).auth
@[simp] theorem post_cal (c : Nat) (h : Handle) (p : List Byte) (s : State) : (post c h p s).cal = s.cal := (tells_post ..).cal
@[simp] theorem post_maint (c : Nat) (h : Handle) (p : List Byte) (s : State) : (post c h p s).maint = s.maint := (tells_post ..).maint
@[simp] theorem post_panel (c : Nat) (h : Handle) (p : List Byte) (s : State) : (post c h p s).panel = s.panel := (tells_post ..).panel
@[simp] theorem post_pending (c : Nat) (h : Handle) (p : List Byte) (s : State) : (post c h p s).pending = s.pending := (tells_post ..).pending
@[simp] theorem galWrite_clk (k : Nat) (h : Handle) (sel aux : Nat) (p : List Byte) (s : State) : (galWrite k h sel aux p s).clk = s.clk := (tells_galWrite ..).clk
@[simp] theorem galWrite_boot (k : Nat) (h : Handle) (sel aux : Nat) (p : List Byte) (s : State) : (galWrite k h sel aux p s).boot = s.boot := (tells_galWrite ..).boot
@[simp] theorem galWrite_cfg (k : Nat) (h : Handle) (sel aux : Nat) (p : List Byte) (s : State) : (galWrite k h sel aux p s).cfg = s.cfg := (tells_galWrite ..).cfg
@[simp] theorem galWrite_units (k : Nat) (h : Handle) (sel aux : Nat) (p : List Byte) (s : State) : (galWrite k h sel aux p s).units = s.units := (tells_galWrite ..).units
@[simp] theorem galWrite_jobs (k : Nat) (h : Handle) (sel aux : Nat) (p : List Byte) (s : State) : (galWrite k h sel aux p s).jobs = s.jobs := (tells_galWrite ..).jobs
@[simp] theorem galWrite_land (k : Nat) (h : Handle) (sel aux : Nat) (p : List Byte) (s : State) : (galWrite k h sel aux p s).land = s.land := (tells_galWrite ..).land
@[simp] theorem galWrite_gov (k : Nat) (h : Handle) (sel aux : Nat) (p : List Byte) (s : State) : (galWrite k h sel aux p s).gov = s.gov := (tells_galWrite ..).gov
@[simp] theorem galWrite_ingest (k : Nat) (h : Handle) (sel aux : Nat) (p : List Byte) (s : State) : (galWrite k h sel aux p s).ingest = s.ingest := (tells_galWrite ..).ingest
@[simp] theorem galWrite_host (k : Nat) (h : Handle) (sel aux : Nat) (p : List Byte) (s : State) : (galWrite k h sel aux p s).host = s.host := (tells_galWrite ..).host
@[simp] theorem galWrite_spool (k : Nat) (h : Handle) (sel aux : Nat) (p : List Byte) (s : State) : (galWrite k h sel aux p s).spool = s.spool := (tells_galWrite ..).spool
@[simp] theorem galWrite_stations (k : Nat) (h : Handle) (sel aux : Nat) (p : List Byte) (s : State) : (galWrite k h sel aux p s).stations = s.stations := (tells_galWrite ..).stations
@[simp] theorem galWrite_lanes (k : Nat) (h : Handle) (sel aux : Nat) (p : List Byte) (s : State) : (galWrite k h sel aux p s).lanes = s.lanes := (tells_galWrite ..).lanes
@[simp] theorem galWrite_intlk (k : Nat) (h : Handle) (sel aux : Nat) (p : List Byte) (s : State) : (galWrite k h sel aux p s).intlk = s.intlk := (tells_galWrite ..).intlk
@[simp] theorem galWrite_newel (k : Nat) (h : Handle) (sel aux : Nat) (p : List Byte) (s : State) : (galWrite k h sel aux p s).newel = s.newel := (tells_galWrite ..).newel
@[simp] theorem galWrite_axes (k : Nat) (h : Handle) (sel aux : Nat) (p : List Byte) (s : State) : (galWrite k h sel aux p s).axes = s.axes := (tells_galWrite ..).axes
@[simp] theorem galWrite_steppers (k : Nat) (h : Handle) (sel aux : Nat) (p : List Byte) (s : State) : (galWrite k h sel aux p s).steppers = s.steppers := (tells_galWrite ..).steppers
@[simp] theorem galWrite_sols (k : Nat) (h : Handle) (sel aux : Nat) (p : List Byte) (s : State) : (galWrite k h sel aux p s).sols = s.sols := (tells_galWrite ..).sols
@[simp] theorem galWrite_ring (k : Nat) (h : Handle) (sel aux : Nat) (p : List Byte) (s : State) : (galWrite k h sel aux p s).ring = s.ring := (tells_galWrite ..).ring
@[simp] theorem galWrite_loops (k : Nat) (h : Handle) (sel aux : Nat) (p : List Byte) (s : State) : (galWrite k h sel aux p s).loops = s.loops := (tells_galWrite ..).loops
@[simp] theorem galWrite_power (k : Nat) (h : Handle) (sel aux : Nat) (p : List Byte) (s : State) : (galWrite k h sel aux p s).power = s.power := (tells_galWrite ..).power
@[simp] theorem galWrite_therm (k : Nat) (h : Handle) (sel aux : Nat) (p : List Byte) (s : State) : (galWrite k h sel aux p s).therm = s.therm := (tells_galWrite ..).therm
@[simp] theorem galWrite_pair (k : Nat) (h : Handle) (sel aux : Nat) (p : List Byte) (s : State) : (galWrite k h sel aux p s).pair = s.pair := (tells_galWrite ..).pair
@[simp] theorem galWrite_ledger (k : Nat) (h : Handle) (sel aux : Nat) (p : List Byte) (s : State) : (galWrite k h sel aux p s).ledger = s.ledger := (tells_galWrite ..).ledger
@[simp] theorem galWrite_auth (k : Nat) (h : Handle) (sel aux : Nat) (p : List Byte) (s : State) : (galWrite k h sel aux p s).auth = s.auth := (tells_galWrite ..).auth
@[simp] theorem galWrite_cal (k : Nat) (h : Handle) (sel aux : Nat) (p : List Byte) (s : State) : (galWrite k h sel aux p s).cal = s.cal := (tells_galWrite ..).cal
@[simp] theorem galWrite_maint (k : Nat) (h : Handle) (sel aux : Nat) (p : List Byte) (s : State) : (galWrite k h sel aux p s).maint = s.maint := (tells_galWrite ..).maint
@[simp] theorem galWrite_panel (k : Nat) (h : Handle) (sel aux : Nat) (p : List Byte) (s : State) : (galWrite k h sel aux p s).panel = s.panel := (tells_galWrite ..).panel
@[simp] theorem galWrite_pending (k : Nat) (h : Handle) (sel aux : Nat) (p : List Byte) (s : State) : (galWrite k h sel aux p s).pending = s.pending := (tells_galWrite ..).pending
@[simp] theorem note_clk (c : Nat) (h : Handle) (sel : Nat) (s : State) : (note c h sel s).clk = s.clk := (tells_note ..).clk
@[simp] theorem note_boot (c : Nat) (h : Handle) (sel : Nat) (s : State) : (note c h sel s).boot = s.boot := (tells_note ..).boot
@[simp] theorem note_cfg (c : Nat) (h : Handle) (sel : Nat) (s : State) : (note c h sel s).cfg = s.cfg := (tells_note ..).cfg
@[simp] theorem note_units (c : Nat) (h : Handle) (sel : Nat) (s : State) : (note c h sel s).units = s.units := (tells_note ..).units
@[simp] theorem note_jobs (c : Nat) (h : Handle) (sel : Nat) (s : State) : (note c h sel s).jobs = s.jobs := (tells_note ..).jobs
@[simp] theorem note_land (c : Nat) (h : Handle) (sel : Nat) (s : State) : (note c h sel s).land = s.land := (tells_note ..).land
@[simp] theorem note_gov (c : Nat) (h : Handle) (sel : Nat) (s : State) : (note c h sel s).gov = s.gov := (tells_note ..).gov
@[simp] theorem note_ingest (c : Nat) (h : Handle) (sel : Nat) (s : State) : (note c h sel s).ingest = s.ingest := (tells_note ..).ingest
@[simp] theorem note_host (c : Nat) (h : Handle) (sel : Nat) (s : State) : (note c h sel s).host = s.host := (tells_note ..).host
@[simp] theorem note_spool (c : Nat) (h : Handle) (sel : Nat) (s : State) : (note c h sel s).spool = s.spool := (tells_note ..).spool
@[simp] theorem note_stations (c : Nat) (h : Handle) (sel : Nat) (s : State) : (note c h sel s).stations = s.stations := (tells_note ..).stations
@[simp] theorem note_lanes (c : Nat) (h : Handle) (sel : Nat) (s : State) : (note c h sel s).lanes = s.lanes := (tells_note ..).lanes
@[simp] theorem note_intlk (c : Nat) (h : Handle) (sel : Nat) (s : State) : (note c h sel s).intlk = s.intlk := (tells_note ..).intlk
@[simp] theorem note_newel (c : Nat) (h : Handle) (sel : Nat) (s : State) : (note c h sel s).newel = s.newel := (tells_note ..).newel
@[simp] theorem note_axes (c : Nat) (h : Handle) (sel : Nat) (s : State) : (note c h sel s).axes = s.axes := (tells_note ..).axes
@[simp] theorem note_steppers (c : Nat) (h : Handle) (sel : Nat) (s : State) : (note c h sel s).steppers = s.steppers := (tells_note ..).steppers
@[simp] theorem note_sols (c : Nat) (h : Handle) (sel : Nat) (s : State) : (note c h sel s).sols = s.sols := (tells_note ..).sols
@[simp] theorem note_ring (c : Nat) (h : Handle) (sel : Nat) (s : State) : (note c h sel s).ring = s.ring := (tells_note ..).ring
@[simp] theorem note_loops (c : Nat) (h : Handle) (sel : Nat) (s : State) : (note c h sel s).loops = s.loops := (tells_note ..).loops
@[simp] theorem note_power (c : Nat) (h : Handle) (sel : Nat) (s : State) : (note c h sel s).power = s.power := (tells_note ..).power
@[simp] theorem note_therm (c : Nat) (h : Handle) (sel : Nat) (s : State) : (note c h sel s).therm = s.therm := (tells_note ..).therm
@[simp] theorem note_pair (c : Nat) (h : Handle) (sel : Nat) (s : State) : (note c h sel s).pair = s.pair := (tells_note ..).pair
@[simp] theorem note_ledger (c : Nat) (h : Handle) (sel : Nat) (s : State) : (note c h sel s).ledger = s.ledger := (tells_note ..).ledger
@[simp] theorem note_auth (c : Nat) (h : Handle) (sel : Nat) (s : State) : (note c h sel s).auth = s.auth := (tells_note ..).auth
@[simp] theorem note_cal (c : Nat) (h : Handle) (sel : Nat) (s : State) : (note c h sel s).cal = s.cal := (tells_note ..).cal
@[simp] theorem note_maint (c : Nat) (h : Handle) (sel : Nat) (s : State) : (note c h sel s).maint = s.maint := (tells_note ..).maint
@[simp] theorem note_panel (c : Nat) (h : Handle) (sel : Nat) (s : State) : (note c h sel s).panel = s.panel := (tells_note ..).panel
@[simp] theorem note_pending (c : Nat) (h : Handle) (sel : Nat) (s : State) : (note c h sel s).pending = s.pending := (tells_note ..).pending
@[simp] theorem respond_clk (op : Nat) (m : Cmd) (st : Status) (p : List Byte) (s : State) : (respond op m st p s).clk = s.clk := (tells_respond ..).clk
@[simp] theorem respond_boot (op : Nat) (m : Cmd) (st : Status) (p : List Byte) (s : State) : (respond op m st p s).boot = s.boot := (tells_respond ..).boot
@[simp] theorem respond_cfg (op : Nat) (m : Cmd) (st : Status) (p : List Byte) (s : State) : (respond op m st p s).cfg = s.cfg := (tells_respond ..).cfg
@[simp] theorem respond_units (op : Nat) (m : Cmd) (st : Status) (p : List Byte) (s : State) : (respond op m st p s).units = s.units := (tells_respond ..).units
@[simp] theorem respond_jobs (op : Nat) (m : Cmd) (st : Status) (p : List Byte) (s : State) : (respond op m st p s).jobs = s.jobs := (tells_respond ..).jobs
@[simp] theorem respond_land (op : Nat) (m : Cmd) (st : Status) (p : List Byte) (s : State) : (respond op m st p s).land = s.land := (tells_respond ..).land
@[simp] theorem respond_gov (op : Nat) (m : Cmd) (st : Status) (p : List Byte) (s : State) : (respond op m st p s).gov = s.gov := (tells_respond ..).gov
@[simp] theorem respond_ingest (op : Nat) (m : Cmd) (st : Status) (p : List Byte) (s : State) : (respond op m st p s).ingest = s.ingest := (tells_respond ..).ingest
@[simp] theorem respond_host (op : Nat) (m : Cmd) (st : Status) (p : List Byte) (s : State) : (respond op m st p s).host = s.host := (tells_respond ..).host
@[simp] theorem respond_spool (op : Nat) (m : Cmd) (st : Status) (p : List Byte) (s : State) : (respond op m st p s).spool = s.spool := (tells_respond ..).spool
@[simp] theorem respond_stations (op : Nat) (m : Cmd) (st : Status) (p : List Byte) (s : State) : (respond op m st p s).stations = s.stations := (tells_respond ..).stations
@[simp] theorem respond_lanes (op : Nat) (m : Cmd) (st : Status) (p : List Byte) (s : State) : (respond op m st p s).lanes = s.lanes := (tells_respond ..).lanes
@[simp] theorem respond_intlk (op : Nat) (m : Cmd) (st : Status) (p : List Byte) (s : State) : (respond op m st p s).intlk = s.intlk := (tells_respond ..).intlk
@[simp] theorem respond_newel (op : Nat) (m : Cmd) (st : Status) (p : List Byte) (s : State) : (respond op m st p s).newel = s.newel := (tells_respond ..).newel
@[simp] theorem respond_axes (op : Nat) (m : Cmd) (st : Status) (p : List Byte) (s : State) : (respond op m st p s).axes = s.axes := (tells_respond ..).axes
@[simp] theorem respond_steppers (op : Nat) (m : Cmd) (st : Status) (p : List Byte) (s : State) : (respond op m st p s).steppers = s.steppers := (tells_respond ..).steppers
@[simp] theorem respond_sols (op : Nat) (m : Cmd) (st : Status) (p : List Byte) (s : State) : (respond op m st p s).sols = s.sols := (tells_respond ..).sols
@[simp] theorem respond_ring (op : Nat) (m : Cmd) (st : Status) (p : List Byte) (s : State) : (respond op m st p s).ring = s.ring := (tells_respond ..).ring
@[simp] theorem respond_loops (op : Nat) (m : Cmd) (st : Status) (p : List Byte) (s : State) : (respond op m st p s).loops = s.loops := (tells_respond ..).loops
@[simp] theorem respond_power (op : Nat) (m : Cmd) (st : Status) (p : List Byte) (s : State) : (respond op m st p s).power = s.power := (tells_respond ..).power
@[simp] theorem respond_therm (op : Nat) (m : Cmd) (st : Status) (p : List Byte) (s : State) : (respond op m st p s).therm = s.therm := (tells_respond ..).therm
@[simp] theorem respond_pair (op : Nat) (m : Cmd) (st : Status) (p : List Byte) (s : State) : (respond op m st p s).pair = s.pair := (tells_respond ..).pair
@[simp] theorem respond_ledger (op : Nat) (m : Cmd) (st : Status) (p : List Byte) (s : State) : (respond op m st p s).ledger = s.ledger := (tells_respond ..).ledger
@[simp] theorem respond_auth (op : Nat) (m : Cmd) (st : Status) (p : List Byte) (s : State) : (respond op m st p s).auth = s.auth := (tells_respond ..).auth
@[simp] theorem respond_cal (op : Nat) (m : Cmd) (st : Status) (p : List Byte) (s : State) : (respond op m st p s).cal = s.cal := (tells_respond ..).cal
@[simp] theorem respond_maint (op : Nat) (m : Cmd) (st : Status) (p : List Byte) (s : State) : (respond op m st p s).maint = s.maint := (tells_respond ..).maint
@[simp] theorem respond_panel (op : Nat) (m : Cmd) (st : Status) (p : List Byte) (s : State) : (respond op m st p s).panel = s.panel := (tells_respond ..).panel
@[simp] theorem respond_pending (op : Nat) (m : Cmd) (st : Status) (p : List Byte) (s : State) : (respond op m st p s).pending = s.pending := (tells_respond ..).pending
@[simp] theorem finish_clk (q : Waiter → Bool) (st : Status) (p : List Byte) (s : State) : (finish q st p s).clk = s.clk := (tells_finish ..).clk
@[simp] theorem finish_boot (q : Waiter → Bool) (st : Status) (p : List Byte) (s : State) : (finish q st p s).boot = s.boot := (tells_finish ..).boot
@[simp] theorem finish_cfg (q : Waiter → Bool) (st : Status) (p : List Byte) (s : State) : (finish q st p s).cfg = s.cfg := (tells_finish ..).cfg
@[simp] theorem finish_units (q : Waiter → Bool) (st : Status) (p : List Byte) (s : State) : (finish q st p s).units = s.units := (tells_finish ..).units
@[simp] theorem finish_jobs (q : Waiter → Bool) (st : Status) (p : List Byte) (s : State) : (finish q st p s).jobs = s.jobs := (tells_finish ..).jobs
@[simp] theorem finish_land (q : Waiter → Bool) (st : Status) (p : List Byte) (s : State) : (finish q st p s).land = s.land := (tells_finish ..).land
@[simp] theorem finish_gov (q : Waiter → Bool) (st : Status) (p : List Byte) (s : State) : (finish q st p s).gov = s.gov := (tells_finish ..).gov
@[simp] theorem finish_ingest (q : Waiter → Bool) (st : Status) (p : List Byte) (s : State) : (finish q st p s).ingest = s.ingest := (tells_finish ..).ingest
@[simp] theorem finish_host (q : Waiter → Bool) (st : Status) (p : List Byte) (s : State) : (finish q st p s).host = s.host := (tells_finish ..).host
@[simp] theorem finish_spool (q : Waiter → Bool) (st : Status) (p : List Byte) (s : State) : (finish q st p s).spool = s.spool := (tells_finish ..).spool
@[simp] theorem finish_stations (q : Waiter → Bool) (st : Status) (p : List Byte) (s : State) : (finish q st p s).stations = s.stations := (tells_finish ..).stations
@[simp] theorem finish_lanes (q : Waiter → Bool) (st : Status) (p : List Byte) (s : State) : (finish q st p s).lanes = s.lanes := (tells_finish ..).lanes
@[simp] theorem finish_intlk (q : Waiter → Bool) (st : Status) (p : List Byte) (s : State) : (finish q st p s).intlk = s.intlk := (tells_finish ..).intlk
@[simp] theorem finish_newel (q : Waiter → Bool) (st : Status) (p : List Byte) (s : State) : (finish q st p s).newel = s.newel := (tells_finish ..).newel
@[simp] theorem finish_axes (q : Waiter → Bool) (st : Status) (p : List Byte) (s : State) : (finish q st p s).axes = s.axes := (tells_finish ..).axes
@[simp] theorem finish_steppers (q : Waiter → Bool) (st : Status) (p : List Byte) (s : State) : (finish q st p s).steppers = s.steppers := (tells_finish ..).steppers
@[simp] theorem finish_sols (q : Waiter → Bool) (st : Status) (p : List Byte) (s : State) : (finish q st p s).sols = s.sols := (tells_finish ..).sols
@[simp] theorem finish_ring (q : Waiter → Bool) (st : Status) (p : List Byte) (s : State) : (finish q st p s).ring = s.ring := (tells_finish ..).ring
@[simp] theorem finish_loops (q : Waiter → Bool) (st : Status) (p : List Byte) (s : State) : (finish q st p s).loops = s.loops := (tells_finish ..).loops
@[simp] theorem finish_power (q : Waiter → Bool) (st : Status) (p : List Byte) (s : State) : (finish q st p s).power = s.power := (tells_finish ..).power
@[simp] theorem finish_therm (q : Waiter → Bool) (st : Status) (p : List Byte) (s : State) : (finish q st p s).therm = s.therm := (tells_finish ..).therm
@[simp] theorem finish_pair (q : Waiter → Bool) (st : Status) (p : List Byte) (s : State) : (finish q st p s).pair = s.pair := (tells_finish ..).pair
@[simp] theorem finish_ledger (q : Waiter → Bool) (st : Status) (p : List Byte) (s : State) : (finish q st p s).ledger = s.ledger := (tells_finish ..).ledger
@[simp] theorem finish_auth (q : Waiter → Bool) (st : Status) (p : List Byte) (s : State) : (finish q st p s).auth = s.auth := (tells_finish ..).auth
@[simp] theorem finish_cal (q : Waiter → Bool) (st : Status) (p : List Byte) (s : State) : (finish q st p s).cal = s.cal := (tells_finish ..).cal
@[simp] theorem finish_maint (q : Waiter → Bool) (st : Status) (p : List Byte) (s : State) : (finish q st p s).maint = s.maint := (tells_finish ..).maint
@[simp] theorem finish_panel (q : Waiter → Bool) (st : Status) (p : List Byte) (s : State) : (finish q st p s).panel = s.panel := (tells_finish ..).panel
@[simp] theorem finish_pending (q : Waiter → Bool) (st : Status) (p : List Byte) (s : State) : (finish q st p s).pending = s.pending := (tells_finish ..).pending
@[simp] theorem galFlush_clk (s : State) : (galFlush s).clk = s.clk := (tells_galFlush ..).clk
@[simp] theorem galFlush_boot (s : State) : (galFlush s).boot = s.boot := (tells_galFlush ..).boot
@[simp] theorem galFlush_cfg (s : State) : (galFlush s).cfg = s.cfg := (tells_galFlush ..).cfg
@[simp] theorem galFlush_units (s : State) : (galFlush s).units = s.units := (tells_galFlush ..).units
@[simp] theorem galFlush_jobs (s : State) : (galFlush s).jobs = s.jobs := (tells_galFlush ..).jobs
@[simp] theorem galFlush_land (s : State) : (galFlush s).land = s.land := (tells_galFlush ..).land
@[simp] theorem galFlush_gov (s : State) : (galFlush s).gov = s.gov := (tells_galFlush ..).gov
@[simp] theorem galFlush_ingest (s : State) : (galFlush s).ingest = s.ingest := (tells_galFlush ..).ingest
@[simp] theorem galFlush_host (s : State) : (galFlush s).host = s.host := (tells_galFlush ..).host
@[simp] theorem galFlush_spool (s : State) : (galFlush s).spool = s.spool := (tells_galFlush ..).spool
@[simp] theorem galFlush_stations (s : State) : (galFlush s).stations = s.stations := (tells_galFlush ..).stations
@[simp] theorem galFlush_lanes (s : State) : (galFlush s).lanes = s.lanes := (tells_galFlush ..).lanes
@[simp] theorem galFlush_intlk (s : State) : (galFlush s).intlk = s.intlk := (tells_galFlush ..).intlk
@[simp] theorem galFlush_newel (s : State) : (galFlush s).newel = s.newel := (tells_galFlush ..).newel
@[simp] theorem galFlush_axes (s : State) : (galFlush s).axes = s.axes := (tells_galFlush ..).axes
@[simp] theorem galFlush_steppers (s : State) : (galFlush s).steppers = s.steppers := (tells_galFlush ..).steppers
@[simp] theorem galFlush_sols (s : State) : (galFlush s).sols = s.sols := (tells_galFlush ..).sols
@[simp] theorem galFlush_ring (s : State) : (galFlush s).ring = s.ring := (tells_galFlush ..).ring
@[simp] theorem galFlush_loops (s : State) : (galFlush s).loops = s.loops := (tells_galFlush ..).loops
@[simp] theorem galFlush_power (s : State) : (galFlush s).power = s.power := (tells_galFlush ..).power
@[simp] theorem galFlush_therm (s : State) : (galFlush s).therm = s.therm := (tells_galFlush ..).therm
@[simp] theorem galFlush_pair (s : State) : (galFlush s).pair = s.pair := (tells_galFlush ..).pair
@[simp] theorem galFlush_ledger (s : State) : (galFlush s).ledger = s.ledger := (tells_galFlush ..).ledger
@[simp] theorem galFlush_auth (s : State) : (galFlush s).auth = s.auth := (tells_galFlush ..).auth
@[simp] theorem galFlush_cal (s : State) : (galFlush s).cal = s.cal := (tells_galFlush ..).cal
@[simp] theorem galFlush_maint (s : State) : (galFlush s).maint = s.maint := (tells_galFlush ..).maint
@[simp] theorem galFlush_panel (s : State) : (galFlush s).panel = s.panel := (tells_galFlush ..).panel
@[simp] theorem galFlush_pending (s : State) : (galFlush s).pending = s.pending := (tells_galFlush ..).pending

end Sys2Proof.Machine
end

