-- ==== Sys2Proof/WellFormed.lean ====
section
/-! DEFINITION. Well-formed commands: operands within the numbers the spec gives the block. Firmware and bus engines can
receive others; what the block does with a message that breaks a rule of the protocol is its meaning, in
`Machine/`. -/

namespace Sys2Proof

/-- A mailbox command as its parts arrive: 1 to 4 parts of 48 payload bytes, the last part without MORE (R384). -/
def Cmd.wf (m : Cmd) : Bool :=
  decide (m.payload.length % 48 = 0) && decide (48 ≤ m.payload.length) && decide (m.payload.length ≤ 192) &&
    !m.flags.getLsbD 2

/-- A node record comes from one of 64 nodes, with samples of one of 64 axes (R246, R252). -/
def NodeUp.wf (u : NodeUp) : Bool :=
  decide (u.node < 64) && u.axes.all fun x => decide (x.axis < 64) && decide (x.currents.length ≤ 3)

/-- A mirror section names a unit of its kind that exists (Table 18-6). -/
def MirrorSec.wf : MirrorSec → Bool
  | .station n _ _ _ _ _ _ => decide (n < 16)
  | .axis a _ => decide (a < 64)
  | .loop k _ => decide (k < 1024)
  | .bulkSave n _ => decide (n < 16)
  | _ => true

/-- Every operand of the command is within the range the spec gives it. -/
def Instr.wf : Instr → Bool
  | .unitCreate m => m.wf
  | .unitDelete m => m.wf
  | .unitMove m => m.wf
  | .unitSet m => m.wf
  | .unitEnable m => m.wf
  | .unitDisable m => m.wf
  | .unitRead m => m.wf
  | .unitLookup m => m.wf
  | .unitChildren m => m.wf
  | .cfgStageBegin m => m.wf
  | .cfgWrite m => m.wf
  | .cfgRead m => m.wf
  | .cfgStageAbort m => m.wf
  | .cfgCommit m => m.wf
  | .cfgRevert m => m.wf
  | .cfgStatus m => m.wf
  | .jobSubmit m => m.wf
  | .jobCancel m => m.wf
  | .jobHold m => m.wf
  | .jobRelease m => m.wf
  | .jobStatus m => m.wf
  | .motPressStop m => m.wf
  | .motPressThread m => m.wf
  | .motPressRun m => m.wf
  | .motJog m => m.wf
  | .motHome m => m.wf
  | .motGearHold m => m.wf
  | .motGearFree m => m.wf
  | .motGearRegear m => m.wf
  | .motRatio m => m.wf
  | .motRatioCancel m => m.wf
  | .motPhase m => m.wf
  | .motMove m => m.wf
  | .motLoopMode m => m.wf
  | .motLoopTarget m => m.wf
  | .motLoopSwitch m => m.wf
  | .motSolFire m => m.wf
  | .mntStart m => m.wf
  | .mntStop m => m.wf
  | .mntStatus m => m.wf
  | .mntFaultAck m => m.wf
  | .mntReturn m => m.wf
  | .mntIntlkRelease m => m.wf
  | .mntSpoolFormat m => m.wf
  | .galRead m => m.wf
  | .galStatus m => m.wf
  | .galExport m => m.wf
  | .galClear m => m.wf
  | .ldgRead m => m.wf
  | .ldgAck m => m.wf
  | .ldgStatus m => m.wf
  | .authChallenge m => m.wf
  | .authTicket m => m.wf
  | .authKeyInstall m => m.wf
  | .authKeyRemove m => m.wf
  | .authDigestAdd m => m.wf
  | .authDigestRemove m => m.wf
  | .authDigestClear m => m.wf
  | .authStatus m => m.wf
  | .authTokenSign m => m.wf
  | .tokenSignatureResponse _ _ sw => decide (sw < 65536)
  | .calWrite m => m.wf
  | .calCommit m => m.wf
  | .calRead m => m.wf
  | .calAbort m => m.wf
  | .calHeadClear m => m.wf
  | .pwrStatus m => m.wf
  | .pwrRailRestart m => m.wf
  | .pwrDown m => m.wf
  | .pwrUp m => m.wf
  | .pwrLogRead m => m.wf
  | .pwrReset m => m.wf
  | .diagState m => m.wf
  | .diagFaults m => m.wf
  | .diagNotes m => m.wf
  | .diagMeter m => m.wf
  | .diagSpool m => m.wf
  | .diagBoot m => m.wf
  | .pairStatus m => m.wf
  | .pairHandover m => m.wf
  | .pairResync m => m.wf
  | .pnlLed m => m.wf
  | .pnlBuzzer m => m.wf
  | .pnlStatus m => m.wf
  | .mailboxDatagram lane src _ => decide (lane < 4) && decide (src < 2 ^ 48)
  | .inProd _ => true
  | .outCons _ => true
  | .evtCons _ => true
  | .spiRegisterWrite addr _ => decide (addr < 65536)
  | .responseRelease => true
  | .eventOverflowPost => true
  | .responseDatagramFlush => true
  | .bandDatagram lane _ => decide (lane < 4)
  | .bandReassemblyTimeout job layer _ _ => decide (job < 2 ^ 32) && decide (layer < 16)
  | .creditDatagram => true
  | .ledgerAcknowledgement a w => decide (a < 2 ^ 64) && decide (w < 2 ^ 32)
  | .ledgerResendTimeout => true
  | .arpRequest lane ip => decide (lane < 4) && decide (ip < 2 ^ 32)
  | .badDatagram lane => decide (lane < 4)
  | .hostLinkDown lane => decide (lane < 4)
  | .hostLinkUp lane => decide (lane < 4)
  | .spoolPerstRelease => true
  | .spoolLinkRetry port => decide (port < 8)
  | .spoolLinkUp port _ => decide (port < 8)
  | .spoolMount _ => true
  | .bandwidthMountMeasure => true
  | .spoolWake => true
  | .nvmeCompletion member _ job layer _ _ _ _ _ => decide (member < 8) && decide (job < 2 ^ 32) &&
      decide (layer < 16)
  | .spoolReadTimeout member job layer _ _ _ => decide (member < 8) && decide (job < 2 ^ 32) && decide (layer < 16)
  | .directoryBatch => true
  | .bandAllocate => true
  | .fetchRelease station serial _ => decide (station < 16) && decide (serial < 2 ^ 64)
  | .smartPoll member _ => decide (member < 8)
  | .saturatedWindow member => decide (member < 8)
  | .bandwidthProbe _ => true
  | .spoolMemberLoss member => decide (member < 8)
  | .spoolMemberRecovery member _ => decide (member < 8)
  | .ledgerPageWrite => true
  | .admissionAttempt => true
  | .planPrepare => true
  | .stationLanding station serial => decide (station < 16) && decide (serial < 2 ^ 64)
  | .frameLeavesFlight serial => decide (serial < 2 ^ 64)
  | .governorEvaluate _ _ => true
  | .sosMark station _ => decide (station < 16)
  | .offsetComputeComplete station => decide (station < 16)
  | .decodeComplete station => decide (station < 16)
  | .saveSlotCopyComplete station => decide (station < 16)
  | .sramError bank _ _ => decide (bank < 80)
  | .sramBankTestComplete bank _ => decide (bank < 80)
  | .synthLock station => decide (station < 16)
  | .synthLossOfLock station => decide (station < 16)
  | .bandSwitch station => decide (station < 16)
  | .bandTableCalibrationComplete station _ => decide (station < 16)
  | .bandTableTrack station => decide (station < 16)
  | .facetPhaseFault station => decide (station < 16)
  | .linkUp lane module serial _ => decide (lane < 16) && decide (module < 256) && decide (serial < 2 ^ 64)
  | .sosTs lane sweep _ _ => decide (lane < 16) && decide (sweep < 65536)
  | .measResult lane sweep emitter _ _ _ _ _ => decide (lane < 16) && decide (sweep < 65536) && decide (emitter < 36)
  | .headData lane addr _ _ => decide (lane < 16) && decide (addr < 65536)
  | .laneStat lane sweep _ _ _ => decide (lane < 16) && decide (sweep < 65536)
  | .statusMsg lane _ _ _ => decide (lane < 16)
  | .ackMsg lane _ _ => decide (lane < 16)
  | .sidebandAckTimeout lane _ => decide (lane < 16)
  | .backChannelLoss lane => decide (lane < 16)
  | .laneTrainingComplete lane => decide (lane < 16)
  | .laneTrainingTimeout lane => decide (lane < 16)
  | .laneTrainingRetry lane => decide (lane < 16)
  | .berTestComplete lane _ => decide (lane < 16)
  | .berNoWordTimeout lane => decide (lane < 16)
  | .interlockAssert _ => true
  | .interlockGateOpen => true
  | .interlockPathMismatch => true
  | .emitterResultStale station emitter => decide (station < 16) && decide (emitter < 36)
  | .headPresenceCheck station => decide (station < 16)
  | .ringCycle ups => ups.all NodeUp.wf
  | .focPwmPeriod => true
  | .commutationMiss axis => decide (axis < 64)
  | .sixStepStart axis _ => decide (axis < 64)
  | .catchWindow axis _ => decide (axis < 64)
  | .offsetLearnUpdate axis _ => decide (axis < 64)
  | .windingModelUpdate => true
  | .estimatorCrossCheck axis => decide (axis < 64)
  | .kappaSave => true
  | .estimatorStale axis => decide (axis < 64)
  | .voltageLimit axis => decide (axis < 64)
  | .stageDisable axis => decide (axis < 64)
  | .axisFollowingTimeout axis => decide (axis < 64)
  | .newelCount _ _ => true
  | .newelIndex => true
  | .newelLossOfSignal _ => true
  | .newelBackupCheck => true
  | .webFollowingTimeout => true
  | .limitInputAccepted _ _ _ => true
  | .ringPortDown port => decide (port < 2)
  | .ringPortUp port => decide (port < 2)
  | .ringEnumeration _ _ found => decide (found.length ≤ 64)
  | .nodeMailboxReply node _ _ _ => decide (node < 64)
  | .loopTestRead _ _ => true
  | .loopFollowingTimeout slot => decide (slot < 1024)
  | .loopInputHoldTimeout slot => decide (slot < 1024)
  | .loopSaturated slot => decide (slot < 1024)
  | .porstNAssert => true
  | .porstNRelease pairSlot bootMode _ => decide (pairSlot < 2) && decide (bootMode < 4)
  | .foscCheck _ => true
  | .xtal0Gate _ => true
  | .xtal0StartTimeout => true
  | .rootLock => true
  | .rootAttemptTimeout => true
  | .dividerStep => true
  | .xtal0Lost => true
  | .rootUnlock => true
  | .xtal1Check _ => true
  | .clockMeterDone _ => true
  | .railJudgement _ => true
  | .pmbusPoll device _ _ => decide (device < 8)
  | .pmbAlert _ => true
  | .railEnable _ => true
  | .riseTimeout rail => decide (rail < 48)
  | .fallTimeout rail => decide (rail < 48)
  | .offDelayExpiry rail => decide (rail < 48)
  | .resetOutputRelease output => decide (output < 4)
  | .pfwN => true
  | .powerFailReset => true
  | .adcReferenceCheck => true
  | .thermalEvaluate _ _ => true
  | .thermalStageExit source _ => decide (source < 141)
  | .slowStep source => decide (source < 141)
  | .dieTripComparator sensor _ => decide (sensor < 8)
  | .sensorStuck source => decide (source < 141)
  | .faultRecordClose entry => decide (entry < 256)
  | .selfTestTimeout entry => decide (entry < 256)
  | .coreWatchdogExpiry core => decide (core < 4)
  | .coreStallEscalation core => decide (core < 4)
  | .aliveToggle _ => true
  | .mirrorFrame _ _ _ _ _ secs => secs.all MirrorSec.wf
  | .hello slot _ _ _ => decide (slot < 2)
  | .syncTimeout => true
  | .bootClaim _ => true
  | .claim _ _ => true
  | .claimConflict => true
  | .galleryFlush => true
  | .challengeExpiry => true
  | .grantExpiry => true
  | .authBackoffEnd => true
  | .calStoreWriteComplete => true
  | .configSlotWriteComplete => true
  | .bootImageCheck _ => true
  | .firmwareStart _ _ => true
  | .runDwellEnd => true
  | .keyScan _ => true
  | .touchInterrupt _ => true
  | .touchStuck => true
  | .ledPwmStep => true
  | .usbAttach vendor product _ => decide (vendor < 65536) && decide (product < 65536)
  | .usbDetach => true
  | .usbOverCurrent => true
  | .vbusRestore => true
  | .maintenanceStart activity _ => decide (1 ≤ activity) && decide (activity ≤ 9)
  | .maintenanceComplete activity _ _ _ _ _ => decide (1 ≤ activity) && decide (activity ≤ 9)
  | .fanOutStepDelay _ _ => true
  | .fanOutStepTimeout _ _ => true
  | .lanePllLockTimeout pll => decide (pll < 4)
  | .synthReferenceCycle station _ => decide (station < 16)
  | .aerError port => decide (port < 8)
  | .maintenanceCountTick activity _ => decide (1 ≤ activity) && decide (activity ≤ 9)
  | .quietWindowTimeout activity _ => decide (1 ≤ activity) && decide (activity ≤ 9)
  | .tokenSignTimeout => true
  | .deviceReset => true
  | .buzzerDurationEnd => true
  | .touchInterruptRelease => true

end Sys2Proof
end

