-- ==== Sys2Proof/Tests/Slice0.lean ====
section
/-! SUPPORT. Tests: well-formedness and what it refuses, the host's probes, steps with the results the spec states, and
for every obligation states and operands that meet its hypotheses. -/

namespace Sys2Proof.Tests

open Sys2Proof Sys2Proof.Machine

set_option Elab.async false

/-! ### Helpers: small states and commands -/

/-- A device out of reset with its firmware serving the mailbox. -/
def idle : State := { boot := { porst := false, stage := .running }, mbx := { live := true }, clk := { foscGood := true } }

/-- A payload of zeros with fields put in: offset, width, value. -/
def pay (l : List (Nat × Nat × Nat)) : List Byte :=
  l.foldl (fun p f => p.take f.1 ++ leBytes f.2.1 f.2.2 ++ p.drop (f.1 + f.2.1)) (List.replicate 48 0#8)

/-- A command without a unit. -/
def cmd (l : List (Nat × Nat × Nat)) : Cmd := { payload := pay l }

/-- A command on a unit of generation 0. -/
def cmdOn (i : Nat) (l : List (Nat × Nat × Nat)) : Cmd := { handle := BitVec.ofNat 16 i, payload := pay l }

/-- A device whose current set holds the units given, by INDEX and type. -/
def plant (us : List (Nat × Nat)) : State :=
  { idle with cfg := { cur := { units := us.map fun p => (p.1, { utype := p.2, parent := 0#16 }) } } }

/-- The device with bytes of its current configuration set written: block, entry, offset, width, value. -/
def withCfg (l : List (Nat × Nat × Nat × Nat × Nat)) (s : State) : State :=
  s.modCfg fun c => { c with cur := l.foldl (fun t f => t.write f.1 f.2.1 f.2.2.1 (leBytes f.2.2.2.1 f.2.2.2.2)) c.cur }

/-- A device with an engine at INDEX 32 and station 0 at INDEX 33, its live lane lane 3. -/
def station0 : State := withCfg [(0x01, 0, 11, 2, 33), (0x02, 0, 16, 1, 0x83)] (plant [(32, 2), (33, 3)])

/-- The device's spool is mounted on one member. -/
def spooled (s : State) : State :=
  { s with spool := { s.spool with
      state := .mounted, perst := false, sb := { width := 1, memberPages := 3276800, mounted := true }, members := [{}] } }

/-- The device holds a grant of role 1 for the command. -/
def granted (i : CmdInfo) (m : Cmd) (s : State) : State :=
  s.modAuth fun a => { a with grant := some { role := 1, op := i.op, args := ticketArgs m } }

/-- Whether a command is accepted, for states that can be computed. -/
def acceptedB (i : CmdInfo) (need : Nat) (m : Cmd) (s : State) : Bool :=
  s.mbx.live && !coreStalled s 0 && (vet i need m (startCmd i.op m s)).isNone &&
    (!i.recorded || !galFull (startCmd i.op m s).gal)

theorem useGrant_gal (op : Nat) (m : Cmd) (s : State) : (useGrant op m s).gal = s.gal := by
  unfold useGrant; split <;> rfl

theorem accepted_of {i : CmdInfo} {need : Nat} {m : Cmd} {s : State} (h : acceptedB i need m s = true) :
    accepted i need m s := by
  simp only [acceptedB, Bool.and_eq_true, Bool.not_eq_true', Bool.or_eq_true, Option.isNone_iff_eq_none] at h
  obtain ⟨⟨⟨h1, h2⟩, h3⟩, h4⟩ := h
  refine ⟨⟨h1, h2⟩, h3, fun r => ?_⟩
  rw [entered, useGrant_gal]
  rcases h4 with h4 | h4
  · simp [r] at h4
  · exact h4

theorem startCmd_granted {i : CmdInfo} {m : Cmd} {s : State} (h : s.mbx.lastSeq = none) (hr : s.mbx.inRing = []) :
    startCmd i.op m (granted i m s) = granted i m (startCmd i.op m s) := by
  simp [startCmd, seqCheck, granted, State.modMbx, State.modAuth, h, hr]

theorem entered_granted {i : CmdInfo} {m : Cmd} {s : State} (h : s.mbx.lastSeq = none) (hr : s.mbx.inRing = []) :
    entered i m (granted i m s) = (startCmd i.op m s).modAuth fun a => { a with grant := none } := by
  rw [entered, startCmd_granted h hr]
  simp [useGrant, granted, grantMatches, State.modAuth]

theorem accepted_granted {i : CmdInfo} {need : Nat} {m : Cmd} {s : State} (h : acceptedB i 0 m s = true)
    (hs : s.mbx.lastSeq = none) (hi : s.mbx.inRing = []) (hn : 1 ≤ need) : accepted i need m (granted i m s) := by
  obtain ⟨⟨h1, h2⟩, h3, h4⟩ := accepted_of h
  refine ⟨⟨h1, h2⟩, ?_, fun r => ?_⟩
  · unfold passes at h3 ⊢
    rw [startCmd_granted hs hi]
    have hv : vet i need m (granted i m (startCmd i.op m s)) = vet i 0 m (startCmd i.op m s) := by
      have hg : grantMatches (granted i m (startCmd i.op m s)) i.op m = true := by simp [grantMatches, granted, State.modAuth]
      have hr : grantServes (granted i m (startCmd i.op m s)) need = true := by
        simpa [grantServes, granted, State.modAuth] using hn
      simp only [vet, hg, hr]
      simp
      rfl
    rw [hv, h3]
  · have h5 := h4 r
    rw [entered, useGrant_gal, startCmd_granted hs hi]
    rw [entered, useGrant_gal] at h5
    exact h5

/-- Payload bytes that no field covers are 0: `n` bytes of zeros, a digest in one field, zeros. -/
theorem reservedZero_digest (fs : List (Nat × Nat)) (z : List Byte) (d : List Byte) (k : Nat)
    (hz : reservedZero fs (z ++ List.replicate d.length 0#8 ++ List.replicate k 0#8) = true)
    (hf : fs.contains (z.length, d.length) = true) :
    reservedZero fs (z ++ d ++ List.replicate k 0#8) = true := by
  simp only [reservedZero, List.all_eq_true] at hz ⊢
  rintro ⟨b, i⟩ hp
  rw [List.mem_zipIdx_iff_getElem?] at hp
  have hi : i < (z ++ d ++ List.replicate k 0#8).length := (List.getElem?_eq_some_iff.mp hp).1
  by_cases h : z.length ≤ i ∧ i < z.length + d.length
  · simp only [Bool.or_eq_true, List.any_eq_true]
    exact .inr ⟨(z.length, d.length), by simpa using hf, by simp; omega⟩
  · refine hz (b, i) ?_
    rw [List.mem_zipIdx_iff_getElem?, ← hp]
    simp only [List.getElem?_append, List.length_append, List.length_replicate]
    split <;> rename_i h1
    · split <;> rename_i h2
      · rfl
      · omega
    · rfl

/-- The bytes of a digest that stands in a payload. -/
theorem bytesAt_digest (z d r : List Byte) : bytesAt (z ++ d ++ r) z.length d.length = d := by
  simp [bytesAt]

theorem digestBytes_length (d : Nat) : (digestBytes d).length = 32 := by
  simp [digestBytes, leBytes]

/-- A set staged, and the CFG_COMMIT of its digest. -/
def stagedState : State := idle.modCfg fun c => { c with staged := some {} }

/-- CFG_COMMIT with the digest of the staged set. -/
def commitCmd : Cmd := { payload := [] ++ setDigest {} ++ List.replicate 16 0#8 }

/-- Object 2 staged for station 0. -/
def calState : State := { station0 with cal := { staging := [(0, [(6, List.replicate 8 0#8)])] } }

/-- CAL_COMMIT with the digest of what is staged. -/
def calCmd : Cmd :=
  { handle := 33#16
    payload := List.replicate 16 0#8 ++
      digestBytes (Config.sha256 ((commitObjs calState 0).flatMap fun p => p.2)).toNat ++ List.replicate 0 0#8 }

theorem commitCmd_accepted : acceptedB opCfgCommit 0 commitCmd stagedState = true := by
  have hr : reservedZero opCfgCommit.fields commitCmd.payload = true :=
    reservedZero_digest _ [] _ 16 (by decide +kernel) (by decide +kernel)
  have hc : checkForm opCfgCommit commitCmd = true := by
    rw [checkForm, hr]; decide +kernel
  simp only [acceptedB, vet, hc]
  decide +kernel

theorem calCmd_accepted : acceptedB opCalCommit 0 calCmd calState = true := by
  have hr : reservedZero opCalCommit.fields calCmd.payload = true :=
    reservedZero_digest _ (List.replicate 16 0#8) _ 0 (by decide +kernel) (by decide +kernel)
  have hc : checkForm opCalCommit calCmd = true := by
    rw [checkForm, hr]; decide +kernel
  simp only [acceptedB, vet, hc]
  decide +kernel

/-- The superblock of a spool of one member, and its copy A. -/
def oneMember : Superblock := { width := 1, memberPages := 3276800, keyCheck := keyCheck 0 }

/-- Copy A of the spool of one member. -/
def oneCopy : List Byte := oneMember.toBytes 0 0 4096

theorem oneCopy_valid : (superOf oneCopy).valid = true := (superOf_toBytes oneMember 0 0 4096).1

theorem oneCopy_key : (superOf oneCopy).keyCheck = keyCheck 0 := by
  obtain ⟨_, _, _, _, _, _, _, _, _, _, h⟩ := superOf_toBytes oneMember 0 0 4096
  exact h.trans (Nat.mod_eq_of_lt (fieldAt_lt _ _ _))

theorem oneCopy_fields : (superOf oneCopy).width = 1 ∧ (superOf oneCopy).spoolId = 0 ∧ (superOf oneCopy).member = 0 ∧
    (superOf oneCopy).memberPages = 3276800 ∧ (superOf oneCopy).generation = 0 := by
  obtain ⟨_, h1, h2, h3, _, h4, _, _, h5, _, _⟩ := superOf_toBytes oneMember 0 0 4096
  exact ⟨h4, h2, h3, h5, h1⟩

theorem noCopy : (superOf []).valid = false := by rfl

theorem mountCopies_one {c d : SuperCopy} (h : c.valid = true) (k : d.valid = false) :
    mountCopies [(c, d)] = some [c] := by
  simp [mountCopies, copyOf, h, k]

theorem mountCopies_alone {c d : SuperCopy} (h : c.valid = true) (k : d.valid = false) :
    mountCopies [(c, d), (d, d)] = none := by
  simp [mountCopies, copyOf, h, k]

/-- A band datagram of job 1: 16 bytes of zeros at an offset of a band of the length given. -/
def fragment (off len : Nat) : List Byte :=
  pay [(0, 4, 0x47524642), (4, 1, 1), (8, 4, 1), (18, 2, 16), (20, 4, off), (24, 4, len)]

/-- A device that holds job 1 and the staged bands given. -/
def ingesting (bs : List Staged) : State := { idle with jobs := [{ id := 1 }], ingest := { bands := bs } }

theorem opens_of {bytes data : List Byte} {s : State} (j : Job) (h1 : s.mbx.live = true) (h2 : bandForm bytes)
    (h3 : (s.jobs.find? fun j => j.id == (bandIdOf bytes).job && j.live) = some j)
    (h4 : (fieldAt bytes 5 1).testBit 0 = j.encrypted) (h5 : j.encrypted = false)
    (h6 : bytesAt bytes 32 (fieldAt bytes 18 2) = data) : bandOpens bytes data s :=
  ⟨h1, h2, j, h3, h4, by simp [bandBytes, h5, h6]⟩

/-! ### Well-formed commands, and an ill-formed one for each check -/

theorem test_wf_command : (Instr.unitRead (cmd [])).wf = true := by decide
theorem test_wf_four_parts : (Instr.calWrite { payload := List.replicate 192 0#8 }).wf = true := by decide +kernel
theorem test_ill_half_part : (Instr.unitRead { payload := List.replicate 47 0#8 }).wf = false := by decide
theorem test_ill_no_part : (Instr.unitRead {}).wf = false := by decide
theorem test_ill_five_parts : (Instr.calWrite { payload := List.replicate 240 0#8 }).wf = false := by decide +kernel
theorem test_ill_more_set : (Instr.unitRead { cmd [] with flags := 4#8 }).wf = false := by decide
theorem test_ill_host_lane : (Instr.hostLinkUp 3).wf = true ∧ (Instr.hostLinkUp 4).wf = false := by decide
theorem test_ill_host_ip : (Instr.arpRequest 0 (2 ^ 32)).wf = false := by decide
theorem test_ill_source : (Instr.mailboxDatagram 0 (2 ^ 48) []).wf = false := by decide
theorem test_ill_spi_address : (Instr.spiRegisterWrite 65536 [0#8]).wf = false := by decide
theorem test_ill_layer : (Instr.bandReassemblyTimeout 1 16 0 0).wf = false := by decide
theorem test_ill_acknowledgement : (Instr.ledgerAcknowledgement (2 ^ 64) 0).wf = false := by decide
theorem test_ill_port : (Instr.spoolLinkRetry 7).wf = true ∧ (Instr.spoolLinkRetry 8).wf = false := by decide
theorem test_ill_member : (Instr.spoolMemberLoss 7).wf = true ∧ (Instr.spoolMemberLoss 8).wf = false := by decide
theorem test_ill_station : (Instr.synthLock 15).wf = true ∧ (Instr.synthLock 16).wf = false := by decide
theorem test_ill_serial : (Instr.frameLeavesFlight (2 ^ 64)).wf = false := by decide
theorem test_ill_bank : (Instr.sramBankTestComplete 80 true).wf = false := by decide
theorem test_ill_lane : (Instr.backChannelLoss 15).wf = true ∧ (Instr.backChannelLoss 16).wf = false := by decide
theorem test_ill_emitter : (Instr.emitterResultStale 0 35).wf = true ∧ (Instr.emitterResultStale 0 36).wf = false := by
  decide
theorem test_ill_node : (Instr.ringCycle [{ node := 64 }]).wf = false := by decide
theorem test_ill_axis_record : (Instr.ringCycle [{ axes := [{ axis := 64 }] }]).wf = false := by decide
theorem test_ill_currents : (Instr.ringCycle [{ axes := [{ currents := [none, none, none, none] }] }]).wf = false := by
  decide
theorem test_ill_axis : (Instr.voltageLimit 63).wf = true ∧ (Instr.voltageLimit 64).wf = false := by decide
theorem test_ill_ring_port : (Instr.ringPortUp 1).wf = true ∧ (Instr.ringPortUp 2).wf = false := by decide
theorem test_ill_slot : (Instr.loopSaturated 1023).wf = true ∧ (Instr.loopSaturated 1024).wf = false := by decide
theorem test_ill_straps : (Instr.porstNRelease 2 0 false).wf = false ∧ (Instr.porstNRelease 0 4 false).wf = false := by
  decide
theorem test_ill_rail : (Instr.riseTimeout 47).wf = true ∧ (Instr.riseTimeout 48).wf = false := by decide
theorem test_ill_output : (Instr.resetOutputRelease 4).wf = false := by decide
theorem test_ill_source_number : (Instr.slowStep 140).wf = true ∧ (Instr.slowStep 141).wf = false := by decide
theorem test_ill_entry : (Instr.selfTestTimeout 255).wf = true ∧ (Instr.selfTestTimeout 256).wf = false := by decide
theorem test_ill_core : (Instr.coreWatchdogExpiry 3).wf = true ∧ (Instr.coreWatchdogExpiry 4).wf = false := by decide
theorem test_ill_activity : (Instr.maintenanceStart 9 0#16).wf = true ∧ (Instr.maintenanceStart 0 0#16).wf = false ∧
    (Instr.maintenanceStart 10 0#16).wf = false := by decide
theorem test_ill_mirror : (Instr.mirrorFrame 0#8 0 0 false false [.loop 1024 {}]).wf = false := by decide

/-! ### The host's probes -/

theorem test_no_row_has_bits (n w : Nat) : decodeTableWord n w = none := rfl
theorem test_with_fetch_word (s : State) (n w : Nat) : s.withFetchWord n w = s := rfl

/-! ### Figures of the spec's worked examples -/

/-- The cell of 04_tread_coding.md. -/
def exampleCell : List Nat :=
  [2, 2, 12, 12, 12, 12, 12, 12, 2, 2, 12, 12, 12, 12, 12, 12, 12, 12, 2, 2, 12, 12, 12, 12, 12, 12, 2, 2, 12, 12, 12, 12,
   0, 0, 0, 0, 5, 5, 9, 9, 15, 15, 15, 15, 5, 5, 9, 9, 0, 0, 0, 0, 9, 9, 5, 5, 15, 15, 15, 15, 9, 9, 5, 5]

theorem test_cell_tread4 : cellPixels 1 2 (0x95F0CCC2 + 2 ^ 32 * 0x74B81122) = exampleCell := by decide +kernel
theorem test_cell_tread2 :
    cellPixels 1 1 (0x95F0CCC2 + 2 ^ 32 * 0x03030C0C + 2 ^ 64 * 0x3F30CFC0) = exampleCell := by decide +kernel

/-- The reference spool of 06_spool.md. -/
def exampleSpool : Superblock := { width := 8, memberPages := 1952862600 }

theorem test_spool_layout : exampleSpool.pages = 15622900800 ∧ exampleSpool.dirPages = 39057248 ∧
    exampleSpool.ledgerPages = 156229008 ∧ exampleSpool.mapPages = 470800 ∧
    exampleSpool.extentPages = 15427143744 := by decide +kernel
theorem test_ledger_region : exampleSpool.regionRecords = 4999328256 := by decide +kernel

/-- Table 05-1 divides the 40 MiB of SRAM. -/
theorem test_sram_map : (sramUses.map sramSize).sum = 41943040 := by decide +kernel

/-- The check values of the CRCs that 06_spool.md and 08_beam_link.md name, over the digits 1 to 9. -/
theorem test_crc_check : let d : List Byte := [0x31#8, 0x32#8, 0x33#8, 0x34#8, 0x35#8, 0x36#8, 0x37#8, 0x38#8, 0x39#8]
    crc16 d = 0x29B1#16 ∧ crc32c d = 0xE3069283#32 := by decide +kernel

/-- The drum of 10_motion_and_gearing.md: ratio 25,600 / 9. -/
theorem test_gearing_carries_its_remainder :
    let g : Gear := { st := .geared, num := 25600, den := 9 }
    let a := g.follow false 0 492
    let b := a.follow false 0 491
    let c := b.follow false 0 492
    (a.cmd, a.acc) = (1399466, 6) ∧ (b.cmd - a.cmd, b.acc) = (1396622, 8) ∧ (c.cmd - b.cmd, c.acc) = (1399467, 5) := by
  decide +kernel

/-- The 100 to 84.0 in/s ramp takes 2.917 s, its corners 0.6667 s. -/
theorem test_ramp : ((rampSeg {} 100 84 0).dur * 1000 + 1 / 2).floor = 2917 ∧
    ((rampSeg {} 100 84 0).tj * 10000 + 1 / 2).floor = 6667 := by decide +kernel

/-- A lead of 50 ms at 100 in/s, 6,000 ln, is a gap of 6,016 ln (21_command_reference.md). -/
theorem test_gap_rounds_up : ceilLines 32 6000 = 6016 := by decide +kernel

/-- sol12 and sol13 of 12_node_ring.md as channels 0 and 1: sol13's peak waits for the end of sol12's. -/
theorem test_fire_deferred : fireAt (withCfg
    [(0x0D, 0, 3, 1, 1), (0x0D, 0, 4, 2, 40), (0x0D, 0, 6, 2, 20), (0x0D, 0, 8, 2, 15), (0x0D, 0, 10, 2, 60),
     (0x0D, 1, 3, 1, 0), (0x0D, 1, 4, 2, 40), (0x0D, 1, 6, 2, 20), (0x0D, 1, 8, 2, 15), (0x0D, 1, 10, 2, 60)]
    { plant [(32, 12), (33, 12)] with sols := [(0, { start := 0, holdEnd := 22000 })] }) 1 500 10000 = some 2000 := by
  decide +kernel

/-! ### Single steps -/

/-- The state that an outcome leads to, if it leads to one. -/
def nextOf (o : Host.Outcome State Fault Refusal) : Option State := match o with | .next t => some t | _ => none

/-- The statuses of the responses in the outbound ring after a command. -/
def statuses (o : Host.Outcome State Fault Refusal) : Option (List (BitVec 16)) :=
  (nextOf o).map fun t => t.mbx.outRing.map (·.status)

theorem test_step_takes_the_front :
    (nextOf (step (idle.modPending fun _ => [.challengeExpiry, .hostLinkUp 1]))).map (·.pending) =
      some [.hostLinkUp 1] := by decide +kernel
theorem test_test_en : exec (.porstNRelease 0 0 true) State.reset = .fault .factoryTest := by rfl
theorem test_straps : (nextOf (exec (.porstNRelease 1 2 false) State.reset)).map (fun t =>
    (t.boot.porst, t.boot.pairSlot, t.boot.bootMode)) = some (false, 1, 2) := by decide +kernel
theorem test_silent_before_firmware : nextOf (exec (.unitRead (cmdOn 0 [])) State.reset) = some State.reset := by
  decide +kernel
theorem test_lookup : (nextOf (exec (.unitLookup
    { payload := List.replicate 16 0#8 ++ nameBytes [77, 76] ++ List.replicate 16 0#8 }) idle)).map
    (fun t => t.mbx.outRing.map fun m => (m.status, m.payload.take 2)) = some [(0#16, [29#8, 0#8])] := by decide +kernel
theorem test_reserved_byte : statuses (exec (.unitChildren (cmdOn 0 [(47, 1, 1)])) idle) = some [0x000B#16] := by
  decide +kernel
theorem test_no_unit : statuses (exec (.unitChildren (cmdOn 32 [])) idle) = some [0x0003#16] := by decide +kernel
theorem test_stale_handle : statuses (exec (.unitChildren (cmdOn 1024 [])) idle) = some [0x0004#16] := by decide +kernel
theorem test_bad_version : statuses (exec (.unitChildren { cmdOn 0 [] with version := 7#32 }) idle) =
    some [0x0005#16] := by decide +kernel
theorem test_not_authorised : statuses (exec (.galClear (cmd [])) idle) = some [0x0006#16] := by decide +kernel
theorem test_busy_in_limp : statuses (exec (.unitChildren (cmdOn 0 []))
    { idle with boot := { porst := false, stage := .limp } }) = some [0x0001#16] := by decide +kernel
theorem test_stage_begin : (nextOf (exec (.cfgStageBegin (cmd [])) idle)).map (·.cfg.staged) = some (some {}) := by
  decide +kernel
theorem test_cfg_write : (nextOf (exec (.cfgWrite (cmd [(0, 1, 1), (6, 2, 1), (16, 1, 9)]))
    (idle.modCfg fun c => { c with staged := some {} }))).map (fun t => t.cfg.staged.map fun c => c.get 1 0 0 1) =
    some (some 9) := by decide +kernel
theorem test_newel_count : (nextOf (exec (.newelCount false .up) (withCfg [(5, 0, 0, 4, 0x38400000)] idle))).map
    (·.newel.pos * 65536) = some (14400 * 2 ^ 32) := by decide +kernel
theorem test_newel_wraps : wrapNewel (2 ^ 79) = -2 ^ 79 := by decide +kernel
theorem test_gear_free : (nextOf (exec (.motGearFree (cmdOn 32 [(1, 1, 1)]))
    (modAxis 0 (fun x => { x with gear := { x.gear with st := .geared } }) (plant [(32, 6)])))).map
    (fun t => (t.axis 0).gear.st) = some .free := by decide +kernel
theorem test_job_hold : (nextOf (exec (.jobHold (cmd [(0, 4, 1)])) { idle with jobs := [{ id := 1 }] })).map
    (fun t => t.jobs.map (·.state)) = some [.held] := by decide +kernel
theorem test_power_down_refused : statuses (exec (.pwrDown (cmd [])) (idle.modLand fun l =>
    { l with flights := [{}] })) = some [0x0002#16] := by decide +kernel
theorem test_host_link_down : (nextOf (exec (.hostLinkDown 0) idle)).map (fun t => kvFind t.host.up 0) =
    some (some false) := by decide +kernel

/-! ### The hypotheses of the obligations can be met -/

/-- InvariantKeptByStep: states and operands that meet the hypotheses of its clauses. -/
theorem meets_InvariantKeptByStep :
    ∃ (s : State) (t : State), Inv s ∧ step s = .next t := by
  refine ⟨State.reset, State.reset, ?_⟩
  exact ⟨⟨⟨by decide, by decide, by decide⟩, rfl, by decide, by decide, by decide, by decide, trivial⟩, rfl⟩

/-- VersionsAndGalleryNumbersNeverFall: states and operands that meet the hypotheses of its clauses. -/
theorem meets_VersionsAndGalleryNumbersNeverFall :
    ∃ (s : State) (t : State), step s = .next t := by
  refine ⟨State.reset, State.reset, ?_⟩
  rfl

/-- CommandChecksInOrder: states and operands that meet the hypotheses of its clauses. -/
theorem meets_CommandChecksInOrder :
    ∃ (i : CmdInfo) (need : State → Nat) (m : Cmd) (s : State) (st : Status), serving s ∧ vet i (need (startCmd i.op m
    s)) m (startCmd i.op m s) = some st := by
  refine ⟨opUnitRead, noTicket, cmdOn 40 [], idle, .noUnit, ?_⟩
  exact ⟨⟨by decide, by decide⟩, by decide +kernel⟩

/-- DatagramMessageEntersRing: states and operands that meet the hypotheses of its clauses. -/
theorem meets_DatagramMessageEntersRing :
    (∃ (bytes : List Byte) (s : State), s.mbx.live = true ∧ bytes ≠ [] ∧ bytes.length ≤ 1024 ∧ bytes.length % 64 = 0) ∧
    (∃ (bytes : List Byte) (s : State), ∃ m, m = msgOf bytes ∧ s.mbx.live = true ∧ bytes.length = 64 ∧
    (s.mbx.outstanding.any fun o => o.parts.contains m) = false ∧ (s.mbx.answered.any fun a => a.parts.contains m) =
    false ∧ (s.mbx.outstanding.any fun o => o.tag == m.tag.toNat) = false ∧ incompletePart s = none ∧ (∀ p,
    s.mbx.lastSeq = some p → (p + 1) % 2 ^ 32 = m.seq.toNat) ∧ opcodes.contains m.opcode.toNat = true ∧
    m.flags.getLsbD 2 = false ∧ s.mbx.inRing.length < 64) ∧
    (∃ (bytes : List Byte) (s : State), ∃ m, m = msgOf bytes ∧ s.mbx.live = true ∧ bytes.length = 64 ∧
    (s.mbx.outstanding.any fun o => o.parts.contains m) = false ∧ (s.mbx.answered.any fun a => a.parts.contains m) =
    false ∧ (s.mbx.outstanding.any fun o => o.tag == m.tag.toNat) = false ∧ incompletePart s = none ∧ (∀ p,
    s.mbx.lastSeq = some p → (p + 1) % 2 ^ 32 = m.seq.toNat) ∧ 64 ≤ s.mbx.inRing.length) ∧
    (∃ (bytes : List Byte) (s : State), s.mbx.live = true ∧ bytes.length = 64 ∧ (s.mbx.outstanding.any fun o =>
    o.parts.contains (msgOf bytes)) = true) ∧
    (∃ (bytes : List Byte) (s : State), s.mbx.live = true ∧ (bytes = [] ∨ 1024 < bytes.length ∨ bytes.length % 64 ≠
    0)) := by
  refine ⟨?_, ?_, ?_, ?_, ?_⟩
  · exact ⟨List.replicate 64 0#8, idle, by decide +kernel⟩
  · exact ⟨[2#8, 1#8, 9#8] ++ List.replicate 61 0#8, idle.modMbx fun b =>
      { b with inRing := List.replicate 63 (.spi, {}) }, _, rfl, by decide +kernel⟩
  · exact ⟨[2#8, 1#8, 9#8] ++ List.replicate 61 0#8, idle.modMbx fun b =>
      { b with inRing := List.replicate 64 (.spi, {}) }, _, rfl, by decide +kernel⟩
  · exact ⟨List.replicate 64 0#8, idle.modMbx fun b =>
      { b with outstanding := [{ parts := [msgOf (List.replicate 64 0#8)] }] }, by decide +kernel⟩
  · exact ⟨List.replicate 1088 0#8, idle, by decide +kernel⟩

/-- SpiIndexAndSlotWrites: states and operands that meet the hypotheses of its clauses. -/
theorem meets_SpiIndexAndSlotWrites :
    (∃ (v : BitVec 16) (s : State), s.mbx.live = true ∧ indexGap s.mbx.inCons s.mbx.inProd + indexGap s.mbx.inProd v ≤
    64) ∧
    (∃ (v : BitVec 16) (s : State), s.mbx.live = true ∧ 64 < indexGap s.mbx.inCons s.mbx.inProd + indexGap
    s.mbx.inProd v) ∧
    (∃ (v : BitVec 16) (s : State), s.mbx.live = true ∧ indexGap s.mbx.outCons v ≤ indexGap s.mbx.outCons
    s.mbx.outProd) ∧
    (∃ (v : BitVec 16) (s : State), s.mbx.live = true ∧ indexGap s.mbx.outCons s.mbx.outProd < indexGap s.mbx.outCons
    v) ∧
    (∃ (v : BitVec 16) (s : State), s.mbx.live = true ∧ indexGap s.mbx.evtCons v ≤ indexGap s.mbx.evtCons
    s.mbx.evtProd) ∧
    (∃ (v : BitVec 16) (s : State), s.mbx.live = true ∧ indexGap s.mbx.evtCons s.mbx.evtProd < indexGap s.mbx.evtCons
    v) ∧
    (∃ (a : Nat) (s : State), s.mbx.live = true ∧ a < 0x1000 ∧ ownedSlot s.mbx (a / 64) = false) ∧
    (∃ (a : Nat) (s : State), s.mbx.live = true ∧ a < 0x1000 ∧ ownedSlot s.mbx (a / 64) = true) := by
  refine ⟨?_, ?_, ?_, ?_, ?_, ?_, ?_, ?_⟩
  · exact ⟨64#16, idle, by decide +kernel⟩
  · exact ⟨65#16, idle, by decide +kernel⟩
  · exact ⟨0#16, idle, by decide +kernel⟩
  · exact ⟨1#16, idle, by decide +kernel⟩
  · exact ⟨0#16, idle, by decide +kernel⟩
  · exact ⟨1#16, idle, by decide +kernel⟩
  · exact ⟨0xFFF, idle, by decide +kernel⟩
  · exact ⟨0, idle.modMbx fun b => { b with inProd := 1#16 }, by decide +kernel⟩

/-- ResponsesLeaveInCompletionOrder: states and operands that meet the hypotheses of its clauses. -/
theorem meets_ResponsesLeaveInCompletionOrder :
    ∃ (d : Nat) (ms : List Msg) (s : State), ms ≠ [] ∧ ms.length ≤ 16 ∧ s.mbx.held = ms.map (fun m => (d, m)) := by
  exact ⟨7, List.replicate 16 {}, idle.modMbx fun b => { b with held := List.replicate 16 (7, {}) }, by
  decide +kernel⟩

/-- EventsEnterRingOrAreCounted: states and operands that meet the hypotheses of its clauses. -/
theorem meets_EventsEnterRingOrAreCounted :
    (∃ (s : State), s.mbx.evtLost = 0 ∧ s.mbx.evtRing.length < 128) ∧
    (∃ (s : State), (s.mbx.evtLost ≠ 0 ∨ 128 ≤ s.mbx.evtRing.length)) ∧
    (∃ (s : State), s.mbx.evtLost ≠ 0 ∧ s.mbx.evtRing.length < 128) := by
  refine ⟨?_, ?_, ?_⟩
  · exact ⟨idle.modMbx fun b => { b with evtRing := List.replicate 127 {} }, by decide +kernel⟩
  · exact ⟨idle.modMbx fun b => { b with evtRing := List.replicate 128 {} }, by decide +kernel⟩
  · exact ⟨idle.modMbx fun b => { b with evtLost := 1 }, by decide +kernel⟩

/-- UnitStagingCommandsComplete: states and operands that meet the hypotheses of its clauses. -/
theorem meets_UnitStagingCommandsComplete :
    (∃ (m : Cmd) (s : State) (c : CfgSet) (i : Nat) (a : Nat), ∃ e, e = entered opUnitCreate m s ∧ ∃ u, u =
    { createDesc m with gen := kvGet 0 e.units.gens i, firstSlot := a } ∧ accepted opUnitCreate 0 m s ∧ e.cfg.staged =
    some c ∧ e.cfg.pend = none ∧ checkHandle e c (m.h 2) = none ∧ createRange c m = true ∧ allocEntry e = some i ∧
    slotRun e (createDesc m).bankSlots = some a ∧ nameTaken c (m.h 2) none (m.bytes 16 16) = false ∧ depthOk
    { c with units := kvSet c.units i u } = true) ∧
    (∃ (m : Cmd) (s : State) (c : CfgSet), ∃ e, e = entered opUnitDelete m s ∧ ∃ i, i = hIndex m.handle ∧ accepted
    opUnitDelete 0 m s ∧ e.cfg.staged = some c ∧ e.cfg.pend = none ∧ c.children i = [] ∧ loopRefers c m.handle = false
    ∧ routeRefers c m.handle = false ∧ gearRefers e m.handle = false ∧ 32 ≤ i) ∧
    (∃ (m : Cmd) (s : State) (c : CfgSet) (u : UnitDesc), ∃ e, e = entered opUnitMove m s ∧ ∃ i, i = hIndex m.handle ∧
    ∃ u', u' = { u with parent := m.h 2, order := m.u 1 1 } ∧ accepted opUnitMove 0 m s ∧ e.cfg.staged = some c ∧
    e.cfg.pend = none ∧ c.unit i = some u ∧ checkHandle e c (m.h 2) = none ∧ 32 ≤ i ∧ parentAllowed u.utype (c.typeOf
    (m.h 2)) = true ∧ c.under i (hIndex (m.h 2)) = false ∧ (c.typeOf (m.h 2) = 0x0F → u.parent ≠ m.h 2 → (c.children
    (hIndex (m.h 2))).length < 255) ∧ nameTaken c (m.h 2) (some i) u.name = false ∧ depthOk
    { c with units := kvSet c.units i u' } = true) ∧
    (∃ (m : Cmd) (s : State) (c : CfgSet) (u : UnitDesc), ∃ e, e = entered opUnitSet m s ∧ ∃ i, i = hIndex m.handle ∧
    accepted opUnitSet 0 m s ∧ e.cfg.staged = some c ∧ e.cfg.pend = none ∧ c.unit i = some u ∧ (m.u 2 1 = 0 ∨ (m.u 2 1
    = 2 ∧ u.utype = 0x0F)) ∧ m.u 4 2 ≤ 10000 ∧ m.u 6 2 ≤ 60000 ∧ (32 ≤ i ∨ m.bytes 16 16 = u.name) ∧ nameTaken c
    u.parent (some i) (m.bytes 16 16) = false) := by
  refine ⟨?_, ?_, ?_, ?_⟩
  · exact ⟨cmd [(0, 1, 0x0F), (16, 1, 65)], idle.modCfg fun c => { c with staged := some {} }, {}, 32, 0, _, rfl, _,
      rfl, accepted_of (by decide +kernel), by decide +kernel⟩
  · exact ⟨cmdOn 32 [], (plant [(32, 0x0F)]).modCfg fun c => { c with staged := some c.cur }, (plant [(32,
      0x0F)]).cfg.cur, _, rfl, _, rfl, accepted_of (by decide +kernel), by decide +kernel⟩
  · exact ⟨cmdOn 32 [(2, 2, 0)], (plant [(32, 0x0F)]).modCfg fun c => { c with staged := some c.cur }, (plant [(32,
      0x0F)]).cfg.cur, { utype := 0x0F, parent := 0#16 }, _, rfl, _, rfl, _, rfl, accepted_of (by decide +kernel), by
      decide +kernel⟩
  · exact ⟨cmdOn 32 [(2, 1, 2), (4, 2, 10000), (6, 2, 60000), (16, 1, 65)], (plant [(32, 0x0F)]).modCfg fun c =>
      { c with staged := some c.cur }, (plant [(32, 0x0F)]).cfg.cur, { utype := 0x0F, parent := 0#16 }, _, rfl, _, rfl,
      accepted_of (by decide +kernel), by decide +kernel⟩

/-- UnitReadsComplete: states and operands that meet the hypotheses of its clauses. -/
theorem meets_UnitReadsComplete :
    (∃ (m : Cmd) (s : State), accepted opUnitRead 0 m s ∧ m.u 1 1 = 0) ∧
    (∃ (m : Cmd) (s : State) (c : CfgSet), ∃ e, e = entered opUnitRead m s ∧ accepted opUnitRead 0 m s ∧ m.u 1 1 = 1 ∧
    e.cfg.staged = some c) ∧
    (∃ (m : Cmd) (s : State) (i : Nat), ∃ e, e = entered opUnitLookup m s ∧ ∃ named, named = (fun j => (e.cfg.cur.unit
    j).any fun u => u.name == m.bytes 16 16) ∧ accepted opUnitLookup 0 m s ∧ checkHandle e e.cfg.cur (m.h 0) = none ∧
    (e.cfg.cur.children (hIndex (m.h 0))).find? named = some i) ∧
    (∃ (m : Cmd) (s : State), ∃ e, e = entered opUnitLookup m s ∧ accepted opUnitLookup 0 m s ∧ checkHandle e
    e.cfg.cur (m.h 0) = none ∧ (∀ j ∈ e.cfg.cur.children (hIndex (m.h 0)), ((e.cfg.cur.unit j).any fun u => u.name ==
    m.bytes 16 16) = false)) ∧
    (∃ (m : Cmd) (s : State), accepted opUnitChildren 0 m s) := by
  refine ⟨?_, ?_, ?_, ?_, ?_⟩
  · exact ⟨cmdOn 31 [], idle, accepted_of (by decide +kernel), by decide +kernel⟩
  · exact ⟨cmdOn 31 [(1, 1, 1)], idle.modCfg fun c => { c with staged := some {} }, {}, _, rfl, accepted_of (by
      decide +kernel), by decide +kernel⟩
  · exact ⟨{ handle := 0xFFFF#16, payload := padTo 16 [] ++ nameBytes [66, 76, 48] ++ padTo 16 [] }, idle, 1, _, rfl,
      _, rfl, accepted_of (by decide +kernel), by decide +kernel⟩
  · exact ⟨cmd [], idle, _, rfl, accepted_of (by decide +kernel), by decide +kernel⟩
  · exact ⟨cmdOn 0 [(1, 1, 23)], idle, accepted_of (by decide +kernel)⟩

/-- FanOutsEnableInOrderAndUndo: states and operands that meet the hypotheses of its clauses. -/
theorem meets_FanOutsEnableInOrderAndUndo :
    (∃ (m : Cmd) (s : State), ∃ e, e = entered opUnitEnable m s ∧ accepted opUnitEnable 0 m s ∧ fanBusy e m.handle =
    false ∧ (∀ g ∈ e.units.fans, g.cur.isSome = true)) ∧
    (∃ (m : Cmd) (s : State), ∃ e, e = entered opUnitDisable m s ∧ accepted opUnitDisable 0 m s ∧ fanBusy e m.handle =
    false ∧ (∀ g ∈ e.units.fans, g.cur.isSome = true)) ∧
    (∃ (m : Cmd) (s : State), ∃ e, e = entered opUnitEnable m s ∧ ∃ i, i = hIndex m.handle ∧ accepted opUnitEnable 0 m
    s ∧ fanBusy e m.handle = false ∧ (∀ g ∈ e.units.fans, g.cur.isSome = true) ∧ e.cfg.cur.children i = [] ∧
    e.cfg.cur.handle i = m.handle ∧ unitFailed e i = false ∧ canReady e i = true ∧ stepDelayOf e m.handle = 0) ∧
    (∃ (m : Cmd) (s : State), ∃ e, e = entered opUnitDisable m s ∧ ∃ i, i = hIndex m.handle ∧ accepted opUnitDisable 0
    m s ∧ fanBusy e m.handle = false ∧ (∀ g ∈ e.units.fans, g.cur.isSome = true) ∧ e.cfg.cur.children i = [] ∧
    e.cfg.cur.handle i = m.handle ∧ nodeServes e i = true ∧ stepDelayOf e m.handle = 0) ∧
    (∃ (f : FanOut) (h : Handle) (r : List Handle), f.todo = h :: r ∧ f.disable = false ∧ f.undo = false) ∧
    (∃ (f : FanOut) (h : Handle) (r : List Handle) (s : State), f.todo = h :: r ∧ f.disable = true ∧ f.undo = false ∧
    nodeServes s (hIndex h) = false) ∧
    (∃ (f : FanOut), f.todo = []) ∧
    (∃ (m : Cmd) (s : State), ∃ e, e = entered opUnitEnable m s ∧ accepted opUnitEnable 0 m s ∧ fanBusy e m.handle =
    true ∧ (∀ f ∈ e.units.fans, f.cur.isSome = true)) ∧
    (∃ (m : Cmd) (s : State), ∃ e, e = entered opUnitDisable m s ∧ accepted opUnitDisable 0 m s ∧ fanBusy e m.handle =
    true ∧ (∀ f ∈ e.units.fans, f.cur.isSome = true)) ∧
    (∃ (r : Handle) (h : Handle) (f : FanOut) (s : State), (s.units.fans.find? fun g => g.root == r && g.cur == some h
    && g.done.contains h) = some f) ∧
    (∃ (r : Handle) (h : Handle) (f : FanOut) (s : State), (s.units.fans.find? fun g => g.root == r && g.cur == some h
    && g.todo.contains h) = some f) := by
  refine ⟨?_, ?_, ?_, ?_, ?_, ?_, ?_, ?_, ?_, ?_, ?_⟩
  · exact ⟨cmdOn 31 [], idle, _, rfl, accepted_of (by decide +kernel), by decide +kernel⟩
  · exact ⟨cmdOn 31 [], idle, _, rfl, accepted_of (by decide +kernel), by decide +kernel⟩
  · exact ⟨cmdOn 31 [], idle, _, rfl, _, rfl, accepted_of (by decide +kernel), by decide +kernel⟩
  · exact ⟨cmdOn 31 [], idle, _, rfl, _, rfl, accepted_of (by decide +kernel), by decide +kernel⟩
  · exact ⟨{ root := 31#16, todo := [31#16] }, 31#16, [], by decide +kernel⟩
  · exact ⟨{ root := 32#16, todo := [32#16], disable := true }, 32#16, [], withCfg [(0x09, 0, 92, 2, 33)] (plant [(32,
      6), (33, 5)]), by decide +kernel⟩
  · exact ⟨{ root := 31#16 }, by decide +kernel⟩
  · exact ⟨cmdOn 31 [], idle.modUnits fun u => { u with fans := [{ root := 0#16, cur := some 1#16 }] }, _, rfl,
      accepted_of (by decide +kernel), by decide +kernel⟩
  · exact ⟨cmdOn 31 [], idle.modUnits fun u => { u with fans := [{ root := 0#16, cur := some 1#16 }] }, _, rfl,
      accepted_of (by decide +kernel), by decide +kernel⟩
  · exact ⟨0#16, 1#16, { root := 0#16, cur := some 1#16, done := [1#16] }, idle.modUnits fun u =>
      { u with fans := [{ root := 0#16, cur := some 1#16, done := [1#16] }] }, by decide +kernel⟩
  · exact ⟨0#16, 1#16, { root := 0#16, cur := some 1#16, todo := [1#16] }, idle.modUnits fun u =>
      { u with fans := [{ root := 0#16, cur := some 1#16, todo := [1#16] }] }, by decide +kernel⟩

/-- StagedSetCommandsComplete: states and operands that meet the hypotheses of its clauses. -/
theorem meets_StagedSetCommandsComplete :
    (∃ (m : Cmd) (s : State), ∃ e, e = entered opCfgStageBegin m s ∧ accepted opCfgStageBegin 0 m s ∧ e.cfg.staged =
    none) ∧
    (∃ (m : Cmd) (s : State) (c : CfgSet), ∃ e, e = entered opCfgStageBegin m s ∧ accepted opCfgStageBegin 0 m s ∧
    e.cfg.staged = some c) ∧
    (∃ (m : Cmd) (s : State) (c : CfgSet), ∃ e, e = entered opCfgWrite m s ∧ ∃ c', c' = c.write (m.u 0 1) (m.u 2 2)
    (m.u 4 2) (m.bytes 16 (m.u 6 2)) ∧ accepted opCfgWrite 0 m s ∧ inEntry m = true ∧ e.cfg.staged = some c ∧
    e.cfg.pend = none ∧ c'.size ≤ 262144) ∧
    (∃ (m : Cmd) (s : State) (c : CfgSet), ∃ e, e = entered opCfgStageAbort m s ∧ accepted opCfgStageAbort 0 m s ∧
    e.cfg.staged = some c) ∧
    (∃ (m : Cmd) (s : State) (c : CfgSet), ∃ e, e = entered opCfgRead m s ∧ accepted opCfgRead 0 m s ∧ inEntry m =
    true ∧ m.u 1 1 ≤ 2 ∧ sourceSet (m.u 1 1) e = some c) ∧
    (∃ (m : Cmd) (s : State), accepted opCfgStatus 0 m s) := by
  refine ⟨?_, ?_, ?_, ?_, ?_, ?_⟩
  · exact ⟨cmd [], idle, _, rfl, accepted_of (by decide +kernel), by decide +kernel⟩
  · exact ⟨cmd [], idle.modCfg fun c => { c with staged := some {} }, {}, _, rfl, accepted_of (by decide +kernel), by
      decide +kernel⟩
  · exact ⟨cmd [(0, 1, 1), (2, 2, 15), (4, 2, 15), (6, 2, 1)], idle.modCfg fun c => { c with staged := some {} }, {},
      _, rfl, _, rfl, accepted_of (by decide +kernel), by decide +kernel⟩
  · exact ⟨cmd [], idle.modCfg fun c => { c with staged := some {} }, {}, _, rfl, accepted_of (by decide +kernel), by
      decide +kernel⟩
  · exact ⟨cmd [(0, 1, 1), (1, 1, 2), (6, 2, 1)], idle.modCfg fun c => { c with prev := some (1, {}) }, {}, _, rfl,
      accepted_of (by decide +kernel), by decide +kernel⟩
  · exact ⟨cmd [], idle, accepted_of (by decide +kernel)⟩

/-- CommitConsumesNextVersion: states and operands that meet the hypotheses of its clauses. -/
theorem meets_CommitConsumesNextVersion :
    (∃ (m : Cmd) (s : State) (c : CfgSet), ∃ e, e = entered opCfgCommit m s ∧ ∃ need, need = commitNeed (startCmd
    opCfgCommit.op m s) ∧ accepted opCfgCommit need m s ∧ e.cfg.staged = some c ∧ e.cfg.pend = none ∧ m.bytes 0 32 =
    setDigest c ∧ contentOk e c = true ∧ e.cfg.highVer < 0xFFFFFFFF ∧ (e.cfg.routePend.isSome && routeDiffers
    e.cfg.cur c) = false ∧ tooMany c = false) ∧
    (∃ (m : Cmd) (s : State) (v : Nat) (c : CfgSet), ∃ e, e = entered opCfgRevert m s ∧ ∃ need, need = revertNeed
    (startCmd opCfgRevert.op m s) ∧ accepted opCfgRevert need m s ∧ e.cfg.prev = some (v, c) ∧ e.cfg.pend = none ∧ m.u
    0 4 = v ∧ e.cfg.highVer < 0xFFFFFFFF ∧ (e.cfg.routePend.isSome && routeDiffers e.cfg.cur c) = false) ∧
    (∃ (p : Pend) (s : State), s.cfg.pend = some p ∧ s.cfg.writing = true) ∧
    (∃ (m : Cmd) (s : State) (c : CfgSet) (p : Pend), ∃ e, e = entered opCfgCommit m s ∧ accepted opCfgCommit
    (commitNeed (startCmd opCfgCommit.op m s)) m s ∧ e.cfg.staged = some c ∧ e.cfg.pend = some p) ∧
    (∃ (m : Cmd) (s : State) (p : Pend), ∃ e, e = entered opCfgRevert m s ∧ accepted opCfgRevert (revertNeed (startCmd
    opCfgRevert.op m s)) m s ∧ e.cfg.pend = some p) := by
  refine ⟨?_, ?_, ?_, ?_, ?_⟩
  · refine ⟨commitCmd, stagedState, {}, _, rfl, _, rfl, accepted_of commitCmd_accepted, ?_⟩
    exact ⟨rfl, rfl, bytesAt_digest [] _ _, by decide +kernel⟩
  · exact ⟨cmd [(0, 4, 3)], idle.modCfg fun c => { c with prev := some (3, {}), highVer := 0xFFFFFFFE }, 3, {}, _,
      rfl, _, rfl, accepted_of (by decide +kernel), by decide +kernel⟩
  · exact ⟨{}, idle.modCfg fun c => { c with pend := some {}, writing := true }, by decide +kernel⟩
  · exact ⟨cmd [], idle.modCfg fun c => { c with pend := some {}, staged := some {} }, {}, {}, _, rfl, accepted_of (by
      decide +kernel), by decide +kernel⟩
  · exact ⟨cmd [], idle.modCfg fun c => { c with pend := some {} }, {}, _, rfl, accepted_of (by decide +kernel), by
      decide +kernel⟩

/-- JobCommandsComplete: states and operands that meet the hypotheses of its clauses. -/
theorem meets_JobCommandsComplete :
    (∃ (m : Cmd) (s : State) (base : Nat), ∃ e, e = entered opJobSubmit m s ∧ accepted opJobSubmit 0 m s ∧ submitRange
    m e = true ∧ (e.jobs.any fun j => j.id == m.u 0 4 && j.live) = false ∧ mounted e = true ∧ galNear e.gal = false ∧
    frameRun e (m.u 4 4) = some base) ∧
    (∃ (m : Cmd) (s : State) (j : Job), ∃ e, e = entered opJobCancel m s ∧ accepted opJobCancel 0 m s ∧ (e.jobs.find?
    fun j => j.id == m.u 0 4 && j.live) = some j) ∧
    (∃ (m : Cmd) (s : State) (j : Job), ∃ e, e = entered opJobHold m s ∧ accepted opJobHold 0 m s ∧ jobOf e (m.u 0 4)
    = some j ∧ (j.state = .queued ∨ j.state = .active)) ∧
    (∃ (m : Cmd) (s : State) (j : Job), ∃ e, e = entered opJobRelease m s ∧ accepted opJobRelease 0 m s ∧ jobOf e (m.u
    0 4) = some j ∧ j.state = .held ∧ (∀ k ∈ e.jobs, k.id = j.id → k = j)) ∧
    (∃ (m : Cmd) (s : State) (j : Job), ∃ e, e = entered opJobStatus m s ∧ accepted opJobStatus 0 m s ∧ jobOf e (m.u 0
    4) = some j) ∧
    (∃ (m : Cmd) (s : State) (j : Job), ∃ e, e = entered opJobHold m s ∧ accepted opJobHold 0 m s ∧ jobOf e (m.u 0 4)
    = some j ∧ j.state ≠ .queued ∧ j.state ≠ .active) ∧
    (∃ (m : Cmd) (s : State) (j : Job), ∃ e, e = entered opJobRelease m s ∧ accepted opJobRelease 0 m s ∧ jobOf e (m.u
    0 4) = some j ∧ j.state ≠ .held) ∧
    (∃ (m : Cmd) (s : State), ∃ e, e = entered opJobCancel m s ∧ accepted opJobCancel 0 m s ∧ (e.jobs.any fun j =>
    j.id == m.u 0 4 && j.live) = false) ∧
    (∃ (m : Cmd) (s : State), ∃ e, e = entered opJobStatus m s ∧ accepted opJobStatus 0 m s ∧ jobOf e (m.u 0 4) =
    none) := by
  refine ⟨?_, ?_, ?_, ?_, ?_, ?_, ?_, ?_, ?_⟩
  · exact ⟨cmd [(0, 4, 1), (4, 4, 262144), (8, 2, 1), (10, 1, 2), (12, 2, 200)], spooled idle, 0, _, rfl, accepted_of
      (by decide +kernel), by decide +kernel⟩
  · exact ⟨cmd [(0, 4, 1)], { idle with jobs := [{ id := 1 }] }, { id := 1 }, _, rfl, accepted_of (by decide +kernel),
      by decide +kernel⟩
  · exact ⟨cmd [(0, 4, 1)], { idle with jobs := [{ id := 1 }] }, { id := 1 }, _, rfl, accepted_of (by decide +kernel),
      by decide +kernel⟩
  · exact ⟨cmd [(0, 4, 1)], { idle with jobs := [{ id := 1, state := .held }] }, { id := 1, state := .held }, _, rfl,
      accepted_of (by decide +kernel), by decide +kernel⟩
  · exact ⟨cmd [(0, 4, 1)], { idle with jobs := [{ id := 1 }] }, { id := 1 }, _, rfl, accepted_of (by decide +kernel),
      by decide +kernel⟩
  · exact ⟨cmd [(0, 4, 1)], { idle with jobs := [{ id := 1, state := .done }] }, { id := 1, state := .done }, _, rfl,
      accepted_of (by decide +kernel), by decide +kernel⟩
  · exact ⟨cmd [(0, 4, 1)], { idle with jobs := [{ id := 1 }] }, { id := 1 }, _, rfl, accepted_of (by decide +kernel),
      by decide +kernel⟩
  · exact ⟨cmd [(0, 4, 1)], idle, _, rfl, accepted_of (by decide +kernel), by decide +kernel⟩
  · exact ⟨cmd [(0, 4, 1)], idle, _, rfl, accepted_of (by decide +kernel), by decide +kernel⟩

/-- GalleryCommandsComplete: states and operands that meet the hypotheses of its clauses. -/
theorem meets_GalleryCommandsComplete :
    (∃ (m : Cmd) (s : State) (r : GalRec) (rs : List GalRec), ∃ e, e = entered opGalRead m s ∧ accepted opGalRead 0 m
    s ∧ 1 ≤ m.u 4 1 ∧ m.u 4 1 ≤ 16 ∧ ((galAll e).dropWhile fun x => x.seq != m.u 0 4) = r :: rs) ∧
    (∃ (m : Cmd) (s : State), accepted opGalStatus 0 m s) ∧
    (∃ (m : Cmd) (s : State) (before : List GalRec) (rs : List GalRec) (after : List GalRec) (r : GalRec) (z :
    GalRec), ∃ e, e = entered opGalExport m s ∧ accepted opGalExport 0 m s ∧ galAll e = before ++ rs ++ after ∧ (∀ x ∈
    before, x.seq ≠ m.u 0 4) ∧ rs.head? = some r ∧ r.seq = m.u 0 4 ∧ rs.getLast? = some z ∧ z.seq = m.u 4 4 ∧ (∀ x ∈
    rs.dropLast, x.seq ≠ m.u 4 4) ∧ m.u 0 4 ≤ m.u 4 4) ∧
    (∃ (m : Cmd) (s : State) (before : List GalRec) (after : List GalRec) (z : GalRec), ∃ e, e = entered opGalClear m
    s ∧ accepted opGalClear 1 m s ∧ galAll e = before ++ z :: after ∧ (∀ x ∈ before, x.seq ≠ m.u 0 4) ∧ z.seq = m.u 0
    4) ∧
    (∃ (m : Cmd) (s : State), ∃ e, e = entered opGalRead m s ∧ accepted opGalRead 0 m s ∧ 1 ≤ m.u 4 1 ∧ m.u 4 1 ≤ 16 ∧
    (∀ x ∈ galAll e, x.seq ≠ m.u 0 4)) ∧
    (∃ (m : Cmd) (s : State), ∃ e, e = entered opGalClear m s ∧ accepted opGalClear 1 m s ∧ (∀ x ∈ galAll e, x.seq ≠
    m.u 0 4)) ∧
    (∃ (s : State), coreStalled s 3 = false ∧ s.gal.missed = 0) := by
  refine ⟨?_, ?_, ?_, ?_, ?_, ?_, ?_⟩
  · exact ⟨cmd [(0, 4, 1), (4, 1, 16)], idle.modGal fun g => { g with buf := [{ seq := 1 }] }, { seq := 1 }, [], _,
      rfl, accepted_of (by decide +kernel), by decide +kernel⟩
  · exact ⟨cmd [], idle, accepted_of (by decide +kernel)⟩
  · exact ⟨cmd [(0, 4, 2), (4, 4, 3)], idle.modGal fun g =>
      { g with recs := [{ seq := 1 }, { seq := 2 }], buf := [{ seq := 3 }] }, [{ seq := 1 }], [{ seq := 2 },
      { seq := 3 }], [], { seq := 2 }, { seq := 3 }, _, rfl, accepted_of (by decide +kernel), by decide +kernel⟩
  · exact ⟨cmd [(0, 4, 1)], granted opGalClear (cmd [(0, 4, 1)]) (idle.modGal fun g =>
      { g with recs := [{ seq := 1 }, { seq := 2 }] }), [], [{ seq := 2 }], { seq := 1 }, _, (entered_granted rfl
      rfl).symm, accepted_granted (by decide +kernel) rfl rfl (by decide +kernel), by decide +kernel⟩
  · exact ⟨cmd [(0, 4, 1), (4, 1, 1)], idle, _, rfl, accepted_of (by decide +kernel), by decide +kernel⟩
  · exact ⟨cmd [(0, 4, 1)], granted opGalClear (cmd [(0, 4, 1)]) idle, _, (entered_granted rfl rfl).symm,
      accepted_granted (by decide +kernel) rfl rfl (by decide +kernel), by decide +kernel⟩
  · exact ⟨idle, by decide +kernel⟩

/-- LedgerCommandsComplete: states and operands that meet the hypotheses of its clauses. -/
theorem meets_LedgerCommandsComplete :
    (∃ (m : Cmd) (s : State) (r : LedgerRec) (rs : List LedgerRec), ∃ e, e = entered opLdgRead m s ∧ accepted
    opLdgRead 0 m s ∧ 1 ≤ m.u 8 1 ∧ m.u 8 1 ≤ 16 ∧ ledgerRun e (m.u 8 1) (m.u 0 8) = r :: rs) ∧
    (∃ (m : Cmd) (s : State), accepted opLdgStatus 0 m s) ∧
    (∃ (m : Cmd) (s : State), accepted opLdgAck 0 m s ∧ m.u 8 2 ≤ 8192) ∧
    (∃ (m : Cmd) (s : State), accepted opLdgAck 0 m s ∧ 8192 < m.u 8 2) ∧
    (∃ (a : Nat) (w : Nat) (s : State), w ≤ 8192 ∧ s.ledger.acked ≤ a ∧ a ≤ max (max s.ledger.sent s.ledger.acked)
    (heldBefore s) ∧ eventLane s = none) ∧
    (∃ (a : Nat) (w : Nat) (s : State), (8192 < w ∨ a < s.ledger.acked ∨ max (max s.ledger.sent s.ledger.acked)
    (heldBefore s) < a)) ∧
    (∃ (s : State), s.ledger.timer = true) ∧
    (∃ (r : LedgerRec) (rs : List LedgerRec) (s : State), regionState s = .available ∧ s.spool.ledgerOut = [] ∧
    openPage s = r :: rs) ∧
    (∃ (s : State), regionState s ≠ .available) ∧
    (∃ (l : List LedgerRec) (r : LedgerRec) (s : State), s.spool.ledgerOut = l ∧ l.getLast? = some r) := by
  refine ⟨?_, ?_, ?_, ?_, ?_, ?_, ?_, ?_, ?_, ?_⟩
  · exact ⟨cmd [(0, 4, 1), (8, 1, 16)], { idle with ledger := { queue := [{ serial := 1 }] } }, { serial := 1 }, [],
      _, rfl, accepted_of (by decide +kernel), by decide +kernel⟩
  · exact ⟨cmd [], idle, accepted_of (by decide +kernel)⟩
  · exact ⟨cmd [(8, 2, 8192)], idle, accepted_of (by decide +kernel), by decide +kernel⟩
  · exact ⟨cmd [(8, 2, 8193)], idle, accepted_of (by decide +kernel), by decide +kernel⟩
  · exact ⟨0, 8192, idle, by decide +kernel⟩
  · exact ⟨1, 8192, idle, by decide +kernel⟩
  · exact ⟨{ idle with ledger := { timer := true } }, by decide +kernel⟩
  · exact ⟨{ serial := 1, state := .printed }, [],
      { spooled idle with ledger := { queue := [{ serial := 1, state := .printed }] } }, by decide +kernel⟩
  · exact ⟨idle, by decide +kernel⟩
  · exact ⟨[{ serial := 1 }], { serial := 1 }, idle.modSpool fun p => { p with ledgerOut := [{ serial := 1 }] }, by
      decide +kernel⟩

/-- PressMotionCommandsComplete: states and operands that meet the hypotheses of its clauses. -/
theorem meets_PressMotionCommandsComplete :
    (∃ (m : Cmd) (s : State), accepted opMotPressStop 0 m s ∧ m.u 0 1 = 0) ∧
    (∃ (m : Cmd) (s : State), ∃ e, e = entered opMotPressThread m s ∧ accepted opMotPressThread 0 m s ∧ m.u 0 1 = 1 ∧
    noFlights e = true) ∧
    (∃ (m : Cmd) (s : State), ∃ e, e = entered opMotPressThread m s ∧ accepted opMotPressThread 0 m s ∧ m.u 0 1 = 1 ∧
    noFlights e = false) ∧
    (∃ (m : Cmd) (s : State), ∃ e, e = entered opMotPressRun m s ∧ accepted opMotPressRun 0 m s ∧ m.u 0 1 = 2 ∧
    stopActive e = false ∧ e.cfg.pend = none ∧ e.land.mode = .thread) ∧
    (∃ (m : Cmd) (s : State), ∃ e, e = entered opMotPressRun m s ∧ accepted opMotPressRun 0 m s ∧ m.u 0 1 = 2 ∧
    stopActive e = true) ∧
    (∃ (m : Cmd) (s : State), ∃ e, e = entered opMotJog m s ∧ ∃ v, v = signed 16 (m.u 0 2) ∧ accepted opMotJog 0 m s ∧
    -2500 < v ∧ v < 2500 ∧ e.land.mode = .thread ∧ e.land.run = .none ∧ m.u 4 4 = 0) ∧
    (∃ (m : Cmd) (s : State), ∃ e, e = entered opMotJog m s ∧ ∃ v, v = signed 16 (m.u 0 2) ∧ accepted opMotJog 0 m s ∧
    -2500 < v ∧ v < 2500 ∧ e.land.mode = .thread ∧ e.land.run = .none ∧ m.u 4 4 ≠ 0) ∧
    (∃ (m : Cmd) (s : State), ∃ e, e = entered opMotJog m s ∧ accepted opMotJog 0 m s ∧ -2500 < signed 16 (m.u 0 2) ∧
    signed 16 (m.u 0 2) < 2500 ∧ e.land.mode ≠ .thread) ∧
    (∃ (s : State), noFlights s = true ∧ s.land.stopReq = .stop ∧ s.gov.stopping = false) ∧
    (∃ (s : State), noFlights s = false ∧ s.land.stopReq = .stop) := by
  refine ⟨?_, ?_, ?_, ?_, ?_, ?_, ?_, ?_, ?_, ?_⟩
  · exact ⟨cmd [], idle, accepted_of (by decide +kernel), by decide +kernel⟩
  · exact ⟨cmd [(0, 1, 1)], idle, _, rfl, accepted_of (by decide +kernel), by decide +kernel⟩
  · exact ⟨cmd [(0, 1, 1)], idle.modLand fun l => { l with flights := [{}] }, _, rfl, accepted_of (by decide +kernel),
      by decide +kernel⟩
  · exact ⟨cmd [(0, 1, 2)], idle, _, rfl, accepted_of (by decide +kernel), by decide +kernel⟩
  · exact ⟨cmd [(0, 1, 2)], idle.modFaults fun f => { f with recs := [(0, { code := 0x6000, st := .active })] }, _,
      rfl, accepted_of (by decide +kernel), by decide +kernel⟩
  · exact ⟨cmd [(0, 2, 2499)], idle, _, rfl, _, rfl, accepted_of (by decide +kernel), by decide +kernel⟩
  · exact ⟨cmd [(0, 2, 63037), (4, 4, 1)], idle, _, rfl, _, rfl, accepted_of (by decide +kernel), by decide +kernel⟩
  · exact ⟨cmd [(0, 2, 2499)], idle.modLand fun l => { l with mode := .fine }, _, rfl, accepted_of (by
      decide +kernel), by decide +kernel⟩
  · exact ⟨idle.modLand fun l => { l with stopReq := .stop }, by decide +kernel⟩
  · exact ⟨idle.modLand fun l => { l with stopReq := .stop, flights := [{}] }, by decide +kernel⟩

/-- GearingCommandsComplete: states and operands that meet the hypotheses of its clauses. -/
theorem meets_GearingCommandsComplete :
    (∃ (m : Cmd) (s : State) (f : Follower), ∃ e, e = entered opMotGearHold m s ∧ accepted opMotGearHold 0 m s ∧
    followerOf e m.handle = some f ∧ m.u 1 1 = 0) ∧
    (∃ (m : Cmd) (s : State) (f : Follower), ∃ e, e = entered opMotGearFree m s ∧ accepted opMotGearFree 0 m s ∧
    followerOf e m.handle = some f ∧ m.u 1 1 = 1) ∧
    (∃ (m : Cmd) (s : State) (f : Follower), ∃ e, e = entered opMotGearRegear m s ∧ accepted opMotGearRegear 0 m s ∧
    followerOf e m.handle = some f ∧ m.u 1 1 = 2 ∧ m.u 8 4 ≠ 0 ∧ (gearOf e f).st ≠ .geared) ∧
    (∃ (m : Cmd) (s : State) (f : Follower), ∃ e, e = entered opMotGearRegear m s ∧ accepted opMotGearRegear 0 m s ∧
    followerOf e m.handle = some f ∧ (gearOf e f).st = .geared) ∧
    (∃ (m : Cmd) (s : State) (f : Follower), ∃ e, e = entered opMotRatio m s ∧ ∃ g, g = gearOf e f ∧ ∃ r : RatioChg, r
    = { num := m.i 4 4, den := m.u 8 4, xs := m.i 12 6, d := m.u 20 4 } ∧ accepted opMotRatio 0 m s ∧ followerOf e
    m.handle = some f ∧ g.queue.length < 4 ∧ (∀ c ∈ g.queue, c.stop ≤ r.xs ∨ r.stop < c.xs) ∧ (∀ c v, g.blend = some
    (c, v) → c.stop ≤ r.xs) ∧ r.den ≠ 0 ∧ ((r.d = 0 ∧ e.gov.speed = 0) ∨ (32 ≤ r.d ∧ r.d ≤ 16777215)) ∧ newelLines e ≤
    (r.xs : Rat) ∧ accelOk e f (ratioBefore g) (ratioOf r.num r.den) r.d = true) ∧
    (∃ (m : Cmd) (s : State) (f : Follower), ∃ e, e = entered opMotRatio m s ∧ accepted opMotRatio 0 m s ∧ followerOf
    e m.handle = some f ∧ 4 ≤ (gearOf e f).queue.length) ∧
    (∃ (m : Cmd) (s : State) (f : Follower), ∃ e, e = entered opMotRatioCancel m s ∧ accepted opMotRatioCancel 0 m s ∧
    followerOf e m.handle = some f ∧ (∃ r ∈ (gearOf e f).queue, r.xs = m.i 2 6)) ∧
    (∃ (m : Cmd) (s : State) (f : Follower) (r : RatioChg) (v : Int), ∃ e, e = entered opMotRatioCancel m s ∧ accepted
    opMotRatioCancel 0 m s ∧ followerOf e m.handle = some f ∧ (∀ c ∈ (gearOf e f).queue, c.xs ≠ m.i 2 6) ∧ (gearOf e
    f).blend = some (r, v) ∧ r.xs = m.i 2 6) ∧
    (∃ (m : Cmd) (s : State) (f : Follower), ∃ e, e = entered opMotPhase m s ∧ accepted opMotPhase 0 m s ∧ followerOf
    e m.handle = some f ∧ 32 ≤ m.u 14 2) := by
  refine ⟨?_, ?_, ?_, ?_, ?_, ?_, ?_, ?_, ?_⟩
  · exact ⟨cmdOn 32 [], plant [(32, 6)], .axis 0, _, rfl, accepted_of (by decide +kernel), by decide +kernel⟩
  · exact ⟨cmdOn 32 [(1, 1, 1)], plant [(32, 7)], .stepper 0, _, rfl, accepted_of (by decide +kernel), by
      decide +kernel⟩
  · exact ⟨cmdOn 32 [(1, 1, 2), (8, 4, 1)], plant [(32, 6)], .axis 0, _, rfl, accepted_of (by decide +kernel), by
      decide +kernel⟩
  · exact ⟨cmdOn 32 [(1, 1, 2), (8, 4, 1)], modAxis 0 (fun x => { x with gear := { x.gear with st := .geared } })
      (plant [(32, 6)]), .axis 0, _, rfl, accepted_of (by decide +kernel), by decide +kernel⟩
  · refine ⟨cmdOn 32 [(8, 4, 1), (20, 4, 32)], plant [(32, 6)], .axis 0, _, rfl, _, rfl, _, rfl, accepted_of (by
      decide +kernel), ?_⟩
    refine ⟨by decide +kernel, by decide +kernel, by decide +kernel, ?_, by decide +kernel⟩
    intro c v h; exact nomatch h
  · exact ⟨cmdOn 32 [(8, 4, 1), (20, 4, 32)], modAxis 0 (fun x =>
      { x with gear := { x.gear with queue := [{}, {}, {}, {}] } }) (plant [(32, 6)]), .axis 0, _, rfl, accepted_of (by
      decide +kernel), by decide +kernel⟩
  · exact ⟨cmdOn 32 [(2, 6, 7)], modAxis 0 (fun x => { x with gear := { x.gear with queue := [{ xs := 7 }] } }) (plant
      [(32, 6)]), .axis 0, _, rfl, accepted_of (by decide +kernel), by decide +kernel⟩
  · exact ⟨cmdOn 32 [(2, 6, 7)], modAxis 0 (fun x =>
      { x with gear := { x.gear with blend := some ({ xs := 7 }, 0) } }) (plant [(32, 6)]), .axis 0, { xs := 7 }, 0, _,
      rfl, accepted_of (by decide +kernel), by decide +kernel⟩
  · exact ⟨cmdOn 32 [(14, 2, 32)], plant [(32, 6)], .axis 0, _, rfl, accepted_of (by decide +kernel), by
      decide +kernel⟩

/-- AxisAndSolenoidCommandsComplete: states and operands that meet the hypotheses of its clauses. -/
theorem meets_AxisAndSolenoidCommandsComplete :
    (∃ (m : Cmd) (s : State) (a : Nat), ∃ e, e = entered opMotHome m s ∧ accepted opMotHome 0 m s ∧ followerOf e
    m.handle = some (.axis a) ∧ (e.axis a).gear.st = .free) ∧
    (∃ (m : Cmd) (s : State) (a : Nat), ∃ e, e = entered opMotHome m s ∧ accepted opMotHome 0 m s ∧ followerOf e
    m.handle = some (.axis a) ∧ (e.axis a).gear.st ≠ .free) ∧
    (∃ (m : Cmd) (s : State) (a : Nat), ∃ e, e = entered opMotMove m s ∧ accepted opMotMove 0 m s ∧ followerOf e
    m.handle = some (.axis a) ∧ (e.axis a).gear.st = .free ∧ m.u 8 4 ≠ 0 ∧ (m.u 1 1 = 1 ∨ (m.u 1 1 = 0 ∧ (e.axis
    a).homed = true))) ∧
    (∃ (m : Cmd) (s : State) (a : Nat), ∃ e, e = entered opMotMove m s ∧ accepted opMotMove 0 m s ∧ followerOf e
    m.handle = some (.axis a) ∧ (e.axis a).gear.st ≠ .free ∧ m.u 8 4 ≠ 0 ∧ m.u 1 1 ≤ 1) ∧
    (∃ (m : Cmd) (s : State) (k : Nat), ∃ e, e = entered opMotSolFire m s ∧ accepted opMotSolFire 0 m s ∧
    e.cfg.cur.rank 0x0C m.handle = some k ∧ e.cfg.cur.typeOf m.handle = 0x0C ∧ m.u 1 1 = 1 ∧ (liveOf e (hIndex
    m.handle)).st = .ready) ∧
    (∃ (m : Cmd) (s : State) (k : Nat), ∃ e, e = entered opMotSolFire m s ∧ ∃ t, t = 16 * (e.ring.cyc + 1) ∧ accepted
    opMotSolFire 0 m s ∧ e.cfg.cur.rank 0x0C m.handle = some k ∧ e.cfg.cur.typeOf m.handle = 0x0C ∧ m.u 1 1 = 0 ∧ 1 ≤
    m.u 2 2 ∧ m.u 2 2 ≤ 10000 ∧ (liveOf e (hIndex m.handle)).st = .ready ∧ (e.sol k).holdEnd ≤ t ∧ e.cfgGet 0x0D k 3 1
    = 0xFF) ∧
    (∃ (m : Cmd) (s : State) (k : Nat), ∃ e, e = entered opMotSolFire m s ∧ accepted opMotSolFire 0 m s ∧
    e.cfg.cur.rank 0x0C m.handle = some k ∧ e.cfg.cur.typeOf m.handle = 0x0C ∧ m.u 1 1 = 0 ∧ 1 ≤ m.u 2 2 ∧ m.u 2 2 ≤
    10000 ∧ (e.sol k).holdEnd ≤ 16 * (e.ring.cyc + 1) ∧ fireAt e k (16 * (e.ring.cyc + 1)) (1000 * m.u 2 2) = none) := by
  refine ⟨?_, ?_, ?_, ?_, ?_, ?_, ?_⟩
  · exact ⟨cmdOn 32 [], plant [(32, 6)], 0, _, rfl, accepted_of (by decide +kernel), by decide +kernel⟩
  · exact ⟨cmdOn 32 [], modAxis 0 (fun x => { x with gear := { x.gear with st := .held } }) (plant [(32, 6)]), 0, _,
      rfl, accepted_of (by decide +kernel), by decide +kernel⟩
  · exact ⟨cmdOn 32 [(1, 1, 1), (8, 4, 1)], plant [(32, 6)], 0, _, rfl, accepted_of (by decide +kernel), by
      decide +kernel⟩
  · exact ⟨cmdOn 32 [(1, 1, 1), (8, 4, 1)], modAxis 0 (fun x => { x with gear := { x.gear with st := .geared } })
      (plant [(32, 6)]), 0, _, rfl, accepted_of (by decide +kernel), by decide +kernel⟩
  · exact ⟨cmdOn 32 [(1, 1, 1)], (plant [(32, 12)]).modUnits fun u => { u with live := [(32, { st := .ready })] }, 0,
      _, rfl, accepted_of (by decide +kernel), by decide +kernel⟩
  · exact ⟨cmdOn 32 [(2, 2, 10000)], (plant [(32, 12)]).modUnits fun u => { u with live := [(32, { st := .ready })] },
      0, _, rfl, _, rfl, accepted_of (by decide +kernel), by decide +kernel⟩
  · exact ⟨cmdOn 33 [(2, 2, 10000)], withCfg [(0x0D, 1, 3, 1, 0), (0x0D, 1, 8, 2, 1)]
      { plant [(32, 12), (33, 12)] with sols := [(0, { start := 0, holdEnd := 9000 })] }, 1, _, rfl, accepted_of (by
      decide +kernel), by decide +kernel⟩

/-- LoopCommandsComplete: states and operands that meet the hypotheses of its clauses. -/
theorem meets_LoopCommandsComplete :
    (∃ (m : Cmd) (s : State) (k : Nat) (md : LoopMode), ∃ e, e = entered opMotLoopMode m s ∧ ∃ v : F32, v =
    BitVec.ofNat 32 (m.u 4 4) ∧ accepted opMotLoopMode 0 m s ∧ cmdSlot m e = some k ∧ loopModeOf (m.u 1 1) = some md ∧
    f32Finite v = true ∧ (md = .cascade → (outerOf e.cfg.cur k).isSome = true)) ∧
    (∃ (m : Cmd) (s : State) (k : Nat), ∃ e, e = entered opMotLoopTarget m s ∧ accepted opMotLoopTarget 0 m s ∧
    cmdSlot m e = some k ∧ q16 (e.cfgGet 0x0B k 32 4) ≤ q16 (m.u 4 4) ∧ q16 (m.u 4 4) ≤ q16 (e.cfgGet 0x0B k 36 4)) ∧
    (∃ (m : Cmd) (s : State) (k : Nat), ∃ e, e = entered opMotLoopTarget m s ∧ accepted opMotLoopTarget 0 m s ∧
    cmdSlot m e = some k ∧ q16 (e.cfgGet 0x0B k 36 4) < q16 (m.u 4 4)) ∧
    (∃ (m : Cmd) (s : State) (k : Nat) (j : Nat), ∃ e, e = entered opMotLoopSwitch m s ∧ accepted opMotLoopSwitch 0 m
    s ∧ checkHandle e e.cfg.cur (m.h 2) = none ∧ cmdSlot m e = some k ∧ slotAt e.cfg.cur (m.h 2) (m.u 1 1) = some j ∧
    e.cfgGet 0x0B k 8 1 ≠ 0 ∧ e.cfgGet 0x0B k 8 4 = e.cfgGet 0x0B j 8 4 ∧ inputValid e j = true) ∧
    (∃ (m : Cmd) (s : State) (k : Nat) (j : Nat), ∃ e, e = entered opMotLoopSwitch m s ∧ accepted opMotLoopSwitch 0 m
    s ∧ checkHandle e e.cfg.cur (m.h 2) = none ∧ cmdSlot m e = some k ∧ slotAt e.cfg.cur (m.h 2) (m.u 1 1) = some j ∧
    e.cfgGet 0x0B k 8 4 ≠ e.cfgGet 0x0B j 8 4) ∧
    (∃ (k : Nat) (s : State), (s.loop k).feRun = true ∧ (s.loop k).on = true ∧ s.cfgGet 0x0B k 0 1 ≠ 4) ∧
    (∃ (k : Nat) (s : State), (s.loop k).on = true ∧ inputValid s k = false ∧ s.mbx.waiters = []) ∧
    (∃ (k : Nat) (s : State), (s.loop k).on = true ∧ ((s.loop k).satHi = true ∨ (s.loop k).satLo = true) ∧ ((s.loop
    k).mode = .auto ∨ (s.loop k).mode = .cascade)) := by
  refine ⟨?_, ?_, ?_, ?_, ?_, ?_, ?_, ?_⟩
  · exact ⟨cmdOn 32 [(1, 1, 1)], plant [(32, 8)], 0, .auto, _, rfl, _, rfl, accepted_of (by decide +kernel), by
      decide +kernel⟩
  · exact ⟨cmdOn 32 [], plant [(32, 8)], 0, _, rfl, accepted_of (by decide +kernel), by decide +kernel⟩
  · exact ⟨cmdOn 32 [(4, 4, 1)], plant [(32, 8)], 0, _, rfl, accepted_of (by decide +kernel), by decide +kernel⟩
  · exact ⟨{ handle := 32#16, payload := pay [(0, 1, 192), (1, 1, 193), (2, 2, 32)] }, withCfg [(0x0B, 0, 4, 1, 1),
      (0x0B, 0, 8, 4, 7), (0x0B, 1, 8, 4, 7), (0x0B, 1, 4, 1, 3)]
      { plant [] with cfg := { cur := { units := [(32, { utype := 9, parent := 0#16, bankSlots := 2 })] } } }, 0, 1, _,
      rfl, accepted_of (by decide +kernel), by decide +kernel⟩
  · exact ⟨{ handle := 32#16, payload := pay [(0, 1, 192), (1, 1, 193), (2, 2, 32)] }, withCfg [(0x0B, 0, 8, 4, 7)]
      { plant [] with cfg := { cur := { units := [(32, { utype := 9, parent := 0#16, bankSlots := 2 })] } } }, 0, 1, _,
      rfl, accepted_of (by decide +kernel), by decide +kernel⟩
  · exact ⟨1023, modLoop 1023 (fun x => { x with on := true, feRun := true }) idle, by decide +kernel⟩
  · exact ⟨0, withCfg [(0x0B, 0, 4, 1, 1), (0x0B, 0, 6, 2, 31)] (modLoop 0 (fun x => { x with on := true })
      (idle.modUnits fun u => { u with live := [(31, { st := .faulted })] })), by decide +kernel⟩
  · exact ⟨0, modLoop 0 (fun x => { x with on := true, satHi := true, mode := .auto }) idle, by decide +kernel⟩

/-- MaintenanceCommandsComplete: states and operands that meet the hypotheses of its clauses. -/
theorem meets_MaintenanceCommandsComplete :
    (∃ (m : Cmd) (s : State), ∃ e, e = entered opMntStart m s ∧ ∃ k, k = m.u 1 1 ∧ accepted opMntStart 0 m s ∧ scopeOk
    e k m.handle = true ∧ clashes e k m.handle false = false ∧ actRuns e k m.handle = false ∧ (actOf e k
    m.handle).wanted = false ∧ m.u 2 1 ≤ 1 ∧ (k = 1 ∨ k = 8)) ∧
    (∃ (m : Cmd) (s : State), ∃ e, e = entered opMntStart m s ∧ ∃ k, k = m.u 1 1 ∧ accepted opMntStart 0 m s ∧ scopeOk
    e k m.handle = true ∧ clashes e k m.handle false = false ∧ actRuns e k m.handle = false ∧ (actOf e k
    m.handle).wanted = false ∧ m.u 2 1 ≤ 1 ∧ k ≠ 1 ∧ k ≠ 8 ∧ (scopeType k = 3 ∨ e.land.mode = .thread) ∧ quiet e k
    m.handle = true) ∧
    (∃ (m : Cmd) (s : State), ∃ e, e = entered opMntStart m s ∧ ∃ k, k = m.u 1 1 ∧ accepted opMntStart 0 m s ∧ scopeOk
    e k m.handle = true ∧ clashes e k m.handle false = false ∧ actRuns e k m.handle = false ∧ (actOf e k
    m.handle).wanted = false ∧ m.u 2 1 ≤ 1 ∧ k ≠ 1 ∧ k ≠ 8 ∧ (scopeType k = 3 ∨ e.land.mode = .thread) ∧ quiet e k
    m.handle = false) ∧
    (∃ (m : Cmd) (s : State), ∃ e, e = entered opMntStart m s ∧ accepted opMntStart 0 m s ∧ scopeOk e (m.u 1 1)
    m.handle = true ∧ clashes e (m.u 1 1) m.handle false = true) ∧
    (∃ (m : Cmd) (s : State), ∃ e, e = entered opMntStop m s ∧ ∃ k, k = m.u 1 1 ∧ accepted opMntStop 0 m s ∧ scopeOk e
    k m.handle = true ∧ actRuns e k m.handle = true) ∧
    (∃ (m : Cmd) (s : State), ∃ e, e = entered opMntStop m s ∧ accepted opMntStop 0 m s ∧ actRuns e (m.u 1 1) m.handle
    = false) ∧
    (∃ (m : Cmd) (s : State), ∃ e, e = entered opMntStatus m s ∧ accepted opMntStatus 0 m s ∧ scopeOk e (m.u 1 1)
    m.handle = true) ∧
    (∃ (k : Nat) (h : Handle) (s : State), scopeOk s k h = true ∧ actRuns s k h = false ∧ (actOf s k h).wanted = true
    ∧ quiet s k h = true ∧ clashes s k h false = false) ∧
    (∃ (k : Nat) (h : Handle) (s : State), scopeOk s k h = true ∧ actRuns s k h = true ∧ k ≠ 1 ∧ k ≠ 7 ∧ k ≠ 8) ∧
    (∃ (k : Nat) (h : Handle) (s : State), (k = 2 ∨ k = 8) ∧ scopeOk s k h = true) ∧
    (∃ (k : Nat) (h : Handle) (s : State), (actOf s k h).wanted = true) := by
  refine ⟨?_, ?_, ?_, ?_, ?_, ?_, ?_, ?_, ?_, ?_, ?_⟩
  · exact ⟨cmdOn 0 [(1, 1, 8), (2, 1, 1)], { idle with maint := { acts := [(8, 0#16, { stopped := true })] } }, _,
      rfl, _, rfl, accepted_of (by decide +kernel), by decide +kernel⟩
  · exact ⟨cmdOn 0 [(1, 1, 9), (2, 1, 1)], idle, _, rfl, _, rfl, accepted_of (by decide +kernel), by decide +kernel⟩
  · exact ⟨cmdOn 33 [(1, 1, 3), (2, 1, 1)], station0.modLand fun l =>
      { l with flights := [{ use := [(0, 0)], consumed := [(0, 1)] }] }, _, rfl, _, rfl, accepted_of (by
      decide +kernel), by decide +kernel⟩
  · exact ⟨cmdOn 33 [(1, 1, 2)], station0, _, rfl, accepted_of (by decide +kernel), by decide +kernel⟩
  · exact ⟨cmdOn 0 [(1, 1, 8)], idle, _, rfl, _, rfl, accepted_of (by decide +kernel), by decide +kernel⟩
  · exact ⟨cmdOn 0 [(1, 1, 9)], idle, _, rfl, accepted_of (by decide +kernel), by decide +kernel⟩
  · exact ⟨cmdOn 33 [(1, 1, 1)], station0, _, rfl, accepted_of (by decide +kernel), by decide +kernel⟩
  · exact ⟨9, 0#16, { idle with maint := { acts := [(9, 0#16, { wanted := true })] } }, by decide +kernel⟩
  · exact ⟨9, 0#16, { idle with maint := { acts := [(9, 0#16, { running := true })] } }, by decide +kernel⟩
  · exact ⟨8, 0#16, idle, by decide +kernel⟩
  · exact ⟨9, 0#16, { idle with maint := { acts := [(9, 0#16, { wanted := true })] } }, by decide +kernel⟩

/-- ServiceCommandsComplete: states and operands that meet the hypotheses of its clauses. -/
theorem meets_ServiceCommandsComplete :
    (∃ (m : Cmd) (s : State) (r : FRec), ∃ e, e = entered opMntFaultAck m s ∧ accepted opMntFaultAck 0 m s ∧ kvFind
    e.faults.recs (m.u 0 1) = some r ∧ r.isOpen = true ∧ r.code = m.u 2 2 ∧ classOf r.code = 3) ∧
    (∃ (m : Cmd) (s : State) (r : FRec), ∃ e, e = entered opMntFaultAck m s ∧ accepted opMntFaultAck 0 m s ∧ kvFind
    e.faults.recs (m.u 0 1) = some r ∧ classOf r.code ≠ 3) ∧
    (∃ (m : Cmd) (s : State), ∃ e, e = entered opMntReturn m s ∧ accepted opMntReturn 2 m s ∧ ownPath e m.handle m.sel
    = false ∧ channelRetired e m.handle m.sel = true ∧ channelHeld e m.handle = false ∧ (∀ w ∈ s.mbx.waiters, w.op ≠
    0x0505)) ∧
    (∃ (m : Cmd) (s : State), ∃ e, e = entered opMntReturn m s ∧ accepted opMntReturn 2 m s ∧ channelRetired e
    m.handle m.sel = false ∧ (∀ w ∈ s.mbx.waiters, w.op ≠ 0x0505)) ∧
    (∃ (m : Cmd) (s : State), ∃ e, e = entered opMntIntlkRelease m s ∧ ∃ w, w = BitVec.ofNat 8 (m.u 0 1) ∧ accepted
    opMntIntlkRelease 3 m s ∧ w &&& e.intlk.low = 0#8 ∧ (e.intlk.latched &&& ~~~w ≠ 0#8 ∨ e.intlk.low ≠ 0#8 ∨
    e.intlk.closedBy = 0#8)) ∧
    (∃ (m : Cmd) (s : State), ∃ e, e = entered opMntIntlkRelease m s ∧ accepted opMntIntlkRelease 3 m s ∧ BitVec.ofNat
    8 (m.u 0 1) &&& e.intlk.low ≠ 0#8) ∧
    (∃ (m : Cmd) (s : State), ∃ need, need = (if regionUnacked (startCmd opMntSpoolFormat.op m s) then 1 else 2) ∧ ∃
    e, e = entered opMntSpoolFormat m s ∧ accepted opMntSpoolFormat need m s ∧ m.u 0 4 = 0x5120 ∧ formatMembers e ≠ []
    ∧ noFlights e = true ∧ e.spool.fmt = 0 ∧ 2 ≤ (formatSuper e (formatMembers e) 0 0#512).dirPages) ∧
    (∃ (m : Cmd) (s : State), ∃ need, need = (if regionUnacked (startCmd opMntSpoolFormat.op m s) then 1 else 2) ∧ ∃
    e, e = entered opMntSpoolFormat m s ∧ accepted opMntSpoolFormat need m s ∧ noFlights e = true ∧ e.spool.fmt = 0 ∧
    (m.u 0 4 ≠ 0x5120 ∨ formatMembers e = [] ∨ (formatSuper e (formatMembers e) 0 0#512).dirPages < 2)) ∧
    (∃ (m : Cmd) (s : State), ∃ need, need = (if regionUnacked (startCmd opMntSpoolFormat.op m s) then 1 else 2) ∧ ∃
    e, e = entered opMntSpoolFormat m s ∧ accepted opMntSpoolFormat need m s ∧ (noFlights e = false ∨ e.spool.fmt ≠
    0)) := by
  refine ⟨?_, ?_, ?_, ?_, ?_, ?_, ?_, ?_, ?_⟩
  · exact ⟨cmd [(0, 1, 255), (2, 2, 0x6000)], idle.modFaults fun f =>
      { f with recs := [(255, { code := 0x6000, st := .active })] }, { code := 0x6000, st := .active }, _, rfl,
      accepted_of (by decide +kernel), by decide +kernel⟩
  · exact ⟨cmd [(0, 1, 255), (2, 2, 0x4000)], idle.modFaults fun f =>
      { f with recs := [(255, { code := 0x4000, st := .active })] }, { code := 0x4000, st := .active }, _, rfl,
      accepted_of (by decide +kernel), by decide +kernel⟩
  · exact ⟨cmdOn 0 [], granted opMntReturn (cmdOn 0 []) { idle with newel := { lost := true } }, _, (entered_granted
      rfl rfl).symm, accepted_granted (by decide +kernel) rfl rfl (by decide +kernel), by decide +kernel⟩
  · exact ⟨cmdOn 0 [], granted opMntReturn (cmdOn 0 []) idle, _, (entered_granted rfl rfl).symm, accepted_granted (by
      decide +kernel) rfl rfl (by decide +kernel), by decide +kernel⟩
  · exact ⟨cmd [(0, 1, 1)], granted opMntIntlkRelease (cmd [(0, 1, 1)])
      { idle with intlk := { closedBy := 1#8, latched := 3#8 } }, _, (entered_granted rfl rfl).symm, _, rfl,
      accepted_granted (by decide +kernel) rfl rfl (by decide +kernel), by decide +kernel⟩
  · exact ⟨cmd [(0, 1, 1)], granted opMntIntlkRelease (cmd [(0, 1, 1)])
      { idle with intlk := { low := 1#8, closedBy := 1#8, latched := 1#8 } }, _, (entered_granted rfl rfl).symm,
      accepted_granted (by decide +kernel) rfl rfl (by decide +kernel), by decide +kernel⟩
  · exact ⟨cmd [(0, 4, 0x5120)], granted opMntSpoolFormat (cmd [(0, 4, 0x5120)]) (idle.modSpool fun p =>
      { p with members := [{ usable := 3276800 }] }), _, rfl, _, (entered_granted rfl rfl).symm, accepted_granted (by
      decide +kernel) rfl rfl (by decide +kernel), by decide +kernel⟩
  · exact ⟨cmd [(0, 4, 1)], granted opMntSpoolFormat (cmd [(0, 4, 1)]) idle, _, rfl, _, (entered_granted rfl
      rfl).symm, accepted_granted (by decide +kernel) rfl rfl (by decide +kernel), by decide +kernel⟩
  · exact ⟨cmd [(0, 4, 0x5120)], granted opMntSpoolFormat (cmd [(0, 4, 0x5120)]) ((spooled idle).modLand fun l =>
      { l with flights := [{}] }), _, rfl, _, (entered_granted rfl rfl).symm, accepted_granted (by decide +kernel) rfl
      rfl (by decide +kernel), by decide +kernel⟩

/-- TicketsCreateGrantsOrDenials: states and operands that meet the hypotheses of its clauses. -/
theorem meets_TicketsCreateGrantsOrDenials :
    (∃ (m : Cmd) (s : State), accepted opAuthChallenge 0 m s) ∧
    (∃ (m : Cmd) (s : State) (c : Nat) (x : Key), ∃ e, e = entered opAuthTicket m s ∧ ∃ k : Ticket, k =
    { role := m.u 32 1, key := m.u 33 1, op := m.u 34 2, args := m.u 36 8, r := beNat (m.bytes 0 32), t := beNat (m.bytes 48 32) }
    ∧ accepted opAuthTicket 0 m s ∧ e.auth.backoff = none ∧ e.auth.challenge = some c ∧ keyOf e k.role k.key = some x
    ∧ galFull e.gal = false) ∧
    (∃ (m : Cmd) (s : State) (b : Nat), ∃ e, e = entered opAuthTicket m s ∧ accepted opAuthTicket 0 m s ∧
    e.auth.backoff = some b) ∧
    (∃ (m : Cmd) (s : State) (c : Nat), ∃ e, e = entered opAuthTokenSign m s ∧ accepted opAuthTokenSign 0 m s ∧
    e.auth.backoff = none ∧ e.auth.signing = none ∧ e.panel.token = true ∧ e.auth.challenge = some c) ∧
    (∃ (m : Cmd) (s : State), s.auth.signing = some m ∧ s.panel.token = true ∧ s.auth.backoff = none) ∧
    (∃ (sw : Nat) (m : Cmd) (s : State), s.auth.signing = some m ∧ s.panel.token = true ∧ sw ≠ 0x9000) := by
  refine ⟨?_, ?_, ?_, ?_, ?_, ?_⟩
  · exact ⟨cmd [], idle, accepted_of (by decide +kernel)⟩
  · exact ⟨cmd [(32, 1, 1)], idle.modAuth fun a => { a with challenge := some 5, keys := [{ role := 1 }] }, 5,
      { role := 1 }, _, rfl, _, rfl, accepted_of (by decide +kernel), by decide +kernel⟩
  · exact ⟨cmd [], idle.modAuth fun a => { a with backoff := some 0 }, 0, _, rfl, accepted_of (by decide +kernel), by
      decide +kernel⟩
  · exact ⟨cmd [], { idle with auth := { challenge := some 5 }, panel := { token := true } }, 5, _, rfl, accepted_of
      (by decide +kernel), by decide +kernel⟩
  · exact ⟨{}, { idle with auth := { signing := some {} }, panel := { token := true } }, by decide +kernel⟩
  · exact ⟨0x9001, {}, { idle with auth := { signing := some {} }, panel := { token := true } }, by decide +kernel⟩

/-- KeysAndDigestsComplete: states and operands that meet the hypotheses of its clauses. -/
theorem meets_KeysAndDigestsComplete :
    (∃ (m : Cmd) (s : State), ∃ e, e = entered opAuthKeyInstall m s ∧ ∃ need, need = (if firstKey (m.u 0 1) (startCmd
    opAuthKeyInstall.op m s) then 0 else keyNeed (m.u 0 1)) ∧ ∃ k : Key, k =
    { role := m.u 0 1, index := m.u 1 1, ident := m.u 8 8, pub := m.u 16 64 } ∧ accepted opAuthKeyInstall need m s ∧
    k.index < roleSize k.role ∧ firstKey k.role e = false ∧ roleKeys e k.role < roleSize k.role ∧ keyOf e k.role
    k.index = none) ∧
    (∃ (m : Cmd) (s : State) (k : Key), ∃ e, e = entered opAuthKeyInstall m s ∧ ∃ need, need = (if firstKey (m.u 0 1)
    (startCmd opAuthKeyInstall.op m s) then 0 else keyNeed (m.u 0 1)) ∧ accepted opAuthKeyInstall need m s ∧ m.u 1 1 <
    roleSize (m.u 0 1) ∧ firstKey (m.u 0 1) e = false ∧ roleKeys e (m.u 0 1) < roleSize (m.u 0 1) ∧ keyOf e (m.u 0 1)
    (m.u 1 1) = some k) ∧
    (∃ (m : Cmd) (s : State) (k : Key), ∃ e, e = entered opAuthKeyRemove m s ∧ accepted opAuthKeyRemove (keyNeed (m.u
    0 1)) m s ∧ keyOf e (m.u 0 1) (m.u 1 1) = some k ∧ (m.u 0 1 ≠ 1 ∨ roleKeys e 1 ≠ 1)) ∧
    (∃ (m : Cmd) (s : State) (k : Key), ∃ e, e = entered opAuthKeyRemove m s ∧ accepted opAuthKeyRemove 1 m s ∧ m.u 0
    1 = 1 ∧ keyOf e 1 (m.u 1 1) = some k ∧ roleKeys e 1 = 1) ∧
    (∃ (m : Cmd) (s : State), ∃ e, e = entered opAuthDigestAdd m s ∧ ∃ l, l = e.auth.digests ++ [cmdDigest m] ∧
    accepted opAuthDigestAdd 1 m s ∧ cmdDigest m ∉ e.auth.digests ∧ e.auth.digests.length < 16 ∧ bootable e l = true) ∧
    (∃ (m : Cmd) (s : State), ∃ e, e = entered opAuthDigestAdd m s ∧ accepted opAuthDigestAdd 1 m s ∧ cmdDigest m ∈
    e.auth.digests) ∧
    (∃ (m : Cmd) (s : State), ∃ e, e = entered opAuthDigestAdd m s ∧ accepted opAuthDigestAdd 1 m s ∧ cmdDigest m ∉
    e.auth.digests ∧ 16 ≤ e.auth.digests.length) ∧
    (∃ (m : Cmd) (s : State), ∃ e, e = entered opAuthDigestRemove m s ∧ ∃ l, l = e.auth.digests.filter (· != cmdDigest
    m) ∧ accepted opAuthDigestRemove 1 m s ∧ cmdDigest m ∈ e.auth.digests ∧ e.auth.digests.length ≠ 1 ∧ bootable e l =
    true) ∧
    (∃ (m : Cmd) (s : State), accepted opAuthDigestClear 1 m s) ∧
    (∃ (m : Cmd) (s : State), accepted opAuthStatus 0 m s) := by
  refine ⟨?_, ?_, ?_, ?_, ?_, ?_, ?_, ?_, ?_, ?_⟩
  · exact ⟨cmd [(0, 1, 2), (1, 1, 7)], granted opAuthKeyInstall (cmd [(0, 1, 2), (1, 1, 7)]) idle, _, (entered_granted
      rfl rfl).symm, _, rfl, _, rfl, accepted_granted (by decide +kernel) rfl rfl (by decide +kernel), by
      decide +kernel⟩
  · exact ⟨cmd [(0, 1, 2), (1, 1, 7)], granted opAuthKeyInstall (cmd [(0, 1, 2), (1, 1, 7)]) (idle.modAuth fun a =>
      { a with keys := [{ role := 2, index := 7 }] }), { role := 2, index := 7 }, _, (entered_granted rfl rfl).symm, _,
      rfl, accepted_granted (by decide +kernel) rfl rfl (by decide +kernel), by decide +kernel⟩
  · exact ⟨cmd [(0, 1, 3), (1, 1, 7)], granted opAuthKeyRemove (cmd [(0, 1, 3), (1, 1, 7)]) (idle.modAuth fun a =>
      { a with keys := [{ role := 3, index := 7 }] }), { role := 3, index := 7 }, _, (entered_granted rfl rfl).symm,
      accepted_granted (by decide +kernel) rfl rfl (by decide +kernel), by decide +kernel⟩
  · exact ⟨cmd [(0, 1, 1), (1, 1, 3)], granted opAuthKeyRemove (cmd [(0, 1, 1), (1, 1, 3)]) (idle.modAuth fun a =>
      { a with keys := [{ role := 1, index := 3 }] }), { role := 1, index := 3 }, _, (entered_granted rfl rfl).symm,
      accepted_granted (by decide +kernel) rfl rfl (by decide +kernel), by decide +kernel⟩
  · exact ⟨cmd [(31, 1, 9)], granted opAuthDigestAdd (cmd [(31, 1, 9)]) (idle.modAuth fun a =>
      { a with digests := List.range' 10 15, qspi := [some 9] }), _, (entered_granted rfl rfl).symm, _, rfl,
      accepted_granted (by decide +kernel) rfl rfl (by decide +kernel), by decide +kernel⟩
  · exact ⟨cmd [(31, 1, 9)], granted opAuthDigestAdd (cmd [(31, 1, 9)]) (idle.modAuth fun a =>
      { a with digests := [9] }), _, (entered_granted rfl rfl).symm, accepted_granted (by decide +kernel) rfl rfl (by
      decide +kernel), by decide +kernel⟩
  · exact ⟨cmd [(31, 1, 9)], granted opAuthDigestAdd (cmd [(31, 1, 9)]) (idle.modAuth fun a =>
      { a with digests := List.range' 10 16 }), _, (entered_granted rfl rfl).symm, accepted_granted (by decide +kernel)
      rfl rfl (by decide +kernel), by decide +kernel⟩
  · exact ⟨cmd [(31, 1, 9)], granted opAuthDigestRemove (cmd [(31, 1, 9)]) (idle.modAuth fun a =>
      { a with digests := [9, 10], qspi := [none, some 10] }), _, (entered_granted rfl rfl).symm, _, rfl,
      accepted_granted (by decide +kernel) rfl rfl (by decide +kernel), by decide +kernel⟩
  · exact ⟨cmd [], granted opAuthDigestClear (cmd []) idle, accepted_granted (by decide +kernel) rfl rfl (by
      decide +kernel)⟩
  · exact ⟨cmd [], idle, accepted_of (by decide +kernel)⟩

/-- CalibrationCommandsComplete: states and operands that meet the hypotheses of its clauses. -/
theorem meets_CalibrationCommandsComplete :
    (∃ (m : Cmd) (s : State) (n : Nat), ∃ e, e = entered opCalWrite m s ∧ accepted opCalWrite 0 m s ∧ calStation m e =
    some n ∧ 1 ≤ m.u 1 1 ∧ m.u 1 1 ≤ 6 ∧ 1 ≤ m.u 8 2 ∧ m.u 8 2 ≤ 176 ∧ m.u 4 4 + m.u 8 2 ≤ objSize (m.u 1 1)) ∧
    (∃ (m : Cmd) (s : State) (n : Nat), ∃ e, e = entered opCalCommit m s ∧ ∃ os, os = commitObjs e n ∧ accepted
    opCalCommit 2 m s ∧ calStation m e = some n ∧ os ≠ [] ∧ m.bytes 16 32 = digestBytes (Config.sha256 (os.flatMap fun
    p => p.2)).toNat ∧ commitOk e n os = true) ∧
    (∃ (m : Cmd) (s : State) (n : Nat), ∃ e, e = entered opCalCommit m s ∧ accepted opCalCommit 2 m s ∧ calStation m e
    = some n ∧ commitObjs e n = []) ∧
    (∃ (m : Cmd) (s : State) (n : Nat), ∃ e, e = entered opCalRead m s ∧ ∃ b, b = (if m.u 1 1 = 8 then fittedList e n
    else (kvGet ({} : CalSt) e.cal.inst n).obj (m.u 1 1)) ∧ accepted opCalRead 0 m s ∧ calStation m e = some n ∧ 1 ≤
    m.u 1 1 ∧ m.u 1 1 ≤ 8 ∧ m.u 4 4 + m.u 8 2 ≤ b.length) ∧
    (∃ (m : Cmd) (s : State) (n : Nat), ∃ e, e = entered opCalAbort m s ∧ accepted opCalAbort 0 m s ∧ calStation m e =
    some n) ∧
    (∃ (m : Cmd) (s : State) (p : Nat × BitVec 36), ∃ e, e = entered opCalHeadClear m s ∧ accepted opCalHeadClear 2 m
    s ∧ hIndex m.handle = 0 ∧ (e.cal.lists.find? fun p => p.1 == m.u 8 8) = some p) ∧
    (∃ (m : Cmd) (s : State), ∃ e, e = entered opCalHeadClear m s ∧ accepted opCalHeadClear 2 m s ∧ hIndex m.handle =
    0 ∧ (∀ p ∈ e.cal.lists, p.1 ≠ m.u 8 8)) ∧
    (∃ (s : State), s.cal.writing = true ∧ s.cal.again = false) := by
  refine ⟨?_, ?_, ?_, ?_, ?_, ?_, ?_, ?_⟩
  · exact ⟨cmdOn 33 [(1, 1, 3), (4, 4, 152), (8, 2, 176)], station0, 0, _, rfl, accepted_of (by decide +kernel), by
      decide +kernel⟩
  · refine ⟨calCmd, granted opCalCommit calCmd calState, 0, _, (entered_granted rfl rfl).symm, _, rfl,
      accepted_granted calCmd_accepted rfl rfl (by decide), ?_⟩
    refine ⟨by decide +kernel, by decide +kernel, ?_, by decide +kernel⟩
    exact bytesAt_digest (List.replicate 16 0#8) _ []
  · exact ⟨cmdOn 33 [], granted opCalCommit (cmdOn 33 []) station0, 0, _, (entered_granted rfl rfl).symm,
      accepted_granted (by decide +kernel) rfl rfl (by decide +kernel), by decide +kernel⟩
  · exact ⟨cmdOn 33 [(1, 1, 7)], station0, 0, _, rfl, _, rfl, accepted_of (by decide +kernel), by decide +kernel⟩
  · exact ⟨cmdOn 33 [], station0, 0, _, rfl, accepted_of (by decide +kernel), by decide +kernel⟩
  · exact ⟨cmdOn 0 [(8, 8, 77), (16, 1, 1)], granted opCalHeadClear (cmdOn 0 [(8, 8, 77), (16, 1, 1)])
      { idle with cal := { lists := [(77, 3#36)] } }, (77, 3#36), _, (entered_granted rfl rfl).symm, accepted_granted
      (by decide +kernel) rfl rfl (by decide +kernel), by decide +kernel⟩
  · exact ⟨cmdOn 0 [(8, 8, 77), (16, 1, 1)], granted opCalHeadClear (cmdOn 0 [(8, 8, 77), (16, 1, 1)]) idle, _,
      (entered_granted rfl rfl).symm, accepted_granted (by decide +kernel) rfl rfl (by decide +kernel), by
      decide +kernel⟩
  · exact ⟨{ idle with cal := { writing := true } }, by decide +kernel⟩

/-- PowerCommandsComplete: states and operands that meet the hypotheses of its clauses. -/
theorem meets_PowerCommandsComplete :
    (∃ (m : Cmd) (s : State) (r : Nat), ∃ e, e = entered opPwrStatus m s ∧ accepted opPwrStatus 0 m s ∧ railOf e
    m.handle = some r) ∧
    (∃ (m : Cmd) (s : State) (x : PLog), ∃ e, e = entered opPwrLogRead m s ∧ accepted opPwrLogRead 0 m s ∧
    e.power.log[m.u 0 1]? = some x) ∧
    (∃ (m : Cmd) (s : State), ∃ e, e = entered opPwrLogRead m s ∧ accepted opPwrLogRead 0 m s ∧ e.power.log.length ≤
    m.u 0 1) ∧
    (∃ (m : Cmd) (s : State), ∃ e, e = entered opPwrDown m s ∧ accepted opPwrDown 0 m s ∧ noFlights e = true ∧
    e.gov.speed = 0 ∧ e.gov.jog = 0 ∧ e.power.seq ≠ .up) ∧
    (∃ (m : Cmd) (s : State), ∃ e, e = entered opPwrDown m s ∧ accepted opPwrDown 0 m s ∧ noFlights e = false) ∧
    (∃ (m : Cmd) (s : State), ∃ e, e = entered opPwrUp m s ∧ accepted opPwrUp 0 m s ∧ e.power.seq = .none) ∧
    (∃ (m : Cmd) (s : State), ∃ e, e = entered opPwrUp m s ∧ accepted opPwrUp 0 m s ∧ e.power.seq ≠ .none) ∧
    (∃ (m : Cmd) (s : State) (r : Nat), ∃ e, e = entered opPwrRailRestart m s ∧ ∃ failed, failed = (fun (s : State) q
    p => (s.rail p).st == .failed && p != q && railBelow s.cfg.cur 48 p q) ∧ accepted opPwrRailRestart 0 m s ∧ railOf
    e m.handle = some r ∧ (e.rail r).st = .failed ∧ e.power.seq ≠ .down ∧ (usedRails e).any (fun p => failed e r p) =
    false) ∧
    (∃ (m : Cmd) (s : State) (r : Nat), ∃ e, e = entered opPwrRailRestart m s ∧ accepted opPwrRailRestart 0 m s ∧
    railOf e m.handle = some r ∧ (e.rail r).st ≠ .failed) ∧
    (∃ (m : Cmd) (s : State), accepted opPwrReset 0 m s ∧ m.u 0 4 = 0x5120) ∧
    (∃ (s : State), s.boot.resetDue = true) := by
  refine ⟨?_, ?_, ?_, ?_, ?_, ?_, ?_, ?_, ?_, ?_, ?_⟩
  · exact ⟨cmdOn 32 [], plant [(32, 10)], 0, _, rfl, accepted_of (by decide +kernel), by decide +kernel⟩
  · exact ⟨cmd [(0, 1, 63)], { idle with power := { log := List.replicate 64 {} } }, {}, _, rfl, accepted_of (by
      decide +kernel), by decide +kernel⟩
  · exact ⟨cmd [], idle, _, rfl, accepted_of (by decide +kernel), by decide +kernel⟩
  · exact ⟨cmd [], { idle with power := { seq := .down } }, _, rfl, accepted_of (by decide +kernel), by
      decide +kernel⟩
  · exact ⟨cmd [], idle.modLand fun l => { l with flights := [{}] }, _, rfl, accepted_of (by decide +kernel), by
      decide +kernel⟩
  · exact ⟨cmd [], idle, _, rfl, accepted_of (by decide +kernel), by decide +kernel⟩
  · exact ⟨cmd [], { idle with power := { seq := .down } }, _, rfl, accepted_of (by decide +kernel), by
      decide +kernel⟩
  · exact ⟨cmdOn 32 [], (plant [(32, 10)]).modPower fun p => { p with rails := [(0, { st := .failed })] }, 0, _, rfl,
      _, rfl, accepted_of (by decide +kernel), by decide +kernel⟩
  · exact ⟨cmdOn 32 [], plant [(32, 10)], 0, _, rfl, accepted_of (by decide +kernel), by decide +kernel⟩
  · exact ⟨cmd [(0, 4, 0x5120)], idle, accepted_of (by decide +kernel), by decide +kernel⟩
  · exact ⟨{ idle with boot := { idle.boot with resetDue := true } }, by decide +kernel⟩

/-- DiagnosticReadsComplete: states and operands that meet the hypotheses of its clauses. -/
theorem meets_DiagnosticReadsComplete :
    (∃ (m : Cmd) (s : State), accepted opDiagState 0 m s) ∧
    (∃ (m : Cmd) (s : State), accepted opDiagFaults 0 m s) ∧
    (∃ (m : Cmd) (s : State), accepted opDiagNotes 0 m s ∧ m.u 0 1 ≤ 1) ∧
    (∃ (m : Cmd) (s : State), accepted opDiagNotes 0 m s ∧ 1 < m.u 0 1) ∧
    (∃ (m : Cmd) (s : State), ∃ e, e = entered opDiagMeter m s ∧ accepted opDiagMeter 0 m s ∧ e.clk.meterBusy = false
    ∧ m.u 0 1 = 1 ∧ meterOk (m.u 4 4) = true) ∧
    (∃ (m : Cmd) (s : State), ∃ e, e = entered opDiagMeter m s ∧ accepted opDiagMeter 0 m s ∧ e.clk.meterBusy = true) ∧
    (∃ (m : Cmd) (s : State), accepted opDiagSpool 0 m s) ∧
    (∃ (m : Cmd) (s : State), accepted opDiagBoot 0 m s) := by
  refine ⟨?_, ?_, ?_, ?_, ?_, ?_, ?_, ?_⟩
  · exact ⟨cmdOn 0 [], idle, accepted_of (by decide +kernel)⟩
  · exact ⟨cmd [], idle, accepted_of (by decide +kernel)⟩
  · exact ⟨cmd [(0, 1, 1)], idle, accepted_of (by decide +kernel), by decide +kernel⟩
  · exact ⟨cmd [(0, 1, 2)], idle, accepted_of (by decide +kernel), by decide +kernel⟩
  · exact ⟨cmd [(0, 1, 1), (4, 4, 0x1E220000)], idle, _, rfl, accepted_of (by decide +kernel), by decide +kernel⟩
  · exact ⟨cmd [], { idle with clk := { meterBusy := true } }, _, rfl, accepted_of (by decide +kernel), by
      decide +kernel⟩
  · exact ⟨cmd [], idle, accepted_of (by decide +kernel)⟩
  · exact ⟨cmd [], idle, accepted_of (by decide +kernel)⟩

/-- PairAndPanelCommandsComplete: states and operands that meet the hypotheses of its clauses. -/
theorem meets_PairAndPanelCommandsComplete :
    (∃ (m : Cmd) (s : State), accepted opPairStatus 0 m s) ∧
    (∃ (m : Cmd) (s : State), ∃ e, e = entered opPairHandover m s ∧ accepted opPairHandover 2 m s ∧ pairEn e = true ∧
    e.pair.claimOut = true ∧ e.pair.peerSynced = true ∧ e.pair.handover = false) ∧
    (∃ (m : Cmd) (s : State), ∃ e, e = entered opPairHandover m s ∧ accepted opPairHandover 2 m s ∧ (pairEn e = false
    ∨ e.pair.claimOut = false ∨ e.pair.peerSynced = false ∨ e.pair.handover = true)) ∧
    (∃ (m : Cmd) (s : State), ∃ e, e = entered opPairResync m s ∧ accepted opPairResync 0 m s ∧ pairEn e = true ∧
    e.pair.claimOut = false) ∧
    (∃ (m : Cmd) (s : State), ∃ e, e = entered opPairResync m s ∧ accepted opPairResync 0 m s ∧ (pairEn e = false ∨
    e.pair.claimOut = true)) ∧
    (∃ (m : Cmd) (s : State), accepted opPnlLed 0 m s) ∧
    (∃ (m : Cmd) (s : State), accepted opPnlBuzzer 0 m s ∧ 100 ≤ m.u 0 2 ∧ m.u 0 2 ≤ 8000) ∧
    (∃ (m : Cmd) (s : State), accepted opPnlBuzzer 0 m s ∧ (m.u 0 2 < 100 ∨ 8000 < m.u 0 2)) ∧
    (∃ (m : Cmd) (s : State), accepted opPnlStatus 0 m s) := by
  refine ⟨?_, ?_, ?_, ?_, ?_, ?_, ?_, ?_, ?_⟩
  · exact ⟨cmd [], idle, accepted_of (by decide +kernel)⟩
  · exact ⟨cmd [], granted opPairHandover (cmd []) (withCfg [(0x11, 0, 3, 1, 0x80)]
      { idle with pair := { claimOut := true, peerSynced := true } }), _, (entered_granted rfl rfl).symm,
      accepted_granted (by decide +kernel) rfl rfl (by decide +kernel), by decide +kernel⟩
  · exact ⟨cmd [], granted opPairHandover (cmd []) idle, _, (entered_granted rfl rfl).symm, accepted_granted (by
      decide +kernel) rfl rfl (by decide +kernel), by decide +kernel⟩
  · exact ⟨cmd [], withCfg [(0x11, 0, 3, 1, 0x80)] idle, _, rfl, accepted_of (by decide +kernel), by decide +kernel⟩
  · exact ⟨cmd [], idle, _, rfl, accepted_of (by decide +kernel), by decide +kernel⟩
  · exact ⟨cmd [], idle, accepted_of (by decide +kernel)⟩
  · exact ⟨cmd [(0, 2, 8000)], idle, accepted_of (by decide +kernel), by decide +kernel⟩
  · exact ⟨cmd [(0, 2, 99)], idle, accepted_of (by decide +kernel), by decide +kernel⟩
  · exact ⟨cmd [], idle, accepted_of (by decide +kernel)⟩

/-- BandDatagramsFillStaging: states and operands that meet the hypotheses of its clauses. -/
theorem meets_BandDatagramsFillStaging :
    (∃ (bytes : List Byte) (s : State), s.mbx.live = true ∧ ¬bandForm bytes) ∧
    (∃ (bytes : List Byte) (s : State), ∃ id, id = bandIdOf bytes ∧ s.mbx.live = true ∧ bandForm bytes ∧ (∀ j ∈
    s.jobs, j.id = id.job → j.live = false) ∧ (∀ r ∈ s.ingest.rejSec, r.1 = id → r.2 < s.clk.opSec)) ∧
    (∃ (bytes : List Byte) (s : State), ∃ id, id = bandIdOf bytes ∧ s.mbx.live = true ∧ bandForm bytes ∧ (∀ j ∈
    s.jobs, j.id = id.job → j.live = false) ∧ (∃ r ∈ s.ingest.rejSec, r.1 = id ∧ s.clk.opSec ≤ r.2)) ∧
    (∃ (bytes : List Byte) (j : Job) (s : State), s.mbx.live = true ∧ bandForm bytes ∧ (s.jobs.find? fun j => j.id ==
    (bandIdOf bytes).job && j.live) = some j ∧ (fieldAt bytes 5 1).testBit 0 ≠ j.encrypted) ∧
    (∃ (bytes : List Byte) (j : Job) (s : State), s.mbx.live = true ∧ bandForm bytes ∧ (s.jobs.find? fun j => j.id ==
    (bandIdOf bytes).job && j.live) = some j ∧ (fieldAt bytes 5 1).testBit 0 = j.encrypted) ∧
    (∃ (bytes : List Byte) (data : List Byte) (s : State), ∃ id, id = bandIdOf bytes ∧ bandOpens bytes data s ∧ (∀ x ∈
    s.ingest.bands, x.id ≠ id) ∧ 1044480 < fieldAt bytes 24 4) ∧
    (∃ (bytes : List Byte) (data : List Byte) (s : State), ∃ len, len = fieldAt bytes 24 4 ∧ bandOpens bytes data s ∧
    (∀ x ∈ s.ingest.bands, x.id ≠ bandIdOf bytes) ∧ len ≤ 1044480 ∧ 4194304 + s.ingest.returned < s.ingest.used +
    reserveOf len) ∧
    (∃ (bytes : List Byte) (data : List Byte) (s : State), ∃ f, f = fieldAt bytes ∧ ∃ len, len = f 24 4 ∧ ∃ id, id =
    bandIdOf bytes ∧ bandOpens bytes data s ∧ (∀ x ∈ s.ingest.bands, x.id ≠ id) ∧ len ≤ 1044480 ∧ s.ingest.used +
    reserveOf len ≤ 4194304 + s.ingest.returned ∧ data.length ≠ len) ∧
    (∃ (bytes : List Byte) (data : List Byte) (b : Staged) (s : State), ∃ off, off = fieldAt bytes 20 4 ∧ bandOpens
    bytes data s ∧ (s.ingest.bands.find? fun x => x.id == bandIdOf bytes) = some b ∧ (b.checked = true ∨ ∃ f ∈
    b.frags, f.1 = off ∧ f.2.length = data.length)) ∧
    (∃ (bytes : List Byte) (data : List Byte) (b : Staged) (s : State), ∃ off, off = fieldAt bytes 20 4 ∧ bandOpens
    bytes data s ∧ (s.ingest.bands.find? fun x => x.id == bandIdOf bytes) = some b ∧ b.checked = false ∧ (∀ f ∈
    b.frags, f.1 = off → f.2.length ≠ data.length) ∧ fieldAt bytes 24 4 ≠ b.length) ∧
    (∃ (bytes : List Byte) (data : List Byte) (b : Staged) (s : State), ∃ off, off = fieldAt bytes 20 4 ∧ bandOpens
    bytes data s ∧ (s.ingest.bands.find? fun x => x.id == bandIdOf bytes) = some b ∧ b.checked = false ∧ (∀ f ∈
    b.frags, f.1 = off → f.2.length ≠ data.length) ∧ fieldAt bytes 24 4 = b.length ∧ (∃ f ∈ b.frags, f.1 < off +
    data.length ∧ off < f.1 + f.2.length)) ∧
    (∃ (bytes : List Byte) (data : List Byte) (b : Staged) (s : State), ∃ off, off = fieldAt bytes 20 4 ∧ ∃ id, id =
    bandIdOf bytes ∧ bandOpens bytes data s ∧ (s.ingest.bands.find? fun x => x.id == id) = some b ∧ b.checked = false
    ∧ (∀ f ∈ b.frags, f.1 = off → f.2.length ≠ data.length) ∧ fieldAt bytes 24 4 = b.length ∧ (∀ f ∈ b.frags, off +
    data.length ≤ f.1 ∨ f.1 + f.2.length ≤ off)) ∧
    (∃ (job : Nat) (layer : Nat) (frame : Nat) (band : Nat) (b : Staged) (s : State), ∃ id : BandId, id =
    { job := job, layer := layer, frame := frame, band := band } ∧ (s.ingest.bands.find? fun b => b.id == id) = some b
    ∧ b.checked = false) ∧
    (∃ (id : BandId) (b : Staged) (s : State), (s.ingest.bands.find? fun b => b.id == id) = some b) := by
  refine ⟨?_, ?_, ?_, ?_, ?_, ?_, ?_, ?_, ?_, ?_, ?_, ?_, ?_, ?_⟩
  · refine ⟨List.replicate 32 0#8, idle, ?_⟩
    refine ⟨rfl, ?_⟩
    unfold bandForm
    decide +kernel
  · refine ⟨fragment 0 32, idle, _, rfl, ?_⟩
    exact ⟨rfl, by unfold bandForm; decide +kernel, by decide +kernel, by decide +kernel⟩
  · refine ⟨fragment 0 32, { idle with ingest := { rejSec := [({ job := 1 }, 5)] } }, _, rfl, ?_⟩
    exact ⟨rfl, by unfold bandForm; decide +kernel, by decide +kernel, by decide +kernel⟩
  · refine ⟨fragment 0 32, { id := 1, encrypted := true }, { idle with jobs := [{ id := 1, encrypted := true }] }, ?_⟩
    exact ⟨rfl, by unfold bandForm; decide +kernel, by decide +kernel, by decide +kernel⟩
  · refine ⟨fragment 0 32, { id := 1 }, ingesting [], ?_⟩
    exact ⟨rfl, by unfold bandForm; decide +kernel, by decide +kernel, by decide +kernel⟩
  · refine ⟨fragment 0 1044481, List.replicate 16 0#8, ingesting [], _, rfl, ?_⟩
    exact ⟨opens_of { id := 1 } rfl (by unfold bandForm; decide +kernel) (by decide +kernel) (by decide +kernel) rfl (by decide +kernel), by decide +kernel, by decide +kernel⟩
  · refine ⟨fragment 0 32, List.replicate 16 0#8, { ingesting [] with ingest := { used := 4194304 } }, _, rfl, ?_⟩
    exact ⟨opens_of { id := 1 } rfl (by unfold bandForm; decide +kernel) (by decide +kernel) (by decide +kernel) rfl (by decide +kernel), by decide +kernel, by decide +kernel, by decide +kernel⟩
  · refine ⟨fragment 0 32, List.replicate 16 0#8, ingesting [], _, rfl, _, rfl, _, rfl, ?_⟩
    exact ⟨opens_of { id := 1 } rfl (by unfold bandForm; decide +kernel) (by decide +kernel) (by decide +kernel) rfl (by decide +kernel), by decide +kernel, by decide +kernel, by decide +kernel, by decide +kernel⟩
  · refine ⟨fragment 0 32, List.replicate 16 0#8, { id := { job := 1 }, checked := true }, ingesting
      [{ id := { job := 1 }, checked := true }], _, rfl, ?_⟩
    exact ⟨opens_of { id := 1 } rfl (by unfold bandForm; decide +kernel) (by decide +kernel) (by decide +kernel) rfl (by decide +kernel), by decide +kernel, .inl rfl⟩
  · refine ⟨fragment 0 32, List.replicate 16 0#8, { id := { job := 1 }, length := 64 }, ingesting
      [{ id := { job := 1 }, length := 64 }], _, rfl, ?_⟩
    exact ⟨opens_of { id := 1 } rfl (by unfold bandForm; decide +kernel) (by decide +kernel) (by decide +kernel) rfl (by decide +kernel), by decide +kernel, rfl, by decide +kernel, by decide +kernel⟩
  · refine ⟨fragment 0 32, List.replicate 16 0#8,
      { id := { job := 1 }, length := 32, frags := [(8, List.replicate 16 0#8)] }, ingesting
      [{ id := { job := 1 }, length := 32, frags := [(8, List.replicate 16 0#8)] }], _, rfl, ?_⟩
    exact ⟨opens_of { id := 1 } rfl (by unfold bandForm; decide +kernel) (by decide +kernel) (by decide +kernel) rfl (by decide +kernel), by decide +kernel, rfl, by decide +kernel, by decide +kernel, by decide +kernel⟩
  · refine ⟨fragment 0 32, List.replicate 16 0#8,
      { id := { job := 1 }, length := 32, frags := [(16, List.replicate 16 0#8)] }, ingesting
      [{ id := { job := 1 }, length := 32, frags := [(16, List.replicate 16 0#8)] }], _, rfl, _, rfl, ?_⟩
    exact ⟨opens_of { id := 1 } rfl (by unfold bandForm; decide +kernel) (by decide +kernel) (by decide +kernel) rfl (by decide +kernel), by decide +kernel, rfl, by decide +kernel, by decide +kernel, by decide +kernel⟩
  · exact ⟨1, 0, 0, 0, { id := { job := 1 } }, { idle with ingest := { bands := [{ id := { job := 1 } }] } }, _, rfl,
      by decide +kernel⟩
  · exact ⟨{ job := 1 }, { id := { job := 1 } }, ingesting [{ id := { job := 1 } }], by decide +kernel⟩

/-- HostLanesReportTheirLinks: states and operands that meet the hypotheses of its clauses. -/
theorem meets_HostLanesReportTheirLinks :
    (∃ (lane : Nat) (ip : Nat) (s : State), lane < 4 ∧ (s.cfgGet 0x15 0 (32 * lane) 1).testBit 0 = true ∧ s.cfgGet
    0x15 0 (32 * lane + 4) 4 = ip) ∧
    (∃ (lane : Nat) (ip : Nat) (s : State), s.cfgGet 0x15 0 (32 * lane + 4) 4 ≠ ip) ∧
    (∃ (lane : Nat) (s : State), kvFind s.host.up lane = some false) ∧
    (∃ (lane : Nat) (s : State), kvFind s.host.up lane ≠ some false) := by
  refine ⟨?_, ?_, ?_, ?_⟩
  · exact ⟨3, 9, withCfg [(0x15, 0, 96, 1, 1), (0x15, 0, 100, 4, 9)] idle, by decide +kernel⟩
  · exact ⟨3, 9, idle, by decide +kernel⟩
  · exact ⟨0, { idle with host := { up := [(0, false)] } }, by decide +kernel⟩
  · exact ⟨0, idle, by decide +kernel⟩

/-- SpoolLinksAndControllers: states and operands that meet the hypotheses of its clauses. -/
theorem meets_SpoolLinksAndControllers :
    (∃ (s : State), s.boot.porst = false ∧ spoolPowered s = true) ∧
    (∃ (s : State), (s.boot.porst = true ∨ spoolPowered s = false)) ∧
    (∃ (port : Nat) (n : Nat) (s : State), kvGet (false, 0) s.spool.ports port = (false, n) ∧ s.spool.perst = false ∧
    port < portCount s ∧ n ≤ 3) ∧
    (∃ (port : Nat) (n : Nat) (s : State), kvGet (false, 0) s.spool.ports port = (false, n) ∧ n ≤ 3 ∧ s.spool.perst =
    false ∧ port < portCount s ∧ mounted s = false ∧ s.spool.fmt = 0 ∧ (∀ m ∈ s.spool.members, m.port ≠ port)) ∧
    (∃ (port : Nat) (n : Nat) (s : State), kvGet (false, 0) s.spool.ports port = (false, n) ∧ 3 < n) ∧
    (∃ (i : NvmeInfo), i.nsOk = true ∧ i.queueOk = true ∧ (i.lba = 512 ∨ i.lba = 4096) ∧ (i.mdts = 0 ∨ 131072 ≤
    i.mdts)) ∧
    (∃ (i : NvmeInfo), (i.nsOk = false ∨ i.queueOk = false ∨ (i.lba ≠ 512 ∧ i.lba ≠ 4096) ∨ (i.mdts ≠ 0 ∧ i.mdts <
    131072))) ∧
    (∃ (s : State), s.spool.members.length ≤ 8) ∧
    (∃ (s : State), 8 < s.spool.members.length) ∧
    (∃ (c : Nat) (m : Member) (s : State), s.spool.members[c]? = some m ∧ m.readOnly = false) ∧
    (∃ (c : Nat) (w : Nat) (m : Member) (s : State), s.spool.members[c]? = some m ∧ w.testBit 3 = false ∧ (w % 8 ≠ 0 ∨
    w / 16 ≠ 0)) ∧
    (∃ (c : Nat) (m : Member) (s : State), s.spool.members[c]? = some m) := by
  refine ⟨?_, ?_, ?_, ?_, ?_, ?_, ?_, ?_, ?_, ?_, ?_, ?_⟩
  · exact ⟨idle, by decide +kernel⟩
  · exact ⟨State.reset, by decide +kernel⟩
  · exact ⟨0, 3, { idle with spool := { perst := false, ports := [(0, (false, 3))] } }, by decide +kernel⟩
  · exact ⟨3, 0, { idle with spool := { perst := false, setting := 2 } }, by decide +kernel⟩
  · exact ⟨0, 4, idle.modSpool fun p => { p with ports := [(0, (false, 4))] }, by decide +kernel⟩
  · exact ⟨{ mdts := 131072 }, by decide +kernel⟩
  · exact ⟨{ mdts := 65536 }, by decide +kernel⟩
  · exact ⟨idle, by decide +kernel⟩
  · exact ⟨idle.modSpool fun p => { p with members := List.replicate 9 {} }, by decide +kernel⟩
  · exact ⟨0, {}, spooled idle, by decide +kernel⟩
  · exact ⟨0, 1, {}, spooled idle, by decide +kernel⟩
  · exact ⟨0, {}, spooled idle, by decide +kernel⟩

/-- SpoolMountsAndMeasures: states and operands that meet the hypotheses of its clauses. -/
theorem meets_SpoolMountsAndMeasures :
    (∃ (l : List (List Byte × List Byte)) (s : State), mounted s = false ∧ s.spool.state ≠ .lost ∧ s.spool.fmt = 0 ∧
    l.length = s.spool.members.length ∧ (∀ p ∈ l, (superOf p.1).valid = false ∧ (superOf p.2).valid = false)) ∧
    (∃ (l : List (List Byte × List Byte)) (c : SuperCopy) (r : List SuperCopy) (s : State), ∃ cs, cs = (l.map fun p =>
    (superOf p.1, superOf p.2)) ∧ mounted s = false ∧ s.spool.state ≠ .lost ∧ s.spool.fmt = 0 ∧ l.length =
    s.spool.members.length ∧ (∃ p ∈ cs, p.1.valid = true ∨ p.2.valid = true) ∧ mountCopies cs = some (c :: r) ∧
    mountOk s (c :: r) = true) ∧
    (∃ (l : List (List Byte × List Byte)) (s : State), ∃ cs, cs = (l.map fun p => (superOf p.1, superOf p.2)) ∧
    mounted s = false ∧ s.spool.state ≠ .lost ∧ s.spool.fmt = 0 ∧ l.length = s.spool.members.length ∧ (∃ p ∈ cs,
    p.1.valid = true ∨ p.2.valid = true) ∧ (mountCopies cs = none ∨ ∃ c r, mountCopies cs = some (c :: r) ∧ mountOk s
    (c :: r) = false)) ∧
    (∃ (s : State), s.spool.mounting = true) ∧
    (∃ (c : Nat) (a : Nat) (b : Nat) (m : Member) (s : State), ∃ r, r = m.readBytes / 100000 ∧ s.spool.members[c]? =
    some m ∧ m.sat = true ∧ m.windows.take 2 = [a, b] ∧ 100 * (r + a + b) ≤ 98 * 3 * m.bw ∧ s.spool.mounting = false) ∧
    (∃ (c : Nat) (m : Member) (s : State), ∃ w, w = (m.readBytes / 100000 :: m.windows).take 3 ∧ s.spool.members[c]? =
    some m ∧ m.sat = true ∧ (w.length ≠ 3 ∨ 98 * 3 * m.bw < 100 * w.sum ∨ s.spool.mounting = true)) ∧
    (∃ (c : Nat) (m : Member) (s : State), s.spool.members[c]? = some m ∧ m.sat = false) ∧
    (∃ (m : Member) (s : State), mounted s = true ∧ s.spool.mounting = false ∧ s.spool.probing = false ∧ m ∈
    s.spool.members ∧ m.bw < m.mountBw) ∧
    (∃ (s : State), s.spool.probing = true) ∧
    (∃ (s : State), mounted s = true ∧ s.spool.batch = 0 ∧ (s.spool.dir ≠ s.spool.storedDir ∨ (s.spool.descs.filter
    fun d => d.present) ≠ s.spool.stored ∨ s.spool.usedRuns ≠ s.spool.storedRuns)) ∧
    (∃ (s : State), s.spool.batch = 0 ∧ s.spool.dir = s.spool.storedDir ∧ (s.spool.descs.filter fun d => d.present) =
    s.spool.stored ∧ s.spool.usedRuns = s.spool.storedRuns) ∧
    (∃ (s : State), s.spool.batch = 1 ∧ pendingOp s .flush = false) ∧
    (∃ (s : State), s.spool.batch = 2 ∧ pendingOp s .dirWrite = false) := by
  refine ⟨?_, ?_, ?_, ?_, ?_, ?_, ?_, ?_, ?_, ?_, ?_, ?_, ?_⟩
  · exact ⟨[([], [])], idle.modSpool fun p => { p with members := [{}] }, by decide +kernel⟩
  · refine ⟨[(oneCopy, [])], superOf oneCopy, [], idle.modSpool fun p => { p with members := [{}] }, _, rfl, ?_⟩
    refine ⟨by decide, by decide, rfl, rfl, ⟨_, List.mem_singleton_self _, .inl oneCopy_valid⟩, mountCopies_one oneCopy_valid noCopy, ?_⟩
    simp [mountOk, oneCopy_fields, oneCopy_key, between, State.modSpool, idle]
  · refine ⟨[(oneCopy, []), ([], [])], idle.modSpool fun p => { p with members := [{}, {}] }, _, rfl, ?_⟩
    exact ⟨by decide, by decide, rfl, rfl, ⟨_, List.mem_cons_self, .inl oneCopy_valid⟩, .inl (mountCopies_alone oneCopy_valid noCopy)⟩
  · exact ⟨idle.modSpool fun p => { p with mounting := true, members := [{}] }, by decide +kernel⟩
  · exact ⟨0, 98, 98, { bw := 100, sat := true, readBytes := 9800000, windows := [98, 98] }, idle.modSpool fun p =>
      { p with members := [{ bw := 100, sat := true, readBytes := 9800000, windows := [98, 98] }] }, _, rfl, by
      decide +kernel⟩
  · exact ⟨0, { sat := true }, idle.modSpool fun p => { p with members := [{ sat := true }] }, _, rfl, by
      decide +kernel⟩
  · exact ⟨0, {}, spooled idle, by decide +kernel⟩
  · exact ⟨{ bw := 90, mountBw := 100 }, (spooled idle).modSpool fun p =>
      { p with members := [{ bw := 90, mountBw := 100 }] }, by decide +kernel⟩
  · exact ⟨(spooled idle).modSpool fun p => { p with probing := true }, by decide +kernel⟩
  · exact ⟨(spooled idle).modSpool fun p => { p with dir := [{}] }, by decide +kernel⟩
  · exact ⟨idle, by decide +kernel⟩
  · exact ⟨(spooled idle).modSpool fun p => { p with batch := 1 }, by decide +kernel⟩
  · exact ⟨(spooled idle).modSpool fun p => { p with batch := 2 }, by decide +kernel⟩

/-- SpoolWritesAndReads: states and operands that meet the hypotheses of its clauses. -/
theorem meets_SpoolWritesAndReads :
    (∃ (c : Nat) (job : Nat) (layer : Nat) (frame : Nat) (band : Nat) (page : Nat) (op : NvmeOp) (q : NvmeCmd) (s :
    State), outCmd s c op { job := job, layer := layer, frame := frame, band := band } page = some q) ∧
    (∃ (c : Nat) (job : Nat) (layer : Nat) (frame : Nat) (band : Nat) (page : Nat) (op : NvmeOp) (s : State), outCmd s
    c op { job := job, layer := layer, frame := frame, band := band } page = none) ∧
    (∃ (q : NvmeCmd) (d : BandDesc) (s : State), q.op = .write ∧ descOf s q.id = some d ∧ d.present = false ∧
    pendingFor s .write q.id = false) ∧
    (∃ (q : NvmeCmd) (s : State), q.op = .write ∧ pendingFor s .write q.id = true) ∧
    (∃ (q : NvmeCmd), q.op = .write) ∧
    (∃ (q : NvmeCmd), q.op = .read) ∧
    (∃ (c : Nat) (job : Nat) (layer : Nat) (frame : Nat) (band : Nat) (page : Nat) (m : Member) (q : NvmeCmd) (s :
    State), ∃ id : BandId, id = { job := job, layer := layer, frame := frame, band := band } ∧ s.spool.members[c]? =
    some m ∧ outCmd s c .read id page = some q) ∧
    (∃ (c : Nat) (job : Nat) (layer : Nat) (frame : Nat) (band : Nat) (page : Nat) (m : Member) (q : NvmeCmd) (s :
    State), ∃ id : BandId, id = { job := job, layer := layer, frame := frame, band := band } ∧ s.spool.members[c]? =
    some m ∧ outCmd s c .read id page = none ∧ outCmd s c .reread id page = some q) ∧
    (∃ (c : Nat) (m : Member) (s : State), s.spool.members[c]? = some m ∧ m.lost = false) ∧
    (∃ (n : Nat) (serial : Nat) (band : Nat) (f : Flight) (b : BandDesc) (w : Due × Int) (s : State), ∃ work, work =
    stationWork s s.land.flights n ∧ flight s serial = some f ∧ (work.find? fun w => w.1.serial == serial &&
    w.1.id.band == band) = some w ∧ (n, band) ∉ f.asked ∧ w.1.have_ = false ∧ mounted s = true ∧ (w.2 : Rat) ≤
    newelLines s ∧ newelLines s ≤ (w.1.deadline : Rat) ∧ turnOf s n work w.1 = true ∧ descOf s w.1.id = some b ∧
    readable s w.1.id = true) ∧
    (∃ (c : Nat) (p : List Byte × List Byte) (m : Member) (s : State), s.spool.members[c]? = some m ∧ m.lost = true ∧
    m.gone = false ∧ rejoins s c p = true) ∧
    (∃ (c : Nat) (m : Member) (s : State), s.spool.members[c]? = some m ∧ m.lost = true ∧ m.gone = false ∧ m.busReset
    = false) ∧
    (∃ (c : Nat) (found : Option (List Byte × List Byte)) (m : Member) (s : State), s.spool.members[c]? = some m ∧
    m.lost = true ∧ m.gone = false ∧ found.any (rejoins s c) = false ∧ (found.isSome = true ∨ m.busReset = true)) ∧
    (∃ (c : Nat) (m : Member) (s : State), s.spool.members[c]? = some m ∧ (m.lost = false ∨ m.gone = true)) := by
  refine ⟨?_, ?_, ?_, ?_, ?_, ?_, ?_, ?_, ?_, ?_, ?_, ?_, ?_, ?_⟩
  · exact ⟨0, 1, 0, 0, 0, 0, .write, { op := .write, id := { job := 1 } }, (spooled idle).modSpool fun p =>
      { p with members := [{ out := [{ op := .write, id := { job := 1 } }] }] }, by decide +kernel⟩
  · exact ⟨0, 1, 0, 0, 0, 0, .write, spooled idle, by decide +kernel⟩
  · exact ⟨{ op := .write, id := { job := 1 } }, { id := { job := 1 } }, (spooled idle).modSpool fun p =>
      { p with descs := [{ id := { job := 1 } }] }, by decide +kernel⟩
  · exact ⟨{ op := .write, id := { job := 1 } }, (spooled idle).modSpool fun p =>
      { p with members := [{ out := [{ op := .write, id := { job := 1 } }] }] }, by decide +kernel⟩
  · exact ⟨{ op := .write }, by decide +kernel⟩
  · exact ⟨{ op := .read }, by decide +kernel⟩
  · exact ⟨0, 1, 0, 0, 0, 0, { timeouts := 2, out := [{ op := .read, id := { job := 1 } }] },
      { op := .read, id := { job := 1 } }, (spooled idle).modSpool fun p =>
      { p with members := [{ timeouts := 2, out := [{ op := .read, id := { job := 1 } }] }] }, _, rfl, by
      decide +kernel⟩
  · exact ⟨0, 1, 0, 0, 0, 0, { timeouts := 1, out := [{ op := .reread, id := { job := 1 } }] },
      { op := .reread, id := { job := 1 } }, (spooled idle).modSpool fun p =>
      { p with members := [{ timeouts := 1, out := [{ op := .reread, id := { job := 1 } }] }] }, _, rfl, by
      decide +kernel⟩
  · exact ⟨0, {}, spooled idle, by decide +kernel⟩
  · exact ⟨0, 1, 0, { serial := 1, landing := 320, bands := 1, use := [(0, 0)] }, { present := true },
      ({ serial := 1, id := {}, station := 0, pos := 320, h := 32, first := 0, len := 0, have_ := false }, -(2 ^ 62)),
      (spooled station0).modLand (fun l =>
      { l with flights := [{ serial := 1, landing := 320, bands := 1, use := [(0, 0)] }] }) |>.modSpool fun p =>
      { p with descs := [{ present := true }] }, _, rfl, by decide +kernel⟩
  · refine ⟨0, (oneCopy, []), { lost := true }, idle.modSpool fun p =>
      { p with sb := oneMember, members := [{ lost := true }] }, ?_⟩
    refine ⟨rfl, rfl, rfl, ?_⟩
    simp [rejoins, oneCopy_valid, oneCopy_fields, oneCopy_key, State.modSpool, oneMember]
  · exact ⟨0, { lost := true }, (spooled idle).modSpool fun p => { p with members := [{ lost := true }] }, by
      decide +kernel⟩
  · exact ⟨0, none, { lost := true, tries := 2, busReset := true }, (spooled idle).modSpool fun p =>
      { p with members := [{ lost := true, tries := 2, busReset := true }] }, by decide +kernel⟩
  · exact ⟨0, {}, spooled idle, by decide +kernel⟩

/-- AdmissionDecidesInOrder: states and operands that meet the hypotheses of its clauses. -/
theorem meets_AdmissionDecidesInOrder :
    (∃ (j : Job) (fr : Nat) (l : Int) (p : Int) (s : State), ∃ e, e = (s.modLand fun x =>
    { x with plans := x.plans.filter fun p => decide (l ≤ p.landing) }) ∧ coreStalled s 1 = false ∧ s.land.mode ≠
    .thread ∧ s.land.next = some l ∧ ((nextPlans e l).find? fun q => !prepared e q.1.id q.2.1 q.2.2 && planOkFor e
    (wouldFly e q.1 q.2.1 q.2.2)) = some (j, fr, p)) ∧
    (∃ (l : Int) (s : State), ∃ e, e = (s.modLand fun x =>
    { x with plans := x.plans.filter fun p => decide (l ≤ p.landing) }) ∧ coreStalled s 1 = false ∧ s.land.mode ≠
    .thread ∧ s.land.next = some l ∧ (∀ q ∈ nextPlans e l, prepared e q.1.id q.2.1 q.2.2 = true ∨ planOkFor e
    (wouldFly e q.1 q.2.1 q.2.2) = false)) ∧
    (∃ (s : State), (s.land.mode = .thread ∨ coreStalled s 1 = true)) ∧
    (∃ (s : State), s.land.reducedReq = false) ∧
    (∃ (s : State), (enterReduced s).land.mode = .thread) ∧
    (∃ (s : State), ∃ e, e = enterReduced s ∧ e.land.mode ≠ .thread ∧ e.land.next = none) ∧
    (∃ (l : Int) (s : State), ∃ e, e = enterReduced s ∧ e.land.mode ≠ .thread ∧ e.land.next = some l ∧ newelLines e <
    ((l - leadLines e l : Int) : Rat)) ∧
    (∃ (l : Int) (s : State), ∃ e, e = enterReduced s ∧ e.land.mode ≠ .thread ∧ e.land.next = some l ∧ ((l - leadLines
    e l : Int) : Rat) ≤ newelLines e ∧ admissionStopped e = true) ∧
    (∃ (l : Int) (s : State), ∃ e, e = enterReduced s ∧ e.land.mode ≠ .thread ∧ e.land.next = some l ∧ ((l - leadLines
    e l : Int) : Rat) ≤ newelLines e ∧ admissionStopped e = false ∧ e.maint.gapNext ≠ 0) ∧
    (∃ (l : Int) (s : State), ∃ e, e = enterReduced s ∧ e.land.mode ≠ .thread ∧ e.land.next = some l ∧ ((l - leadLines
    e l : Int) : Rat) ≤ newelLines e ∧ e.maint.gapNext = 0 ∧ admissionStopped e = false ∧ nextFrame e = none) ∧
    (∃ (l : Int) (j : Job) (fr : Nat) (s : State), ∃ e, e = enterReduced s ∧ e.land.mode ≠ .thread ∧ e.land.next =
    some l ∧ ((l - leadLines e l : Int) : Rat) ≤ newelLines e ∧ e.maint.gapNext = 0 ∧ admissionStopped e = false ∧
    nextFrame e = some (j, fr)) := by
  refine ⟨?_, ?_, ?_, ?_, ?_, ?_, ?_, ?_, ?_, ?_, ?_⟩
  · exact ⟨{ id := 1, count := 1 }, 0, 0, 0,
      { idle with jobs := [{ id := 1, count := 1 }], land := { mode := .speed, next := some 0 } }, _, rfl, by
      decide +kernel⟩
  · exact ⟨0, idle.modLand fun l => { l with mode := .speed, next := some 0 }, _, rfl, by decide +kernel⟩
  · exact ⟨idle, by decide +kernel⟩
  · exact ⟨idle, by decide +kernel⟩
  · exact ⟨idle, by decide +kernel⟩
  · exact ⟨idle.modLand fun l => { l with mode := .speed }, _, rfl, by decide +kernel⟩
  · exact ⟨1000000000, idle.modLand fun l => { l with mode := .speed, next := some 1000000000 }, _, rfl, by
      decide +kernel⟩
  · exact ⟨0, idle.modLand fun l => { l with mode := .speed, next := some 0, drain := true }, _, rfl, by
      decide +kernel⟩
  · exact ⟨0,
      { spooled idle with land := { mode := .speed, next := some 0 }, maint := { gapNext := 1 }, gov := { target := 100 } },
      _, rfl, by decide +kernel⟩
  · exact ⟨0, { spooled idle with land := { mode := .speed, next := some 0 } }, _, rfl, by decide +kernel⟩
  · exact ⟨0, { id := 1, count := 1 }, 0,
      { idle with jobs := [{ id := 1, count := 1 }], land := { mode := .speed, next := some 0 }, spool := (spooled idle).spool },
      _, rfl, by decide +kernel⟩

/-- LandingsAndFlightsEnd: states and operands that meet the hypotheses of its clauses. -/
theorem meets_LandingsAndFlightsEnd :
    (∃ (n : Nat) (serial : Nat) (f : Flight) (s : State), serial ≠ 0 ∧ flight s serial = some f ∧ n ∉ f.landed ∧
    (stationLanding s f n : Rat) ≤ newelLines s) ∧
    (∃ (n : Nat) (f : Flight) (s : State), (∀ m < n, ∀ g ∈ s.land.flights, m ∈ g.stations → m ∉ g.landed →
    stationLanding s g m ≠ stationLanding s f n)) ∧
    (∃ (n : Nat) (serial : Nat) (f : Flight) (s : State), serial ≠ 0 ∧ flight s serial = some f ∧ (n ∈ f.landed ∨
    newelLines s < (stationLanding s f n : Rat))) ∧
    (∃ (serial : Nat) (s : State), serial ≠ 0 ∧ flight s serial = none ∧ (∀ p, s.cfg.pend = some p → p.bound ≠ some
    serial)) ∧
    (∃ (n : Nat) (serial : Nat) (p : Pend) (s : State), serial ≠ 0 ∧ flight s serial = none ∧ s.cfg.pend = some p ∧
    p.bound = some serial ∧ ((p.landing + offsetOf s n : Int) : Rat) ≤ newelLines s) ∧
    (∃ (s : State), s.newel.lost = false ∧ noFlights s = true) ∧
    (∃ (s : State), (s.newel.lost = true ∨ noFlights s = false)) ∧
    (∃ (serial : Nat) (f : Flight) (s : State), flight s serial = some f ∧ (lastPos s f : Rat) ≤ newelLines s) ∧
    (∃ (serial : Nat) (f : Flight) (s : State), flight s serial = some f ∧ newelLines s < (lastPos s f : Rat)) ∧
    (∃ (serial : Nat) (s : State), flight s serial = none) ∧
    (∃ (s : State), s.land.run = .dwell ∧ (∀ n ∈ runStations s, hasLocks s n = true)) ∧
    (∃ (s : State), s.land.run = .dwell) ∧
    (∃ (s : State), s.land.run ≠ .dwell) := by
  refine ⟨?_, ?_, ?_, ?_, ?_, ?_, ?_, ?_, ?_, ?_, ?_, ?_, ?_⟩
  · exact ⟨0, 1, { serial := 1 }, station0.modLand fun l => { l with flights := [{ serial := 1 }] }, by
      decide +kernel⟩
  · exact ⟨1, { serial := 1, use := [(1, 0)] }, station0.modLand fun l =>
      { l with flights := [{ serial := 1, use := [(1, 0)] }] }, by decide +kernel⟩
  · exact ⟨0, 1, { serial := 1, landed := [0] }, station0.modLand fun l =>
      { l with flights := [{ serial := 1, landed := [0] }] }, by decide +kernel⟩
  · exact ⟨1, idle, by decide +kernel⟩
  · exact ⟨0, 1, { bound := some 1 }, station0.modCfg fun c => { c with pend := some { bound := some 1 } }, by
      decide +kernel⟩
  · exact ⟨idle, by decide +kernel⟩
  · exact ⟨station0.modNewel fun x => { x with lost := true }, by decide +kernel⟩
  · exact ⟨1, { serial := 1 }, station0.modLand fun l => { l with flights := [{ serial := 1 }] }, by decide +kernel⟩
  · exact ⟨1, { serial := 1, landing := 1 }, station0.modLand fun l =>
      { l with flights := [{ serial := 1, landing := 1 }] }, by decide +kernel⟩
  · exact ⟨1, idle, by decide +kernel⟩
  · exact ⟨idle.modLand fun l => { l with run := .dwell }, by decide +kernel⟩
  · exact ⟨idle.modLand fun l => { l with run := .dwell }, by decide +kernel⟩
  · exact ⟨idle, by decide +kernel⟩

/-- GovernorLowersAtOnceRaisesWithCare: states and operands that meet the hypotheses of its clauses. -/
theorem meets_GovernorLowersAtOnceRaisesWithCare :
    (∃ (s : State), coreStalled s 1 = false) ∧
    (∃ (s : State), coreStalled s 1 = true) ∧
    (∃ (s : State), dwellNow s = none) ∧
    (∃ (x : Rat) (up : Bool) (s : State), dwellNow s = some (x, up)) ∧
    (∃ (s : State), ((dwellWork s).gov.stopping = true ∨ (dwellWork s).land.run = .dwell)) ∧
    (∃ (s : State), ∃ e, e = dwellWork s ∧ e.gov.stopping = false ∧ e.land.run ≠ .dwell) ∧
    (∃ (ds : List (Rat × Rat)) (s : State), steady s = false ∧ (∀ d ∈ ds, fastestFrom s d.1 ≤ d.2)) := by
  refine ⟨?_, ?_, ?_, ?_, ?_, ?_, ?_⟩
  · exact ⟨idle, by decide +kernel⟩
  · exact ⟨idle.modFaults fun f => { f with stalled := [1] }, by decide +kernel⟩
  · exact ⟨idle, by decide +kernel⟩
  · exact ⟨50, false, idle.modGov fun g => { g with seg := { v0 := 50, v1 := 50, dur := 1, dwell := true } }, by
      decide +kernel⟩
  · exact ⟨idle.modGov fun g => { g with stopping := true }, by decide +kernel⟩
  · exact ⟨idle, _, rfl, by decide +kernel⟩
  · exact ⟨[(0, 1000)], idle.modGov fun g => { g with seg := { v0 := 50, v1 := 50, dur := 1, dwell := true } }, by
      decide +kernel⟩

/-- RidersSetLiveValues: states and operands that meet the hypotheses of its clauses. -/
theorem meets_RidersSetLiveValues :
    (∃ (r : RiderL) (k : Nat) (s : State), ∃ lo, lo = s.cfgGet 0x0B k 32 4 ∧ ∃ hi, hi = s.cfgGet 0x0B k 36 4 ∧
    riderActs s r = true ∧ r.op = 1 ∧ slotAt s.cfg.cur r.target r.sel = some k ∧ q16 lo ≤ q16 hi) ∧
    (∃ (r : RiderL) (n : Nat) (s : State), riderActs s r = true ∧ r.op = 2 ∧ s.cfg.cur.stationOf r.target = some n) ∧
    (∃ (r : RiderL) (k : Nat) (s : State), riderActs s r = true ∧ r.op = 3 ∧ s.cfg.cur.rank 0x0C r.target = some k) ∧
    (∃ (r : RiderL) (a : Nat) (s : State), riderActs s r = true ∧ r.op = 4 ∧ s.cfg.cur.rank 6 r.target = some a) ∧
    (∃ (r : RiderL) (s : State), riderActs s r = false) := by
  refine ⟨?_, ?_, ?_, ?_, ?_⟩
  · exact ⟨{ op := 1, target := 32#16 }, 0, (plant [(32, 8)]).modUnits fun u =>
      { u with live := [(32, { st := .ready })] }, _, rfl, _, rfl, by decide +kernel⟩
  · exact ⟨{ op := 2, target := 33#16 }, 0, station0.modUnits fun u => { u with live := [(33, { st := .ready })] }, by
      decide +kernel⟩
  · exact ⟨{ op := 3, target := 32#16 }, 0, (plant [(32, 12)]).modUnits fun u =>
      { u with live := [(32, { st := .ready })] }, by decide +kernel⟩
  · exact ⟨{ op := 4, target := 32#16 }, 0, (plant [(32, 6)]).modUnits fun u =>
      { u with live := [(32, { st := .ready })] }, by decide +kernel⟩
  · exact ⟨{ op := 1, target := 32#16 }, idle, by decide +kernel⟩

/-- MarksExposeBands: states and operands that meet the hypotheses of its clauses. -/
theorem meets_MarksExposeBands :
    (∃ (n : Nat) (s : State), s.cfg.cur.hasStation n = true) ∧
    (∃ (n : Nat) (s : State), s.cfg.cur.hasStation n = false) ∧
    (∃ (n : Nat) (s : State), stationLane s n = none) ∧
    (∃ (n : Nat) (l : Nat) (s : State), stationLane s n = some l ∧ (s.lane l).mode = .swept ∧ (s.lane l).statSeen =
    true ∧ (s.st n).scan.tsSeen = true) ∧
    (∃ (n : Nat) (l : Nat) (s : State), stationLane s n = some l ∧ (s.lane l).mode = .swept ∧ (s.lane l).statSeen =
    true ∧ (s.st n).scan.tsSeen = false) ∧
    (∃ (n : Nat) (k : Nat) (f : Flight) (s : State), ∃ x, x = s.st n ∧ f.marking.contains n = false ∧
    f.stations.contains n = true ∧ f.failsAt n k = false ∧ x.wHalf.serial = f.serial ∧ x.wHalf.band = k ∧ x.dec =
    .idle ∧ darkNow s n = false ∧ sweptNow s n = true) ∧
    (∃ (n : Nat) (k : Nat) (f : Flight) (s : State), ∃ x, x = s.st n ∧ f.marking.contains n = false ∧
    f.stations.contains n = true ∧ f.failsAt n k = false ∧ (x.wHalf.serial ≠ f.serial ∨ x.wHalf.band ≠ k ∨ sweptNow s
    n = false) ∧ x.dec = .idle ∧ darkNow s n = false) ∧
    (∃ (n : Nat) (k : Nat) (f : Flight), f.marking.contains n = false ∧ f.stations.contains n = true ∧ f.failsAt n k =
    true) ∧
    (∃ (n : Nat) (f : Flight), f.marking.contains n = false ∧ f.stations.contains n = false) ∧
    (∃ (n : Nat) (k : Nat) (f : Flight) (b : RBand) (s : State), f.marking.contains n = false ∧ f.stations.contains n
    = true ∧ f.failsAt n k = false ∧ ((s.st n).buf.find? fun b => b.serial == f.serial && b.id.band == k && !b.gone) =
    some b) ∧
    (∃ (n : Nat) (k : Nat) (f : Flight), f.marking.contains n = false ∧ f.failsAt n k = true) := by
  refine ⟨?_, ?_, ?_, ?_, ?_, ?_, ?_, ?_, ?_, ?_, ?_⟩
  · exact ⟨0, station0, by decide +kernel⟩
  · exact ⟨15, station0, by decide +kernel⟩
  · exact ⟨1, station0, by decide +kernel⟩
  · exact ⟨0, 3, modLane 3 (fun x => { x with mode := .swept }) station0, by decide +kernel⟩
  · exact ⟨0, 3, modSt 0 (fun x => { x with scan := { x.scan with tsSeen := false } }) (modLane 3 (fun x =>
      { x with mode := .swept }) station0), by decide +kernel⟩
  · exact ⟨0, 0, { serial := 1, bands := 1, use := [(0, 0)] }, modSt 0 (fun x =>
      { x with wHalf := { serial := 1 }, scan := { x.scan with lock := true } }) (modLane 3 (fun x =>
      { x with mode := .swept }) station0), _, rfl, by decide +kernel⟩
  · exact ⟨0, 1, { serial := 1, bands := 2, use := [(0, 0)] }, modSt 0 (fun x => { x with wHalf := { serial := 1 } })
      (modLane 3 (fun x => { x with mode := .swept }) station0), _, rfl, by decide +kernel⟩
  · exact ⟨0, 3, { serial := 1, use := [(0, 0)], failFrom := [(0, 2)], failed := 1#16 }, by decide +kernel⟩
  · exact ⟨0, { serial := 1 }, by decide +kernel⟩
  · exact ⟨0, 0, { serial := 1, bands := 1, use := [(0, 0)] }, { serial := 1 }, modSt 0 (fun x =>
      { x with buf := [{ serial := 1 }] }) station0, by decide +kernel⟩
  · exact ⟨0, 3, { serial := 1, use := [(0, 0)], failFrom := [(0, 2)], failed := 1#16 }, by decide +kernel⟩

/-- BandsDecodeOncePerStation: states and operands that meet the hypotheses of its clauses. -/
theorem meets_BandsDecodeOncePerStation :
    (∃ (n : Nat) (b : RBand) (s : State), nextOffsets s n = some b ∧ (s.st n).dec ≠ .waiting) ∧
    (∃ (n : Nat) (b : RBand) (c : RBand) (s : State), nextOffsets s n = some b ∧ (s.st n).dec = .waiting ∧ (s.st
    n).cur = some c ∧ c.serial = b.serial ∧ c.id = b.id) ∧
    (∃ (n : Nat) (s : State), nextOffsets s n = none) ∧
    (∃ (n : Nat) (b : RBand) (cs : List (List Nat)) (s : State), (s.st n).cur = some b ∧ (s.st n).dec = .decoding ∧
    (s.st n).curMark = false ∧ decodeBand (s.st n).hist (s.st n).save b.data = .cells cs true) ∧
    (∃ (n : Nat) (b : RBand) (s : State), (s.st n).cur = some b ∧ (s.st n).dec = .decoding ∧ (s.st n).curMark = false) ∧
    (∃ (n : Nat) (s : State), ((s.st n).cur = none ∨ (s.st n).dec ≠ .decoding)) ∧
    (∃ (n : Nat) (s : State), (s.st n).saveCopying = true) ∧
    (∃ (n : Nat) (s : State), (s.st n).saveCopying = false) ∧
    (∃ (n : Nat) (i : Nat) (b : RBand) (s : State), (s.st n).buf[i]? = some b ∧ b.gone = false ∧ (s.st n).cur = none) ∧
    (∃ (n : Nat) (s : State), (s.st n).ems.dbl = false ∧ (s.st n).xHalf.serial ≠ 0) := by
  refine ⟨?_, ?_, ?_, ?_, ?_, ?_, ?_, ?_, ?_, ?_⟩
  · exact ⟨0, { serial := 1, ok := true }, modSt 0 (fun x => { x with buf := [{ serial := 1, ok := true }] })
      (station0.modLand fun l => { l with flights := [{ serial := 1 }] }), by decide +kernel⟩
  · exact ⟨0, { serial := 1, ok := true }, { serial := 1, ok := true }, modSt 0 (fun x =>
      { x with buf := [{ serial := 1, ok := true }], dec := .waiting, cur := some { serial := 1, ok := true } })
      (station0.modLand fun l => { l with flights := [{ serial := 1 }] }), by decide +kernel⟩
  · exact ⟨0, station0, by decide +kernel⟩
  · exact ⟨0, {}, [], modSt 0 (fun x => { x with cur := some {}, dec := .decoding }) station0, by decide +kernel⟩
  · exact ⟨0, {}, modSt 0 (fun x => { x with cur := some {}, dec := .decoding }) station0, by decide +kernel⟩
  · exact ⟨0, station0, by decide +kernel⟩
  · exact ⟨15, modSt 15 (fun x => { x with saveCopying := true }) idle, by decide +kernel⟩
  · exact ⟨0, station0, by decide +kernel⟩
  · exact ⟨0, 0, { serial := 1 }, modSt 0 (fun x => { x with buf := [{ serial := 1 }] }) station0, by decide +kernel⟩
  · exact ⟨0, modSt 0 (fun x => { x with xHalf := { serial := 1 } }) station0, by decide +kernel⟩

/-- TimestampsAndSynthesiser: states and operands that meet the hypotheses of its clauses. -/
theorem meets_TimestampsAndSynthesiser :
    (∃ (l : Nat) (n : Nat) (s : State), laneStation s l = some n ∧ (s.st n).scan.tsSeen = false) ∧
    (∃ (n : Nat) (l : Nat) (s : State), stationLane s n = some l) ∧
    (∃ (n : Nat) (l : Nat) (s : State), s.cfg.cur.hasStation n = true ∧ stationLane s n = some l) ∧
    (∃ (n : Nat) (s : State), s.cfg.cur.hasStation n = true ∧ (s.st n).scan.lock = true ∧ (s.st n).scan.outWin < 7) ∧
    (∃ (n : Nat) (w : Nat) (b : Nat) (c : Nat) (r : List (Nat × Nat × Nat)) (s : State), (s.st n).scan.sched = (w, b,
    c) :: r) ∧
    (∃ (n : Nat) (s : State), (s.st n).scan.sched = []) ∧
    (∃ (n : Nat) (s : State), s.latestSet.hasStation n = true ∧ (∀ l, l < 16 → laneServes s l = some n → (s.lane
    l).trained = false ∧ (s.lane l).training = false)) ∧
    (∃ (n : Nat) (l : Nat) (s : State), l < 16 ∧ laneServes s l = some n ∧ ((s.lane l).trained = true ∨ (s.lane
    l).training = true)) ∧
    (∃ (n : Nat) (s : State), ∃ x, x = (s.st n).scan ∧ ∃ mean, mean = x.iSum / (x.iN : Nat) ∧ x.lock = true ∧ x.iN ≠ 0
    ∧ beyondSpan x mean = false) := by
  refine ⟨?_, ?_, ?_, ?_, ?_, ?_, ?_, ?_, ?_⟩
  · exact ⟨3, 0, modSt 0 (fun x => { x with scan := { x.scan with tsSeen := false } }) station0, by decide +kernel⟩
  · exact ⟨0, 3, station0, by decide +kernel⟩
  · exact ⟨0, 3, station0, by decide +kernel⟩
  · exact ⟨0, modSt 0 (fun x => { x with scan := { x.scan with lock := true, outWin := 6 } }) station0, by
      decide +kernel⟩
  · exact ⟨0, 1, 2, 3, [], modSt 0 (fun x => { x with scan := { x.scan with sched := [(1, 2, 3)] } }) station0, by
      decide +kernel⟩
  · exact ⟨0, station0, by decide +kernel⟩
  · exact ⟨0, station0, by decide +kernel⟩
  · exact ⟨0, 3, modLane 3 (fun x => { x with trained := true }) station0, by decide +kernel⟩
  · exact ⟨0, modSt 0 (fun x => { x with scan := { x.scan with lock := true, iN := 1, table := [(0, 1000)] } })
      station0, _, rfl, _, rfl, by decide +kernel⟩

/-- LanesTrainAndSidebandIsAcknowledged: states and operands that meet the hypotheses of its clauses. -/
theorem meets_LanesTrainAndSidebandIsAcknowledged :
    (∃ (l : Nat) (s : State), (s.lane l).training = true) ∧
    (∃ (l : Nat) (mdl : Nat) (s : State), (s.lane l).trained = false ∧ (s.lane l).training = false ∧ (s.lane
    l).retired = false ∧ (s.lane l).noLinkEp = true ∧ s.latestSet.mapModule l = some mdl) ∧
    (∃ (l : Nat) (tag : Nat) (s : State), (∀ m ∈ (s.lane l).out, m.tag ≠ tag)) ∧
    (∃ (l : Nat) (tag : Nat) (m : SideMsg) (s : State), ((s.lane l).out.find? fun m => m.tag == tag) = some m) ∧
    (∃ (l : Nat) (tag : Nat) (m : SideMsg) (s : State), ((s.lane l).out.find? fun m => m.tag == tag) = some m) ∧
    (∃ (p : Nat) (s : State), s.mbx.live = true ∧ s.boot.stage = .running ∧ p ≤ 3 ∧ s.clk.holdOver = false ∧ (kvGet
    ({} : Pll) s.clk.plls p).down = false) := by
  refine ⟨?_, ?_, ?_, ?_, ?_, ?_⟩
  · exact ⟨0, modLane 0 (fun x => { x with training := true }) idle, by decide +kernel⟩
  · exact ⟨3, 5, withCfg [(0x02, 0, 35, 1, 0x85)] (modLane 3 (fun x => { x with noLinkEp := true }) idle), by
      decide +kernel⟩
  · exact ⟨0, 0, idle, by decide +kernel⟩
  · exact ⟨0, 7, { tag := 7 }, modLane 0 (fun x => { x with out := [{ tag := 7 }] }) idle, by decide +kernel⟩
  · exact ⟨0, 7, { tag := 7 }, modLane 0 (fun x => { x with out := [{ tag := 7 }] }) idle, by decide +kernel⟩
  · exact ⟨3, idle, by decide +kernel⟩

/-- LaneErrorsAndInterlocks: states and operands that meet the hypotheses of its clauses. -/
theorem meets_LaneErrorsAndInterlocks :
    (∃ (l : Nat) (n : Nat) (s : State), laneStation s l = some n ∧ (s.lane l).statSeen = false) ∧
    (∃ (l : Nat) (s : State), ((s.lane l).statSeen = true ∨ laneStation s l = none)) ∧
    (∃ (l : Nat) (b : Ber) (s : State), (s.lane l).ber = some b) ∧
    (∃ (l : Nat) (s : State), (s.lane l).ber = none) := by
  refine ⟨?_, ?_, ?_, ?_⟩
  · exact ⟨3, 0, modLane 3 (fun x => { x with statSeen := false }) station0, by decide +kernel⟩
  · exact ⟨3, station0, by decide +kernel⟩
  · exact ⟨3, {}, modLane 3 (fun x => { x with ber := some {} }) idle, by decide +kernel⟩
  · exact ⟨3, idle, by decide +kernel⟩

/-- EmittersAreMeasuredAndHeadsRead: states and operands that meet the hypotheses of its clauses. -/
theorem meets_EmittersAreMeasuredAndHeadsRead :
    (∃ (l : Nat) (n : Nat) (r : MeasReq) (s : State), laneStation s l = some n ∧ (s.st n).ems.req = some r) ∧
    (∃ (n : Nat) (r : MeasReq) (s : State), (s.st n).ems.test = none ∧ (emitter s n r.emitter).st = .mapped ∧ (s.st
    n).ems.cycleDone = true) ∧
    (∃ (cnt : Nat), cnt < 3) ∧
    (∃ (l : Nat) (n : Nat) (a : Nat) (s : State), laneStation s l = some n ∧ (s.st n).ems.readAt = some a) ∧
    (∃ (l : Nat) (n : Nat) (h : Head) (s : State), laneStation s l = some n ∧ (s.st n).ems.readAt = none ∧ (s.st
    n).ems.presence = true ∧ (s.st n).ems.head = some h) ∧
    (∃ (n : Nat) (h : Head) (s : State), (s.st n).ems.head = some h) ∧
    (∃ (n : Nat) (l : Nat) (s : State), stationLane s n = some l ∧ (s.lane l).training = false ∧ (s.lane l).trained =
    true) ∧
    (∃ (n : Nat) (s : State), (∀ l, stationLane s n = some l → (s.lane l).training = true ∨ (s.lane l).trained =
    false)) ∧
    (∃ (n : Nat) (s : State), headOk s n (headImage (s.st n).ems) = false) ∧
    (∃ (ls : List (Nat × BitVec 36)), ls.length ≤ 65) := by
  refine ⟨?_, ?_, ?_, ?_, ?_, ?_, ?_, ?_, ?_, ?_⟩
  · exact ⟨3, 0, {}, modEms 0 (fun x => { x with req := some {} }) station0, by decide +kernel⟩
  · exact ⟨0, {}, modEms 0 (fun x => { x with em := [(0, { st := .mapped })], cycleDone := true }) station0, by
      decide +kernel⟩
  · exact ⟨2, by decide +kernel⟩
  · exact ⟨3, 0, 0, modEms 0 (fun x => { x with readAt := some 0 }) station0, by decide +kernel⟩
  · exact ⟨3, 0, {}, modEms 0 (fun x => { x with presence := true, head := some {} }) station0, by decide +kernel⟩
  · exact ⟨0, {}, modEms 0 (fun x => { x with head := some {} }) station0, by decide +kernel⟩
  · exact ⟨0, 3, modLane 3 (fun x => { x with trained := true }) station0, by decide +kernel⟩
  · exact ⟨0, station0, by decide +kernel⟩
  · refine ⟨0, station0, ?_⟩
    have : (fieldAt (headImage (station0.st 0).ems) 2 2 == 1) = false := by decide +kernel
    simp [headOk, this]
  · exact ⟨List.replicate 65 (1, 0#36), by decide +kernel⟩

/-- NewelCountsExactly: states and operands that meet the hypotheses of its clauses. -/
theorem meets_NewelCountsExactly :
    (∃ (s : State), s.newel.lost = false ∧ s.newel.onBackup = false ∧ noFlights s = true) ∧
    (∃ (s : State), s.newel.onBackup = false ∧ noFlights s = true) ∧
    (∃ (i : Int), -(2 : Int) ^ 79 ≤ i ∧ i < 2 ^ 79) ∧
    (∃ (s : State), noFlights s = false) ∧
    (∃ (s : State), s.newel.illegal.length < 4) ∧
    (∃ (s : State), s.newel.idxTest = false) ∧
    (∃ (s : State), s.newel.lost = false ∧ s.newel.usable = true) ∧
    (∃ (s : State), s.newel.lost = true) ∧
    (∃ (s : State), ∃ x, x = s.newel ∧ x.lost = false ∧ backupScale s ≠ 0) := by
  refine ⟨?_, ?_, ?_, ?_, ?_, ?_, ?_, ?_, ?_⟩
  · exact ⟨idle, by decide +kernel⟩
  · exact ⟨{ idle with newel := { lost := true } }, by decide +kernel⟩
  · exact ⟨-(2 ^ 79), by decide +kernel⟩
  · exact ⟨idle.modLand fun l => { l with flights := [{}] }, by decide +kernel⟩
  · exact ⟨{ idle with newel := { illegal := [1, 2, 3] } }, by decide +kernel⟩
  · exact ⟨idle, by decide +kernel⟩
  · exact ⟨{ idle with newel := { usable := true } }, by decide +kernel⟩
  · exact ⟨{ idle with newel := { lost := true } }, by decide +kernel⟩
  · exact ⟨withCfg [(0x05, 0, 12, 4, 1)] idle, _, rfl, by decide +kernel⟩

/-- FollowersNeverDeviate: states and operands that meet the hypotheses of its clauses. -/
theorem meets_FollowersNeverDeviate :
    (∃ (g : Gear), g.blend = none ∧ g.den ≠ 0) ∧
    (∃ (g : Gear), g.blend = none ∧ g.den ≠ 0 ∧ 0 ≤ g.acc ∧ g.acc < g.den) ∧
    (∃ (n : Int) (d : Nat) (p : Int) (g : Gear), g.regear = some (n, d, p)) ∧
    (∃ (h : Handle) (s : State), axesOf s h = [] ∧ (kvGet [] s.ring.edges (hIndex h)).length < 3) ∧
    (∃ (h : Handle) (a : Nat) (s : State), axesOf s h = [a] ∧ (s.axis a).home = .none ∧ (kvGet [] s.ring.edges (hIndex
    h)).length < 3) := by
  refine ⟨?_, ?_, ?_, ?_, ?_⟩
  · exact ⟨{}, by decide +kernel⟩
  · exact ⟨{ den := 2, acc := 1 }, by decide +kernel⟩
  · exact ⟨1, 2, 3, { regear := some (1, 2, 3) }, by decide +kernel⟩
  · exact ⟨40#16, { idle with ring := { edges := [(40, [1, 2])] } }, by decide +kernel⟩
  · exact ⟨40#16, 0, withCfg [(0x09, 0, 60, 2, 40)] (plant [(32, 6), (40, 11)]), by decide +kernel⟩

/-- MotorsAreCommutatedAndEstimated: states and operands that meet the hypotheses of its clauses. -/
theorem meets_MotorsAreCommutatedAndEstimated :
    (∃ (a : Nat) (s : State), axMode s a = 0 ∧ (s.axis a).fault = false) ∧
    (∃ (s : State), (∀ a ∈ axesOn s, axF s a 54 2 = 0)) ∧
    (∃ (a : Nat) (s : State), axesOn s = [a] ∧ axF s a 54 2 ≠ 0) ∧
    (∃ (a : Nat) (s : State), windingSensor s a = none ∧ (axF s a 48 2 : Rat) / 10 ≠ 0) ∧
    (∃ (s : State), (∀ a ∈ axesOn s, axMode s a ≠ 2)) ∧
    (∃ (a : Nat) (s : State), axesOn s = [a] ∧ axMode s a = 2) ∧
    (∃ (a : Nat) (s : State), axMode s a = 2 ∧ 125000 ≤ (s.axis a).winN ∧ resist s a * (s.axis a).kappa ≠ 0 ∧ 0 <
    (s.axis a).kappa) := by
  refine ⟨?_, ?_, ?_, ?_, ?_, ?_, ?_⟩
  · exact ⟨0, plant [(32, 6)], by decide +kernel⟩
  · exact ⟨plant [(32, 6)], by decide +kernel⟩
  · exact ⟨0, withCfg [(0x09, 0, 54, 2, 1)] (plant [(32, 6)]), by decide +kernel⟩
  · exact ⟨0, withCfg [(0x09, 0, 48, 2, 1)] (plant [(32, 6)]), by decide +kernel⟩
  · exact ⟨plant [(32, 6)], by decide +kernel⟩
  · exact ⟨0, withCfg [(0x09, 0, 3, 1, 0x80)] (plant [(32, 6)]), by decide +kernel⟩
  · exact ⟨0, withCfg [(0x09, 0, 3, 1, 0x80), (0x09, 0, 40, 4, 5)] (modAxis 0 (fun x =>
      { x with winN := 125000, kappa := 1 }) (plant [(32, 6)])), by decide +kernel⟩

/-- TheRingCyclesAndEnumerates: states and operands that meet the hypotheses of its clauses. -/
theorem meets_TheRingCyclesAndEnumerates :
    (∃ (s : State), s.ring.cyclic = false ∧ s.ring.hvTest = []) ∧
    (∃ (n : Nat) (y : Node) (s : State), s.ring.cyclic = true ∧ s.ring.nodes = [(n, y)] ∧ y.slot = true ∧ y.lost =
    false) ∧
    (∃ (n : Nat) (s : State), unitsOn s.cfg.cur (nodeH s n) = []) ∧
    (∃ (s : State), nodesOn s = [] ∧ s.ring.nodes = []) ∧
    (∃ (s : State), (∀ h, openOn s h 0x1101 = false) ∧ s.mbx.waiters = []) ∧
    (∃ (n : Nat) (tag : Nat) (op : Nat) (s : State), (s.node n).req = some (op, tag)) := by
  refine ⟨?_, ?_, ?_, ?_, ?_, ?_⟩
  · exact ⟨idle, by decide +kernel⟩
  · exact ⟨63, { slot := true }, { idle with ring := { cyclic := true, nodes := [(63, { slot := true })] } }, by
      decide +kernel⟩
  · exact ⟨0, idle, by decide +kernel⟩
  · exact ⟨idle, by decide +kernel⟩
  · refine ⟨idle, ?_⟩
    exact ⟨fun h => rfl, rfl⟩
  · exact ⟨0, 2, 1, { idle with ring := { nodes := [(0, { req := some (1, 2) })] } }, by decide +kernel⟩

/-- ClocksWakeInOrder: states and operands that meet the hypotheses of its clauses. -/
theorem meets_ClocksWakeInOrder :
    (∃ (s : State), s.boot.porst = false) ∧
    (∃ (s : State), s.boot.porst = false ∧ s.clk.xtalOn = true ∧ s.clk.stairDone = false ∧ s.boot.cause = 0#4) ∧
    (∃ (s : State), waking s = true) ∧
    (∃ (s : State), s.boot.porst = false ∧ s.boot.cause = 0#4 ∧ s.clk.stairDone = true ∧ s.clk.holdOver = false ∧
    s.mbx.live = true) ∧
    (∃ (s : State), s.boot.porst = false) ∧
    (∃ (r : Bool) (x : Domain), x.div ∈ ladder ∧ (x.target = 0 ∨ x.target ∈ ladder) ∧ (x.div ≠ x.target ∨ x.onRoot ≠
    r)) ∧
    (∃ (s : State), s.boot.porst = false) := by
  refine ⟨?_, ?_, ?_, ?_, ?_, ?_, ?_⟩
  · exact ⟨idle, by decide +kernel⟩
  · exact ⟨{ idle with clk := { xtalOn := true } }, by decide +kernel⟩
  · exact ⟨idle, by decide +kernel⟩
  · exact ⟨{ idle with clk := { stairDone := true } }, by decide +kernel⟩
  · exact ⟨idle, by decide +kernel⟩
  · exact ⟨true, { div := 96, target := 1 }, by decide +kernel⟩
  · exact ⟨idle, by decide +kernel⟩

/-- RailsAreJudgedAndSequenced: states and operands that meet the hypotheses of its clauses. -/
theorem meets_RailsAreJudgedAndSequenced :
    (∃ (s : State), s.mbx.live = true ∧ s.boot.stage = .running) ∧
    (∃ (r : Nat) (w : Nat) (s : State), (s.rail r).st = .good ∧ statusFault w true = true) := by
  refine ⟨?_, ?_⟩
  · exact ⟨idle, by decide +kernel⟩
  · exact ⟨47, 0x8000, idle.modPower fun p => { p with rails := [(47, { st := .good })] }, by decide +kernel⟩

/-- ThermalStagesAreEnteredAndLeft: states and operands that meet the hypotheses of its clauses. -/
theorem meets_ThermalStagesAreEnteredAndLeft :
    (∃ (k : Nat) (v : Int) (s : State), k ≠ 140 ∧ levelOf s k = some v ∧ v < resumeAt s k ∧ resumeAt s k ≤ slowAt s k
    ∧ slowAt s k ≤ stopAt s k ∧ stopAt s k ≤ tripAt s k) ∧
    (∃ (k : Nat) (s : State), (source s k).broken = true) ∧
    (∃ (k : Nat) (v : Rat) (s : State), (source s k).slow = true ∧ levelBelow s k (slowAt s k) = false ∧
    (s.gov.reqs.find? fun r => r.1 == k) = some (k, v)) ∧
    (∃ (k : Nat) (s : State), (source s k).slow = false) ∧
    (∃ (s : State), s.mbx.live = true) := by
  refine ⟨?_, ?_, ?_, ?_, ?_⟩
  · exact ⟨0, 1439, { idle with therm := { src := [(0, { raw := some 1439 })] } }, by decide +kernel⟩
  · exact ⟨0, { idle with therm := { src := [(0, { broken := true })] } }, by decide +kernel⟩
  · exact ⟨0, 100,
      { idle with therm := { src := [(0, { slow := true, raw := some 1568 })] }, gov := { reqs := [(0, 100)] } }, by
      decide +kernel⟩
  · exact ⟨0, idle, by decide +kernel⟩
  · exact ⟨idle, by decide +kernel⟩

/-- FaultRecordsOpenMergeAndClose: states and operands that meet the hypotheses of its clauses. -/
theorem meets_FaultRecordsOpenMergeAndClose :
    (∃ (cls : Nat) (h : Handle) (sel : Nat) (i : Nat) (s : State), (∀ p ∈ s.faults.recs, mergesInto s p.2 h sel =
    false) ∧ s.cfg.cur.flagged (hIndex h) = none ∧ freeEntry s h = some i ∧ (cls = 2 ∨ cls = 3 ∨ cls = 4)) ∧
    (∃ (i : Nat) (cls : Nat) (h : Handle) (s : State) (r : FRec), kvFind s.faults.recs i = some r ∧ cls ≤ classOf
    r.code ∧ h = 0#16) ∧
    (∃ (c : Nat) (s : State), c ∉ s.faults.stalled ∧ (∀ t ∈ s.faults.stallSec, t + 3600 < s.clk.opSec)) ∧
    (∃ (i : Nat) (s : State), recordOf s 0#16 0 = some i) ∧
    (∃ (s : State), s.faults.stalled = [] ∧ s.boot.aliveOn = true) := by
  refine ⟨?_, ?_, ?_, ?_, ?_⟩
  · exact ⟨2, 33#16, 0, 1, station0, by decide +kernel⟩
  · exact ⟨255, 3, 0#16, idle.modFaults fun f => { f with recs := [(255, { code := 0x6000, st := .active })] },
      { code := 0x6000, st := .active }, by decide +kernel⟩
  · exact ⟨3, { idle with faults := { stallSec := [0] }, clk := { opSec := 3601 } }, by decide +kernel⟩
  · exact ⟨0, idle.modFaults fun f => { f with recs := [(0, { code := 0x6000, st := .active })] }, by decide +kernel⟩
  · exact ⟨{ idle with boot := { idle.boot with aliveOn := true } }, by decide +kernel⟩

/-- ThePairClaimsAndSynchronises: states and operands that meet the hypotheses of its clauses. -/
theorem meets_ThePairClaimsAndSynchronises :
    (∃ (s : State), running s = true ∧ s.pair.claimOut = false ∧ s.pair.dropped = false ∧ s.power.seq = .none ∧
    s.ring.cyclic = true) ∧
    (∃ (s : State), (running s = false ∨ s.pair.claimOut = true)) ∧
    (∃ (s : State), (s.pair.claimOut = true ∨ s.pair.missRun < 3)) ∧
    (∃ (s : State), running s = true ∧ pairEn s = true ∧ s.pair.claimOut = false ∧ s.pair.dropped = false ∧
    s.pair.clash = false ∧ s.faults.lockout = false ∧ s.pair.st ≠ .alone ∧ 3 ≤ s.pair.missRun) ∧
    (∃ (s : State), s.pair.claimOut = false) ∧
    (∃ (s : State), running s = true ∧ pairEn s = true) ∧
    (∃ (k : Nat) (s : State), running s = true ∧ pairEn s = true ∧ k ≠ s.boot.pairSlot ∧ s.pair.claimOut = false ∧
    s.pair.st ≠ .locked) ∧
    (∃ (s : State), (running s = false ∨ pairEn s = false)) ∧
    (∃ (f : BitVec 8) (s : State), running s = true ∧ pairEn s = true ∧ s.pair.claimOut = true ∧ s.pair.st = .active ∧
    f.getLsbD 1 = false ∧ f.getLsbD 3 = false) ∧
    (∃ (x : MirrorSec), (∀ r, x ≠ .gallery r)) ∧
    (∃ (act : Bool) (s : State), s.faults.lockout = false ∧ act ≠ s.pair.claimIn ∧ 3 ≤ s.pair.disagree) := by
  refine ⟨?_, ?_, ?_, ?_, ?_, ?_, ?_, ?_, ?_, ?_, ?_⟩
  · exact ⟨{ idle with ring := { cyclic := true } }, by decide +kernel⟩
  · exact ⟨{ idle with pair := { claimOut := true } }, by decide +kernel⟩
  · exact ⟨{ idle with pair := { missRun := 2 } }, by decide +kernel⟩
  · exact ⟨withCfg [(0x11, 0, 3, 1, 0x80)] { idle with pair := { st := .synced, missRun := 3 } }, by decide +kernel⟩
  · exact ⟨idle, by decide +kernel⟩
  · exact ⟨withCfg [(0x11, 0, 3, 1, 0x80)] idle, by decide +kernel⟩
  · exact ⟨1, withCfg [(0x11, 0, 3, 1, 0x80)] idle, by decide +kernel⟩
  · exact ⟨idle, by decide +kernel⟩
  · exact ⟨0#8, withCfg [(0x11, 0, 3, 1, 0x80)] { idle with pair := { st := .active, claimOut := true } }, by
      decide +kernel⟩
  · refine ⟨.snapshotEnd, ?_⟩
    intro r h; exact nomatch h
  · exact ⟨true, { idle with pair := { disagree := 3 } }, by decide +kernel⟩

/-- BootReadsImagesAndStores: states and operands that meet the hypotheses of its clauses. -/
theorem meets_BootReadsImagesAndStores :
    (∃ (s : State), (s.boot.porst = true ∨ s.clk.foscGood = false ∨ s.boot.stage ≠ .rom)) ∧
    (∃ (d : Nat) (s : State), s.boot.porst = false ∧ s.clk.foscGood = true ∧ s.boot.stage = .rom ∧ (s.auth.digests =
    [] ∨ d ∈ s.auth.digests)) ∧
    (∃ (s : State), s.boot.porst = false ∧ s.clk.foscGood = true ∧ s.boot.stage = .rom) ∧
    (∃ (d : Nat) (sg : Bool) (s : State), s.boot.stage = .rom ∧ (sg = false ∨ (s.auth.digests ≠ [] ∧ d ∉
    s.auth.digests))) ∧
    (∃ (s : State), (s.boot.porst = true ∨ s.boot.stage ≠ .accepted ∨ (s.clk.stairDone = false ∧ s.boot.cause = 0#4))) ∧
    (∃ (s : State), s.boot.porst = false ∧ s.boot.stage = .accepted ∧ (s.clk.stairDone = true ∨ s.boot.cause ≠ 0#4)) := by
  refine ⟨?_, ?_, ?_, ?_, ?_, ?_⟩
  · exact ⟨idle, by decide +kernel⟩
  · exact ⟨9, { idle with boot := { porst := false }, auth := { digests := [8, 9] } }, by decide +kernel⟩
  · exact ⟨{ idle with boot := { porst := false } }, by decide +kernel⟩
  · exact ⟨9, true, { idle with boot := { porst := false }, auth := { digests := [8] } }, by decide +kernel⟩
  · exact ⟨idle, by decide +kernel⟩
  · exact ⟨{ idle with boot := { porst := false, stage := .accepted }, clk := { stairDone := true } }, by
      decide +kernel⟩

/-- PanelAndTokenPort: states and operands that meet the hypotheses of its clauses. -/
theorem meets_PanelAndTokenPort :
    (∃ (s : State), running s = true) ∧
    (∃ (s : State), running s = true ∧ touchEn s = true ∧ s.panel.stuck = false) ∧
    (∃ (s : State), s.panel.stuck = true) ∧
    (∃ (s : State), running s = true ∧ s.panel.vbus = true ∧ s.panel.plugged = none) ∧
    (∃ (s : State), running s = true ∧ s.panel.vbus = true ∧ s.panel.plugged = none) ∧
    (∃ (s : State), running s = true ∧ s.panel.vbusOver = true ∧ s.panel.vbusDead = false ∧ usbEn s = true) ∧
    (∃ (s : State), s.panel.vbusDead = true) := by
  refine ⟨?_, ?_, ?_, ?_, ?_, ?_, ?_⟩
  · exact ⟨idle, by decide +kernel⟩
  · exact ⟨withCfg [(0x15, 1, 7, 1, 3)] idle, by decide +kernel⟩
  · exact ⟨{ idle with panel := { stuck := true } }, by decide +kernel⟩
  · exact ⟨{ idle with panel := { vbus := true } }, by decide +kernel⟩
  · exact ⟨{ idle with panel := { vbus := true } }, by decide +kernel⟩
  · exact ⟨withCfg [(0x15, 1, 7, 1, 3)] { idle with panel := { vbusOver := true } }, by decide +kernel⟩
  · exact ⟨{ idle with panel := { vbusDead := true } }, by decide +kernel⟩

/-- CellsDecodeAsStated: states and operands that meet the hypotheses of its clauses. -/
theorem meets_CellsDecodeAsStated :
    (∃ (p : Nat), p < 64) ∧
    (∃ (ls : List Nat), ls.length = 64 ∧ (∀ l ∈ ls, l < 16)) := by
  refine ⟨?_, ?_⟩
  · exact ⟨63, by decide +kernel⟩
  · exact ⟨List.replicate 64 15, by decide +kernel⟩

/-- DefaultSetAtBoot: states and operands that meet the hypotheses of its clauses. -/
theorem meets_DefaultSetAtBoot :
    (∃ (c : Cfg), c.slotA.good = false ∧ c.slotB.good = false) ∧
    (∃ (c : Cfg), c.slotA.discarded ≠ [] ∧ c.slotB.discarded ≠ []) := by
  refine ⟨?_, ?_⟩
  · exact ⟨{ slotA := { state := .active, crc := 1 } }, by decide +kernel⟩
  · exact ⟨{ slotA := { state := .active, crc := 1 }, slotB := { state := .active, crc := 1 } }, by decide +kernel⟩

/-- ResponsesTouchOnlyTheMailbox: states and operands that meet the hypotheses of its clauses. -/
theorem meets_ResponsesTouchOnlyTheMailbox :
    (∃ (i : CmdInfo) (need : State → Nat) (m : Cmd) (s : State) (st : Status), serving s ∧ vet i (need (startCmd i.op
    m s)) m (startCmd i.op m s) = some st) ∧
    (∃ (s : State), (s.mbx.live = false ∨ coreStalled s 0 = true)) := by
  refine ⟨?_, ?_⟩
  · refine ⟨opUnitRead, noTicket, cmdOn 40 [], idle, .noUnit, ?_⟩
    exact ⟨⟨by decide, by decide⟩, by decide +kernel⟩
  · exact ⟨State.reset, by decide +kernel⟩

/-- NoCommandIsRefused: states and operands that meet the hypotheses of its clauses. -/
theorem meets_NoCommandIsRefused :
    ∃ (c : Instr), (∀ p b e, c ≠ .porstNRelease p b e) := by
  refine ⟨.unitRead {}, ?_⟩
  intro p b e h; exact nomatch h

end Sys2Proof.Tests
end

section
/-! SUPPORT. The invariant along every step (O2, O3). It speaks of five components: the mailbox, the clocks, the power
unit, the authority and the fault unit. Nearly every operation of the model leaves it as it stands: `Inv (f s) ↔ Inv s`,
an equation of its own for each operation, which `simp` chains through the operations built on it without side
conditions (`inv_…`). The few that may also bring a state into bounds (a ring's entries taken out, the power log cut at
64, a digest removed, a reset) keep it: `Inv s → Inv (f s)` (`Inv.…`). A command's body leaves a sound reply and a
command ends soundly (`sound_…`); a step is one command. -/

namespace Sys2Proof.Machine

open Sys2Proof

variable {s t : State}

/-! ### Keyed tables -/

/-- Setting an entry loses no key. -/
theorem exists_key_kvSet {α : Type} {l : KV α} {p : Nat × α} (h : p ∈ l) (n : Nat) (v : α) :
    ∃ q ∈ kvSet l n v, q.1 = p.1 := by
  induction l with
  | nil => simp at h
  | cons e r ih =>
    obtain ⟨k, w⟩ := e
    unfold kvSet
    split_ifs with e1 e2
    · rcases List.mem_cons.1 h with rfl | h
      · exact ⟨_, List.mem_cons_self, e1⟩
      · exact ⟨p, List.mem_cons_of_mem _ h, rfl⟩
    · exact ⟨p, List.mem_cons_of_mem _ h, rfl⟩
    · rcases List.mem_cons.1 h with rfl | h
      · exact ⟨_, List.mem_cons_self, rfl⟩
      · obtain ⟨q, hq, e⟩ := ih h
        exact ⟨q, List.mem_cons_of_mem _ hq, e⟩

/-- Setting an entry neither gives a table the order of its keys nor takes it away. -/
@[simp] theorem kvRising_kvSet_iff {α : Type} (l : KV α) (n : Nat) (v : α) : kvRising (kvSet l n v) ↔ kvRising l := by
  refine ⟨fun h => ?_, fun h => kvRising_kvSet h n v⟩
  induction l with
  | nil => trivial
  | cons e r ih =>
    obtain ⟨k, w⟩ := e
    unfold kvSet at h
    split_ifs at h with e1 e2
    · subst e1; exact h
    · exact h.2
    · refine ⟨fun p hp => ?_, ih h.2⟩
      obtain ⟨q, hq, e⟩ := exists_key_kvSet hp n v
      exact e ▸ h.1 q hq

@[simp] theorem kvRising_kvMod_iff {α : Type} (d : α) (l : KV α) (n : Nat) (f : α → α) :
    kvRising (kvMod d l n f) ↔ kvRising l := kvRising_kvSet_iff l n _

/-! ### The components -/

/-- What the invariant asks of the mailbox (R386). -/
def Mbx.Sound (b : Mbx) : Prop := b.ringsFit ∧ b.windowCanonical

/-- What the invariant asks of the counters of time and power cycles (R5, R310). -/
def Clk.Sound (c : Clk) : Prop := c.opSec < 2 ^ 40 ∧ c.powerCycle < 2 ^ 32

/-- The invariant, component by component. -/
theorem inv_iff : Inv s ↔ s.mbx.Sound ∧ s.clk.Sound ∧ s.power.log.length ≤ 64 ∧ s.auth.digests.length ≤ 16 ∧
    kvRising s.faults.recs :=
  ⟨fun h => ⟨⟨h.rings, h.window⟩, ⟨h.seconds, h.cycles⟩, h.powerLog, h.digests, h.faultTable⟩,
    fun ⟨⟨hr, hw⟩, ⟨hs, hc⟩, hp, hd, hf⟩ => ⟨hr, hw, hs, hc, hp, hd, hf⟩⟩

/-- The invariant speaks of five components only. -/
theorem inv_congr (hm : t.mbx = s.mbx) (hc : t.clk = s.clk) (hp : t.power = s.power) (ha : t.auth = s.auth)
    (hf : t.faults = s.faults) : Inv t ↔ Inv s := by
  rw [inv_iff, inv_iff, hm, hc, hp, ha, hf]

/-- A mailbox with the rings and the window of a sound one is as sound as it. -/
theorem Mbx.sound_congr {a b : Mbx} (hi : a.inRing = b.inRing) (ho : a.outRing = b.outRing) (he : a.evtRing = b.evtRing)
    (hw : a.inWin = b.inWin) : a.Sound ↔ b.Sound := by
  simp only [Mbx.Sound, Mbx.ringsFit, Mbx.windowCanonical, hi, ho, he, hw]

/-! ### Changes of components that the invariant does not speak of -/

@[simp] theorem inv_modPending (f : List Instr → List Instr) : Inv (s.modPending f) ↔ Inv s := inv_congr rfl rfl rfl rfl rfl
@[simp] theorem inv_modBoot (f : Boot → Boot) : Inv (s.modBoot f) ↔ Inv s := inv_congr rfl rfl rfl rfl rfl
@[simp] theorem inv_modCfg (f : Cfg → Cfg) : Inv (s.modCfg f) ↔ Inv s := inv_congr rfl rfl rfl rfl rfl
@[simp] theorem inv_modUnits (f : Units → Units) : Inv (s.modUnits f) ↔ Inv s := inv_congr rfl rfl rfl rfl rfl
@[simp] theorem inv_modJobs (f : List Job → List Job) : Inv (s.modJobs f) ↔ Inv s := inv_congr rfl rfl rfl rfl rfl
@[simp] theorem inv_modLand (f : Land → Land) : Inv (s.modLand f) ↔ Inv s := inv_congr rfl rfl rfl rfl rfl
@[simp] theorem inv_modGov (f : Gov → Gov) : Inv (s.modGov f) ↔ Inv s := inv_congr rfl rfl rfl rfl rfl
@[simp] theorem inv_modIngest (f : Ingest → Ingest) : Inv (s.modIngest f) ↔ Inv s := inv_congr rfl rfl rfl rfl rfl
@[simp] theorem inv_modHost (f : HostL → HostL) : Inv (s.modHost f) ↔ Inv s := inv_congr rfl rfl rfl rfl rfl
@[simp] theorem inv_modSpool (f : Spool → Spool) : Inv (s.modSpool f) ↔ Inv s := inv_congr rfl rfl rfl rfl rfl
@[simp] theorem inv_modStations (f : KV Station → KV Station) : Inv (s.modStations f) ↔ Inv s := inv_congr rfl rfl rfl rfl rfl
@[simp] theorem inv_modLanes (f : KV Lane → KV Lane) : Inv (s.modLanes f) ↔ Inv s := inv_congr rfl rfl rfl rfl rfl
@[simp] theorem inv_modIntlk (f : Intlk → Intlk) : Inv (s.modIntlk f) ↔ Inv s := inv_congr rfl rfl rfl rfl rfl
@[simp] theorem inv_modNewel (f : Newel → Newel) : Inv (s.modNewel f) ↔ Inv s := inv_congr rfl rfl rfl rfl rfl
@[simp] theorem inv_modAxes (f : KV Axis → KV Axis) : Inv (s.modAxes f) ↔ Inv s := inv_congr rfl rfl rfl rfl rfl
@[simp] theorem inv_modSteppers (f : KV Stepper → KV Stepper) : Inv (s.modSteppers f) ↔ Inv s := inv_congr rfl rfl rfl rfl rfl
@[simp] theorem inv_modSols (f : KV Solenoid → KV Solenoid) : Inv (s.modSols f) ↔ Inv s := inv_congr rfl rfl rfl rfl rfl
@[simp] theorem inv_modRing (f : Ring → Ring) : Inv (s.modRing f) ↔ Inv s := inv_congr rfl rfl rfl rfl rfl
@[simp] theorem inv_modLoops (f : KV LoopSlot → KV LoopSlot) : Inv (s.modLoops f) ↔ Inv s := inv_congr rfl rfl rfl rfl rfl
@[simp] theorem inv_modTherm (f : Therm → Therm) : Inv (s.modTherm f) ↔ Inv s := inv_congr rfl rfl rfl rfl rfl
@[simp] theorem inv_modPair (f : Pair → Pair) : Inv (s.modPair f) ↔ Inv s := inv_congr rfl rfl rfl rfl rfl
@[simp] theorem inv_modGal (f : Gallery → Gallery) : Inv (s.modGal f) ↔ Inv s := inv_congr rfl rfl rfl rfl rfl
@[simp] theorem inv_modLedger (f : Ledger → Ledger) : Inv (s.modLedger f) ↔ Inv s := inv_congr rfl rfl rfl rfl rfl
@[simp] theorem inv_modCal (f : Cal → Cal) : Inv (s.modCal f) ↔ Inv s := inv_congr rfl rfl rfl rfl rfl
@[simp] theorem inv_modMaint (f : Maint → Maint) : Inv (s.modMaint f) ↔ Inv s := inv_congr rfl rfl rfl rfl rfl
@[simp] theorem inv_modPanel (f : Panel → Panel) : Inv (s.modPanel f) ↔ Inv s := inv_congr rfl rfl rfl rfl rfl
@[simp] theorem inv_modOutbox (f : List OutMsg → List OutMsg) : Inv (s.modOutbox f) ↔ Inv s := inv_congr rfl rfl rfl rfl rfl
@[simp] theorem inv_modFree (f : Nat → Nat) : Inv (s.modFree f) ↔ Inv s := inv_congr rfl rfl rfl rfl rfl

/-! ### Changes of the components that it speaks of -/

theorem inv_modMbx {f : Mbx → Mbx} (h : (f s.mbx).Sound ↔ s.mbx.Sound) : Inv (s.modMbx f) ↔ Inv s := by
  rw [inv_iff, inv_iff]; exact and_congr_left' h

/-- A change of the mailbox beside its rings and its window. -/
@[simp] theorem inv_modMbx_of_rings {f : Mbx → Mbx} (hi : (f s.mbx).inRing = s.mbx.inRing)
    (ho : (f s.mbx).outRing = s.mbx.outRing) (he : (f s.mbx).evtRing = s.mbx.evtRing)
    (hw : (f s.mbx).inWin = s.mbx.inWin) : Inv (s.modMbx f) ↔ Inv s :=
  inv_modMbx (Mbx.sound_congr hi ho he hw)

/-- A change of the mailbox after which it is sound. -/
theorem Inv.modMbx {f : Mbx → Mbx} (h : Inv s) (hf : s.mbx.Sound → (f s.mbx).Sound) : Inv (s.modMbx f) := by
  rw [inv_iff] at h ⊢; exact h.imp_left hf

/-- A change of the clocks beside the two counters. -/
@[simp] theorem inv_modClk {f : Clk → Clk} (hs : (f s.clk).opSec = s.clk.opSec)
    (hc : (f s.clk).powerCycle = s.clk.powerCycle) : Inv (s.modClk f) ↔ Inv s := by
  rw [inv_iff, inv_iff, State.modClk_clk, Clk.Sound, hs, hc]; rfl

/-- A change of the clocks that keeps the counters in their widths. -/
theorem Inv.modClk {f : Clk → Clk} (h : Inv s) (hf : s.clk.Sound → (f s.clk).Sound) : Inv (s.modClk f) := by
  rw [inv_iff] at h ⊢; exact h.imp_right (And.imp_left hf)

/-- A change of the power unit that keeps the length of its log. -/
@[simp] theorem inv_modPower {f : Power → Power} (h : (f s.power).log.length = s.power.log.length) :
    Inv (s.modPower f) ↔ Inv s := by
  rw [inv_iff, inv_iff, State.modPower_power, h]; rfl

/-- A change of the authority that keeps the length of the approved list. -/
@[simp] theorem inv_modAuth {f : Auth → Auth} (h : (f s.auth).digests.length = s.auth.digests.length) :
    Inv (s.modAuth f) ↔ Inv s := by
  rw [inv_iff, inv_iff, State.modAuth_auth, h]; rfl

/-- A change of the fault unit that leaves its table in order, or out of it. -/
@[simp] theorem inv_modFaults {f : Faults → Faults} (h : kvRising (f s.faults).recs ↔ kvRising s.faults.recs) :
    Inv (s.modFaults f) ↔ Inv s := by
  rw [inv_iff, inv_iff, State.modFaults_faults, h]; rfl

/-! ### Composition -/

/-- A choice of two states meets the invariant when the chosen one does. -/
@[simp] theorem inv_ite {c : Prop} {_ : Decidable c} : Inv (if c then s else t) ↔ if c then Inv s else Inv t := by
  split <;> rfl

/-- A run of changes that leave the invariant as it stands leaves it as it stands. -/
@[simp] theorem inv_foldl {α : Type} {f : State → α → State} (h : ∀ s a, Inv (f s a) ↔ Inv s) (l : List α) (s : State) :
    Inv (l.foldl f s) ↔ Inv s := by
  induction l generalizing s with
  | nil => rfl
  | cons a l ih => rw [List.foldl_cons, ih, h]

/-- A run of changes that each keep the invariant keeps it. -/
theorem Inv.foldl {α : Type} {f : State → α → State} (h : ∀ s a, Inv s → Inv (f s a)) (l : List α) (hs : Inv s) :
    Inv (l.foldl f s) := List.foldlRecOn l f hs fun t ht a _ => h t a ht

/-! ### Telling the outside -/

@[simp] theorem inv_send (m : OutMsg) (s : State) : Inv (s.send m) ↔ Inv s := by simp [State.send]

@[simp] theorem inv_draw (s : State) : Inv s.draw.2 ↔ Inv s := by simp [State.draw]

/-- The event ring takes a message while it has room (R388). -/
theorem inv_evtPush {m : Msg} {s : State} (h : s.mbx.evtRing.length < 128) : Inv (evtPush m s) ↔ Inv s := by
  refine inv_modMbx (and_congr_left' ?_)
  simp only [Mbx.ringsFit, List.length_append, List.length_singleton]
  omega

@[simp] theorem inv_post (code : Nat) (h : Handle) (p : List Byte) (s : State) : Inv (post code h p s) ↔ Inv s := by
  unfold post
  extract_lets m s₁ s₂
  have h₂ : Inv s₂ ↔ Inv s := by unfold s₂; split <;> simp [s₁]
  split_ifs with hr
  · rw [inv_evtPush hr.2, h₂]
  · simp [h₂]

/-- Waiting responses fill the outbound ring up to its 64 entries (R386, R387). -/
@[simp] theorem inv_pump (s : State) : Inv (pump s) ↔ Inv s := by
  refine inv_modMbx (and_congr_left' ?_)
  simp only [Mbx.ringsFit, List.length_append, List.length_take]
  omega

/-! ### The state after reset -/

theorem inv_reset : Inv State.reset :=
  ⟨⟨by decide, by decide, by decide⟩, rfl, by decide, by decide, by decide, by decide, trivial⟩

/-! ### Replies and outcomes -/

/-- The state that a command's body leaves meets the invariant, whether it answers or waits. -/
def Reply.Sound : Reply → Prop
  | .done _ _ t => Inv t
  | .later t => Inv t

@[simp] theorem Reply.sound_done (st : Status) (p : List Byte) (t : State) : (Reply.done st p t).Sound ↔ Inv t := Iff.rfl

@[simp] theorem Reply.sound_later (t : State) : (Reply.later t).Sound ↔ Inv t := Iff.rfl

@[simp] theorem Reply.sound_refuse (st : Status) (s : State) : (refuse st s).Sound ↔ Inv s := Iff.rfl

@[simp] theorem Reply.sound_ite {c : Prop} {_ : Decidable c} (a b : Reply) :
    (if c then a else b).Sound ↔ if c then a.Sound else b.Sound := by split <;> rfl

/-- The state in which a step ends meets the invariant, if it ends in one. -/
def SoundNext : Host.Outcome State Fault Refusal → Prop
  | .next t => Inv t
  | .fault _ => True
  | .refused _ => True

@[simp] theorem soundNext_next (t : State) : SoundNext (.next t) ↔ Inv t := Iff.rfl

@[simp] theorem soundNext_fault (r : Fault) : SoundNext (.fault r) := trivial

@[simp] theorem soundNext_ite {c : Prop} {_ : Decidable c} (a b : Host.Outcome State Fault Refusal) :
    SoundNext (if c then a else b) ↔ if c then SoundNext a else SoundNext b := by split <;> rfl

/-! ### Events, the gallery and class 0 notes (R330, R360 to R364, R388) -/

@[simp] theorem inv_galFlush (s : State) : Inv (galFlush s) ↔ Inv s := by simp [galFlush]

@[simp] theorem inv_galNew (n : GalRec) (s : State) : Inv (galPut.galNew n s) ↔ Inv s := by simp [galPut.galNew]
@[simp] theorem inv_galPut (n : GalRec) (s : State) : Inv (galPut n s) ↔ Inv s := by
  unfold galPut
  extract_lets now peer n'
  split
  · split_ifs <;> simp
  · simp

@[simp] theorem inv_noteBase (code : Nat) (h : Handle) (sel : Nat) (s : State) :
    Inv (noteBase code h sel s) ↔ Inv s := by
  unfold noteBase
  extract_lets k s₁ s₂ old rest now
  have h₂ : Inv s₂ ↔ Inv s := by simp [s₂, s₁]
  clear_value old
  split
  · split_ifs <;> simp [h₂]
  · simp [h₂]

@[simp] theorem inv_galLevel (s : State) : Inv (galLevel s) ↔ Inv s := by simp [galLevel]

@[simp] theorem inv_galWrite (t : Nat) (h : Handle) (sel aux : Nat) (payload : List Byte) (s : State) :
    Inv (galWrite t h sel aux payload s) ↔ Inv s := by simp [galWrite]

@[simp] theorem inv_note (code : Nat) (h : Handle) (sel : Nat) (s : State) : Inv (note code h sel s) ↔ Inv s := by
  simp [note]

@[simp] theorem inv_setUnitState (h : Handle) (st : UnitState) (cls : Nat) (s : State) :
    Inv (setUnitState h st cls s) ↔ Inv s := by simp [setUnitState]

/-! ### The mailbox (R383 to R393) -/

@[simp] theorem inv_deliver (p : Path) (ms : List Msg) (s : State) : Inv (deliver p ms s) ↔ Inv s := by
  unfold deliver
  split <;> simp

@[simp] theorem inv_respond (op : Nat) (m : Cmd) (st : Status) (payload : List Byte) (s : State) :
    Inv (respond op m st payload s) ↔ Inv s := by simp [respond]

@[simp] theorem inv_seqCheck (q : Nat) (s : State) : Inv (seqCheck q s) ↔ Inv s := by
  unfold seqCheck
  split <;> simp

/-- Taking a command's entries out of the inbound ring leaves it no longer than it was (R387). -/
@[simp] theorem Inv.startCmd {s : State} (op : Nat) (m : Cmd) (h : Inv s) : Inv (startCmd op m s) := by
  unfold Machine.startCmd
  extract_lets ps mine k
  split_ifs
  · refine h.modMbx (And.imp_left ?_)
    rintro ⟨hi, ho, he⟩
    exact ⟨(List.length_filter_le ..).trans hi, ho, he⟩
  · simpa using h

@[simp] theorem inv_useGrant (op : Nat) (m : Cmd) (s : State) : Inv (useGrant op m s) ↔ Inv s := by simp [useGrant]

/-- A mailbox command keeps the invariant when its body does. -/
@[simp] theorem Inv.runCmd {i : CmdInfo} {need : State → Nat} {m : Cmd} {body : State → Reply} {s : State} (h : Inv s)
    (hb : ∀ t, Inv t → (body t).Sound) : Inv (runCmd i need m body s) := by
  unfold Machine.runCmd
  split
  · exact h
  · extract_lets s₁ s₂
    have h₁ : Inv s₁ := h.startCmd i.op m
    have h₂ : Inv s₂ := by simpa [s₂] using h₁
    have hr := hb s₂ h₂
    split
    · simpa using h₁
    · split
      · next st p t e =>
        rw [e, Reply.sound_done] at hr
        simp [h₂, hr]
      · next t e =>
        rw [e, Reply.sound_later] at hr
        simp [h₂, hr]

/-- The step of a mailbox command whose body leaves the invariant as it stands. -/
theorem Inv.execCmd {i : CmdInfo} {need : State → Nat} {m : Cmd} {body : State → Reply} {s : State} (h : Inv s)
    (hb : ∀ t, (body t).Sound ↔ Inv t) : SoundNext (.next (Machine.runCmd i need m body s)) :=
  h.runCmd fun t => (hb t).2

@[simp] theorem inv_finish (p : Waiter → Bool) (st : Status) (payload : List Byte) (s : State) :
    Inv (finish p st payload s) ↔ Inv s := by simp [finish]

/-- Entries taken out of the inbound ring leave it no longer than it was (R384). -/
@[simp] theorem Inv.dropTail {s : State} (k : Nat) (h : Inv s) : Inv (dropTail k s) := by
  unfold Machine.dropTail
  extract_lets n
  split
  · exact h
  · refine (inv_respond ..).2 (h.modMbx (And.imp_left ?_))
    rintro ⟨hi, ho, he⟩
    exact ⟨(List.length_take_le' ..).trans hi, ho, he⟩

/-- The inbound ring takes a message while it has room (R387). -/
theorem Inv.modMbx_inRing {s : State} {f : Mbx → Mbx} {e : Path × Msg} (h : Inv s) (hr : s.mbx.inRing.length < 64)
    (hi : (f s.mbx).inRing = s.mbx.inRing ++ [e]) (ho : (f s.mbx).outRing = s.mbx.outRing)
    (he : (f s.mbx).evtRing = s.mbx.evtRing) (hw : (f s.mbx).inWin = s.mbx.inWin) : Inv (s.modMbx f) := by
  refine h.modMbx ?_
  simp only [Mbx.Sound, Mbx.ringsFit, Mbx.windowCanonical, hi, ho, he, hw, List.length_append, List.length_singleton]
  exact And.imp_left (And.imp_left fun _ => hr)

@[simp] theorem Inv.enterRing {s : State} (p : Path) (m : Msg) (h : Inv s) : Inv (enterRing p m s) := by
  unfold Machine.enterRing
  extract_lets s₁ s₂ s₃
  have h₁ : Inv s₁ := (inv_seqCheck ..).2 h
  split
  · simpa [s₂] using h₁
  · next hr =>
    have h₃ : Inv s₃ := h₁.modMbx_inRing (not_le.1 hr) rfl rfl rfl rfl
    split
    · exact h₃
    · exact h₃.dropTail 1

@[simp] theorem Inv.enterPart {s : State} (p : Path) (m : Msg) (k : Nat) (h : Inv s) : Inv (enterPart p m k s) := by
  unfold Machine.enterPart
  extract_lets s₁ s₂
  have h₁ : Inv s₁ := (inv_seqCheck ..).2 h
  split
  · exact h₁.dropTail k
  split
  · simpa [s₂] using h₁
  · next _ hr => exact h₁.modMbx_inRing (not_le.1 hr) rfl rfl rfl rfl

/-- A message from outside keeps the invariant, whatever becomes of it (R391). -/
@[simp] theorem Inv.arrive {s : State} (p : Path) (m : Msg) (h : Inv s) : Inv (arrive p m s) := by
  unfold Machine.arrive
  split
  · exact h
  split
  · simpa using h
  split
  · next t k _ =>
    extract_lets s₁
    have h₁ : Inv s₁ := h.dropTail k
    split_ifs
    · exact h.enterPart p m k
    · simpa using h₁
    · exact h₁.enterRing p m
  · split_ifs
    · simpa using h
    · exact h.enterRing p m

/-! ### Stations, lanes, frames in flight, slow requests (03, 05) -/

@[simp] theorem inv_modSt (n : Nat) (f : Station → Station) (s : State) : Inv (modSt n f s) ↔ Inv s := by simp [modSt]
@[simp] theorem inv_modScan (n : Nat) (f : Rise → Rise) (s : State) : Inv (modScan n f s) ↔ Inv s := by simp [modScan]
@[simp] theorem inv_modEms (n : Nat) (f : Ems → Ems) (s : State) : Inv (modEms n f s) ↔ Inv s := by simp [modEms]
@[simp] theorem inv_modLane (l : Nat) (f : Lane → Lane) (s : State) : Inv (modLane l f s) ↔ Inv s := by simp [modLane]
@[simp] theorem inv_modAxis (a : Nat) (f : Axis → Axis) (s : State) : Inv (modAxis a f s) ↔ Inv s := by simp [modAxis]
@[simp] theorem inv_modGear (a : Nat) (f : Gear → Gear) (s : State) : Inv (modGear a f s) ↔ Inv s := by simp [modGear]

@[simp] theorem inv_modLoop (k : Nat) (f : LoopSlot → LoopSlot) (s : State) : Inv (modLoop k f s) ↔ Inv s := by
  simp [modLoop]

@[simp] theorem inv_modNode (n : Nat) (f : Node → Node) (s : State) : Inv (modNode n f s) ↔ Inv s := by simp [modNode]
@[simp] theorem inv_modRail (r : Nat) (f : Rail → Rail) (s : State) : Inv (modRail r f s) ↔ Inv s := by simp [modRail]

@[simp] theorem inv_modFlight (serial : Nat) (f : Flight → Flight) (s : State) :
    Inv (modFlight serial f s) ↔ Inv s := by simp [modFlight]

@[simp] theorem inv_failLayer (serial n k cause : Nat) (s : State) : Inv (failLayer serial n k cause s) ↔ Inv s := by
  simp [failLayer]

@[simp] theorem inv_failStation (n cause : Nat) (s : State) : Inv (failStation n cause s) ↔ Inv s := by
  simp [failStation]

@[simp] theorem inv_spoilAll (cause : Nat) (s : State) : Inv (spoilAll cause s) ↔ Inv s := by simp [spoilAll]

@[simp] theorem inv_markEmitter (n since : Nat) (s : State) : Inv (markEmitter n since s) ↔ Inv s := by
  simp [markEmitter]

@[simp] theorem inv_setPair (st : PairSt) (s : State) : Inv (setPair st s) ↔ Inv s := by simp [setPair]
@[simp] theorem inv_askStop (w : HoldSrc) (s : State) : Inv (askStop w s) ↔ Inv s := by simp [askStop]
@[simp] theorem inv_addReq (src : Nat) (v : Rat) (s : State) : Inv (addReq src v s) ↔ Inv s := by simp [addReq]
@[simp] theorem inv_dropReq (src : Nat) (s : State) : Inv (dropReq src s) ↔ Inv s := by simp [dropReq]
@[simp] theorem inv_askReduced (s : State) : Inv (askReduced s) ↔ Inv s := by simp [askReduced]

/-! ### Rails and reset outputs (15) -/

@[simp] theorem inv_assertResets (s : State) : Inv (assertResets s) ↔ Inv s := by simp [assertResets]
@[simp] theorem inv_setRail (r : Nat) (st : RailState) (s : State) : Inv (setRail r st s) ↔ Inv s := by simp [setRail]
@[simp] theorem inv_disableRail (r : Nat) (s : State) : Inv (disableRail r s) ↔ Inv s := by simp [disableRail]
@[simp] theorem inv_disableReady (s : State) : Inv (disableReady s) ↔ Inv s := inv_foldl (fun t r => inv_disableRail r t) _ s

@[simp] theorem inv_dropRail (r : Nat) (s : State) : Inv (dropRail r s) ↔ Inv s := by
  unfold dropRail
  rw [inv_disableReady, inv_foldl fun t q => by split <;> simp]
  simp

/-! ### Withdrawal from service (R30, R114, R198 to R202, R242, R260, R281) -/

@[simp] theorem inv_beginStore (s : State) : Inv (beginStore s) ↔ Inv s := by simp [beginStore]
@[simp] theorem inv_requestStore (s : State) : Inv (requestStore s) ↔ Inv s := by simp [requestStore]

@[simp] theorem inv_modEm (n e : Nat) (f : Emitter → Emitter) (s : State) : Inv (modEm n e f s) ↔ Inv s := by
  simp [modEm]

@[simp] theorem inv_stationFault (n cls cause : Nat) (s : State) : Inv (stationFault n cls cause s) ↔ Inv s := by
  simp [stationFault]

@[simp] theorem inv_stationReady (n : Nat) (s : State) : Inv (stationReady n s) ↔ Inv s := by simp [stationReady]

@[simp] theorem inv_retireEmitter (n e : Nat) (s : State) : Inv (retireEmitter n e s) ↔ Inv s := by
  simp only [retireEmitter, inv_modCal, inv_modEm, inv_requestStore, inv_modEms, inv_markEmitter, inv_stationFault,
    inv_ite, ite_self]
  (repeat' split) <;> simp

@[simp] theorem inv_loseLane (l n : Nat) (s : State) : Inv (loseLane l n s) ↔ Inv s := by simp [loseLane]
@[simp] theorem inv_retireLane (l : Nat) (s : State) : Inv (retireLane l s) ↔ Inv s := by simp [retireLane]

@[simp] theorem inv_faultAbove (i cls : Nat) (s : State) : Inv (faultAbove i cls s) ↔ Inv s := by
  unfold faultAbove
  split <;> simp

@[simp] theorem inv_retireSensor (h : Handle) (back : Bool) (s : State) : Inv (retireSensor h back s) ↔ Inv s := by
  simp [retireSensor]

@[simp] theorem inv_stopAxis (a : Nat) (s : State) : Inv (stopAxis a s) ↔ Inv s := by simp [stopAxis]

@[simp] theorem inv_retireAxis (h : Handle) (s : State) : Inv (retireAxis h s) ↔ Inv s := by
  unfold retireAxis
  split
  · rw [inv_faultAbove]
    split
    · split_ifs <;> simp
    · simp
  · simp

@[simp] theorem inv_disableLoop (k : Nat) (s : State) : Inv (disableLoop k s) ↔ Inv s := by simp [disableLoop]
@[simp] theorem inv_dropCascade (k : Nat) (s : State) : Inv (dropCascade k s) ↔ Inv s := by simp [dropCascade]
@[simp] theorem inv_retireSlot (k : Nat) (s : State) : Inv (retireSlot k s) ↔ Inv s := by simp [retireSlot]

@[simp] theorem inv_retireLoop (h : Handle) (sel : Nat) (s : State) : Inv (retireLoop h sel s) ↔ Inv s := by
  unfold retireLoop
  split <;> simp

@[simp] theorem inv_retireNode (h : Handle) (s : State) : Inv (retireNode h s) ↔ Inv s := by
  unfold retireNode
  rw [inv_foldl fun t i => by extract_lets u t₁; split <;> simp [t₁]]
  split <;> simp

@[simp] theorem inv_retireUnit (s : State) (i : Nat) : Inv (retireUnit s i) ↔ Inv s := by
  simp only [retireUnit]
  (repeat' split) <;> simp

@[simp] theorem inv_retireGroup (g : Nat) (s : State) : Inv (retireGroup g s) ↔ Inv s := by simp [retireGroup]
@[simp] theorem inv_disableHv (s : State) : Inv (disableHv s) ↔ Inv s := by simp [disableHv]

/-! ### The fault collector: records, classes, reactions (17) -/

@[simp] theorem inv_lockout (keep : Bool) (s : State) : Inv (lockout keep s) ↔ Inv s := by simp [lockout]

@[simp] theorem inv_retireOne (code : Nat) (h : Handle) (sel : Nat) (s : State) :
    Inv (retireOne code h sel s) ↔ Inv s := by
  simp only [retireOne]
  (repeat' split) <;> simp

@[simp] theorem inv_retireChannel (code : Nat) (h : Handle) (sel : Nat) (s : State) :
    Inv (retireChannel code h sel s) ↔ Inv s := by
  unfold retireChannel
  split <;> simp

@[simp] theorem inv_react (cls code : Nat) (h : Handle) (sel : Nat) (s : State) :
    Inv (react cls code h sel s) ↔ Inv s := by
  unfold react
  split <;> simp

@[simp] theorem inv_tellFault (type i : Nat) (s : State) : Inv (tellFault type i s) ↔ Inv s := by simp [tellFault]

@[simp] theorem inv_raiseClass (i cls code : Nat) (s : State) : Inv (raiseClass i cls code s) ↔ Inv s := by
  simp [raiseClass]

@[simp] theorem inv_openRecord (i cls code : Nat) (h : Handle) (sel detail : Nat) (s : State) :
    Inv (openRecord i cls code h sel detail s) ↔ Inv s := by simp [openRecord]

@[simp] theorem inv_mergeRecord (i cls code : Nat) (h : Handle) (s : State) :
    Inv (mergeRecord i cls code h s) ↔ Inv s := by simp [mergeRecord]

@[simp] theorem inv_addTransient (h : Handle) (sel : Nat) (s : State) : Inv (addTransient h sel s) ↔ Inv s := by
  simp [addTransient]

@[simp] theorem inv_raiseAs (cls fail code : Nat) (h : Handle) (sel detail : Nat) (s : State) :
    Inv (raiseAs cls fail code h sel detail s) ↔ Inv s := by
  unfold raiseAs
  (repeat' split) <;> simp

@[simp] theorem inv_raise (code : Nat) (h : Handle) (sel detail : Nat) (s : State) :
    Inv (raise code h sel detail s) ↔ Inv s := by simp [raise]

@[simp] theorem inv_testFailed (i : Nat) (s : State) : Inv (testFailed i s) ↔ Inv s := by simp [testFailed]

@[simp] theorem inv_testPassed (i : Nat) (s : State) : Inv (testPassed i s) ↔ Inv s := by
  simp only [testPassed, inv_modFaults, inv_addTransient, inv_testFailed, inv_setUnitState, kvRising_kvMod_iff,
    inv_ite, ite_self]

@[simp] theorem inv_testEnded (pass : Bool) (h : Handle) (sel : Nat) (s : State) :
    Inv (testEnded pass h sel s) ↔ Inv s := by
  unfold testEnded
  split <;> simp

@[simp] theorem inv_codeTestEnded (pass : Bool) (h : Handle) (code : Nat) (s : State) :
    Inv (codeTestEnded pass h code s) ↔ Inv s := by
  unfold codeTestEnded
  split <;> simp

@[simp] theorem inv_giveUpStation (n : Nat) (s : State) : Inv (giveUpStation n s) ↔ Inv s := by simp [giveUpStation]
@[simp] theorem inv_closeRecord (i : Nat) (s : State) : Inv (closeRecord i s) ↔ Inv s := by simp [closeRecord]

@[simp] theorem inv_closeIfCleared (i : Nat) (s : State) : Inv (closeIfCleared i s) ↔ Inv s := by
  simp [closeIfCleared]

@[simp] theorem inv_causeGone (h : Handle) (code : Nat) (s : State) : Inv (causeGone h code s) ↔ Inv s := by
  unfold causeGone
  split <;> simp

/-! ### Beam lanes (08) -/

@[simp] theorem inv_setLasers (s : State) : Inv (setLasers s) ↔ Inv s := by simp [setLasers]
@[simp] theorem inv_darken (s : State) : Inv (darken s) ↔ Inv s := by simp [darken]

@[simp] theorem inv_launchSide (l : Nat) (m : SideMsg) (s : State) : Inv (launchSide l m s) ↔ Inv s := by
  simp [launchSide]

@[simp] theorem inv_sendSide (l kind : Nat) (data : List Nat) (s : State) : Inv (sendSide l kind data s) ↔ Inv s := by
  simp [sendSide]

@[simp] theorem inv_pumpSide (k l : Nat) (s : State) : Inv (pumpSide k l s) ↔ Inv s := by
  induction k generalizing s with
  | zero => rfl
  | succ k ih =>
    unfold pumpSide
    split
    · split_ifs <;> simp [ih]
    · rfl

@[simp] theorem inv_writeTables (l : Nat) (s : State) : Inv (writeTables l s) ↔ Inv s := by simp [writeTables]

@[simp] theorem inv_startTraining (l : Nat) (initial : Bool) (s : State) :
    Inv (startTraining l initial s) ↔ Inv s := by simp [startTraining]

@[simp] theorem inv_reenter (n p : Nat) (s : State) : Inv (reenter n p s) ↔ Inv s := by simp [reenter]
@[simp] theorem inv_retrain (n l p : Nat) (s : State) : Inv (retrain n l p s) ↔ Inv s := by simp [retrain]
@[simp] theorem inv_acquire (n : Nat) (s : State) : Inv (acquire n s) ↔ Inv s := by simp [acquire]

@[simp] theorem inv_leaveDark (l : Nat) (s : State) : Inv (leaveDark l s) ↔ Inv s := by
  simp only [leaveDark, inv_ite]
  (repeat' split) <;> simp

@[simp] theorem inv_leaveAllDark (s : State) : Inv (leaveAllDark s) ↔ Inv s := by simp [leaveAllDark]
@[simp] theorem inv_failExposure (n : Nat) (s : State) : Inv (failExposure n s) ↔ Inv s := by simp [failExposure]
@[simp] theorem inv_dropSweep (n : Nat) (s : State) : Inv (dropSweep n s) ↔ Inv s := by simp [dropSweep]

@[simp] theorem inv_orderRetrain (l code detail : Nat) (s : State) : Inv (orderRetrain l code detail s) ↔ Inv s := by
  simp only [orderRetrain, inv_raise, inv_ite]
  (repeat' split) <;> simp

@[simp] theorem inv_statMark (n : Nat) (s : State) : Inv (statMark n s) ↔ Inv s := by
  unfold statMark
  split <;> simp

@[simp] theorem inv_startBer (l : Nat) (cmd : Bool) (s : State) : Inv (startBer l cmd s) ↔ Inv s := by
  unfold startBer
  split <;> simp

/-! ### The unit tree and fan-outs (R28, R29, R400) -/

@[simp] theorem inv_freeEntries (before : List Nat) (old s : State) : Inv (freeEntries before old s) ↔ Inv s := by
  simp [freeEntries]

@[simp] theorem inv_changeSets (f : Cfg → Cfg) (s : State) : Inv (changeSets f s) ↔ Inv s := by simp [changeSets]

@[simp] theorem inv_stageUnit (i : Nat) (u : UnitDesc) (s : State) : Inv (stageUnit i u s) ↔ Inv s := by
  simp [stageUnit]

@[simp] theorem sound_bodyUnitCreate (m : Cmd) (s : State) : (bodyUnitCreate m s).Sound ↔ Inv s := by
  simp only [bodyUnitCreate]
  (repeat' split) <;> simp

@[simp] theorem sound_bodyUnitDelete (m : Cmd) (s : State) : (bodyUnitDelete m s).Sound ↔ Inv s := by
  unfold bodyUnitDelete
  split <;> simp

@[simp] theorem sound_bodyUnitMove (m : Cmd) (s : State) : (bodyUnitMove m s).Sound ↔ Inv s := by
  simp only [bodyUnitMove]
  (repeat' split) <;> simp

@[simp] theorem sound_bodyUnitSet (m : Cmd) (s : State) : (bodyUnitSet m s).Sound ↔ Inv s := by
  simp only [bodyUnitSet]
  (repeat' split) <;> simp

@[simp] theorem inv_enableLoop (k : Nat) (s : State) : Inv (enableLoop k s) ↔ Inv s := by simp [enableLoop]

@[simp] theorem inv_enableUnit (i : Nat) (s : State) : Inv (enableUnit i s) ↔ Inv s := by
  simp only [enableUnit, inv_setUnitState, inv_ite, ite_self]
  split <;> simp

@[simp] theorem inv_disableUnit (i : Nat) (s : State) : Inv (disableUnit i s) ↔ Inv s := by
  simp only [disableUnit, inv_setUnitState, inv_ite, ite_self]
  split <;> simp

@[simp] theorem inv_fanDone (f : FanOut) (s : State) : Inv (fanDone f s) ↔ Inv s := by simp [fanDone]
@[simp] theorem inv_putFan (f : FanOut) (s : State) : Inv (putFan f s) ↔ Inv s := by simp [putFan]

@[simp] theorem inv_wantRail (i : Nat) (s : State) : Inv (wantRail i s) ↔ Inv s := by
  unfold wantRail
  split
  · split_ifs <;> simp
  · rfl

@[simp] theorem inv_runFan (k : Nat) (f : FanOut) (s : State) : Inv (runFan k f s) ↔ Inv s := by
  induction k generalizing f s with
  | zero => simp [runFan]
  | succ k ih =>
    unfold runFan
    split
    · simp
    · simp [ih]

@[simp] theorem inv_wakeFan (s : State) (f : FanOut) : Inv (wakeFan s f) ↔ Inv s := by
  unfold wakeFan
  split <;> simp

@[simp] theorem inv_wakeFans (s : State) : Inv (wakeFans s) ↔ Inv s := by simp [wakeFans]

@[simp] theorem sound_bodyUnitEnable (m : Cmd) (s : State) : (bodyUnitEnable m s).Sound ↔ Inv s := by
  simp [bodyUnitEnable]

@[simp] theorem sound_bodyUnitDisable (m : Cmd) (s : State) : (bodyUnitDisable m s).Sound ↔ Inv s := by
  simp [bodyUnitDisable]

@[simp] theorem inv_startFans (s : State) : Inv (startFans s) ↔ Inv s := by simp [startFans]

@[simp] theorem sound_bodyUnitRead (m : Cmd) (s : State) : (bodyUnitRead m s).Sound ↔ Inv s := by
  unfold bodyUnitRead
  split <;> simp

@[simp] theorem sound_bodyUnitLookup (m : Cmd) (s : State) : (bodyUnitLookup m s).Sound ↔ Inv s := by
  unfold bodyUnitLookup
  (repeat' split) <;> simp

@[simp] theorem sound_bodyUnitChildren (m : Cmd) (s : State) : (bodyUnitChildren m s).Sound ↔ Inv s := by
  simp [bodyUnitChildren]

/-! ### The maintenance scheduler's counts -/

@[simp] theorem inv_modAct (k : Nat) (h : Handle) (f : Act → Act) (s : State) : Inv (modAct k h f s) ↔ Inv s := by
  simp [modAct]

@[simp] theorem inv_askGap (k : Nat) (h : Handle) (s : State) : Inv (askGap k h s) ↔ Inv s := by simp [askGap]
@[simp] theorem inv_judgeAct (k : Nat) (h : Handle) (s : State) : Inv (judgeAct k h s) ↔ Inv s := by simp [judgeAct]
@[simp] theorem inv_judgeActs (s : State) : Inv (judgeActs s) ↔ Inv s := by simp [judgeActs]
@[simp] theorem inv_bumpAct (k : Nat) (h : Handle) (s : State) : Inv (bumpAct k h s) ↔ Inv s := by simp [bumpAct]
@[simp] theorem inv_countFrame (n : Nat) (s : State) : Inv (countFrame n s) ↔ Inv s := by simp [countFrame]

@[simp] theorem inv_askUrgent (k : Nat) (h : Handle) (s : State) : Inv (askUrgent k h s) ↔ Inv s := by
  simp [askUrgent]

@[simp] theorem inv_endAct (k : Nat) (h : Handle) (pass : Bool) (s : State) : Inv (endAct k h pass s) ↔ Inv s := by
  simp [endAct]

@[simp] theorem inv_landingPassed (s : State) : Inv (landingPassed s) ↔ Inv s := by simp [landingPassed]

@[simp] theorem inv_gapInserted (s : State) : Inv (gapInserted s) ↔ Inv s := by
  unfold gapInserted
  split <;> simp

/-! ### Configuration sets (R33 to R39, R401) -/

@[simp] theorem inv_configRecord (old new state cls role : Nat) (s : State) :
    Inv (configRecord old new state cls role s) ↔ Inv s := by simp [configRecord]

@[simp] theorem inv_reloadLoops (old new : CfgSet) (phases : List (Nat × Nat × Nat)) (s : State) :
    Inv (reloadLoops old new phases s) ↔ Inv s := by simp [reloadLoops]

@[simp] theorem inv_reloadMap (s : State) : Inv (reloadMap s) ↔ Inv s := by simp [reloadMap]

@[simp] theorem inv_setCovered (i : Nat) (b : Bool) (s : State) : Inv (setCovered i b s) ↔ Inv s := by
  simp [setCovered]

@[simp] theorem inv_coverLane (base : CfgSet) (n : Nat) (s : State) : Inv (coverLane base n s) ↔ Inv s := by
  unfold coverLane
  split <;> simp

@[simp] theorem inv_newRoute (base : CfgSet) (n : Nat) (s : State) : Inv (newRoute base n s) ↔ Inv s := by
  unfold newRoute
  split <;> simp

@[simp] theorem inv_reloadRoutes (base : CfgSet) (s : State) : Inv (reloadRoutes base s) ↔ Inv s := by
  simp [reloadRoutes]

@[simp] theorem inv_leaveThread (s : State) : Inv (leaveThread s) ↔ Inv s := by simp [leaveThread]
@[simp] theorem inv_effectDone (p : Pend) (s : State) : Inv (effectDone p s) ↔ Inv s := by simp [effectDone]

@[simp] theorem inv_effectPart (owner : Option Nat) (s : State) : Inv (effectPart owner s) ↔ Inv s := by
  unfold effectPart
  (repeat' split) <;> simp

@[simp] theorem inv_takeEffect (s : State) : Inv (takeEffect s) ↔ Inv s := by
  unfold takeEffect
  split <;> simp

@[simp] theorem inv_effectIfIdle (s : State) : Inv (effectIfIdle s) ↔ Inv s := by
  unfold effectIfIdle
  split <;> simp

@[simp] theorem inv_trainNew (base c : CfgSet) (s : State) : Inv (trainNew base c s) ↔ Inv s := by simp [trainNew]

@[simp] theorem inv_acceptSet (c : CfgSet) (revert : Bool) (role : Nat) (s : State) :
    Inv (acceptSet c revert role s) ↔ Inv s := by simp [acceptSet]

@[simp] theorem sound_acceptReply (s : State) : (acceptReply s).Sound ↔ Inv s := by simp [acceptReply]

@[simp] theorem sound_bodyCfgStageBegin (s : State) : (bodyCfgStageBegin s).Sound ↔ Inv s := by
  simp [bodyCfgStageBegin]

@[simp] theorem sound_bodyCfgWrite (m : Cmd) (s : State) : (bodyCfgWrite m s).Sound ↔ Inv s := by
  unfold bodyCfgWrite
  (repeat' split) <;> simp

@[simp] theorem sound_bodyCfgRead (m : Cmd) (s : State) : (bodyCfgRead m s).Sound ↔ Inv s := by
  unfold bodyCfgRead
  (repeat' split) <;> simp

@[simp] theorem sound_bodyCfgStageAbort (s : State) : (bodyCfgStageAbort s).Sound ↔ Inv s := by
  simp [bodyCfgStageAbort]

@[simp] theorem sound_bodyCfgCommit (role : Nat) (m : Cmd) (s : State) : (bodyCfgCommit role m s).Sound ↔ Inv s := by
  unfold bodyCfgCommit
  split <;> simp

@[simp] theorem sound_bodyCfgRevert (role : Nat) (m : Cmd) (s : State) : (bodyCfgRevert role m s).Sound ↔ Inv s := by
  unfold bodyCfgRevert
  (repeat' split) <;> simp

@[simp] theorem sound_bodyCfgStatus (s : State) : (bodyCfgStatus s).Sound ↔ Inv s := by simp [bodyCfgStatus]

/-! ### The spool's layout and its members' queues (06) -/

@[simp] theorem inv_modDesc (id : BandId) (f : BandDesc → BandDesc) (s : State) : Inv (modDesc id f s) ↔ Inv s := by
  simp [modDesc]

@[simp] theorem inv_modMember (c : Nat) (f : Member → Member) (s : State) : Inv (modMember c f s) ↔ Inv s := by
  simp [modMember]

@[simp] theorem inv_serve (c k : Nat) (s : State) : Inv (serve c k s) ↔ Inv s := by
  induction k generalizing s with
  | zero => rfl
  | succ k ih =>
    unfold serve
    split
    · rfl
    · split_ifs
      · rfl
      · split <;> simp [ih]

@[simp] theorem inv_serveAll (s : State) : Inv (serveAll s) ↔ Inv s := by simp [serveAll]
@[simp] theorem inv_enqueue (c : Nat) (q : NvmeCmd) (s : State) : Inv (enqueue c q s) ↔ Inv s := by simp [enqueue]

@[simp] theorem inv_issueAll (op : NvmeOp) (key : Int) (d : BandDesc) (s : State) :
    Inv (issueAll op key d s) ↔ Inv s := by simp [issueAll]

@[simp] theorem inv_dropCmds (p : NvmeCmd → Bool) (s : State) : Inv (dropCmds p s) ↔ Inv s := by simp [dropCmds]

@[simp] theorem inv_writePage (op : NvmeOp) (g : Nat) (data : List Byte) (s : State) :
    Inv (writePage op g data s) ↔ Inv s := by simp [writePage]

@[simp] theorem inv_onEvery (q : NvmeCmd) (s : State) : Inv (onEvery q s) ↔ Inv s := by simp [onEvery]

@[simp] theorem inv_writeSuper (copy : Nat) (second : Bool) (s : State) : Inv (writeSuper copy second s) ↔ Inv s := by
  simp [writeSuper]

@[simp] theorem inv_superUpdate (f : Superblock → Superblock) (s : State) : Inv (superUpdate f s) ↔ Inv s := by
  simp only [superUpdate, inv_modSpool, inv_writeSuper, inv_ite, ite_self]

@[simp] theorem inv_advanceSuper (s : State) : Inv (advanceSuper s) ↔ Inv s := by
  simp only [advanceSuper]
  (repeat' split) <;> simp

@[simp] theorem inv_beginBatch (s : State) : Inv (beginBatch s) ↔ Inv s := by simp [beginBatch]
@[simp] theorem inv_batchDirWrites (s : State) : Inv (batchDirWrites s) ↔ Inv s := by simp [batchDirWrites]
@[simp] theorem inv_batchMapWrites (s : State) : Inv (batchMapWrites s) ↔ Inv s := by simp [batchMapWrites]

@[simp] theorem inv_batchEnds (s : State) : Inv (batchEnds s) ↔ Inv s := by
  simp only [batchEnds, inv_modSpool, inv_superUpdate, inv_ite, ite_self]

@[simp] theorem inv_advanceBatch (s : State) : Inv (advanceBatch s) ↔ Inv s := by simp [advanceBatch]
@[simp] theorem inv_unmountSpool (s : State) : Inv (unmountSpool s) ↔ Inv s := by simp [unmountSpool]

/-! ### The frame directory and ingest credit (R97, R130 to R134) -/

@[simp] theorem inv_modJob (id : Nat) (f : Job → Job) (s : State) : Inv (modJob id f s) ↔ Inv s := by simp [modJob]

@[simp] theorem inv_freeFrame (job frame : Nat) (s : State) : Inv (freeFrame job frame s) ↔ Inv s := by
  simp [freeFrame]

@[simp] theorem inv_returnCredit (n : Nat) (s : State) : Inv (returnCredit n s) ↔ Inv s := by simp [returnCredit]

@[simp] theorem inv_unstage (id : BandId) (s : State) : Inv (unstage id s) ↔ Inv s := by
  unfold unstage
  split <;> simp

@[simp] theorem inv_bandEvent (code : Nat) (id : BandId) (why : Nat) (s : State) :
    Inv (bandEvent code id why s) ↔ Inv s := by simp [bandEvent]

@[simp] theorem inv_rejectBand (id : BandId) (why : Nat) (s : State) : Inv (rejectBand id why s) ↔ Inv s := by
  simp [rejectBand]

/-! ### Jobs (R403) -/

@[simp] theorem sound_bodyJobSubmit (m : Cmd) (s : State) : (bodyJobSubmit m s).Sound ↔ Inv s := by
  unfold bodyJobSubmit
  (repeat' split) <;> simp

@[simp] theorem sound_bodyJobCancel (m : Cmd) (s : State) : (bodyJobCancel m s).Sound ↔ Inv s := by
  unfold bodyJobCancel
  split <;> simp

@[simp] theorem inv_dropPlan (job : Nat) (s : State) : Inv (dropPlan job s) ↔ Inv s := by simp [dropPlan]

@[simp] theorem sound_bodyJobHold (m : Cmd) (s : State) : (bodyJobHold m s).Sound ↔ Inv s := by
  unfold bodyJobHold
  split <;> simp

@[simp] theorem sound_bodyJobRelease (m : Cmd) (s : State) : (bodyJobRelease m s).Sound ↔ Inv s := by
  unfold bodyJobRelease
  split <;> simp

@[simp] theorem sound_bodyJobStatus (m : Cmd) (s : State) : (bodyJobStatus m s).Sound ↔ Inv s := by
  unfold bodyJobStatus
  split <;> simp

/-! ### The ledger and the gallery (R365 to R371) -/

@[simp] theorem inv_releaseLedger (s : State) : Inv (releaseLedger s) ↔ Inv s := by simp [releaseLedger]

@[simp] theorem inv_writeLedgerPage (s : State) : Inv (writeLedgerPage s) ↔ Inv s := by
  unfold writeLedgerPage
  (repeat' split) <;> simp

@[simp] theorem inv_ledgerWritten (s : State) : Inv (ledgerWritten s) ↔ Inv s := by
  unfold ledgerWritten
  split <;> simp

@[simp] theorem inv_sendRecords (k : Nat) (rs : List LedgerRec) (s : State) : Inv (sendRecords k rs s) ↔ Inv s := by
  induction k generalizing rs s with
  | zero => rfl
  | succ k ih => simp [sendRecords, ih]

@[simp] theorem inv_sendLedger (s : State) : Inv (sendLedger s) ↔ Inv s := by
  simp only [sendLedger]
  (repeat' split) <;> simp

@[simp] theorem inv_ledgerLevel (s : State) : Inv (ledgerLevel s) ↔ Inv s := by simp [ledgerLevel]

@[simp] theorem inv_reserveLedger (r : LedgerRec) (s : State) : Inv (reserveLedger r s) ↔ Inv s := by
  simp [reserveLedger]

@[simp] theorem inv_afterClose (s : State) : Inv (afterClose s) ↔ Inv s := by simp [afterClose]

@[simp] theorem inv_closeLedger (serial : Nat) (f : LedgerRec → LedgerRec) (s : State) :
    Inv (closeLedger serial f s) ↔ Inv s := by simp [closeLedger]

@[simp] theorem inv_ackLedger (a w : Nat) (s : State) : Inv (ackLedger a w s) ↔ Inv s := by simp [ackLedger]
@[simp] theorem sound_bodyGalRead (m : Cmd) (s : State) : (bodyGalRead m s).Sound ↔ Inv s := by simp [bodyGalRead]
@[simp] theorem sound_bodyGalStatus (s : State) : (bodyGalStatus s).Sound ↔ Inv s := by simp [bodyGalStatus]

@[simp] theorem sound_bodyGalExport (m : Cmd) (s : State) : (bodyGalExport m s).Sound ↔ Inv s := by
  simp [bodyGalExport]

@[simp] theorem inv_clearGallery (seq : Nat) (s : State) : Inv (clearGallery seq s) ↔ Inv s := by simp [clearGallery]
@[simp] theorem sound_bodyGalClear (m : Cmd) (s : State) : (bodyGalClear m s).Sound ↔ Inv s := by simp [bodyGalClear]

@[simp] theorem sound_bodyLdgRead (m : Cmd) (s : State) : (bodyLdgRead m s).Sound ↔ Inv s := by
  unfold bodyLdgRead
  (repeat' split) <;> simp

@[simp] theorem sound_bodyLdgAck (m : Cmd) (s : State) : (bodyLdgAck m s).Sound ↔ Inv s := by simp [bodyLdgAck]
@[simp] theorem sound_bodyLdgStatus (s : State) : (bodyLdgStatus s).Sound ↔ Inv s := by simp [bodyLdgStatus]

/-! ### The newel profile (R49 to R61) -/

@[simp] theorem inv_planTo (v : Rat) (s : State) : Inv (planTo v s) ↔ Inv s := by simp [planTo]

@[simp] theorem inv_advancePlan (s : State) : Inv (advancePlan s) ↔ Inv s := by
  simp only [advancePlan, inv_modGov]
  split <;> simp

@[simp] theorem inv_planToward (w : Rat) (s : State) : Inv (planToward w s) ↔ Inv s := by
  simp only [planToward]
  split <;> simp

@[simp] theorem inv_lowerBy (x v : Rat) (s : State) : Inv (lowerBy x v s) ↔ Inv s := by simp [lowerBy]
@[simp] theorem inv_dropLater (s : State) : Inv (dropLater s) ↔ Inv s := by simp [dropLater]

@[simp] theorem inv_endDwell (s : State) : Inv (endDwell s) ↔ Inv s := by
  unfold endDwell
  split <;> simp

@[simp] theorem inv_postSpeed (s : State) : Inv (postSpeed s) ↔ Inv s := by simp [postSpeed]
@[simp] theorem inv_newTarget (v : Rat) (s : State) : Inv (newTarget v s) ↔ Inv s := by simp [newTarget]
@[simp] theorem inv_lowerFor (ds : List (Rat × Rat)) (s : State) : Inv (lowerFor ds s) ↔ Inv s := by simp [lowerFor]

/-! ### Gearing, moves, solenoids (10, 12) -/

@[simp] theorem inv_modFollower (f : Follower) (g : Gear → Gear) (s : State) : Inv (modFollower f g s) ↔ Inv s := by
  unfold modFollower
  split <;> simp

@[simp] theorem inv_freePolygons (s : State) : Inv (freePolygons s) ↔ Inv s :=
  inv_foldl (fun t n => by split <;> simp) _ s

@[simp] theorem inv_threadPostDivs (s : State) : Inv (threadPostDivs s) ↔ Inv s := by
  refine inv_foldl (fun t n => ?_) _ s
  extract_lets p
  split_ifs
  · rfl
  · split <;> simp

@[simp] theorem inv_enterThread (s : State) : Inv (enterThread s) ↔ Inv s := by simp [enterThread]
@[simp] theorem inv_fallToThread (s : State) : Inv (fallToThread s) ↔ Inv s := by simp [fallToThread]
@[simp] theorem inv_threadCheck (s : State) : Inv (threadCheck s) ↔ Inv s := by simp [threadCheck]
@[simp] theorem inv_planRest (v : Rat) (s : State) : Inv (planRest v s) ↔ Inv s := by simp [planRest]

@[simp] theorem inv_beginStop (s : State) : Inv (beginStop s) ↔ Inv s := by
  unfold beginStop
  (repeat' split) <;> simp

@[simp] theorem sound_bodyMotPressStop (m : Cmd) (s : State) : (bodyMotPressStop m s).Sound ↔ Inv s := by
  simp [bodyMotPressStop]

@[simp] theorem sound_bodyMotPressThread (m : Cmd) (s : State) : (bodyMotPressThread m s).Sound ↔ Inv s := by
  simp [bodyMotPressThread]

@[simp] theorem sound_bodyMotPressRun (m : Cmd) (s : State) : (bodyMotPressRun m s).Sound ↔ Inv s := by
  simp [bodyMotPressRun]

@[simp] theorem sound_bodyMotJog (m : Cmd) (s : State) : (bodyMotJog m s).Sound ↔ Inv s := by simp [bodyMotJog]

@[simp] theorem sound_bodyMotHome (m : Cmd) (s : State) : (bodyMotHome m s).Sound ↔ Inv s := by
  unfold bodyMotHome
  split <;> simp

@[simp] theorem sound_bodyMotGearHold (m : Cmd) (s : State) : (bodyMotGearHold m s).Sound ↔ Inv s := by
  unfold bodyMotGearHold
  split <;> simp

@[simp] theorem sound_bodyMotGearFree (m : Cmd) (s : State) : (bodyMotGearFree m s).Sound ↔ Inv s := by
  unfold bodyMotGearFree
  split <;> simp

@[simp] theorem sound_bodyMotGearRegear (m : Cmd) (s : State) : (bodyMotGearRegear m s).Sound ↔ Inv s := by
  unfold bodyMotGearRegear
  split <;> simp

@[simp] theorem sound_bodyMotRatio (m : Cmd) (s : State) : (bodyMotRatio m s).Sound ↔ Inv s := by
  unfold bodyMotRatio
  split <;> simp

@[simp] theorem sound_bodyMotRatioCancel (m : Cmd) (s : State) : (bodyMotRatioCancel m s).Sound ↔ Inv s := by
  unfold bodyMotRatioCancel
  split
  · simp
  · extract_lets g x
    split
    · simp
    · split
      · split <;> simp
      · simp

@[simp] theorem sound_bodyMotPhase (m : Cmd) (s : State) : (bodyMotPhase m s).Sound ↔ Inv s := by
  unfold bodyMotPhase
  split <;> simp

@[simp] theorem sound_bodyMotMove (m : Cmd) (s : State) : (bodyMotMove m s).Sound ↔ Inv s := by
  unfold bodyMotMove
  split <;> simp

/-- A solenoid that may fire has its drive changed and is told so. -/
theorem inv_fireSol {k now ms tag : Nat} {s t : State} (h : fireSol k now ms tag s = some t) : Inv t ↔ Inv s := by
  unfold fireSol at h
  extract_lets x hold at h
  split_ifs at h
  · cases h; simp
  · split at h
    · simp at h
    · cases h; simp

@[simp] theorem inv_releaseSol (k now : Nat) (s : State) : Inv (releaseSol k now s) ↔ Inv s := by simp [releaseSol]

@[simp] theorem sound_bodyMotSolFire (m : Cmd) (s : State) : (bodyMotSolFire m s).Sound ↔ Inv s := by
  unfold bodyMotSolFire
  split
  · extract_lets rel ready
    split
    · simp
    split
    · split <;> simp
    · split
      · simp
      · next t ht =>
        have ht : Inv t ↔ Inv s := inv_fireSol ht
        split <;> simp [ht]
  · simp

/-! ### The loop engine (13) -/

@[simp] theorem inv_drive (k : Nat) (u : F32) (s : State) : Inv (drive k u s) ↔ Inv s := by
  simp only [drive]
  (repeat' split) <;> simp

@[simp] theorem inv_takeOwner (k : Nat) (s : State) : Inv (takeOwner k s) ↔ Inv s := by simp [takeOwner]
@[simp] theorem inv_numericFault (k : Nat) (s : State) : Inv (numericFault k s) ↔ Inv s := by simp [numericFault]

@[simp] theorem inv_storeSample (k : Nat) (mode : LoopMode) (forced : Bool) (t : Law) (w y u us integ : F32) (s : State) :
    Inv (storeSample k mode forced t w y u us integ s) ↔ Inv s := by simp [storeSample]

@[simp] theorem inv_sampleLoop (k : Nat) (s : State) : Inv (sampleLoop k s) ↔ Inv s := by
  unfold sampleLoop
  extract_lets x s₁ s₂ x₂ x' s₃ f mode v w t sum lo hi u0 u us T g
  have h₂ : Inv s₂ ↔ Inv s := by unfold s₂; split_ifs <;> simp [s₁]
  have h₃ : Inv s₃ ↔ Inv s := by simp [s₃, h₂]
  clear_value s₃ u0 g us u sum t w v
  split
  · simp
  split
  · split <;> simp [h₃]
  split
  · split <;> simp [h₃]
  · split <;> simp [h₃]

@[simp] theorem inv_runLoops (j : Nat) (s : State) : Inv (runLoops j s) ↔ Inv s := by simp [runLoops]

@[simp] theorem sound_bodyMotLoopMode (m : Cmd) (s : State) : (bodyMotLoopMode m s).Sound ↔ Inv s := by
  unfold bodyMotLoopMode
  split <;> simp

@[simp] theorem sound_bodyMotLoopTarget (m : Cmd) (s : State) : (bodyMotLoopTarget m s).Sound ↔ Inv s := by
  unfold bodyMotLoopTarget
  split <;> simp

@[simp] theorem sound_bodyMotLoopSwitch (m : Cmd) (s : State) : (bodyMotLoopSwitch m s).Sound ↔ Inv s := by
  unfold bodyMotLoopSwitch
  (repeat' split) <;> simp

/-! ### The landing machine (03) -/

@[simp] theorem inv_nextLanding (d : Int) (s : State) : Inv (nextLanding d s) ↔ Inv s := by simp [nextLanding]

@[simp] theorem inv_holdJob (j frame reason : Nat) (s : State) : Inv (holdJob j frame reason s) ↔ Inv s := by
  simp [holdJob]

@[simp] theorem inv_writeGap (j : Job) (f : Flight) (reason : Nat) (s : State) :
    Inv (writeGap j f reason s) ↔ Inv s := by simp [writeGap]

@[simp] theorem inv_admitFrame (j : Job) (f : Flight) (v : Rat) (s : State) : Inv (admitFrame j f v s) ↔ Inv s := by
  simp [admitFrame]

@[simp] theorem inv_attempt (j : Job) (f : Flight) (s : State) : Inv (attempt j f s) ↔ Inv s := by
  unfold attempt
  (repeat' split) <;> simp

@[simp] theorem inv_passMaintGap (s : State) : Inv (passMaintGap s) ↔ Inv s := by simp [passMaintGap]

@[simp] theorem inv_holdPolygon (n : Nat) (s : State) : Inv (holdPolygon n s) ↔ Inv s := by
  unfold holdPolygon
  extract_lets s₁
  have h₁ : Inv s₁ ↔ Inv s := inv_modEms ..
  split
  · rw [inv_modGear, h₁]
  · exact h₁

@[simp] theorem inv_enterReduced (s : State) : Inv (enterReduced s) ↔ Inv s := by simp [enterReduced]
@[simp] theorem inv_leaveReduced (s : State) : Inv (leaveReduced s) ↔ Inv s := by simp [leaveReduced]

@[simp] theorem inv_slewHeld (n : Nat) (s : State) : Inv (slewHeld n s) ↔ Inv s := by
  unfold slewHeld
  split
  · split_ifs <;> simp
  · rfl

@[simp] theorem inv_regearTurned (n : Nat) (s : State) : Inv (regearTurned n s) ↔ Inv s := by
  unfold regearTurned
  split
  · simp
  split
  extract_lets g s₁ s₂
  have h₂ : Inv s₂ ↔ Inv s := by
    unfold s₂
    split
    · split_ifs <;> simp [s₁]
    · simp [s₁]
  split_ifs
  · rw [inv_acquire, h₂]
  · rfl

@[simp] theorem inv_regearHeld (s : State) : Inv (regearHeld s) ↔ Inv s := by simp [regearHeld]

@[simp] theorem inv_restoreLane (n : Nat) (s : State) : Inv (restoreLane n s) ↔ Inv s := by
  unfold restoreLane
  split <;> simp

@[simp] theorem inv_riderNote (r : RiderL) (s : State) : Inv (riderNote r s) ↔ Inv s := by simp [riderNote]

@[simp] theorem inv_applyRider (sl : Int) (r : RiderL) (s : State) : Inv (applyRider sl r s) ↔ Inv s := by
  unfold applyRider
  (repeat' split) <;> simp

@[simp] theorem inv_pressPart (s : State) : Inv (pressPart s) ↔ Inv s := by
  unfold pressPart
  split <;> simp

@[simp] theorem inv_stationPart (n serial : Nat) (s : State) : Inv (stationPart n serial s) ↔ Inv s := by
  unfold stationPart
  split <;> simp

@[simp] theorem inv_boundLanding (n serial : Nat) (s : State) : Inv (boundLanding n serial s) ↔ Inv s := by
  unfold boundLanding
  split <;> simp

@[simp] theorem inv_landAt (n : Nat) (f : Flight) (s : State) : Inv (landAt n f s) ↔ Inv s := by simp [landAt]

@[simp] theorem inv_jobDone (id : Nat) (s : State) : Inv (jobDone id s) ↔ Inv s := by
  unfold jobDone
  split <;> simp

@[simp] theorem inv_afterFlights (s : State) : Inv (afterFlights s) ↔ Inv s := by simp [afterFlights]
@[simp] theorem inv_closeFlight (f : Flight) (s : State) : Inv (closeFlight f s) ↔ Inv s := by simp [closeFlight]

@[simp] theorem inv_regearAll (up : Bool) (s : State) : Inv (regearAll up s) ↔ Inv s := by
  unfold regearAll
  rw [inv_modLand]
  refine inv_foldl (fun t n => ?_) _ s
  split
  extract_lets t₁ p
  have h₁ : Inv t₁ ↔ Inv t := by unfold t₁; split <;> simp
  split
  · split_ifs <;> simp [h₁]
  · exact h₁

@[simp] theorem inv_runStep (rates : List (Nat × Nat)) (drain : Nat) (s : State) :
    Inv (runStep rates drain s) ↔ Inv s := by
  unfold runStep
  split <;> simp

@[simp] theorem inv_askPostDiv (x : Rat) (up : Bool) (s : State) : Inv (askPostDiv x up s) ↔ Inv s := by
  refine inv_foldl (fun t n => ?_) _ s
  extract_lets p
  split
  · split_ifs <;> simp
  · simp

@[simp] theorem inv_dwellWork (s : State) : Inv (dwellWork s) ↔ Inv s := by
  unfold dwellWork
  split <;> simp

@[simp] theorem inv_governSpeed (rates : List (Nat × Nat)) (drain : Nat) (s : State) :
    Inv (governSpeed rates drain s) ↔ Inv s := by simp [governSpeed]

/-! ### The emitter supervisor (09) -/

@[simp] theorem inv_stationUp (n : Nat) (s : State) : Inv (stationUp n s) ↔ Inv s := by simp [stationUp]
@[simp] theorem inv_surveyPause (n : Nat) (s : State) : Inv (surveyPause n s) ↔ Inv s := by simp [surveyPause]

@[simp] theorem inv_missResult (n : Nat) (r : MeasReq) (s : State) : Inv (missResult n r s) ↔ Inv s := by
  simp only [missResult, inv_modEms, inv_ite]
  (repeat' split) <;> simp

@[simp] theorem inv_surveyMark (n k : Nat) (s : State) : Inv (surveyMark n k s) ↔ Inv s := by
  unfold surveyMark
  split <;> simp

@[simp] theorem inv_startEmTest (n e : Nat) (s : State) : Inv (startEmTest n e s) ↔ Inv s := by simp [startEmTest]

@[simp] theorem inv_fillVacant (n slot : Nat) (s : State) : Inv (fillVacant n slot s) ↔ Inv s := by
  simp only [fillVacant, inv_ite]
  (repeat' split) <;> simp

@[simp] theorem inv_surveyDone (n : Nat) (s : State) : Inv (surveyDone n s) ↔ Inv s := by simp [surveyDone]

@[simp] theorem inv_testResult (n e cnt : Nat) (ok good : Bool) (s : State) :
    Inv (testResult n e cnt ok good s) ↔ Inv s := by simp [testResult]

@[simp] theorem inv_judge (n : Nat) (r : MeasReq) (good : Bool) (s : State) : Inv (judge n r good s) ↔ Inv s := by
  simp only [judge, inv_surveyDone]
  split <;> simp

@[simp] theorem inv_askHead (n addr len : Nat) (s : State) : Inv (askHead n addr len s) ↔ Inv s := by
  unfold askHead
  split <;> simp

@[simp] theorem inv_readHead (n : Nat) (s : State) : Inv (readHead n s) ↔ Inv s := by simp [readHead]

@[simp] theorem inv_listRecord (serial : Nat) (mask : BitVec 36) (why : Nat) (s : State) :
    Inv (listRecord serial mask why s) ↔ Inv s := by simp [listRecord]

@[simp] theorem inv_newHead (n : Nat) (s : State) : Inv (newHead n s) ↔ Inv s := by simp [newHead]

@[simp] theorem inv_acceptHead (n : Nat) (s : State) : Inv (acceptHead n s) ↔ Inv s := by
  simp only [acceptHead, inv_modEms, inv_raise, inv_newHead, inv_ite, ite_self]
  (repeat' split) <;> simp

@[simp] theorem inv_loseHead (n : Nat) (s : State) : Inv (loseHead n s) ↔ Inv s := by simp [loseHead]

@[simp] theorem inv_identityReply (n addr : Nat) (data : List Nat) (status : Nat) (s : State) :
    Inv (identityReply n addr data status s) ↔ Inv s := by simp [identityReply]

@[simp] theorem inv_presenceReply (n : Nat) (data : List Nat) (status : Nat) (s : State) :
    Inv (presenceReply n data status s) ↔ Inv s := by simp [presenceReply]

/-! ### The beam word former -/

@[simp] theorem inv_emitWord (l : Nat) (w : FwdWord) (s : State) : Inv (emitWord l w s) ↔ Inv s := by simp [emitWord]

@[simp] theorem inv_sideWord (l : Nat) (t : WordType) (data : Nat) (s : State) :
    Inv (sideWord l t data s) ↔ Inv s := by simp [sideWord]

@[simp] theorem inv_berData (l : Nat) (s : State) : Inv (berData l s).2 ↔ Inv s := by
  unfold berData
  split <;> simp

@[simp] theorem inv_sweptWord (n l i : Nat) (s : State) : Inv (sweptWord n l i s) ↔ Inv s := by
  simp [sweptWord]

@[simp] theorem inv_laneWord (n l : Nat) (s : State) : Inv (laneWord n l s) ↔ Inv s := by
  unfold laneWord
  extract_lets x
  split
  · rfl
  · simp
  · split_ifs <;> simp
  · simp
  · split_ifs <;> simp

@[simp] theorem inv_pixelPeriod (n : Nat) (s : State) : Inv (pixelPeriod n s) ↔ Inv s := by simp [pixelPeriod]

/-! ### The print pipeline and the synthesiser (07) -/

@[simp] theorem inv_bandFails (n : Nat) (b : RBand) (code : Nat) (s : State) :
    Inv (bandFails n b code s) ↔ Inv s := by simp [bandFails]

@[simp] theorem inv_beginDecode (n : Nat) (b : RBand) (s : State) : Inv (beginDecode n b s) ↔ Inv s := by
  simp [beginDecode]

@[simp] theorem inv_freeBand (n serial band : Nat) (s : State) : Inv (freeBand n serial band s) ↔ Inv s := by
  simp [freeBand]

@[simp] theorem inv_dropFailed (n : Nat) (s : State) : Inv (dropFailed n s) ↔ Inv s := by simp [dropFailed]

@[simp] theorem inv_consume (n : Nat) (f : Flight) (k : Nat) (s : State) : Inv (consume n f k s) ↔ Inv s := by
  simp only [consume, inv_modFlight, inv_dropFailed, inv_ite]
  (repeat' split) <;> simp

@[simp] theorem inv_swapHalves (n serial k : Nat) (have_ : Bool) (s : State) :
    Inv (swapHalves n serial k have_ s) ↔ Inv s := by simp [swapHalves]

@[simp] theorem inv_inExposure (n serial k : Nat) (s : State) : Inv (inExposure n serial k s) ↔ Inv s := by
  simp [inExposure]

@[simp] theorem inv_exposeBand (n : Nat) (f : Flight) (k : Nat) (s : State) : Inv (exposeBand n f k s) ↔ Inv s := by
  simp [exposeBand]

@[simp] theorem inv_rotateHalves (n : Nat) (s : State) : Inv (rotateHalves n s) ↔ Inv s := by simp [rotateHalves]

@[simp] theorem inv_continueBand (n : Nat) (f : Flight) (k : Nat) (odd : Bool) (s : State) :
    Inv (continueBand n f k odd s) ↔ Inv s := by simp [continueBand]

@[simp] theorem inv_leaveStation (n : Nat) (f : Flight) (s : State) : Inv (leaveStation n f s) ↔ Inv s := by
  simp [leaveStation]

@[simp] theorem inv_exposeFlight (n : Nat) (u : Int) (s : State) (f : Flight) :
    Inv (exposeFlight n u s f) ↔ Inv s := by simp [exposeFlight]

@[simp] theorem inv_markFlight (n : Nat) (s : State) (f : Flight) : Inv (markFlight n s f) ↔ Inv s := by
  simp [markFlight]

@[simp] theorem inv_installCal (n : Nat) (s : State) : Inv (installCal n s) ↔ Inv s := by
  simp only [installCal]
  (repeat' split) <;> simp

@[simp] theorem inv_calDone (n : Nat) (s : State) : Inv (calDone n s) ↔ Inv s := by simp [calDone]

@[simp] theorem inv_installAt (n : Nat) (s : State) : Inv (installAt n s) ↔ Inv s := by
  simp only [installAt]
  (repeat' split) <;> simp

@[simp] theorem inv_loseSos (n : Nat) (s : State) : Inv (loseSos n s) ↔ Inv s := by
  simp only [loseSos]
  split <;> simp

@[simp] theorem inv_badTimestamp (n : Nat) (s : State) : Inv (badTimestamp n s) ↔ Inv s := by simp [badTimestamp]
@[simp] theorem inv_facetLocked (n : Nat) (s : State) : Inv (facetLocked n s) ↔ Inv s := by simp [facetLocked]
@[simp] theorem inv_facetSample (n : Nat) (s : State) : Inv (facetSample n s) ↔ Inv s := by simp [facetSample]

@[simp] theorem inv_markLane (n : Nat) (s : State) : Inv (markLane n s) ↔ Inv s := by
  unfold markLane
  split
  · rfl
  · extract_lets s₁ x scan
    have h₁ : Inv s₁ ↔ Inv s := inv_modLane ..
    split
    · split_ifs <;> simp [h₁]
    · split
      · split_ifs <;> simp [h₁]
      · simp [h₁]
      · split_ifs <;> simp [h₁]
      · exact h₁

@[simp] theorem inv_startSweep (n m : Nat) (s : State) : Inv (startSweep n m s) ↔ Inv s := by simp [startSweep]
@[simp] theorem inv_sweepEnds (n : Nat) (s : State) : Inv (sweepEnds n s) ↔ Inv s := by simp [sweepEnds]

@[simp] theorem inv_sweepOpens (n m : Nat) (s : State) : Inv (sweepOpens n m s) ↔ Inv s := by
  simp only [sweepOpens, inv_note, inv_facetSample, inv_ite, ite_self]
  split <;> simp

@[simp] theorem inv_sweepPrints (n : Nat) (s : State) : Inv (sweepPrints n s) ↔ Inv s := by
  unfold sweepPrints
  extract_lets s₁ s₂
  have h₂ : Inv s₂ ↔ Inv s := by simp [s₂, s₁]
  split
  · split_ifs <;> simp [h₂]
  · exact h₂

@[simp] theorem inv_loseLock (n : Nat) (s : State) : Inv (loseLock n s) ↔ Inv s := by
  simp only [loseLock, inv_modScan, inv_ite]
  (repeat' split) <;> simp

@[simp] theorem inv_locked (n : Nat) (s : State) : Inv (locked n s) ↔ Inv s := by
  simp only [locked]
  split <;> simp

/-! ### The fault collector's own events (R334 to R336) -/

@[simp] theorem inv_reviveChannel (h : Handle) (sel : Nat) (s : State) : Inv (reviveChannel h sel s) ↔ Inv s := by
  simp only [reviveChannel]
  (repeat' split) <;> simp

@[simp] theorem inv_releaseMerged (h : Handle) (s : State) : Inv (releaseMerged h s) ↔ Inv s := by
  simp [releaseMerged]

@[simp] theorem inv_returnEnded (pass : Bool) (h : Handle) (sel : Nat) (s : State) :
    Inv (returnEnded pass h sel s) ↔ Inv s := by simp [returnEnded]

@[simp] theorem inv_stallLockout (s : State) : Inv (stallLockout s) ↔ Inv s := by
  unfold stallLockout
  split <;> simp

@[simp] theorem inv_sramEffect (w : SramPlace) (s : State) : Inv (sramEffect w s) ↔ Inv s := by
  unfold sramEffect
  (repeat' split) <;> simp

@[simp] theorem inv_testBank (bank : Nat) (place : SramPlace) (s : State) : Inv (testBank bank place s) ↔ Inv s := by
  simp [testBank]

/-! ### Lane training, sideband, the interlock (08) -/

@[simp] theorem inv_trainingDone (l : Nat) (s : State) : Inv (trainingDone l s) ↔ Inv s := by
  simp only [trainingDone, inv_startBer, inv_ite, ite_self]
  split <;> simp

@[simp] theorem inv_berEnded (pass : Bool) (l : Nat) (s : State) : Inv (berEnded pass l s) ↔ Inv s := by
  simp only [berEnded, inv_returnEnded]
  (repeat' split) <;> simp

@[simp] theorem inv_berJudge (l errors : Nat) (s : State) : Inv (berJudge l errors s) ↔ Inv s := by
  unfold berJudge
  split <;> simp

@[simp] theorem inv_interlockFrames (s : State) : Inv (interlockFrames s) ↔ Inv s := by simp [interlockFrames]
@[simp] theorem inv_gateOpens (s : State) : Inv (gateOpens s) ↔ Inv s := by simp [gateOpens]

/-! ### The host link (R98, R420 to R424) -/

@[simp] theorem inv_badDatagram (lane : Nat) (s : State) : Inv (badDatagram lane s) ↔ Inv s := by simp [badDatagram]

@[simp] theorem inv_dropDesc (id : BandId) (s : State) : Inv (dropDesc id s) ↔ Inv s := by
  unfold dropDesc
  split <;> simp

@[simp] theorem inv_duplicateBand (lane : Nat) (id : BandId) (s : State) : Inv (duplicateBand lane id s) ↔ Inv s := by
  simp [duplicateBand]

theorem inv_withDescs {id : BandId} {s t : State} (h : withDescs id s = some t) : Inv t ↔ Inv s := by
  unfold withDescs at h
  split at h
  · simp at h
  · split_ifs at h
    · cases h; rfl
    · obtain ⟨a, -, rfl⟩ := Option.map_eq_some_iff.1 h
      simp

@[simp] theorem inv_placeBand (b : Staged) (data : List Byte) (s : State) : Inv (placeBand b data s) ↔ Inv s := by
  unfold placeBand
  split_ifs
  · simp
  · rfl
  · split
    · next t a ht _ =>
      have ht : Inv t ↔ Inv s := inv_withDescs ht
      split_ifs <;> simp [ht]
    · rfl

@[simp] theorem inv_placeBands (s : State) : Inv (placeBands s) ↔ Inv s := by simp [placeBands]

@[simp] theorem inv_enterFrame (id : BandId) (bands : Nat) (s : State) : Inv (enterFrame id bands s) ↔ Inv s := by
  simp [enterFrame]

@[simp] theorem inv_ingestBand (lane : Nat) (id : BandId) (s : State) : Inv (ingestBand lane id s) ↔ Inv s := by
  simp only [ingestBand]
  (repeat' split) <;> simp

@[simp] theorem inv_unknownJob (id : BandId) (s : State) : Inv (unknownJob id s) ↔ Inv s := by simp [unknownJob]

@[simp] theorem inv_addFragment (lane : Nat) (b : Staged) (off len : Nat) (data : List Byte) (s : State) :
    Inv (addFragment lane b off len data s) ↔ Inv s := by simp [addFragment]

@[simp] theorem inv_bandFragment (lane : Nat) (id : BandId) (off len seq : Nat) (data : List Byte) (s : State) :
    Inv (bandFragment lane id off len seq data s) ↔ Inv s := by
  unfold bandFragment
  split <;> simp

/-! ### The newel counter, limits and homing (R207, R208, R221 to R223) -/

@[simp] theorem inv_spoilNewel (s : State) : Inv (spoilNewel s) ↔ Inv s := by simp [spoilNewel]

@[simp] theorem inv_reversalCheck (s : State) : Inv (reversalCheck s) ↔ Inv s := by
  simp only [reversalCheck, inv_modNewel, inv_raise, inv_spoilNewel, inv_ite, ite_self]

@[simp] theorem inv_newelLoss (s : State) : Inv (newelLoss s) ↔ Inv s := by simp [newelLoss]

@[simp] theorem inv_backupLoss (s : State) : Inv (backupLoss s) ↔ Inv s := by
  simp only [backupLoss, inv_modNewel, inv_beginStop, inv_askStop, inv_spoilNewel, inv_raise, inv_ite, ite_self]

@[simp] theorem inv_encoderLoss (aux : Bool) (s : State) : Inv (encoderLoss aux s) ↔ Inv s := by simp [encoderLoss]
@[simp] theorem inv_countNewel (aux up : Bool) (s : State) : Inv (countNewel aux up s) ↔ Inv s := by simp [countNewel]
@[simp] theorem inv_illegalNewel (aux : Bool) (s : State) : Inv (illegalNewel aux s) ↔ Inv s := by simp [illegalNewel]
@[simp] theorem inv_homeFailed (a : Nat) (s : State) : Inv (homeFailed a s) ↔ Inv s := by simp [homeFailed]

@[simp] theorem inv_homeChatter (a : Nat) (h : Handle) (s : State) : Inv (homeChatter a h s) ↔ Inv s := by
  simp [homeChatter]

@[simp] theorem inv_homeDone (a : Nat) (h : Handle) (capture : Int) (s : State) :
    Inv (homeDone a h capture s) ↔ Inv s := by simp [homeDone]

@[simp] theorem inv_homeInput (a : Nat) (h : Handle) (level : Bool) (capture : Int) (s : State) :
    Inv (homeInput a h level capture s) ↔ Inv s := by
  simp only [homeInput, inv_raise, inv_homeFailed, inv_ite]
  (repeat' split) <;> simp

@[simp] theorem inv_limitTrip (a : Nat) (h : Handle) (s : State) : Inv (limitTrip a h s) ↔ Inv s := by
  simp [limitTrip]

/-! ### Motor commutation and field control (11) -/

@[simp] theorem inv_axisTestEnded (pass : Bool) (a code : Nat) (s : State) :
    Inv (axisTestEnded pass a code s) ↔ Inv s := by
  simp only [axisTestEnded, inv_modAxis, inv_codeTestEnded, inv_ite]
  (repeat' split) <;> simp

@[simp] theorem inv_axisError (a code : Nat) (s : State) : Inv (axisError a code s) ↔ Inv s := by
  unfold axisError
  split <;> simp

@[simp] theorem inv_axisTestTick (a : Nat) (s : State) : Inv (axisTestTick a s) ↔ Inv s := by
  unfold axisTestTick
  split <;> simp

@[simp] theorem inv_windingStep (a : Nat) (s : State) : Inv (windingStep a s) ↔ Inv s := by
  unfold windingStep
  split <;> simp

@[simp] theorem inv_sendComm (a : Nat) (t : Rat) (sector : Nat) (duty : Rat) (s : State) :
    Inv (sendComm a t sector duty s) ↔ Inv s := by simp [sendComm]

@[simp] theorem inv_crossing (a t : Nat) (s : State) : Inv (crossing a t s) ↔ Inv s := by simp [crossing]

@[simp] theorem inv_loseFacet (a : Nat) (s : State) : Inv (loseFacet a s) ↔ Inv s := by
  unfold loseFacet
  split <;> simp

@[simp] theorem inv_beginStart (a : Nat) (s : State) : Inv (beginStart a s) ↔ Inv s := by simp [beginStart]
@[simp] theorem inv_startFailed (a : Nat) (s : State) : Inv (startFailed a s) ↔ Inv s := by simp [startFailed]
@[simp] theorem inv_sixStep (a : Nat) (s : State) : Inv (sixStep a s) ↔ Inv s := by simp [sixStep]
@[simp] theorem inv_skipSample (a : Nat) (s : State) : Inv (skipSample a s) ↔ Inv s := by simp [skipSample]

@[simp] theorem inv_singleShunt (a : Nat) (ts : List Rat) (s : State) : Inv (singleShunt a ts s) ↔ Inv s := by
  unfold singleShunt
  split <;> simp

@[simp] theorem inv_lowSide (a : Nat) (ts : List Rat) (s : State) : Inv (lowSide a ts s) ↔ Inv s := by
  simp only [lowSide]
  split <;> simp

@[simp] theorem inv_focStep (a : Nat) (s : State) : Inv (focStep a s) ↔ Inv s := by
  simp only [focStep]
  split <;> simp

@[simp] theorem inv_torqueRef (a : Nat) (s : State) : Inv (torqueRef a s) ↔ Inv s := by simp [torqueRef]

@[simp] theorem inv_crossWindow (a : Nat) (vm cm : Rat × Rat) (s : State) : Inv (crossWindow a vm cm s) ↔ Inv s := by
  simp [crossWindow]

@[simp] theorem inv_dtcStep (a : Nat) (s : State) : Inv (dtcStep a s) ↔ Inv s := by simp [dtcStep]

/-! ### The node ring and the axis engine (12) -/

@[simp] theorem inv_raiseOnce (code : Nat) (h : Handle) (detail : Nat) (s : State) :
    Inv (raiseOnce code h detail s) ↔ Inv s := by simp [raiseOnce]

@[simp] theorem inv_axisRecord (u : AxisUp) (s : State) : Inv (axisRecord u s) ↔ Inv s := by
  unfold axisRecord
  (repeat' split) <;> simp

@[simp] theorem inv_stepperRecord (k flags : Nat) (s : State) : Inv (stepperRecord k flags s) ↔ Inv s := by
  simp [stepperRecord]

@[simp] theorem inv_heaterRecord (i flags : Nat) (s : State) : Inv (heaterRecord i flags s) ↔ Inv s := by
  simp [heaterRecord]

@[simp] theorem inv_hvRecord (i : Nat) (dc cur ac : Int) (flags : Nat) (s : State) :
    Inv (hvRecord i dc cur ac flags s) ↔ Inv s := by
  simp only [hvRecord, inv_modRing, inv_testEnded, inv_raise, inv_ite, ite_self]

@[simp] theorem inv_hvTick (s : State) : Inv (hvTick s) ↔ Inv s := by simp [hvTick]

@[simp] theorem inv_ringBreak (port detail : Nat) (s : State) : Inv (ringBreak port detail s) ↔ Inv s := by
  simp [ringBreak]

@[simp] theorem inv_nodeRecord (u : NodeUp) (s : State) : Inv (nodeRecord u s) ↔ Inv s := by simp [nodeRecord]

@[simp] theorem inv_recordMissing (n : Nat) (s : State) : Inv (recordMissing n s) ↔ Inv s := by
  unfold recordMissing
  extract_lets h k s₁ s₂
  have h₂ : Inv s₂ ↔ Inv s := by
    unfold s₂
    rw [inv_foldl fun t i => by split <;> simp]
    simp [s₁]
  split_ifs <;> simp [h₂]

@[simp] theorem inv_nodeRecords (ups : List NodeUp) (s : State) : Inv (nodeRecords ups s) ↔ Inv s := by
  unfold nodeRecords
  extract_lets live
  split_ifs
  · rfl
  · exact inv_foldl (fun t n => by split <;> simp) _ s

@[simp] theorem inv_nodeEnable (n : Nat) (s : State) : Inv (nodeEnable n s) ↔ Inv s := by simp [nodeEnable]

@[simp] theorem inv_nodeAsk (n op : Nat) (arg : Nat × Nat × Nat) (s : State) : Inv (nodeAsk n op arg s) ↔ Inv s := by
  simp [nodeAsk]

@[simp] theorem inv_mailboxTurn (s : State) : Inv (mailboxTurn s) ↔ Inv s := by
  simp only [mailboxTurn, inv_modRing, inv_ite]
  (repeat' split) <;> simp

@[simp] theorem inv_noSlot (n : Nat) (s : State) : Inv (noSlot n s) ↔ Inv s := by simp [noSlot]

@[simp] theorem inv_assignNode (cw n pos : Nat) (p : RingPos) (s : State) :
    Inv (assignNode cw n pos p s) ↔ Inv s := by simp [assignNode]

@[simp] theorem inv_profileTick (before s : State) : Inv (profileTick before s) ↔ Inv s := by simp [profileTick]
@[simp] theorem inv_webSpeedCheck (s : State) : Inv (webSpeedCheck s) ↔ Inv s := by simp [webSpeedCheck]

@[simp] theorem inv_freeMotion (a : Nat) (s : State) : Inv (freeMotion a s) ↔ Inv s := by
  unfold freeMotion
  extract_lets
  split <;> simp [*]

@[simp] theorem inv_homeTick (a : Nat) (s : State) : Inv (homeTick a s) ↔ Inv s := by
  simp only [homeTick, inv_homeFailed, inv_ite]
  (repeat' split) <;> simp

@[simp] theorem inv_orphanWaiters (a : Nat) (s : State) : Inv (orphanWaiters a s) ↔ Inv s := by simp [orphanWaiters]

@[simp] theorem inv_regearEnds (h : Handle) (r : Option Bool) (s : State) : Inv (regearEnds h r s) ↔ Inv s := by
  unfold regearEnds
  split <;> simp

@[simp] theorem inv_axisFollow (a : Nat) (s : State) : Inv (axisFollow a s) ↔ Inv s := by simp [axisFollow]
@[simp] theorem inv_stepperTick (k : Nat) (s : State) : Inv (stepperTick k s) ↔ Inv s := by simp [stepperTick]

@[simp] theorem inv_jogTick (s : State) : Inv (jogTick s) ↔ Inv s := by
  unfold jogTick
  split <;> simp

@[simp] theorem inv_solTick (k : Nat) (s : State) : Inv (solTick k s) ↔ Inv s := by
  unfold solTick
  extract_lets line now s₁
  have h₁ : Inv s₁ ↔ Inv s := by unfold s₁; split_ifs <;> simp
  rw [inv_foldl ?_, h₁]
  intro t p
  split
  · next u hu => exact inv_fireSol hu
  · simp

@[simp] theorem inv_axisTick (a : Nat) (s : State) : Inv (axisTick a s) ↔ Inv s := by
  simp only [axisTick]
  split <;> simp

@[simp] theorem inv_dropClaim (s : State) : Inv (dropClaim s) ↔ Inv s := by simp [dropClaim]
@[simp] theorem inv_launch (s : State) : Inv (launch s) ↔ Inv s := by simp [launch]
@[simp] theorem inv_sendMirror (s : State) : Inv (sendMirror s) ↔ Inv s := by simp [sendMirror]
@[simp] theorem inv_mirrorLost (s : State) : Inv (mirrorLost s) ↔ Inv s := by simp [mirrorLost]
@[simp] theorem inv_pairTick (s : State) : Inv (pairTick s) ↔ Inv s := by simp [pairTick]
@[simp] theorem inv_handOver (s : State) : Inv (handOver s) ↔ Inv s := by simp [handOver]
@[simp] theorem inv_lockoutSafe (s : State) : Inv (lockoutSafe s) ↔ Inv s := by simp [lockoutSafe]
@[simp] theorem inv_ringIn (ups : List NodeUp) (s : State) : Inv (ringIn ups s) ↔ Inv s := by simp [ringIn]
@[simp] theorem inv_ringWeb (before s : State) : Inv (ringWeb before s) ↔ Inv s := by simp [ringWeb]
@[simp] theorem inv_ringFollow (s : State) : Inv (ringFollow s) ↔ Inv s := by simp [ringFollow]
@[simp] theorem inv_ringOut (s : State) : Inv (ringOut s) ↔ Inv s := by simp [ringOut]

/-! ### Reset and the clocks (14, R438) -/

/-- A reset keeps the two counters, the power log and the approved list, and empties the rest (Table 01-2, R438). -/
@[simp] theorem Inv.resetDevice {s : State} (h : Inv s) : Inv (resetDevice s) := by
  obtain ⟨-, hc, hp, ha, -⟩ := inv_iff.1 h
  exact inv_iff.2 ⟨(inv_iff.1 inv_reset).1, hc, hp, ha, inv_reset.faultTable⟩

/-- The count of power cycles saturates below 2³² (R310). -/
@[simp] theorem Inv.leaveReset {s : State} (h : Inv s) : Inv (leaveReset s) := by
  refine (inv_modBoot _).2 (h.modClk (And.imp_right fun _ => ?_))
  show min _ _ < _
  omega

@[simp] theorem Inv.selfReset {s : State} (h : Inv s) : Inv (selfReset s) := h.resetDevice.leaveReset
@[simp] theorem inv_throttleCore (div : Nat) (s : State) : Inv (throttleCore div s) ↔ Inv s := by simp [throttleCore]

@[simp] theorem inv_clocksFail (cause : BitVec 4) (s : State) : Inv (clocksFail cause s) ↔ Inv s := by
  simp [clocksFail]

@[simp] theorem inv_rootFails (s : State) : Inv (rootFails s) ↔ Inv s := by
  simp only [rootFails, inv_ite, inv_clocksFail, ite_self]
  exact inv_modClk rfl rfl

@[simp] theorem inv_rootLockout (code : Nat) (s : State) : Inv (rootLockout code s) ↔ Inv s := by simp [rootLockout]
@[simp] theorem inv_rootLost (code : Nat) (s : State) : Inv (rootLost code s) ↔ Inv s := by simp [rootLost]

/-! ### Power sequences and the power log (15, R311) -/

@[simp] theorem inv_railDown (r : Nat) (s : State) : Inv (railDown r s) ↔ Inv s := by simp [railDown]

@[simp] theorem inv_logFailure (r cause : Nat) (s : State) : Inv (logFailure r cause s) ↔ Inv s := by
  unfold logFailure
  extract_lets x
  refine inv_modPower ?_
  split
  · split_ifs <;> simp [*]
  · simp [*]

/-- The power log keeps 64 entries (R311). -/
@[simp] theorem Inv.openLog {s : State} (h : Inv s) : Inv (openLog s) := by
  obtain ⟨hm, hc, -, ha, hf⟩ := inv_iff.1 h
  exact inv_iff.2 ⟨hm, hc, List.length_take_le .., ha, hf⟩

@[simp] theorem inv_upDone (s : State) : Inv (upDone s) ↔ Inv s := by simp [upDone]
@[simp] theorem inv_downDone (s : State) : Inv (downDone s) ↔ Inv s := by simp [downDone]
@[simp] theorem inv_goDown (s : State) : Inv (goDown s) ↔ Inv s := by simp [goDown]
@[simp] theorem inv_fallen (r : Nat) (s : State) : Inv (fallen r s) ↔ Inv s := by simp [fallen]
@[simp] theorem inv_railFails (r cause : Nat) (s : State) : Inv (railFails r cause s) ↔ Inv s := by simp [railFails]

@[simp] theorem inv_judgeRail (r mv limit : Nat) (clean : Bool) (s : State) :
    Inv (judgeRail r mv limit clean s) ↔ Inv s := by
  simp only [judgeRail]
  split <;> simp

@[simp] theorem inv_judgeStatus (r word : Nat) (s : State) : Inv (judgeStatus r word s) ↔ Inv s := by
  simp only [judgeStatus]
  split <;> simp

@[simp] theorem inv_noAnswer (r : Nat) (s : State) : Inv (noAnswer r s) ↔ Inv s := by simp [noAnswer]
@[simp] theorem inv_startUp (s : State) : Inv (startUp s) ↔ Inv s := by simp [startUp]

@[simp] theorem Inv.bootPower {s : State} (h : Inv s) : Inv (bootPower s) := by
  simpa [Machine.bootPower] using h.openLog

@[simp] theorem inv_logPowerFail (s : State) : Inv (logPowerFail s) ↔ Inv s := by
  refine inv_modPower ?_
  split
  · split_ifs <;> simp [*]
  · simp [*]

@[simp] theorem sound_bodyPwrStatus (m : Cmd) (s : State) : (bodyPwrStatus m s).Sound ↔ Inv s := by
  unfold bodyPwrStatus
  split <;> simp

@[simp] theorem sound_bodyPwrRailRestart (m : Cmd) (s : State) : (bodyPwrRailRestart m s).Sound ↔ Inv s := by
  unfold bodyPwrRailRestart
  split <;> simp

@[simp] theorem sound_bodyPwrDown (s : State) : (bodyPwrDown s).Sound ↔ Inv s := by simp [bodyPwrDown]
@[simp] theorem sound_bodyPwrUp (s : State) : (bodyPwrUp s).Sound ↔ Inv s := by simp [bodyPwrUp]

@[simp] theorem sound_bodyPwrLogRead (m : Cmd) (s : State) : (bodyPwrLogRead m s).Sound ↔ Inv s := by
  unfold bodyPwrLogRead
  split <;> simp

@[simp] theorem sound_bodyPwrReset (m : Cmd) (s : State) : (bodyPwrReset m s).Sound ↔ Inv s := by simp [bodyPwrReset]

/-! ### The thermal manager (16) -/

@[simp] theorem inv_modSource (k : Nat) (f : TSrc → TSrc) (s : State) : Inv (modSource k f s) ↔ Inv s := by
  simp [modSource]

@[simp] theorem inv_breakSource (k : Nat) (s : State) : Inv (breakSource k s) ↔ Inv s := by simp [breakSource]
@[simp] theorem inv_checkSource (k : Nat) (s : State) : Inv (checkSource k s) ↔ Inv s := by simp [checkSource]

@[simp] theorem inv_readSource (k : Nat) (v : Option Int) (s : State) : Inv (readSource k v s) ↔ Inv s := by
  simp [readSource]

@[simp] theorem inv_leaveHot (k : Nat) (s : State) : Inv (leaveHot k s) ↔ Inv s := by
  simp only [leaveHot, inv_modTherm, inv_modSource, inv_setLasers, inv_leaveAllDark, inv_ite, ite_self]
  (repeat' split) <;> simp

@[simp] theorem inv_leaveAllHot (s : State) : Inv (leaveAllHot s) ↔ Inv s := by simp [leaveAllHot]
@[simp] theorem inv_enterSlow (k : Nat) (s : State) : Inv (enterSlow k s) ↔ Inv s := by simp [enterSlow]
@[simp] theorem inv_enterStop (k : Nat) (s : State) : Inv (enterStop k s) ↔ Inv s := by simp [enterStop]
@[simp] theorem inv_enterTrip (k : Nat) (s : State) : Inv (enterTrip k s) ↔ Inv s := by simp [enterTrip]

@[simp] theorem inv_judgeLevel (k : Nat) (s : State) : Inv (judgeLevel k s) ↔ Inv s := by
  unfold judgeLevel
  split <;> simp

@[simp] theorem inv_setThrottle (n : Nat) (s : State) : Inv (setThrottle n s) ↔ Inv s := by simp [setThrottle]

@[simp] theorem inv_judgeThrottle (s : State) : Inv (judgeThrottle s) ↔ Inv s := by
  unfold judgeThrottle
  split <;> simp

@[simp] theorem inv_readEntries (td : List (Option Int)) (s : State) : Inv (readEntries td s) ↔ Inv s := by
  refine inv_foldl (fun t i => ?_) _ s
  extract_lets h
  split_ifs
  · simp
  · simp
  · split <;> simp

@[simp] theorem inv_dropUnused (s : State) : Inv (dropUnused s) ↔ Inv s := by simp [dropUnused]

/-! ### Panel and token port (22) -/

@[simp] theorem inv_scanKey (down : BitVec 64) (s : State) (i : Nat) : Inv (scanKey down s i) ↔ Inv s := by
  simp [scanKey]

@[simp] theorem sound_bodyPnlLed (m : Cmd) (s : State) : (bodyPnlLed m s).Sound ↔ Inv s := by simp [bodyPnlLed]

@[simp] theorem sound_bodyPnlBuzzer (m : Cmd) (s : State) : (bodyPnlBuzzer m s).Sound ↔ Inv s := by
  simp [bodyPnlBuzzer]

@[simp] theorem inv_touchReport (bs : List Byte) (s : State) : Inv (touchReport bs s) ↔ Inv s := by simp [touchReport]

@[simp] theorem inv_usbRecord (what vendor product : Nat) (s : State) :
    Inv (usbRecord what vendor product s) ↔ Inv s := by simp [usbRecord]

/-! ### Authority and the approved list (19, R372 to R378) -/

@[simp] theorem sound_bodyAuthChallenge (s : State) : (bodyAuthChallenge s).Sound ↔ Inv s := by
  simp [bodyAuthChallenge]

@[simp] theorem inv_deny (why : Nat) (k : Ticket) (s : State) : Inv (deny why k s) ↔ Inv s := by simp [deny]

/-- A ticket presented leaves the invariant as it stands, granted or denied (R375). -/
@[simp] theorem inv_present (k : Ticket) (s : State) : Inv (present k s).2.2 ↔ Inv s := by
  unfold present
  extract_lets d s₁ s₂
  clear_value d
  split <;> simp [s₂, s₁]

@[simp] theorem sound_bodyAuthTicket (m : Cmd) (s : State) : (bodyAuthTicket m s).Sound ↔ Inv s := by
  simp [bodyAuthTicket]

@[simp] theorem sound_bodyAuthTokenSign (m : Cmd) (s : State) : (bodyAuthTokenSign m s).Sound ↔ Inv s := by
  unfold bodyAuthTokenSign
  (repeat' split) <;> simp

@[simp] theorem inv_signEnds (st : Status) (p : List Byte) (s : State) : Inv (signEnds st p s) ↔ Inv s := by
  simp [signEnds]

@[simp] theorem inv_keyChange (role index what ident : Nat) (s : State) :
    Inv (keyChange role index what ident s) ↔ Inv s := by simp [keyChange]

@[simp] theorem sound_bodyAuthKeyInstall (m : Cmd) (s : State) : (bodyAuthKeyInstall m s).Sound ↔ Inv s := by
  simp [bodyAuthKeyInstall]

@[simp] theorem sound_bodyAuthKeyRemove (m : Cmd) (s : State) : (bodyAuthKeyRemove m s).Sound ↔ Inv s := by
  unfold bodyAuthKeyRemove
  extract_lets
  split <;> simp [*]

/-- A list of at most 16 digests is stored (R378). -/
@[simp] theorem Inv.putDigests {s : State} {l : List Nat} (h : Inv s) (hl : l.length ≤ 16) : Inv (putDigests l s) := by
  obtain ⟨hm, hc, hp, -, hf⟩ := inv_iff.1 h
  exact (inv_galWrite ..).2 (inv_iff.2 ⟨hm, hc, hp, hl, hf⟩)

/-- A digest is added to a list of fewer than 16 (R378). -/
@[simp] theorem Inv.bodyAuthDigestAdd {s : State} (m : Cmd) (h : Inv s) : (bodyAuthDigestAdd m s).Sound := by
  unfold Machine.bodyAuthDigestAdd
  extract_lets l d
  split_ifs with _ hl
  · exact h
  · exact h
  · exact h
  · exact h.putDigests (by rw [List.length_append]; exact not_le.1 hl)

@[simp] theorem Inv.bodyAuthDigestRemove {s : State} (m : Cmd) (h : Inv s) : (bodyAuthDigestRemove m s).Sound := by
  unfold Machine.bodyAuthDigestRemove
  extract_lets l d
  split_ifs
  · exact h
  · exact h
  · exact h.putDigests ((List.length_filter_le ..).trans h.digests)

@[simp] theorem sound_bodyAuthStatus (s : State) : (bodyAuthStatus s).Sound ↔ Inv s := by simp [bodyAuthStatus]

/-! ### The calibration store (R379, R412) -/

@[simp] theorem sound_bodyCalWrite (m : Cmd) (s : State) : (bodyCalWrite m s).Sound ↔ Inv s := by
  unfold bodyCalWrite
  split <;> simp

@[simp] theorem sound_bodyCalCommit (m : Cmd) (s : State) : (bodyCalCommit m s).Sound ↔ Inv s := by
  unfold bodyCalCommit
  split <;> simp

@[simp] theorem sound_bodyCalRead (m : Cmd) (s : State) : (bodyCalRead m s).Sound ↔ Inv s := by
  unfold bodyCalRead
  split <;> simp

@[simp] theorem sound_bodyCalAbort (m : Cmd) (s : State) : (bodyCalAbort m s).Sound ↔ Inv s := by
  unfold bodyCalAbort
  split <;> simp

@[simp] theorem inv_unretire (n e : Nat) (s : State) : Inv (unretire n e s) ↔ Inv s := by simp [unretire]

@[simp] theorem inv_returnEmitters (serial : Nat) (mask : BitVec 36) (s : State) :
    Inv (returnEmitters serial mask s) ↔ Inv s := by simp [returnEmitters]

@[simp] theorem sound_bodyCalHeadClear (m : Cmd) (s : State) : (bodyCalHeadClear m s).Sound ↔ Inv s := by
  simp only [bodyCalHeadClear, Reply.sound_refuse, Reply.sound_ite]
  (repeat' split) <;> simp

/-! ### The spool engine (06) -/

@[simp] theorem inv_tryController (port : Nat) (i : NvmeInfo) (s : State) : Inv (tryController port i s) ↔ Inv s := by
  simp [tryController]

@[simp] theorem inv_takeEight (s : State) : Inv (takeEight s) ↔ Inv s := by simp [takeEight]
@[simp] theorem inv_askStatus (s : State) : Inv (askStatus s) ↔ Inv s := by simp [askStatus]
@[simp] theorem inv_benchReads (s : State) : Inv (benchReads s) ↔ Inv s := by simp [benchReads]
@[simp] theorem inv_beginWindows (s : State) : Inv (beginWindows s) ↔ Inv s := by simp [beginWindows]

@[simp] theorem inv_mountSpool (c : SuperCopy) (ms : List Member) (gens : Nat × Nat) (s : State) :
    Inv (mountSpool c ms gens s) ↔ Inv s := by simp [mountSpool]

@[simp] theorem inv_newBandwidth (c bw : Nat) (s : State) : Inv (newBandwidth c bw s) ↔ Inv s := by
  simp [newBandwidth]

@[simp] theorem inv_endBench (s : State) : Inv (endBench s) ↔ Inv s := by simp [endBench]

@[simp] theorem inv_modLoading (n : Nat) (id : BandId) (f : RBand → RBand) (s : State) :
    Inv (modLoading n id f s) ↔ Inv s := by simp [modLoading]

@[simp] theorem inv_lateNote (n : Nat) (b : RBand) (s : State) : Inv (lateNote n b s) ↔ Inv s := by
  unfold lateNote
  split <;> simp

@[simp] theorem inv_bandLoaded (n : Nat) (b : RBand) (again : Bool) (s : State) :
    Inv (bandLoaded n b again s) ↔ Inv s := by
  simp only [bandLoaded, inv_modSpool, inv_bandFails, inv_freeBand, inv_modFlight, inv_lateNote, inv_ite]
  (repeat' split) <;> simp

@[simp] theorem inv_loseSpool (c : Nat) (s : State) : Inv (loseSpool c s) ↔ Inv s := by simp [loseSpool]

@[simp] theorem inv_bandLost (c : Nat) (id : BandId) (s : State) : Inv (bandLost c id s) ↔ Inv s := by
  simp only [bandLost]
  split <;> simp

@[simp] theorem inv_rereadFailed (c : Nat) (id : BandId) (s : State) : Inv (rereadFailed c id s) ↔ Inv s := by
  unfold rereadFailed
  split <;> simp

@[simp] theorem inv_readFailed (c : Nat) (q : NvmeCmd) (page : Nat) (s : State) :
    Inv (readFailed c q page s) ↔ Inv s := by simp [readFailed]

@[simp] theorem inv_rereadEnded (c : Nat) (id : BandId) (page : Nat) (ok : Bool) (s : State) :
    Inv (rereadEnded c id page ok s) ↔ Inv s := by
  simp only [rereadEnded, inv_rereadFailed, inv_ite, ite_self]
  split <;> simp

@[simp] theorem inv_shareArrived (c : Nat) (id : BandId) (diff : List (Nat × Nat)) (s : State) :
    Inv (shareArrived c id diff s) ↔ Inv s := by
  simp only [shareArrived]
  (repeat' split) <;> simp

@[simp] theorem inv_bandWritten (id : BandId) (s : State) : Inv (bandWritten id s) ↔ Inv s := by
  unfold bandWritten
  split <;> simp

@[simp] theorem inv_formatDone (s : State) : Inv (formatDone s) ↔ Inv s := by simp [formatDone]
@[simp] theorem inv_formatClear (s : State) : Inv (formatClear s) ↔ Inv s := by simp [formatClear]
@[simp] theorem inv_formatTrim (s : State) : Inv (formatTrim s) ↔ Inv s := by simp [formatTrim]

@[simp] theorem inv_advanceFormat (s : State) : Inv (advanceFormat s) ↔ Inv s := by
  unfold advanceFormat
  split <;> simp

@[simp] theorem inv_scrubRead (u : Scrub) (s : State) : Inv (scrubRead u s) ↔ Inv s := by simp [scrubRead]

@[simp] theorem inv_scrubNext (s : State) : Inv (scrubNext s) ↔ Inv s := by
  unfold scrubNext
  (repeat' split) <;> simp

@[simp] theorem inv_scrubJudge (s : State) : Inv (scrubJudge s) ↔ Inv s := by
  unfold scrubJudge
  (repeat' split) <;> simp

@[simp] theorem inv_scrubArrived (ok : Bool) (diff : List (Nat × Nat)) (s : State) :
    Inv (scrubArrived ok diff s) ↔ Inv s := by simp [scrubArrived]

@[simp] theorem inv_takeOut (c : Nat) (q : NvmeCmd) (s : State) : Inv (takeOut c q s) ↔ Inv s := by simp [takeOut]
@[simp] theorem inv_afterCommand (c : Nat) (s : State) : Inv (afterCommand c s) ↔ Inv s := by simp [afterCommand]

@[simp] theorem inv_rereadDone (c : Nat) (id : BandId) (page : Nat) (ok : Bool) (diff : List (Nat × Nat)) (s : State) :
    Inv (rereadDone c id page ok diff s) ↔ Inv s := by simp [rereadDone]

@[simp] theorem inv_commandDone (c : Nat) (q : NvmeCmd) (page : Nat) (ok : Bool) (diff : List (Nat × Nat)) (s : State) :
    Inv (commandDone c q page ok diff s) ↔ Inv s := by
  unfold commandDone
  split <;> simp

@[simp] theorem inv_loseMember (c : Nat) (s : State) : Inv (loseMember c s) ↔ Inv s := by
  unfold loseMember
  split
  · rfl
  · split_ifs
    · rfl
    · rw [inv_send, inv_raise, inv_foldl fun t f => inv_foldl (fun t n => by split <;> simp) _ t]
      simp

@[simp] theorem inv_rejoin (c : Nat) (s : State) : Inv (rejoin c s) ↔ Inv s := by simp [rejoin]

/-! ### Maintenance activities (R405 to R409) -/

@[simp] theorem inv_fireAct (k ms : Nat) (s : State) : Inv (fireAct k ms s) ↔ Inv s := by
  unfold fireAct
  split
  · next j _ =>
    cases h : fireSol j (nextCycle s) ms 0 s with
    | none => rfl
    | some t => exact inv_fireSol h
  · rfl

@[simp] theorem inv_releaseAct (k : Nat) (s : State) : Inv (releaseAct k s) ↔ Inv s := by
  unfold releaseAct
  split <;> simp

@[simp] theorem inv_startEffect (k : Nat) (h : Handle) (s : State) : Inv (startEffect k h s) ↔ Inv s := by
  simp only [startEffect]
  (repeat' split) <;> simp

@[simp] theorem inv_startAct (k : Nat) (h : Handle) (s : State) : Inv (startAct k h s) ↔ Inv s := by simp [startAct]
@[simp] theorem inv_resumeSurvey (n : Nat) (s : State) : Inv (resumeSurvey n s) ↔ Inv s := by simp [resumeSurvey]

@[simp] theorem inv_endEffect (k : Nat) (h : Handle) (pass : Bool) (stagger : List Nat) (scanStart : Nat) (sosOff : Int) (s : State) :
    Inv (endEffect k h pass stagger scanStart sosOff s) ↔ Inv s := by
  simp only [endEffect]
  (repeat' split) <;> simp

@[simp] theorem sound_bodyMntStart (m : Cmd) (s : State) : (bodyMntStart m s).Sound ↔ Inv s := by simp [bodyMntStart]

@[simp] theorem inv_stopEffect (k : Nat) (h : Handle) (s : State) : Inv (stopEffect k h s) ↔ Inv s := by
  unfold stopEffect
  (repeat' split) <;> simp

@[simp] theorem sound_bodyMntStop (m : Cmd) (s : State) : (bodyMntStop m s).Sound ↔ Inv s := by simp [bodyMntStop]

@[simp] theorem sound_bodyMntStatus (m : Cmd) (s : State) : (bodyMntStatus m s).Sound ↔ Inv s := by
  simp [bodyMntStatus]

@[simp] theorem sound_bodyMntFaultAck (m : Cmd) (s : State) : (bodyMntFaultAck m s).Sound ↔ Inv s := by
  simp [bodyMntFaultAck]

@[simp] theorem inv_returnTest (h : Handle) (sel : Nat) (s : State) : Inv (returnTest h sel s) ↔ Inv s := by
  simp [returnTest]

@[simp] theorem sound_bodyMntReturn (m : Cmd) (s : State) : (bodyMntReturn m s).Sound ↔ Inv s := by
  simp [bodyMntReturn]

@[simp] theorem sound_bodyMntIntlkRelease (m : Cmd) (s : State) : (bodyMntIntlkRelease m s).Sound ↔ Inv s := by
  simp only [bodyMntIntlkRelease, inv_modIntlk, inv_gateOpens, Reply.sound_done, Reply.sound_refuse, Reply.sound_ite,
    inv_ite, ite_self]

@[simp] theorem sound_bodyMntSpoolFormat (m : Cmd) (s : State) : (bodyMntSpoolFormat m s).Sound ↔ Inv s := by
  simp [bodyMntSpoolFormat]

/-! ### The redundant pair (18) -/

@[simp] theorem inv_recordCands (s : State) : Inv (recordCands s) ↔ Inv s := by simp [recordCands]

@[simp] theorem inv_dropCands (serials : List Nat) (s : State) : Inv (dropCands serials s) ↔ Inv s := by
  simp [dropCands]

@[simp] theorem inv_assertClaim (st : PairSt) (s : State) : Inv (assertClaim st s) ↔ Inv s := by simp [assertClaim]

@[simp] theorem inv_restartHello (s : State) : Inv (restartHello s) ↔ Inv s := by
  simp only [restartHello, inv_modPair, inv_setPair, inv_ite, ite_self]

@[simp] theorem inv_trySync (s : State) : Inv (trySync s) ↔ Inv s := by simp [trySync]

@[simp] theorem inv_peerRecords (slot : Nat) (rs : List GalRec) (s : State) :
    Inv (peerRecords slot rs s) ↔ Inv s := by simp [peerRecords]

@[simp] theorem inv_mirrorFlights (admitted : List Flight) (closed : List Nat) (s : State) :
    Inv (mirrorFlights admitted closed s) ↔ Inv s := by simp [mirrorFlights]

@[simp] theorem inv_mirrorSets (cur : CfgSet) (ver : Nat) (prev : Option (Nat × CfgSet)) (s : State) :
    Inv (mirrorSets cur ver prev s) ↔ Inv s := by simp [mirrorSets]

@[simp] theorem inv_mirrorCal (x : CalStore) (s : State) : Inv (mirrorCal x s) ↔ Inv s := by simp [mirrorCal]

@[simp] theorem inv_freeClosed (rs : List LedgerRec) (s : State) : Inv (freeClosed rs s) ↔ Inv s := by
  simp [freeClosed]

@[simp] theorem inv_standbySection (s : State) (a : MirrorSec) : Inv (standbySection s a) ↔ Inv s := by
  unfold standbySection
  split <;> simp

@[simp] theorem inv_applySection (slot : Nat) (s : State) (sec : MirrorSec) :
    Inv (applySection slot s sec) ↔ Inv s := by
  unfold applySection
  split <;> simp

@[simp] theorem inv_leaveDarkKept (s : State) : Inv (leaveDarkKept s) ↔ Inv s := by simp [leaveDarkKept]
@[simp] theorem inv_nextAhead (s : State) : Inv (nextAhead s) ↔ Inv s := by simp [nextAhead]
@[simp] theorem inv_takeHistories (s : State) : Inv (takeHistories s) ↔ Inv s := by simp [takeHistories]
@[simp] theorem inv_inherit_ (cause : Nat) (s : State) : Inv (inherit_ cause s) ↔ Inv s := by simp [inherit_]

@[simp] theorem inv_takeoverRecord (alive : Bool) (s : State) : Inv (takeoverRecord alive s) ↔ Inv s := by
  simp [takeoverRecord]

@[simp] theorem inv_takeover (alive : Bool) (s : State) : Inv (takeover alive s) ↔ Inv s := by simp [takeover]

@[simp] theorem inv_coldTakeover (s : State) : Inv (coldTakeover s) ↔ Inv s := by
  unfold coldTakeover
  rw [inv_leaveAllDark, inv_raise, inv_foldl fun t n => by split <;> simp]
  simp

@[simp] theorem inv_checkClaims (active lock : Bool) (s : State) : Inv (checkClaims active lock s) ↔ Inv s := by
  simp [checkClaims]

@[simp] theorem sound_bodyPairHandover (s : State) : (bodyPairHandover s).Sound ↔ Inv s := by simp [bodyPairHandover]

/-! ### Diagnosis (R413) -/

@[simp] theorem sound_bodyDiagState (m : Cmd) (s : State) : (bodyDiagState m s).Sound ↔ Inv s := by
  simp [bodyDiagState]

@[simp] theorem sound_bodyDiagFaults (m : Cmd) (s : State) : (bodyDiagFaults m s).Sound ↔ Inv s := by
  simp [bodyDiagFaults]

@[simp] theorem sound_bodyDiagNotes (m : Cmd) (s : State) : (bodyDiagNotes m s).Sound ↔ Inv s := by
  simp [bodyDiagNotes]

@[simp] theorem sound_bodyDiagMeter (m : Cmd) (s : State) : (bodyDiagMeter m s).Sound ↔ Inv s := by
  simp [bodyDiagMeter]

@[simp] theorem sound_bodyDiagSpool (s : State) : (bodyDiagSpool s).Sound ↔ Inv s := by simp [bodyDiagSpool]
@[simp] theorem sound_bodyDiagBoot (s : State) : (bodyDiagBoot s).Sound ↔ Inv s := by simp [bodyDiagBoot]

/-! ### The boot ROM and the start of firmware (24) -/

@[simp] theorem inv_trySlot (s : State) (k : Nat) (slot : Option (Nat × Bool)) : Inv (trySlot s k slot) ↔ Inv s := by
  unfold trySlot
  split <;> simp

@[simp] theorem inv_tellDiscard (s : State) (v : Nat × Bool) : Inv (tellDiscard s v) ↔ Inv s := by simp [tellDiscard]
@[simp] theorem inv_loadConfig (s : State) : Inv (loadConfig s) ↔ Inv s := by simp [loadConfig]
@[simp] theorem inv_loadStation (s : State) (n : Nat) : Inv (loadStation s n) ↔ Inv s := by simp [loadStation]
@[simp] theorem inv_loadCal (s : State) : Inv (loadCal s) ↔ Inv s := by simp [loadCal]
@[simp] theorem inv_loadLedger (s : State) : Inv (loadLedger s) ↔ Inv s := by simp [loadLedger]
@[simp] theorem inv_enterLimp (s : State) : Inv (enterLimp s) ↔ Inv s := by simp [enterLimp]

theorem Inv.enterRunning {s : State} (h : Inv s) : Inv (enterRunning s) := by
  unfold Machine.enterRunning
  extract_lets s₁ s₂
  have h₂ : Inv s₂ := by unfold s₂; split_ifs <;> simpa [s₁] using h
  exact Inv.bootPower (by simpa using h₂)

/-! ### Doorbells, datagrams and the management SPI (R383 to R397, R425) -/

@[simp] theorem inv_indexRefused (s : State) : Inv (indexRefused s) ↔ Inv s := by simp [indexRefused]

theorem Inv.enterSlot {s : State} (h : Inv s) : Inv (enterSlot s) := by
  unfold Machine.enterSlot
  extract_lets k m s₁
  have h₁ : Inv s₁ := Inv.arrive _ _ (by simpa using h)
  simpa using h₁

theorem Inv.times {f : State → State} (hf : ∀ s, Inv s → Inv (f s)) (k : Nat) {s : State} (h : Inv s) :
    Inv (times f k s) := by
  induction k generalizing s with
  | zero => exact h
  | succ k ih => exact ih (hf s h)

/-- A byte written over the SPI keeps the inbound window canonical (R396). -/
theorem Inv.spiByte {s : State} (a : Nat) (v : Byte) (h : Inv s) : Inv (spiByte a v s) := by
  unfold Machine.spiByte
  split
  · simpa using h
  split
  · simpa using h
  split
  · exact h.modMbx (And.imp_right (memWf_memWrite _ v))
  · exact h

@[simp] theorem inv_sendHeld (dst k : Nat) (ms : List Msg) (s : State) : Inv (sendHeld dst k ms s) ↔ Inv s := by
  induction k generalizing ms s with
  | zero => rfl
  | succ k ih => simp [sendHeld, ih]

/-! ### The unit tree and fan-outs (R28, R29, R400): commands -/

theorem sound_execUnitCreate (m : Cmd) {s : State} (h : Inv s) : SoundNext (execUnitCreate m s) :=
  h.execCmd (sound_bodyUnitCreate m)

theorem sound_execUnitDelete (m : Cmd) {s : State} (h : Inv s) : SoundNext (execUnitDelete m s) :=
  h.execCmd (sound_bodyUnitDelete m)

theorem sound_execUnitMove (m : Cmd) {s : State} (h : Inv s) : SoundNext (execUnitMove m s) :=
  h.execCmd (sound_bodyUnitMove m)

theorem sound_execUnitSet (m : Cmd) {s : State} (h : Inv s) : SoundNext (execUnitSet m s) :=
  h.execCmd (sound_bodyUnitSet m)

theorem sound_execUnitEnable (m : Cmd) {s : State} (h : Inv s) : SoundNext (execUnitEnable m s) := by
  simp [execUnitEnable, h]

theorem sound_execUnitDisable (m : Cmd) {s : State} (h : Inv s) : SoundNext (execUnitDisable m s) := by
  simp [execUnitDisable, h]

theorem sound_execFanOutStepDelay (root child : Handle) {s : State} (h : Inv s) :
    SoundNext (execFanOutStepDelay root child s) := by
  unfold execFanOutStepDelay
  rw [soundNext_next]
  split <;> simp [h]

theorem sound_execFanOutStepTimeout (root child : Handle) {s : State} (h : Inv s) :
    SoundNext (execFanOutStepTimeout root child s) := by
  unfold execFanOutStepTimeout
  rw [soundNext_next]
  split <;> simp [h]

theorem sound_execUnitRead (m : Cmd) {s : State} (h : Inv s) : SoundNext (execUnitRead m s) :=
  h.execCmd (sound_bodyUnitRead m)

theorem sound_execUnitLookup (m : Cmd) {s : State} (h : Inv s) : SoundNext (execUnitLookup m s) :=
  h.execCmd (sound_bodyUnitLookup m)

theorem sound_execUnitChildren (m : Cmd) {s : State} (h : Inv s) : SoundNext (execUnitChildren m s) :=
  h.execCmd (sound_bodyUnitChildren m)

/-! ### Configuration sets (R33 to R39, R401): commands -/

theorem sound_execCfgStageBegin (m : Cmd) {s : State} (h : Inv s) : SoundNext (execCfgStageBegin m s) :=
  h.execCmd sound_bodyCfgStageBegin

theorem sound_execCfgWrite (m : Cmd) {s : State} (h : Inv s) : SoundNext (execCfgWrite m s) :=
  h.execCmd (sound_bodyCfgWrite m)

theorem sound_execCfgRead (m : Cmd) {s : State} (h : Inv s) : SoundNext (execCfgRead m s) :=
  h.execCmd (sound_bodyCfgRead m)

theorem sound_execCfgStageAbort (m : Cmd) {s : State} (h : Inv s) : SoundNext (execCfgStageAbort m s) :=
  h.execCmd sound_bodyCfgStageAbort

theorem sound_execCfgCommit (m : Cmd) {s : State} (h : Inv s) : SoundNext (execCfgCommit m s) := by
  simp [execCfgCommit, h]

theorem sound_execCfgRevert (m : Cmd) {s : State} (h : Inv s) : SoundNext (execCfgRevert m s) := by
  simp [execCfgRevert, h]

theorem sound_execCfgStatus (m : Cmd) {s : State} (h : Inv s) : SoundNext (execCfgStatus m s) :=
  h.execCmd sound_bodyCfgStatus

theorem sound_execConfigSlotWriteComplete {s : State} (h : Inv s) : SoundNext (execConfigSlotWriteComplete s) := by
  unfold execConfigSlotWriteComplete
  rw [soundNext_next]
  split <;> simp [h]

/-! ### Jobs (R403): commands -/

theorem sound_execJobSubmit (m : Cmd) {s : State} (h : Inv s) : SoundNext (execJobSubmit m s) :=
  h.execCmd (sound_bodyJobSubmit m)

theorem sound_execJobCancel (m : Cmd) {s : State} (h : Inv s) : SoundNext (execJobCancel m s) :=
  h.execCmd (sound_bodyJobCancel m)

theorem sound_execJobHold (m : Cmd) {s : State} (h : Inv s) : SoundNext (execJobHold m s) :=
  h.execCmd (sound_bodyJobHold m)

theorem sound_execJobRelease (m : Cmd) {s : State} (h : Inv s) : SoundNext (execJobRelease m s) :=
  h.execCmd (sound_bodyJobRelease m)

theorem sound_execJobStatus (m : Cmd) {s : State} (h : Inv s) : SoundNext (execJobStatus m s) :=
  h.execCmd (sound_bodyJobStatus m)

/-! ### The ledger and the gallery (R365 to R371): commands -/

theorem sound_execGalRead (m : Cmd) {s : State} (h : Inv s) : SoundNext (execGalRead m s) :=
  h.execCmd (sound_bodyGalRead m)

theorem sound_execGalStatus (m : Cmd) {s : State} (h : Inv s) : SoundNext (execGalStatus m s) :=
  h.execCmd sound_bodyGalStatus

theorem sound_execGalExport (m : Cmd) {s : State} (h : Inv s) : SoundNext (execGalExport m s) :=
  h.execCmd (sound_bodyGalExport m)

theorem sound_execGalClear (m : Cmd) {s : State} (h : Inv s) : SoundNext (execGalClear m s) :=
  h.execCmd (sound_bodyGalClear m)

theorem sound_execGalleryFlush {s : State} (h : Inv s) : SoundNext (execGalleryFlush s) := by
  simp [execGalleryFlush, h]

theorem sound_execLdgRead (m : Cmd) {s : State} (h : Inv s) : SoundNext (execLdgRead m s) :=
  h.execCmd (sound_bodyLdgRead m)

theorem sound_execLdgAck (m : Cmd) {s : State} (h : Inv s) : SoundNext (execLdgAck m s) :=
  h.execCmd (sound_bodyLdgAck m)

theorem sound_execLdgStatus (m : Cmd) {s : State} (h : Inv s) : SoundNext (execLdgStatus m s) :=
  h.execCmd sound_bodyLdgStatus

theorem sound_execLedgerAcknowledgement (a w : Nat) {s : State} (h : Inv s) :
    SoundNext (execLedgerAcknowledgement a w s) := by simp [execLedgerAcknowledgement, h]

theorem sound_execLedgerResendTimeout {s : State} (h : Inv s) : SoundNext (execLedgerResendTimeout s) := by
  simp [execLedgerResendTimeout, h]

theorem sound_execLedgerPageWrite {s : State} (h : Inv s) : SoundNext (execLedgerPageWrite s) := by
  simp [execLedgerPageWrite, h]

/-! ### Gearing, moves, solenoids (10, 12): commands -/

theorem sound_execMotPressStop (m : Cmd) {s : State} (h : Inv s) : SoundNext (execMotPressStop m s) :=
  h.execCmd (sound_bodyMotPressStop m)

theorem sound_execMotPressThread (m : Cmd) {s : State} (h : Inv s) : SoundNext (execMotPressThread m s) :=
  h.execCmd (sound_bodyMotPressThread m)

theorem sound_execMotPressRun (m : Cmd) {s : State} (h : Inv s) : SoundNext (execMotPressRun m s) :=
  h.execCmd (sound_bodyMotPressRun m)

theorem sound_execMotJog (m : Cmd) {s : State} (h : Inv s) : SoundNext (execMotJog m s) :=
  h.execCmd (sound_bodyMotJog m)

theorem sound_execMotHome (m : Cmd) {s : State} (h : Inv s) : SoundNext (execMotHome m s) :=
  h.execCmd (sound_bodyMotHome m)

theorem sound_execMotGearHold (m : Cmd) {s : State} (h : Inv s) : SoundNext (execMotGearHold m s) :=
  h.execCmd (sound_bodyMotGearHold m)

theorem sound_execMotGearFree (m : Cmd) {s : State} (h : Inv s) : SoundNext (execMotGearFree m s) :=
  h.execCmd (sound_bodyMotGearFree m)

theorem sound_execMotGearRegear (m : Cmd) {s : State} (h : Inv s) : SoundNext (execMotGearRegear m s) :=
  h.execCmd (sound_bodyMotGearRegear m)

theorem sound_execMotRatio (m : Cmd) {s : State} (h : Inv s) : SoundNext (execMotRatio m s) :=
  h.execCmd (sound_bodyMotRatio m)

theorem sound_execMotRatioCancel (m : Cmd) {s : State} (h : Inv s) : SoundNext (execMotRatioCancel m s) :=
  h.execCmd (sound_bodyMotRatioCancel m)

theorem sound_execMotPhase (m : Cmd) {s : State} (h : Inv s) : SoundNext (execMotPhase m s) :=
  h.execCmd (sound_bodyMotPhase m)

theorem sound_execMotMove (m : Cmd) {s : State} (h : Inv s) : SoundNext (execMotMove m s) :=
  h.execCmd (sound_bodyMotMove m)

theorem sound_execMotSolFire (m : Cmd) {s : State} (h : Inv s) : SoundNext (execMotSolFire m s) :=
  h.execCmd (sound_bodyMotSolFire m)

/-! ### The loop engine (13): commands -/

theorem sound_execMotLoopMode (m : Cmd) {s : State} (h : Inv s) : SoundNext (execMotLoopMode m s) :=
  h.execCmd (sound_bodyMotLoopMode m)

theorem sound_execMotLoopTarget (m : Cmd) {s : State} (h : Inv s) : SoundNext (execMotLoopTarget m s) :=
  h.execCmd (sound_bodyMotLoopTarget m)

theorem sound_execMotLoopSwitch (m : Cmd) {s : State} (h : Inv s) : SoundNext (execMotLoopSwitch m s) :=
  h.execCmd (sound_bodyMotLoopSwitch m)

theorem sound_execLoopFollowingTimeout (slot : Nat) {s : State} (h : Inv s) :
    SoundNext (execLoopFollowingTimeout slot s) := by simp [execLoopFollowingTimeout, h]

theorem sound_execLoopInputHoldTimeout (slot : Nat) {s : State} (h : Inv s) :
    SoundNext (execLoopInputHoldTimeout slot s) := by simp [execLoopInputHoldTimeout, h]

theorem sound_execLoopSaturated (slot : Nat) {s : State} (h : Inv s) : SoundNext (execLoopSaturated slot s) := by
  simp [execLoopSaturated, h]

/-! ### The landing machine (03): commands -/

theorem sound_execPlanPrepare {s : State} (h : Inv s) : SoundNext (execPlanPrepare s) := by
  simp only [execPlanPrepare, soundNext_next, inv_ite, h]
  (repeat' split) <;> simp [h]

theorem sound_execAdmissionAttempt {s : State} (h : Inv s) : SoundNext (execAdmissionAttempt s) := by
  unfold execAdmissionAttempt
  rw [soundNext_next]
  (repeat' split) <;> simp [h]

theorem sound_execStationLanding (station serial : Nat) {s : State} (h : Inv s) :
    SoundNext (execStationLanding station serial s) := by
  unfold execStationLanding
  rw [soundNext_next]
  split
  · rw [inv_restoreLane]; split <;> simpa using h
  split
  · split
    · exact h
    · rw [inv_landAt, inv_foldl fun t p => by split <;> simp]
      exact h
  · simpa using h

theorem sound_execFrameLeavesFlight (serial : Nat) {s : State} (h : Inv s) :
    SoundNext (execFrameLeavesFlight serial s) := by
  unfold execFrameLeavesFlight
  rw [soundNext_next]
  split <;> simp [h]

theorem sound_execRunDwellEnd {s : State} (h : Inv s) : SoundNext (execRunDwellEnd s) := by simp [execRunDwellEnd, h]

theorem sound_execGovernorEvaluate (rates : List (Nat × Nat)) (drain : Nat) {s : State} (h : Inv s) :
    SoundNext (execGovernorEvaluate rates drain s) := by simp [execGovernorEvaluate, h]

/-! ### The emitter supervisor (09): commands -/

theorem sound_execMeasResult (lane sweep emitter tag v1 v2 m1 m2 : Nat) {s : State} (h : Inv s) :
    SoundNext (execMeasResult lane sweep emitter tag v1 v2 m1 m2 s) := by
  unfold execMeasResult
  rw [soundNext_next]
  (repeat' split) <;> simp [h]

theorem sound_execEmitterResultStale (station emitter : Nat) {s : State} (h : Inv s) :
    SoundNext (execEmitterResultStale station emitter s) := by simp [execEmitterResultStale, h]

theorem sound_execHeadData (lane addr : Nat) (data : List Nat) (status : Nat) {s : State} (h : Inv s) :
    SoundNext (execHeadData lane addr data status s) := by
  unfold execHeadData
  rw [soundNext_next]
  split <;> simp [h]

theorem sound_execHeadPresenceCheck (station : Nat) {s : State} (h : Inv s) :
    SoundNext (execHeadPresenceCheck station s) := by
  unfold execHeadPresenceCheck
  rw [soundNext_next]
  split <;> simp [h]

/-! ### The print pipeline and the synthesiser (07): commands -/

theorem sound_execOffsetComputeComplete (station : Nat) {s : State} (h : Inv s) :
    SoundNext (execOffsetComputeComplete station s) := by
  unfold execOffsetComputeComplete
  rw [soundNext_next]
  split <;> simp [h]

theorem sound_execDecodeComplete (station : Nat) {s : State} (h : Inv s) : SoundNext (execDecodeComplete station s) := by
  simp only [execDecodeComplete, soundNext_next]
  (repeat' split) <;> simp [h]

theorem sound_execSaveSlotCopyComplete (station : Nat) {s : State} (h : Inv s) :
    SoundNext (execSaveSlotCopyComplete station s) := by simp [execSaveSlotCopyComplete, h]

theorem sound_execSosMark (station m : Nat) {s : State} (h : Inv s) : SoundNext (execSosMark station m s) := by
  simp [execSosMark, h]

theorem sound_execSosTs (lane sweep tc : Nat) (valid : Bool) {s : State} (h : Inv s) :
    SoundNext (execSosTs lane sweep tc valid s) := by
  unfold execSosTs
  rw [soundNext_next]
  split <;> simp [h]

theorem sound_execFacetPhaseFault (station : Nat) {s : State} (h : Inv s) :
    SoundNext (execFacetPhaseFault station s) := by simp [execFacetPhaseFault, h]

theorem sound_execSynthLock (station : Nat) {s : State} (h : Inv s) : SoundNext (execSynthLock station s) := by
  simp [execSynthLock, h]

theorem sound_execSynthLossOfLock (station : Nat) {s : State} (h : Inv s) :
    SoundNext (execSynthLossOfLock station s) := by simp [execSynthLossOfLock, h]

theorem sound_execSynthReferenceCycle (station : Nat) (dco : Rat) {s : State} (h : Inv s) :
    SoundNext (execSynthReferenceCycle station dco s) := by simp [execSynthReferenceCycle, h]

theorem sound_execBandSwitch (station : Nat) {s : State} (h : Inv s) : SoundNext (execBandSwitch station s) := by
  unfold execBandSwitch
  rw [soundNext_next]
  split <;> simp [h]

theorem sound_execBandTableCalibrationComplete (station : Nat) (table : List (Nat × Nat)) {s : State} (h : Inv s) :
    SoundNext (execBandTableCalibrationComplete station table s) := by simp [execBandTableCalibrationComplete, h]

theorem sound_execBandTableTrack (station : Nat) {s : State} (h : Inv s) : SoundNext (execBandTableTrack station s) := by
  simp [execBandTableTrack, h]

/-! ### The fault collector's own events (R334 to R336): commands -/

theorem sound_execFaultRecordClose (entry : Nat) {s : State} (h : Inv s) : SoundNext (execFaultRecordClose entry s) := by
  unfold execFaultRecordClose
  rw [soundNext_next]
  split <;> simp [h]

theorem sound_execSelfTestTimeout (entry : Nat) {s : State} (h : Inv s) : SoundNext (execSelfTestTimeout entry s) := by
  unfold execSelfTestTimeout
  rw [soundNext_next]
  split <;> simp [h]

theorem sound_execCoreWatchdogExpiry (core : Nat) {s : State} (h : Inv s) :
    SoundNext (execCoreWatchdogExpiry core s) := by simp [execCoreWatchdogExpiry, h]

theorem sound_execCoreStallEscalation (core : Nat) {s : State} (h : Inv s) :
    SoundNext (execCoreStallEscalation core s) := by simp [execCoreStallEscalation, h]

theorem sound_execAliveToggle (serviced : List Nat) {s : State} (h : Inv s) : SoundNext (execAliveToggle serviced s) := by
  simp [execAliveToggle, h]

theorem sound_execSramError (bank : Nat) (corrected : Bool) (place : SramPlace) {s : State} (h : Inv s) :
    SoundNext (execSramError bank corrected place s) := by simp [execSramError, h]

theorem sound_execSramBankTestComplete (bank : Nat) (pass : Bool) {s : State} (h : Inv s) :
    SoundNext (execSramBankTestComplete bank pass s) := by simp [execSramBankTestComplete, h]

/-! ### Lane training, sideband, the interlock (08): commands -/

theorem sound_execLinkUp (lane module serial : Nat) (tables : Bool) {s : State} (h : Inv s) :
    SoundNext (execLinkUp lane module serial tables s) := by
  simp only [execLinkUp, inv_raise, inv_modLane, soundNext_next, inv_ite, h]
  (repeat' split) <;> simp [h]

theorem sound_execLaneTrainingComplete (lane : Nat) {s : State} (h : Inv s) :
    SoundNext (execLaneTrainingComplete lane s) := by simp [execLaneTrainingComplete, h]

theorem sound_execLaneTrainingTimeout (lane : Nat) {s : State} (h : Inv s) :
    SoundNext (execLaneTrainingTimeout lane s) := by
  simp only [execLaneTrainingTimeout, inv_modLane, inv_raise, soundNext_next, inv_ite, h]
  (repeat' split) <;> simp [h]

theorem sound_execLaneTrainingRetry (lane : Nat) {s : State} (h : Inv s) : SoundNext (execLaneTrainingRetry lane s) := by
  simp [execLaneTrainingRetry, h]

theorem sound_execAckMsg (lane tag status : Nat) {s : State} (h : Inv s) : SoundNext (execAckMsg lane tag status s) := by
  unfold execAckMsg
  rw [soundNext_next]
  split <;> simp [h]

theorem sound_execSidebandAckTimeout (lane tag : Nat) {s : State} (h : Inv s) :
    SoundNext (execSidebandAckTimeout lane tag s) := by
  unfold execSidebandAckTimeout
  rw [soundNext_next]
  split <;> simp [h]

theorem sound_execStatusMsg (lane : Nat) (locked : Bool) (laser : BitVec 2) (temp : Int) {s : State} (h : Inv s) :
    SoundNext (execStatusMsg lane locked laser temp s) := by simp [execStatusMsg, h]

theorem sound_execLaneStat (lane sweep failed flags ber : Nat) {s : State} (h : Inv s) :
    SoundNext (execLaneStat lane sweep failed flags ber s) := by
  unfold execLaneStat
  rw [soundNext_next]
  split <;> simp [h]

theorem sound_execBackChannelLoss (lane : Nat) {s : State} (h : Inv s) : SoundNext (execBackChannelLoss lane s) := by
  simp [execBackChannelLoss, h]

theorem sound_execBerTestComplete (lane errors : Nat) {s : State} (h : Inv s) :
    SoundNext (execBerTestComplete lane errors s) := by simp [execBerTestComplete, h]

theorem sound_execBerNoWordTimeout (lane : Nat) {s : State} (h : Inv s) : SoundNext (execBerNoWordTimeout lane s) := by
  simp [execBerNoWordTimeout, h]

theorem sound_execInterlockAssert (low : BitVec 8) {s : State} (h : Inv s) : SoundNext (execInterlockAssert low s) := by
  simp [execInterlockAssert, h]

theorem sound_execInterlockGateOpen {s : State} (h : Inv s) : SoundNext (execInterlockGateOpen s) := by
  simp only [execInterlockGateOpen, inv_modIntlk, inv_gateOpens, soundNext_next, inv_ite, ite_self, h]

theorem sound_execInterlockPathMismatch {s : State} (h : Inv s) : SoundNext (execInterlockPathMismatch s) := by
  simp [execInterlockPathMismatch, h]

/-! ### The host link (R98, R420 to R424): commands -/

theorem sound_execBandAllocate {s : State} (h : Inv s) : SoundNext (execBandAllocate s) := by
  simp [execBandAllocate, h]

theorem sound_execBandDatagram (lane : Nat) (bytes : List Byte) {s : State} (h : Inv s) :
    SoundNext (execBandDatagram lane bytes s) := by
  simp only [execBandDatagram, inv_badDatagram, soundNext_next, inv_ite, h]
  (repeat' split) <;> simp [h]

theorem sound_execBandReassemblyTimeout (job layer frame band : Nat) {s : State} (h : Inv s) :
    SoundNext (execBandReassemblyTimeout job layer frame band s) := by
  simp only [execBandReassemblyTimeout, soundNext_next]
  (repeat' split) <;> simp [h]

theorem sound_execCreditDatagram {s : State} (h : Inv s) : SoundNext (execCreditDatagram s) := by
  simp [execCreditDatagram, h]

theorem sound_execArpRequest (lane ip : Nat) {s : State} (h : Inv s) : SoundNext (execArpRequest lane ip s) := by
  simp [execArpRequest, h]

theorem sound_execBadDatagram (lane : Nat) {s : State} (h : Inv s) : SoundNext (execBadDatagram lane s) := by
  simp [execBadDatagram, h]

theorem sound_execHostLinkDown (lane : Nat) {s : State} (h : Inv s) : SoundNext (execHostLinkDown lane s) := by
  simp [execHostLinkDown, h]

theorem sound_execHostLinkUp (lane : Nat) {s : State} (h : Inv s) : SoundNext (execHostLinkUp lane s) := by
  simp [execHostLinkUp, h]

/-! ### The newel counter, limits and homing (R207, R208, R221 to R223): commands -/

theorem sound_execNewelCount (aux : Bool) (edge : NewelEdge) {s : State} (h : Inv s) :
    SoundNext (execNewelCount aux edge s) := by
  unfold execNewelCount
  rw [soundNext_next]
  split <;> simp [h]

theorem sound_execNewelIndex {s : State} (h : Inv s) : SoundNext (execNewelIndex s) := by simp [execNewelIndex, h]

theorem sound_execNewelLossOfSignal (aux : Bool) {s : State} (h : Inv s) : SoundNext (execNewelLossOfSignal aux s) := by
  simp [execNewelLossOfSignal, h]

theorem sound_execNewelBackupCheck {s : State} (h : Inv s) : SoundNext (execNewelBackupCheck s) := by
  simp [execNewelBackupCheck, h]

theorem sound_execWebFollowingTimeout {s : State} (h : Inv s) : SoundNext (execWebFollowingTimeout s) := by
  simp [execWebFollowingTimeout, h]

theorem sound_execLimitInputAccepted (input : Handle) (level : Bool) (capture : Int) {s : State} (h : Inv s) :
    SoundNext (execLimitInputAccepted input level capture s) := by simp [execLimitInputAccepted, h]

/-! ### Motor commutation and field control (11): commands -/

theorem sound_execWindingModelUpdate {s : State} (h : Inv s) : SoundNext (execWindingModelUpdate s) := by
  simp [execWindingModelUpdate, h]

theorem sound_execCommutationMiss (axis : Nat) {s : State} (h : Inv s) : SoundNext (execCommutationMiss axis s) := by
  simp [execCommutationMiss, h]

theorem sound_execSixStepStart (axis : Nat) (ok : Bool) {s : State} (h : Inv s) :
    SoundNext (execSixStepStart axis ok s) := by
  unfold execSixStepStart
  rw [soundNext_next]
  (repeat' split) <;> simp [h]

theorem sound_execCatchWindow (axis : Nat) (seen : CatchSeen) {s : State} (h : Inv s) :
    SoundNext (execCatchWindow axis seen s) := by
  unfold execCatchWindow
  rw [soundNext_next]
  (repeat' split) <;> simp [h]

theorem sound_execOffsetLearnUpdate (axis : Nat) (resid : List Int) {s : State} (h : Inv s) :
    SoundNext (execOffsetLearnUpdate axis resid s) := by
  unfold execOffsetLearnUpdate
  rw [soundNext_next]
  split <;> simp [h]

theorem sound_execFocPwmPeriod {s : State} (h : Inv s) : SoundNext (execFocPwmPeriod s) := by
  simp [execFocPwmPeriod, h]

theorem sound_execVoltageLimit (axis : Nat) {s : State} (h : Inv s) : SoundNext (execVoltageLimit axis s) := by
  simp [execVoltageLimit, h]

theorem sound_execEstimatorCrossCheck (axis : Nat) {s : State} (h : Inv s) :
    SoundNext (execEstimatorCrossCheck axis s) := by
  unfold execEstimatorCrossCheck
  rw [soundNext_next]
  extract_lets x r dr f k k' s₁
  have h₁ : Inv s₁ := (inv_modAxis ..).2 h
  split
  · exact h
  · split <;> simpa using h₁

theorem sound_execKappaSave {s : State} (h : Inv s) : SoundNext (execKappaSave s) := by simp [execKappaSave, h]

theorem sound_execEstimatorStale (axis : Nat) {s : State} (h : Inv s) : SoundNext (execEstimatorStale axis s) := by
  simp [execEstimatorStale, h]

theorem sound_execStageDisable (axis : Nat) {s : State} (h : Inv s) : SoundNext (execStageDisable axis s) := by
  simp [execStageDisable, h]

theorem sound_execAxisFollowingTimeout (axis : Nat) {s : State} (h : Inv s) :
    SoundNext (execAxisFollowingTimeout axis s) := by simp [execAxisFollowingTimeout, h]

/-! ### The node ring and the axis engine (12): commands -/

theorem sound_execNodeMailboxReply (node tag status value : Nat) {s : State} (h : Inv s) :
    SoundNext (execNodeMailboxReply node tag status value s) := by
  unfold execNodeMailboxReply
  rw [soundNext_next]
  split <;> simp [h]

theorem sound_execRingPortDown (port : Nat) {s : State} (h : Inv s) : SoundNext (execRingPortDown port s) := by
  simp [execRingPortDown, h]

theorem sound_execRingPortUp (port : Nat) {s : State} (h : Inv s) : SoundNext (execRingPortUp port s) := by
  simp [execRingPortUp, h]

theorem sound_execRingEnumeration (cw ccw : Nat) (found : List RingPos) {s : State} (h : Inv s) :
    SoundNext (execRingEnumeration cw ccw found s) := by simp [execRingEnumeration, h]

theorem sound_execLoopTestRead (target : Option Nat) (ends : List (Nat × Nat)) {s : State} (h : Inv s) :
    SoundNext (execLoopTestRead target ends s) := by
  unfold execLoopTestRead
  rw [soundNext_next]
  split <;> simp [h]

theorem sound_execRingCycle (ups : List NodeUp) {s : State} (h : Inv s) : SoundNext (execRingCycle ups s) := by
  simp [execRingCycle, h]

/-! ### Reset and the clocks (14, R438): commands -/

theorem sound_execPorstNAssert {s : State} (h : Inv s) : SoundNext (execPorstNAssert s) := by
  simp [execPorstNAssert, h]

theorem sound_execPorstNRelease (pairSlot bootMode : Nat) (testEn : Bool) {s : State} (h : Inv s) :
    SoundNext (execPorstNRelease pairSlot bootMode testEn s) := by simp [execPorstNRelease, h]

theorem sound_execDeviceReset {s : State} (h : Inv s) : SoundNext (execDeviceReset s) := by simp [execDeviceReset, h]

theorem sound_execDividerStep {s : State} (h : Inv s) : SoundNext (execDividerStep s) := by
  unfold execDividerStep
  rw [soundNext_next]
  split
  · exact h
  · exact (inv_modClk (by split <;> rfl) (by split <;> rfl)).2 h

theorem sound_execFoscCheck (khz : Nat) {s : State} (h : Inv s) : SoundNext (execFoscCheck khz s) := by
  simp [execFoscCheck, h]

theorem sound_execXtal0StartTimeout {s : State} (h : Inv s) : SoundNext (execXtal0StartTimeout s) := by
  simp [execXtal0StartTimeout, h]

theorem sound_execRootLock {s : State} (h : Inv s) : SoundNext (execRootLock s) := by
  unfold execRootLock
  rw [soundNext_next]
  split
  · exact (inv_modClk rfl rfl).2 h
  · exact h

theorem sound_execRootAttemptTimeout {s : State} (h : Inv s) : SoundNext (execRootAttemptTimeout s) := by
  simp [execRootAttemptTimeout, h]

theorem sound_execXtal0Lost {s : State} (h : Inv s) : SoundNext (execXtal0Lost s) := by simp [execXtal0Lost, h]
theorem sound_execRootUnlock {s : State} (h : Inv s) : SoundNext (execRootUnlock s) := by simp [execRootUnlock, h]

theorem sound_execXtal0Gate (count : Nat) {s : State} (h : Inv s) : SoundNext (execXtal0Gate count s) := by
  simp [execXtal0Gate, h]

/-- The operating seconds wrap at 2⁴⁰ (R5, R294). -/
theorem sound_execXtal1Check (ok : Bool) {s : State} (h : Inv s) : SoundNext (execXtal1Check ok s) := by
  unfold execXtal1Check
  rw [soundNext_next]
  split
  · exact h
  extract_lets s₁ s₂
  have h₁ : Inv s₁ := by
    refine h.modClk (And.imp_left fun _ => ?_)
    show (s.clk.opSec + 1) % 2 ^ 40 < 2 ^ 40
    omega
  have h₂ : Inv s₂ := (inv_modClk rfl rfl).2 h₁
  clear_value s₁ s₂
  split
  · exact h₁
  · split <;> simpa using h₂

theorem sound_execLanePllLockTimeout (pll : Nat) {s : State} (h : Inv s) : SoundNext (execLanePllLockTimeout pll s) := by
  simp [execLanePllLockTimeout, h]

theorem sound_execClockMeterDone (count : Nat) {s : State} (h : Inv s) : SoundNext (execClockMeterDone count s) := by
  simp [execClockMeterDone, h]

/-! ### Power sequences and the power log (15, R311): commands -/

theorem sound_execRailJudgement (pins : List (Nat × Rat)) {s : State} (h : Inv s) :
    SoundNext (execRailJudgement pins s) := by
  unfold execRailJudgement
  rw [soundNext_next]
  split
  · exact h
  · refine (inv_foldl (fun t r => ?_) _ s).2 h
    split
    · rfl
    · split <;> simp

theorem sound_execPmbusPoll (device page : Nat) (answer : Option (Nat × Nat)) {s : State} (h : Inv s) :
    SoundNext (execPmbusPoll device page answer s) := by
  unfold execPmbusPoll
  rw [soundNext_next]
  (repeat' split) <;> simp [h]

theorem sound_execPmbAlert (reads : List (Nat × Nat × Option Nat)) {s : State} (h : Inv s) :
    SoundNext (execPmbAlert reads s) := by
  unfold execPmbAlert
  rw [soundNext_next]
  split
  · exact h
  · exact (inv_foldl (fun t x => by split <;> simp) _ s).2 h

theorem sound_execRailEnable (ready : List Nat) {s : State} (h : Inv s) : SoundNext (execRailEnable ready s) := by
  unfold execRailEnable
  rw [soundNext_next]
  split <;> simp [h]

theorem sound_execRiseTimeout (rail : Nat) {s : State} (h : Inv s) : SoundNext (execRiseTimeout rail s) := by
  simp [execRiseTimeout, h]

theorem sound_execFallTimeout (rail : Nat) {s : State} (h : Inv s) : SoundNext (execFallTimeout rail s) := by
  simp [execFallTimeout, h]

theorem sound_execOffDelayExpiry (rail : Nat) {s : State} (h : Inv s) : SoundNext (execOffDelayExpiry rail s) := by
  simp [execOffDelayExpiry, h]

theorem sound_execResetOutputRelease (output : Nat) {s : State} (h : Inv s) :
    SoundNext (execResetOutputRelease output s) := by
  unfold execResetOutputRelease
  rw [soundNext_next]
  split
  · exact h
  · rw [inv_foldl fun t n => by split <;> simp]
    simpa using h

theorem sound_execAdcReferenceCheck {s : State} (h : Inv s) : SoundNext (execAdcReferenceCheck s) := by
  simp [execAdcReferenceCheck, h]

theorem sound_execPfwN {s : State} (h : Inv s) : SoundNext (execPfwN s) := by
  simp only [execPfwN, inv_modBoot, inv_modCfg, inv_modCal, inv_modRing, inv_modLedger, inv_modFaults, inv_modPower,
    inv_setLasers, inv_darken, inv_galFlush, inv_galWrite, inv_goDown, inv_logPowerFail, soundNext_next, inv_ite,
    ite_self, h]

theorem sound_execPowerFailReset {s : State} (h : Inv s) : SoundNext (execPowerFailReset s) := by
  simp [execPowerFailReset, h]

theorem sound_execPwrStatus (m : Cmd) {s : State} (h : Inv s) : SoundNext (execPwrStatus m s) :=
  h.execCmd (sound_bodyPwrStatus m)

theorem sound_execPwrRailRestart (m : Cmd) {s : State} (h : Inv s) : SoundNext (execPwrRailRestart m s) :=
  h.execCmd (sound_bodyPwrRailRestart m)

theorem sound_execPwrDown (m : Cmd) {s : State} (h : Inv s) : SoundNext (execPwrDown m s) := by simp [execPwrDown, h]
theorem sound_execPwrUp (m : Cmd) {s : State} (h : Inv s) : SoundNext (execPwrUp m s) := by simp [execPwrUp, h]

theorem sound_execPwrLogRead (m : Cmd) {s : State} (h : Inv s) : SoundNext (execPwrLogRead m s) :=
  h.execCmd (sound_bodyPwrLogRead m)

theorem sound_execPwrReset (m : Cmd) {s : State} (h : Inv s) : SoundNext (execPwrReset m s) :=
  h.execCmd (sound_bodyPwrReset m)

/-! ### The thermal manager (16): commands -/

theorem sound_execThermalEvaluate (die : List Int) (td : List (Option Int)) {s : State} (h : Inv s) :
    SoundNext (execThermalEvaluate die td s) := by
  unfold execThermalEvaluate
  rw [soundNext_next]
  split
  · exact h
  · extract_lets s₁ s₂ s₃
    have h₂ : Inv s₂ := (inv_foldl (fun t k => by split <;> simp) _ s₁).2 (by simpa [s₁] using h)
    simpa [s₃] using h₂

theorem sound_execThermalStageExit (source stage : Nat) {s : State} (h : Inv s) :
    SoundNext (execThermalStageExit source stage s) := by
  unfold execThermalStageExit
  rw [soundNext_next]
  split <;> simp [h]

theorem sound_execSlowStep (source : Nat) {s : State} (h : Inv s) : SoundNext (execSlowStep source s) := by
  unfold execSlowStep
  rw [soundNext_next]
  split <;> simp [h]

theorem sound_execDieTripComparator (sensor : Nat) (reading : Int) {s : State} (h : Inv s) :
    SoundNext (execDieTripComparator sensor reading s) := by simp [execDieTripComparator, h]

theorem sound_execSensorStuck (source : Nat) {s : State} (h : Inv s) : SoundNext (execSensorStuck source s) := by
  simp [execSensorStuck, h]

/-! ### Panel and token port (22): commands -/

theorem sound_execKeyScan (down : BitVec 64) {s : State} (h : Inv s) : SoundNext (execKeyScan down s) := by
  simp [execKeyScan, h]

theorem sound_execLedPwmStep {s : State} (h : Inv s) : SoundNext (execLedPwmStep s) := by simp [execLedPwmStep, h]

theorem sound_execPnlLed (m : Cmd) {s : State} (h : Inv s) : SoundNext (execPnlLed m s) :=
  h.execCmd (sound_bodyPnlLed m)

theorem sound_execPnlBuzzer (m : Cmd) {s : State} (h : Inv s) : SoundNext (execPnlBuzzer m s) :=
  h.execCmd (sound_bodyPnlBuzzer m)

theorem sound_execBuzzerDurationEnd {s : State} (h : Inv s) : SoundNext (execBuzzerDurationEnd s) := by
  simp [execBuzzerDurationEnd, h]

theorem sound_execPnlStatus (m : Cmd) {s : State} (h : Inv s) : SoundNext (execPnlStatus m s) := by
  simp [execPnlStatus, h]

theorem sound_execTouchInterrupt (report : Option (List Byte)) {s : State} (h : Inv s) :
    SoundNext (execTouchInterrupt report s) := by
  unfold execTouchInterrupt
  rw [soundNext_next]
  (repeat' split) <;> simp [h]

theorem sound_execTouchStuck {s : State} (h : Inv s) : SoundNext (execTouchStuck s) := by simp [execTouchStuck, h]

theorem sound_execTouchInterruptRelease {s : State} (h : Inv s) : SoundNext (execTouchInterruptRelease s) := by
  simp [execTouchInterruptRelease, h]

theorem sound_execUsbAttach (vendor product : Nat) (ccid : Bool) {s : State} (h : Inv s) :
    SoundNext (execUsbAttach vendor product ccid s) := by simp [execUsbAttach, h]

theorem sound_execUsbDetach {s : State} (h : Inv s) : SoundNext (execUsbDetach s) := by
  unfold execUsbDetach
  rw [soundNext_next]
  split <;> simp [h]

theorem sound_execUsbOverCurrent {s : State} (h : Inv s) : SoundNext (execUsbOverCurrent s) := by
  simp [execUsbOverCurrent, h]

theorem sound_execVbusRestore {s : State} (h : Inv s) : SoundNext (execVbusRestore s) := by simp [execVbusRestore, h]

/-! ### Authority and the approved list (19, R372 to R378): commands -/

theorem sound_execAuthChallenge (m : Cmd) {s : State} (h : Inv s) : SoundNext (execAuthChallenge m s) :=
  h.execCmd sound_bodyAuthChallenge

theorem sound_execChallengeExpiry {s : State} (h : Inv s) : SoundNext (execChallengeExpiry s) := by
  simp [execChallengeExpiry, h]

theorem sound_execGrantExpiry {s : State} (h : Inv s) : SoundNext (execGrantExpiry s) := by simp [execGrantExpiry, h]

theorem sound_execAuthBackoffEnd {s : State} (h : Inv s) : SoundNext (execAuthBackoffEnd s) := by
  simp [execAuthBackoffEnd, h]

theorem sound_execAuthTicket (m : Cmd) {s : State} (h : Inv s) : SoundNext (execAuthTicket m s) :=
  h.execCmd (sound_bodyAuthTicket m)

theorem sound_execAuthTokenSign (m : Cmd) {s : State} (h : Inv s) : SoundNext (execAuthTokenSign m s) :=
  h.execCmd (sound_bodyAuthTokenSign m)

theorem sound_execTokenSignatureResponse (r t sw : Nat) {s : State} (h : Inv s) :
    SoundNext (execTokenSignatureResponse r t sw s) := by
  unfold execTokenSignatureResponse
  rw [soundNext_next]
  split <;> simp [h]

theorem sound_execTokenSignTimeout {s : State} (h : Inv s) : SoundNext (execTokenSignTimeout s) := by
  simp [execTokenSignTimeout, h]

theorem sound_execAuthKeyInstall (m : Cmd) {s : State} (h : Inv s) : SoundNext (execAuthKeyInstall m s) :=
  h.execCmd (sound_bodyAuthKeyInstall m)

theorem sound_execAuthKeyRemove (m : Cmd) {s : State} (h : Inv s) : SoundNext (execAuthKeyRemove m s) :=
  h.execCmd (sound_bodyAuthKeyRemove m)

theorem sound_execAuthDigestAdd (m : Cmd) {s : State} (h : Inv s) : SoundNext (execAuthDigestAdd m s) :=
  h.runCmd fun _ ht => ht.bodyAuthDigestAdd m

theorem sound_execAuthDigestRemove (m : Cmd) {s : State} (h : Inv s) : SoundNext (execAuthDigestRemove m s) :=
  h.runCmd fun _ ht => ht.bodyAuthDigestRemove m

theorem sound_execAuthDigestClear (m : Cmd) {s : State} (h : Inv s) : SoundNext (execAuthDigestClear m s) :=
  h.runCmd fun _ ht => ht.putDigests (Nat.zero_le _)

theorem sound_execAuthStatus (m : Cmd) {s : State} (h : Inv s) : SoundNext (execAuthStatus m s) :=
  h.execCmd sound_bodyAuthStatus

/-! ### The calibration store (R379, R412): commands -/

theorem sound_execCalWrite (m : Cmd) {s : State} (h : Inv s) : SoundNext (execCalWrite m s) :=
  h.execCmd (sound_bodyCalWrite m)

theorem sound_execCalCommit (m : Cmd) {s : State} (h : Inv s) : SoundNext (execCalCommit m s) :=
  h.execCmd (sound_bodyCalCommit m)

theorem sound_execCalRead (m : Cmd) {s : State} (h : Inv s) : SoundNext (execCalRead m s) :=
  h.execCmd (sound_bodyCalRead m)

theorem sound_execCalAbort (m : Cmd) {s : State} (h : Inv s) : SoundNext (execCalAbort m s) :=
  h.execCmd (sound_bodyCalAbort m)

theorem sound_execCalHeadClear (m : Cmd) {s : State} (h : Inv s) : SoundNext (execCalHeadClear m s) :=
  h.execCmd (sound_bodyCalHeadClear m)

theorem sound_execCalStoreWriteComplete {s : State} (h : Inv s) : SoundNext (execCalStoreWriteComplete s) := by
  simp [execCalStoreWriteComplete, h]

/-! ### The spool engine (06): commands -/

theorem sound_execSpoolPerstRelease {s : State} (h : Inv s) : SoundNext (execSpoolPerstRelease s) := by
  simp [execSpoolPerstRelease, h]

theorem sound_execSpoolLinkRetry (port : Nat) {s : State} (h : Inv s) : SoundNext (execSpoolLinkRetry port s) := by
  simp [execSpoolLinkRetry, h]

theorem sound_execSpoolLinkUp (port : Nat) (found : List NvmeInfo) {s : State} (h : Inv s) :
    SoundNext (execSpoolLinkUp port found s) := by simp [execSpoolLinkUp, h]

theorem sound_execAerError (port : Nat) {s : State} (h : Inv s) : SoundNext (execAerError port s) := by
  simp [execAerError, h]

theorem sound_execSpoolWake {s : State} (h : Inv s) : SoundNext (execSpoolWake s) := by simp [execSpoolWake, h]

theorem sound_execSmartPoll (member warning : Nat) {s : State} (h : Inv s) :
    SoundNext (execSmartPoll member warning s) := by
  unfold execSmartPoll
  rw [soundNext_next]
  split <;> simp [h]

theorem sound_execSpoolMount (copies : List (List Byte × List Byte)) {s : State} (h : Inv s) :
    SoundNext (execSpoolMount copies s) := by
  simp only [execSpoolMount, inv_modSpool, soundNext_next, inv_ite, h]
  (repeat' split) <;> simp [h]

theorem sound_execSaturatedWindow (member : Nat) {s : State} (h : Inv s) : SoundNext (execSaturatedWindow member s) := by
  unfold execSaturatedWindow
  rw [soundNext_next]
  split <;> simp [h]

theorem sound_execBandwidthProbe (ends : Bool) {s : State} (h : Inv s) : SoundNext (execBandwidthProbe ends s) := by
  simp [execBandwidthProbe, h]

theorem sound_execDirectoryBatch {s : State} (h : Inv s) : SoundNext (execDirectoryBatch s) := by
  simp [execDirectoryBatch, h]

theorem sound_execFetchRelease (station serial band : Nat) {s : State} (h : Inv s) :
    SoundNext (execFetchRelease station serial band s) := by
  simp only [execFetchRelease, soundNext_next]
  (repeat' split) <;> simp [h]

theorem sound_execBandwidthMountMeasure {s : State} (h : Inv s) : SoundNext (execBandwidthMountMeasure s) := by
  simp [execBandwidthMountMeasure, h]

theorem sound_execNvmeCompletion (member : Nat) (op : NvmeOp) (job layer frame band page : Nat) (ok : Bool) (diff : List (Nat × Nat)) {s : State} (h : Inv s) :
    SoundNext (execNvmeCompletion member op job layer frame band page ok diff s) := by
  simp only [execNvmeCompletion, soundNext_next]
  (repeat' split) <;> simp [h]

theorem sound_execSpoolReadTimeout (member job layer frame band page : Nat) {s : State} (h : Inv s) :
    SoundNext (execSpoolReadTimeout member job layer frame band page s) := by
  simp only [execSpoolReadTimeout, soundNext_next]
  (repeat' split) <;> simp [h]

theorem sound_execSpoolMemberLoss (member : Nat) {s : State} (h : Inv s) : SoundNext (execSpoolMemberLoss member s) := by
  simp [execSpoolMemberLoss, h]

theorem sound_execSpoolMemberRecovery (member : Nat) (found : Option (List Byte × List Byte)) {s : State} (h : Inv s) :
    SoundNext (execSpoolMemberRecovery member found s) := by
  unfold execSpoolMemberRecovery
  rw [soundNext_next]
  split <;> simp [h]

/-! ### Maintenance activities (R405 to R409): commands -/

theorem sound_execMaintenanceStart (activity : Nat) (scope : Handle) {s : State} (h : Inv s) :
    SoundNext (execMaintenanceStart activity scope s) := by simp [execMaintenanceStart, h]

theorem sound_execMaintenanceComplete (activity : Nat) (scope : Handle) (pass : Bool) (stagger : List Nat) (scanStart : Nat) (sosOff : Int) {s : State} (h : Inv s) :
    SoundNext (execMaintenanceComplete activity scope pass stagger scanStart sosOff s) := by
  simp [execMaintenanceComplete, h]

theorem sound_execMaintenanceCountTick (activity : Nat) (scope : Handle) {s : State} (h : Inv s) :
    SoundNext (execMaintenanceCountTick activity scope s) := by simp [execMaintenanceCountTick, h]

theorem sound_execQuietWindowTimeout (activity : Nat) (scope : Handle) {s : State} (h : Inv s) :
    SoundNext (execQuietWindowTimeout activity scope s) := by simp [execQuietWindowTimeout, h]

theorem sound_execMntStart (m : Cmd) {s : State} (h : Inv s) : SoundNext (execMntStart m s) :=
  h.execCmd (sound_bodyMntStart m)

theorem sound_execMntStop (m : Cmd) {s : State} (h : Inv s) : SoundNext (execMntStop m s) :=
  h.execCmd (sound_bodyMntStop m)

theorem sound_execMntStatus (m : Cmd) {s : State} (h : Inv s) : SoundNext (execMntStatus m s) :=
  h.execCmd (sound_bodyMntStatus m)

theorem sound_execMntFaultAck (m : Cmd) {s : State} (h : Inv s) : SoundNext (execMntFaultAck m s) :=
  h.execCmd (sound_bodyMntFaultAck m)

theorem sound_execMntReturn (m : Cmd) {s : State} (h : Inv s) : SoundNext (execMntReturn m s) := by
  simp [execMntReturn, h]

theorem sound_execMntIntlkRelease (m : Cmd) {s : State} (h : Inv s) : SoundNext (execMntIntlkRelease m s) :=
  h.execCmd (sound_bodyMntIntlkRelease m)

theorem sound_execMntSpoolFormat (m : Cmd) {s : State} (h : Inv s) : SoundNext (execMntSpoolFormat m s) :=
  h.execCmd (sound_bodyMntSpoolFormat m)

/-! ### The redundant pair (18): commands -/

theorem sound_execBootClaim (claimIn : Bool) {s : State} (h : Inv s) : SoundNext (execBootClaim claimIn s) := by
  simp only [execBootClaim, inv_modPair, inv_assertClaim, inv_recordCands, inv_setPair, soundNext_next, inv_ite,
    ite_self, h]

theorem sound_execClaimConflict {s : State} (h : Inv s) : SoundNext (execClaimConflict s) := by
  simp only [execClaimConflict, inv_modPair, inv_setPair, inv_setLasers, inv_darken, soundNext_next, inv_ite,
    ite_self, h]

theorem sound_execHello (slot digest version : Nat) (claimIn : Bool) {s : State} (h : Inv s) :
    SoundNext (execHello slot digest version claimIn s) := by
  simp only [execHello, inv_modPair, inv_raise, inv_setPair, soundNext_next, inv_ite, ite_self, h]

theorem sound_execSyncTimeout {s : State} (h : Inv s) : SoundNext (execSyncTimeout s) := by simp [execSyncTimeout, h]

theorem sound_execClaim (claimIn alive : Bool) {s : State} (h : Inv s) : SoundNext (execClaim claimIn alive s) := by
  simp only [execClaim, inv_modPair, inv_mirrorLost, inv_takeover, inv_coldTakeover, soundNext_next, inv_ite,
    ite_self, h]

theorem sound_execMirrorFrame (flags : BitVec 8) (cyc seq : Nat) (claimIn alive : Bool) (secs : List MirrorSec) {s : State} (h : Inv s) :
    SoundNext (execMirrorFrame flags cyc seq claimIn alive secs s) := by simp [execMirrorFrame, h]

theorem sound_execPairStatus (m : Cmd) {s : State} (h : Inv s) : SoundNext (execPairStatus m s) := by
  simp [execPairStatus, h]

theorem sound_execPairHandover (m : Cmd) {s : State} (h : Inv s) : SoundNext (execPairHandover m s) :=
  h.execCmd sound_bodyPairHandover

theorem sound_execPairResync (m : Cmd) {s : State} (h : Inv s) : SoundNext (execPairResync m s) := by
  simp [execPairResync, h]

/-! ### Diagnosis (R413): commands -/

theorem sound_execDiagState (m : Cmd) {s : State} (h : Inv s) : SoundNext (execDiagState m s) :=
  h.execCmd (sound_bodyDiagState m)

theorem sound_execDiagFaults (m : Cmd) {s : State} (h : Inv s) : SoundNext (execDiagFaults m s) :=
  h.execCmd (sound_bodyDiagFaults m)

theorem sound_execDiagNotes (m : Cmd) {s : State} (h : Inv s) : SoundNext (execDiagNotes m s) :=
  h.execCmd (sound_bodyDiagNotes m)

theorem sound_execDiagMeter (m : Cmd) {s : State} (h : Inv s) : SoundNext (execDiagMeter m s) :=
  h.execCmd (sound_bodyDiagMeter m)

theorem sound_execDiagSpool (m : Cmd) {s : State} (h : Inv s) : SoundNext (execDiagSpool m s) :=
  h.execCmd sound_bodyDiagSpool

theorem sound_execDiagBoot (m : Cmd) {s : State} (h : Inv s) : SoundNext (execDiagBoot m s) :=
  h.execCmd sound_bodyDiagBoot

/-! ### The boot ROM and the start of firmware (24): commands -/

theorem sound_execBootImageCheck (slots : List (Option (Nat × Bool))) {s : State} (h : Inv s) :
    SoundNext (execBootImageCheck slots s) := by simp [execBootImageCheck, h]

/-- Firmware starts with empty rings (R396) and what MRAM holds. -/
theorem sound_execFirmwareStart (keysOk claimIn : Bool) {s : State} (h : Inv s) :
    SoundNext (execFirmwareStart keysOk claimIn s) := by
  unfold execFirmwareStart
  rw [soundNext_next]
  split
  · exact h
  extract_lets s₁ s₂ s₃ s₄ s₅ s₆ s₇ s₈
  have h₁ : Inv s₁ := h.modMbx (And.imp_left fun _ => by simp [Mbx.ringsFit])
  have h₄ : Inv s₄ := (inv_modAuth rfl).2 (by simpa [s₃, s₂] using h₁)
  have h₇ : Inv s₇ := by unfold s₇; split_ifs <;> simpa [s₆, s₅] using h₄
  have h₈ : Inv s₈ := by simpa [s₈] using h₇
  split
  · simpa using h₈
  · exact h₈.enterRunning

/-! ### Doorbells, datagrams and the management SPI (R383 to R397, R425): commands -/

theorem sound_execMailboxDatagram (lane src : Nat) (bytes : List Byte) {s : State} (h : Inv s) :
    SoundNext (execMailboxDatagram lane src bytes s) := by
  unfold execMailboxDatagram
  rw [soundNext_next]
  split
  · exact h
  split
  · simpa using h
  · exact h.foldl (fun t m ht => ht.arrive _ m) _

theorem sound_execInProd (v : BitVec 16) {s : State} (h : Inv s) : SoundNext (execInProd v s) := by
  unfold execInProd
  rw [soundNext_next]
  split
  · exact h
  extract_lets k
  split
  · exact h.times (fun t ht => ht.enterSlot) k
  · simpa using h

/-- Slots freed leave the outbound ring no longer than it was (R396). -/
theorem sound_execOutCons (v : BitVec 16) {s : State} (h : Inv s) : SoundNext (execOutCons v s) := by
  unfold execOutCons
  rw [soundNext_next]
  split
  · exact h
  split
  · refine h.modMbx (And.imp_left fun ⟨hi, ho, he⟩ => ⟨hi, ?_, he⟩)
    exact (by rw [List.length_drop]; omega)
  · simpa using h

/-- Slots freed leave the event ring no longer than it was (R396). -/
theorem sound_execEvtCons (v : BitVec 16) {s : State} (h : Inv s) : SoundNext (execEvtCons v s) := by
  unfold execEvtCons
  rw [soundNext_next]
  split
  · exact h
  split
  · refine h.modMbx (And.imp_left fun ⟨hi, ho, he⟩ => ⟨hi, ho, ?_⟩)
    exact (by rw [List.length_drop]; omega)
  · simpa using h

theorem sound_execSpiRegisterWrite (addr : Nat) (bytes : List Byte) {s : State} (h : Inv s) :
    SoundNext (execSpiRegisterWrite addr bytes s) := by
  unfold execSpiRegisterWrite
  rw [soundNext_next]
  split
  · exact h
  · exact h.foldl (fun t p ht => ht.spiByte _ _) _

theorem sound_execResponseRelease {s : State} (h : Inv s) : SoundNext (execResponseRelease s) := by
  simp [execResponseRelease, h]

/-- OVERFLOW enters the event ring when it has room (R388). -/
theorem sound_execEventOverflowPost {s : State} (h : Inv s) : SoundNext (execEventOverflowPost s) := by
  unfold execEventOverflowPost
  rw [soundNext_next]
  split
  · exact h
  · next hr =>
    rw [inv_note, inv_evtPush (by simpa using (not_or.1 hr).2)]
    simpa using h

theorem sound_execResponseDatagramFlush {s : State} (h : Inv s) : SoundNext (execResponseDatagramFlush s) := by
  simp [execResponseDatagramFlush, h]

/-! ### Every step -/

/-- What a command does, each by its own lemma above, keeps the invariant. -/
theorem exec_sound (c : Instr) {s : State} (h : Inv s) : SoundNext (exec c s) :=
  match c with
  | .unitCreate m => sound_execUnitCreate m h
  | .unitDelete m => sound_execUnitDelete m h
  | .unitMove m => sound_execUnitMove m h
  | .unitSet m => sound_execUnitSet m h
  | .unitEnable m => sound_execUnitEnable m h
  | .unitDisable m => sound_execUnitDisable m h
  | .unitRead m => sound_execUnitRead m h
  | .unitLookup m => sound_execUnitLookup m h
  | .unitChildren m => sound_execUnitChildren m h
  | .cfgStageBegin m => sound_execCfgStageBegin m h
  | .cfgWrite m => sound_execCfgWrite m h
  | .cfgRead m => sound_execCfgRead m h
  | .cfgStageAbort m => sound_execCfgStageAbort m h
  | .cfgCommit m => sound_execCfgCommit m h
  | .cfgRevert m => sound_execCfgRevert m h
  | .cfgStatus m => sound_execCfgStatus m h
  | .jobSubmit m => sound_execJobSubmit m h
  | .jobCancel m => sound_execJobCancel m h
  | .jobHold m => sound_execJobHold m h
  | .jobRelease m => sound_execJobRelease m h
  | .jobStatus m => sound_execJobStatus m h
  | .motPressStop m => sound_execMotPressStop m h
  | .motPressThread m => sound_execMotPressThread m h
  | .motPressRun m => sound_execMotPressRun m h
  | .motJog m => sound_execMotJog m h
  | .motHome m => sound_execMotHome m h
  | .motGearHold m => sound_execMotGearHold m h
  | .motGearFree m => sound_execMotGearFree m h
  | .motGearRegear m => sound_execMotGearRegear m h
  | .motRatio m => sound_execMotRatio m h
  | .motRatioCancel m => sound_execMotRatioCancel m h
  | .motPhase m => sound_execMotPhase m h
  | .motMove m => sound_execMotMove m h
  | .motLoopMode m => sound_execMotLoopMode m h
  | .motLoopTarget m => sound_execMotLoopTarget m h
  | .motLoopSwitch m => sound_execMotLoopSwitch m h
  | .motSolFire m => sound_execMotSolFire m h
  | .mntStart m => sound_execMntStart m h
  | .mntStop m => sound_execMntStop m h
  | .mntStatus m => sound_execMntStatus m h
  | .mntFaultAck m => sound_execMntFaultAck m h
  | .mntReturn m => sound_execMntReturn m h
  | .mntIntlkRelease m => sound_execMntIntlkRelease m h
  | .mntSpoolFormat m => sound_execMntSpoolFormat m h
  | .galRead m => sound_execGalRead m h
  | .galStatus m => sound_execGalStatus m h
  | .galExport m => sound_execGalExport m h
  | .galClear m => sound_execGalClear m h
  | .ldgRead m => sound_execLdgRead m h
  | .ldgAck m => sound_execLdgAck m h
  | .ldgStatus m => sound_execLdgStatus m h
  | .authChallenge m => sound_execAuthChallenge m h
  | .authTicket m => sound_execAuthTicket m h
  | .authKeyInstall m => sound_execAuthKeyInstall m h
  | .authKeyRemove m => sound_execAuthKeyRemove m h
  | .authDigestAdd m => sound_execAuthDigestAdd m h
  | .authDigestRemove m => sound_execAuthDigestRemove m h
  | .authDigestClear m => sound_execAuthDigestClear m h
  | .authStatus m => sound_execAuthStatus m h
  | .authTokenSign m => sound_execAuthTokenSign m h
  | .tokenSignatureResponse r t sw => sound_execTokenSignatureResponse r t sw h
  | .calWrite m => sound_execCalWrite m h
  | .calCommit m => sound_execCalCommit m h
  | .calRead m => sound_execCalRead m h
  | .calAbort m => sound_execCalAbort m h
  | .calHeadClear m => sound_execCalHeadClear m h
  | .pwrStatus m => sound_execPwrStatus m h
  | .pwrRailRestart m => sound_execPwrRailRestart m h
  | .pwrDown m => sound_execPwrDown m h
  | .pwrUp m => sound_execPwrUp m h
  | .pwrLogRead m => sound_execPwrLogRead m h
  | .pwrReset m => sound_execPwrReset m h
  | .diagState m => sound_execDiagState m h
  | .diagFaults m => sound_execDiagFaults m h
  | .diagNotes m => sound_execDiagNotes m h
  | .diagMeter m => sound_execDiagMeter m h
  | .diagSpool m => sound_execDiagSpool m h
  | .diagBoot m => sound_execDiagBoot m h
  | .pairStatus m => sound_execPairStatus m h
  | .pairHandover m => sound_execPairHandover m h
  | .pairResync m => sound_execPairResync m h
  | .pnlLed m => sound_execPnlLed m h
  | .pnlBuzzer m => sound_execPnlBuzzer m h
  | .pnlStatus m => sound_execPnlStatus m h
  | .mailboxDatagram lane src bytes => sound_execMailboxDatagram lane src bytes h
  | .inProd v => sound_execInProd v h
  | .outCons v => sound_execOutCons v h
  | .evtCons v => sound_execEvtCons v h
  | .spiRegisterWrite addr bytes => sound_execSpiRegisterWrite addr bytes h
  | .responseRelease => sound_execResponseRelease h
  | .eventOverflowPost => sound_execEventOverflowPost h
  | .responseDatagramFlush => sound_execResponseDatagramFlush h
  | .bandDatagram lane bytes => sound_execBandDatagram lane bytes h
  | .bandReassemblyTimeout job layer frame band => sound_execBandReassemblyTimeout job layer frame band h
  | .creditDatagram => sound_execCreditDatagram h
  | .ledgerAcknowledgement a w => sound_execLedgerAcknowledgement a w h
  | .ledgerResendTimeout => sound_execLedgerResendTimeout h
  | .arpRequest lane ip => sound_execArpRequest lane ip h
  | .badDatagram lane => sound_execBadDatagram lane h
  | .hostLinkDown lane => sound_execHostLinkDown lane h
  | .hostLinkUp lane => sound_execHostLinkUp lane h
  | .spoolPerstRelease => sound_execSpoolPerstRelease h
  | .spoolLinkRetry port => sound_execSpoolLinkRetry port h
  | .spoolLinkUp port found => sound_execSpoolLinkUp port found h
  | .spoolMount copies => sound_execSpoolMount copies h
  | .bandwidthMountMeasure => sound_execBandwidthMountMeasure h
  | .spoolWake => sound_execSpoolWake h
  | .nvmeCompletion member op job layer frame band page ok diff => sound_execNvmeCompletion member op job layer frame band page ok diff h
  | .spoolReadTimeout member job layer frame band page => sound_execSpoolReadTimeout member job layer frame band page h
  | .directoryBatch => sound_execDirectoryBatch h
  | .bandAllocate => sound_execBandAllocate h
  | .fetchRelease station serial band => sound_execFetchRelease station serial band h
  | .smartPoll member warning => sound_execSmartPoll member warning h
  | .saturatedWindow member => sound_execSaturatedWindow member h
  | .bandwidthProbe ends => sound_execBandwidthProbe ends h
  | .spoolMemberLoss member => sound_execSpoolMemberLoss member h
  | .spoolMemberRecovery member found => sound_execSpoolMemberRecovery member found h
  | .ledgerPageWrite => sound_execLedgerPageWrite h
  | .admissionAttempt => sound_execAdmissionAttempt h
  | .planPrepare => sound_execPlanPrepare h
  | .stationLanding station serial => sound_execStationLanding station serial h
  | .frameLeavesFlight serial => sound_execFrameLeavesFlight serial h
  | .governorEvaluate rates drain => sound_execGovernorEvaluate rates drain h
  | .sosMark station m => sound_execSosMark station m h
  | .offsetComputeComplete station => sound_execOffsetComputeComplete station h
  | .decodeComplete station => sound_execDecodeComplete station h
  | .saveSlotCopyComplete station => sound_execSaveSlotCopyComplete station h
  | .sramError bank corrected place => sound_execSramError bank corrected place h
  | .sramBankTestComplete bank pass => sound_execSramBankTestComplete bank pass h
  | .synthLock station => sound_execSynthLock station h
  | .synthLossOfLock station => sound_execSynthLossOfLock station h
  | .bandSwitch station => sound_execBandSwitch station h
  | .bandTableCalibrationComplete station table => sound_execBandTableCalibrationComplete station table h
  | .bandTableTrack station => sound_execBandTableTrack station h
  | .facetPhaseFault station => sound_execFacetPhaseFault station h
  | .linkUp lane module serial tables => sound_execLinkUp lane module serial tables h
  | .sosTs lane sweep tc valid => sound_execSosTs lane sweep tc valid h
  | .measResult lane sweep emitter tag v1 v2 m1 m2 => sound_execMeasResult lane sweep emitter tag v1 v2 m1 m2 h
  | .headData lane addr data status => sound_execHeadData lane addr data status h
  | .laneStat lane sweep failed flags ber => sound_execLaneStat lane sweep failed flags ber h
  | .statusMsg lane locked laser temp => sound_execStatusMsg lane locked laser temp h
  | .ackMsg lane tag status => sound_execAckMsg lane tag status h
  | .sidebandAckTimeout lane tag => sound_execSidebandAckTimeout lane tag h
  | .backChannelLoss lane => sound_execBackChannelLoss lane h
  | .laneTrainingComplete lane => sound_execLaneTrainingComplete lane h
  | .laneTrainingTimeout lane => sound_execLaneTrainingTimeout lane h
  | .laneTrainingRetry lane => sound_execLaneTrainingRetry lane h
  | .berTestComplete lane errors => sound_execBerTestComplete lane errors h
  | .berNoWordTimeout lane => sound_execBerNoWordTimeout lane h
  | .interlockAssert low => sound_execInterlockAssert low h
  | .interlockGateOpen => sound_execInterlockGateOpen h
  | .interlockPathMismatch => sound_execInterlockPathMismatch h
  | .emitterResultStale station emitter => sound_execEmitterResultStale station emitter h
  | .headPresenceCheck station => sound_execHeadPresenceCheck station h
  | .ringCycle ups => sound_execRingCycle ups h
  | .focPwmPeriod => sound_execFocPwmPeriod h
  | .commutationMiss axis => sound_execCommutationMiss axis h
  | .sixStepStart axis ok => sound_execSixStepStart axis ok h
  | .catchWindow axis seen => sound_execCatchWindow axis seen h
  | .offsetLearnUpdate axis resid => sound_execOffsetLearnUpdate axis resid h
  | .windingModelUpdate => sound_execWindingModelUpdate h
  | .estimatorCrossCheck axis => sound_execEstimatorCrossCheck axis h
  | .kappaSave => sound_execKappaSave h
  | .estimatorStale axis => sound_execEstimatorStale axis h
  | .voltageLimit axis => sound_execVoltageLimit axis h
  | .stageDisable axis => sound_execStageDisable axis h
  | .axisFollowingTimeout axis => sound_execAxisFollowingTimeout axis h
  | .newelCount aux edge => sound_execNewelCount aux edge h
  | .newelIndex => sound_execNewelIndex h
  | .newelLossOfSignal aux => sound_execNewelLossOfSignal aux h
  | .newelBackupCheck => sound_execNewelBackupCheck h
  | .webFollowingTimeout => sound_execWebFollowingTimeout h
  | .limitInputAccepted input level capture => sound_execLimitInputAccepted input level capture h
  | .ringPortDown port => sound_execRingPortDown port h
  | .ringPortUp port => sound_execRingPortUp port h
  | .ringEnumeration cw ccw found => sound_execRingEnumeration cw ccw found h
  | .nodeMailboxReply node tag status value => sound_execNodeMailboxReply node tag status value h
  | .loopTestRead target ends => sound_execLoopTestRead target ends h
  | .loopFollowingTimeout slot => sound_execLoopFollowingTimeout slot h
  | .loopInputHoldTimeout slot => sound_execLoopInputHoldTimeout slot h
  | .loopSaturated slot => sound_execLoopSaturated slot h
  | .porstNAssert => sound_execPorstNAssert h
  | .porstNRelease pairSlot bootMode testEn => sound_execPorstNRelease pairSlot bootMode testEn h
  | .foscCheck khz => sound_execFoscCheck khz h
  | .xtal0Gate count => sound_execXtal0Gate count h
  | .xtal0StartTimeout => sound_execXtal0StartTimeout h
  | .rootLock => sound_execRootLock h
  | .rootAttemptTimeout => sound_execRootAttemptTimeout h
  | .dividerStep => sound_execDividerStep h
  | .xtal0Lost => sound_execXtal0Lost h
  | .rootUnlock => sound_execRootUnlock h
  | .xtal1Check ok => sound_execXtal1Check ok h
  | .clockMeterDone count => sound_execClockMeterDone count h
  | .railJudgement pins => sound_execRailJudgement pins h
  | .pmbusPoll device page answer => sound_execPmbusPoll device page answer h
  | .pmbAlert reads => sound_execPmbAlert reads h
  | .railEnable ready => sound_execRailEnable ready h
  | .riseTimeout rail => sound_execRiseTimeout rail h
  | .fallTimeout rail => sound_execFallTimeout rail h
  | .offDelayExpiry rail => sound_execOffDelayExpiry rail h
  | .resetOutputRelease output => sound_execResetOutputRelease output h
  | .pfwN => sound_execPfwN h
  | .powerFailReset => sound_execPowerFailReset h
  | .adcReferenceCheck => sound_execAdcReferenceCheck h
  | .thermalEvaluate die td => sound_execThermalEvaluate die td h
  | .thermalStageExit source stage => sound_execThermalStageExit source stage h
  | .slowStep source => sound_execSlowStep source h
  | .dieTripComparator sensor reading => sound_execDieTripComparator sensor reading h
  | .sensorStuck source => sound_execSensorStuck source h
  | .faultRecordClose entry => sound_execFaultRecordClose entry h
  | .selfTestTimeout entry => sound_execSelfTestTimeout entry h
  | .coreWatchdogExpiry core => sound_execCoreWatchdogExpiry core h
  | .coreStallEscalation core => sound_execCoreStallEscalation core h
  | .aliveToggle serviced => sound_execAliveToggle serviced h
  | .mirrorFrame flags cyc seq claimIn alive secs => sound_execMirrorFrame flags cyc seq claimIn alive secs h
  | .hello slot digest version claimIn => sound_execHello slot digest version claimIn h
  | .syncTimeout => sound_execSyncTimeout h
  | .bootClaim claimIn => sound_execBootClaim claimIn h
  | .claim claimIn alive => sound_execClaim claimIn alive h
  | .claimConflict => sound_execClaimConflict h
  | .galleryFlush => sound_execGalleryFlush h
  | .challengeExpiry => sound_execChallengeExpiry h
  | .grantExpiry => sound_execGrantExpiry h
  | .authBackoffEnd => sound_execAuthBackoffEnd h
  | .calStoreWriteComplete => sound_execCalStoreWriteComplete h
  | .configSlotWriteComplete => sound_execConfigSlotWriteComplete h
  | .bootImageCheck slots => sound_execBootImageCheck slots h
  | .firmwareStart keysOk claimIn => sound_execFirmwareStart keysOk claimIn h
  | .runDwellEnd => sound_execRunDwellEnd h
  | .keyScan down => sound_execKeyScan down h
  | .touchInterrupt report => sound_execTouchInterrupt report h
  | .touchStuck => sound_execTouchStuck h
  | .ledPwmStep => sound_execLedPwmStep h
  | .usbAttach vendor product ccid => sound_execUsbAttach vendor product ccid h
  | .usbDetach => sound_execUsbDetach h
  | .usbOverCurrent => sound_execUsbOverCurrent h
  | .vbusRestore => sound_execVbusRestore h
  | .maintenanceStart activity scope => sound_execMaintenanceStart activity scope h
  | .maintenanceComplete activity scope pass stagger scanStart sosOff => sound_execMaintenanceComplete activity scope pass stagger scanStart sosOff h
  | .fanOutStepDelay root child => sound_execFanOutStepDelay root child h
  | .fanOutStepTimeout root child => sound_execFanOutStepTimeout root child h
  | .lanePllLockTimeout pll => sound_execLanePllLockTimeout pll h
  | .synthReferenceCycle station dco => sound_execSynthReferenceCycle station dco h
  | .aerError port => sound_execAerError port h
  | .maintenanceCountTick activity scope => sound_execMaintenanceCountTick activity scope h
  | .quietWindowTimeout activity scope => sound_execQuietWindowTimeout activity scope h
  | .tokenSignTimeout => sound_execTokenSignTimeout h
  | .deviceReset => sound_execDeviceReset h
  | .buzzerDurationEnd => sound_execBuzzerDurationEnd h
  | .touchInterruptRelease => sound_execTouchInterruptRelease h

/-- A step runs the front command on the rest of the queue, of which the invariant does not speak. -/
theorem step_sound {s : State} (h : Inv s) : SoundNext (step s) := by
  unfold step
  split
  · exact h
  · exact exec_sound _ ((inv_modPending _).2 h)

/-- Settles O2: what every command does keeps the invariant (`exec_sound`). -/
theorem invariantKeptByStep : Obligations.InvariantKeptByStep := by
  intro s t h e
  have hs : SoundNext (step s) := step_sound h
  rwa [e] at hs

/-- Settles O3: the rings, the lists and the fault table are empty and the counters 0. -/
theorem resetMeetsInvariant : Obligations.ResetMeetsInvariant := ⟨inv_reset, rfl⟩

end Sys2Proof.Machine
end

section
/-! SUPPORT. The press's motion commands (O18): what the body of each answers in the state it enters, what asking for a
stop leaves of the landing machine, when a stop begins, and what entering THREAD does (R20, R240, R324, R404, R453). -/

namespace Sys2Proof.Machine

open Sys2Proof

variable {m : Cmd} {s : State}

/-! ### The arms -/

theorem exec_motPressStop :
    exec (.motPressStop m) s = .next (runCmd opMotPressStop noTicket m (bodyMotPressStop m) s) := rfl

theorem exec_motPressThread :
    exec (.motPressThread m) s = .next (runCmd opMotPressThread noTicket m (bodyMotPressThread m) s) := rfl

theorem exec_motPressRun :
    exec (.motPressRun m) s = .next (runCmd opMotPressRun noTicket m (bodyMotPressRun m) s) := rfl

theorem exec_motJog : exec (.motJog m) s = .next (runCmd opMotJog noTicket m (bodyMotJog m) s) := rfl

/-! ### MOT_PRESS (R404, R453) -/

theorem bodyMotPressStop_ok (hop : m.u 0 1 = 0) :
    bodyMotPressStop m s = .done .ok [] (beginStop (askStop .stop s)) := by
  simp [bodyMotPressStop, hop]

theorem bodyMotPressThread_ok (hop : m.u 0 1 = 1) (hf : noFlights s = true) :
    bodyMotPressThread m s = .done .ok [] (beginStop
      (if (askStop .threadCmd s).land.stopReq = .threadCmd then
        (askStop .threadCmd s).modGov fun g => { g with stopping := false }
      else askStop .threadCmd s)) := by
  simp [bodyMotPressThread, hop, hf]

theorem bodyMotPressThread_conflict (hop : m.u 0 1 = 1) (hf : noFlights s = false) :
    bodyMotPressThread m s = refuse .conflict s := by
  simp [bodyMotPressThread, hop, hf]

/-- The state in which MOT_PRESS RUN plans the newel: the run ramp begins, no stop stands (R453). -/
def rampBegun (s : State) : State :=
  (s.modLand fun l => { l with run := .ramp, stopReq := .none }).modGov fun g =>
    { g with stopping := false, jogLeft := none }

theorem bodyMotPressRun_later (hop : m.u 0 1 = 2) (hs : stopActive s = false) (hp : s.cfg.pend = none)
    (hm : s.land.mode = .thread) : bodyMotPressRun m s = .later (planTo 25 (rampBegun s)) := by
  simp [bodyMotPressRun, rampBegun, hop, hs, hp, hm]

theorem bodyMotPressRun_conflict (hop : m.u 0 1 = 2) (hs : stopActive s = true) :
    bodyMotPressRun m s = refuse .conflict s := by
  simp [bodyMotPressRun, hop, hs]

/-! ### MOT_JOG (R404) -/

/-- The newel planned to a jog at `v` hundredths of an inch per second, `d` the distance given, 0 for none. -/
def jogged (v : Int) (d : Nat) (s : State) : State :=
  (planTo ((v : Rat) / 100) s).modGov fun g =>
    { g with jog := (v : Rat) / 100, jogLeft := if d = 0 then none else some (256 * d : Int), stopping := false }

section
variable (hlo : -2500 < signed 16 (m.u 0 2)) (hhi : signed 16 (m.u 0 2) < 2500)
include hlo hhi

/-- A jog below 25 in/s runs in THREAD with no run sequence; it waits for its end when a distance is given. -/
theorem bodyMotJog_runs (hm : s.land.mode = .thread) (hr : s.land.run = .none) :
    bodyMotJog m s = if m.u 4 4 = 0 then .done .ok [] (jogged (signed 16 (m.u 0 2)) (m.u 4 4) s)
      else .later (jogged (signed 16 (m.u 0 2)) (m.u 4 4) s) := by
  simp [bodyMotJog, jogged, hm, hr, Int.not_le.2 hlo, Int.not_le.2 hhi]

theorem bodyMotJog_conflict (hm : s.land.mode ≠ .thread) : bodyMotJog m s = refuse .conflict s := by
  simp [bodyMotJog, hm, Int.not_le.2 hlo, Int.not_le.2 hhi]

end

/-! ### Stops (R16, R20, R240, R324) -/

theorem askStop_land (w : HoldSrc) (s : State) : (askStop w s).land = { s.land with
    stopReq := (if w.rank < s.land.stopReq.rank then s.land.stopReq else w), run := .none, reducedReq := false } := by
  rw [askStop, finish_land]; rfl

/-- An orderly stop that has not begun begins when no frame is in flight. -/
theorem beginStop_stop (hs : s.land.stopReq = .stop) (hg : s.gov.stopping = false) (hf : noFlights s = true) :
    beginStop s = freePolygons (planRest 0 s) := by
  simp [beginStop, hs, hg, hf]

theorem beginStop_stop_flying (hs : s.land.stopReq = .stop) (hf : noFlights s = false) : beginStop s = s := by
  simp [beginStop, hs, hf]

/-! ### Entering THREAD (R20, R452) -/

/-- A lane that carries IDLE or PIXEL words carries DARK ones instead. -/
def darkened (s : State) : State :=
  s.modLanes fun t => t.map fun p =>
    (p.1, { p.2 with mode := match p.2.mode with | .idle => .dark | .swept => .dark | m => m })

/-- THREAD has no landing and no plan. -/
def threadLand (s : State) : State :=
  s.modLand fun l => { l with mode := .thread, next := none, plans := [], rampWait := false }

theorem enterThread_eq (s : State) : enterThread s = threadPostDivs (disableHv (darkened (threadLand s))) := rfl

theorem darkened_lanes : ∀ p ∈ (darkened s).lanes, p.2.mode ≠ .idle ∧ p.2.mode ≠ .swept := by
  intro p hp
  obtain ⟨q, -, rfl⟩ := List.mem_map.1 hp
  cases q.2.mode <;> simp

/-- Settles O18: each command by its body's equations, the stop and THREAD by their own. -/
theorem pressMotionCommandsComplete : Obligations.PressMotionCommandsComplete := by
  unfold Obligations.PressMotionCommandsComplete
  refine ⟨?stop, ?thread, ?threadConflict, ?run, ?runConflict, ?jog, ?jogDistance, ?jogConflict, askStop_land,
    fun s hf hs hg => beginStop_stop hs hg hf, fun s hf hs => beginStop_stop_flying hs hf, ?enter⟩
  case stop =>
    intro m s e h hop
    rw [exec_motPressStop]
    exact runCmd_ok h (bodyMotPressStop_ok hop)
  case thread =>
    intro m s e t h hop hf
    rw [exec_motPressThread]
    exact runCmd_ok h (bodyMotPressThread_ok hop hf)
  case threadConflict =>
    intro m s e h hop hf
    rw [exec_motPressThread, runCmd_done h (bodyMotPressThread_conflict hop hf) (by decide)]
    rfl
  case run =>
    intro m s e h hop hs hp hm
    refine ⟨rampBegun e, ?_, rfl, rfl, rfl, rfl⟩
    rw [exec_motPressRun, runCmd_later h (bodyMotPressRun_later hop hs hp hm)]
  case runConflict =>
    intro m s e h hop hs
    rw [exec_motPressRun, runCmd_done h (bodyMotPressRun_conflict hop hs) (by decide)]
    rfl
  case jog =>
    intro m s e v h hlo hhi hm hr hd
    have hb := bodyMotJog_runs hlo hhi hm hr
    rw [if_pos hd, jogged, if_pos hd] at hb
    rw [exec_motJog]
    exact runCmd_ok h hb
  case jogDistance =>
    intro m s e v h hlo hhi hm hr hd
    have hb := bodyMotJog_runs hlo hhi hm hr
    rw [if_neg hd, jogged, if_neg hd] at hb
    rw [exec_motJog, runCmd_later h hb]
  case jogConflict =>
    intro m s e h hlo hhi hm
    rw [exec_motJog, runCmd_done h (bodyMotJog_conflict hlo hhi hm) (by decide)]
    rfl
  case enter =>
    intro s
    exact ⟨darkened (threadLand s), enterThread_eq s, rfl, rfl, rfl, darkened_lanes, rfl⟩

end Sys2Proof.Machine
end

section
/-! SUPPORT. Admission (O35): what core 1 prepares, the branches of an admission attempt in their order, the checks of
R48 one by one, and what a GAP record and an admitted frame leave of the landing machine, the jobs and the ledger (R43
to R48, R54 to R57, R200, R407). -/

namespace Sys2Proof.Machine

open Sys2Proof

variable {s t u : State} {j : Job} {f : Flight} {l : Int}

/-! ### What the ledger's way out leaves alone

A closed record goes to the spool and upstream; neither touches the landing machine or the jobs. -/

/-- The landing machine and the jobs of `s` stand in `t`. -/
structure FramesKept (s t : State) : Prop where
  land : t.land = s.land
  jobs : t.jobs = s.jobs

theorem FramesKept.refl (s : State) : FramesKept s s := ⟨rfl, rfl⟩

theorem FramesKept.trans (a : FramesKept s t) (b : FramesKept t u) : FramesKept s u :=
  ⟨b.land.trans a.land, b.jobs.trans a.jobs⟩

/-- What keeps them keeps them after a change of other components. -/
theorem FramesKept.after (a : FramesKept t u) (hl : t.land = s.land) (hj : t.jobs = s.jobs) : FramesKept s u :=
  .trans ⟨hl, hj⟩ a

theorem Tells.framesKept (h : Tells s t) : FramesKept s t := ⟨h.land, h.jobs⟩

theorem framesKept_serve (c k : Nat) (s : State) : FramesKept s (serve c k s) := by
  induction k generalizing s with
  | zero => exact .refl s
  | succ k ih =>
    simp only [serve]
    split
    · exact .refl s
    · split
      · exact .refl s
      · split
        · exact .refl s
        · exact (ih _).after rfl rfl

theorem framesKept_writePage (op : NvmeOp) (g : Nat) (data : List Byte) (s : State) :
    FramesKept s (writePage op g data s) := by
  simp only [writePage, enqueue]
  split
  · exact .refl s
  · exact (framesKept_serve ..).after rfl rfl

theorem framesKept_writeLedgerPage (s : State) : FramesKept s (writeLedgerPage s) := by
  simp only [writeLedgerPage]
  split
  · exact .refl s
  · split
    · exact .refl s
    · exact (framesKept_writePage ..).after rfl rfl

theorem framesKept_sendRecords (k : Nat) (rs : List LedgerRec) (s : State) : FramesKept s (sendRecords k rs s) := by
  induction k generalizing rs s with
  | zero => exact .refl s
  | succ k ih =>
    simp only [sendRecords]
    split
    · exact .refl s
    · exact (ih ..).after rfl rfl

theorem framesKept_sendLedger (s : State) : FramesKept s (sendLedger s) := by
  simp only [sendLedger]
  split
  · exact .refl s
  · split
    · exact .refl s
    · have hk := framesKept_sendRecords 200
      exact ⟨(hk _ s).land, (hk _ s).jobs⟩

theorem framesKept_ledgerLevel (s : State) : FramesKept s (ledgerLevel s) := by
  simp only [ledgerLevel]
  split
  · exact (tells_note ..).framesKept.after rfl rfl
  · split <;> exact ⟨rfl, rfl⟩

theorem framesKept_afterClose (s : State) : FramesKept s (afterClose s) := by
  refine .trans ?_ ((framesKept_sendLedger _).trans (framesKept_ledgerLevel _))
  split
  · exact framesKept_writeLedgerPage s
  · exact .refl s

@[simp] theorem afterClose_land (s : State) : (afterClose s).land = s.land := (framesKept_afterClose s).land
@[simp] theorem afterClose_jobs (s : State) : (afterClose s).jobs = s.jobs := (framesKept_afterClose s).jobs

/-! ### An entry is reserved (R369) -/

theorem ledgerLevel_queue (s : State) : (ledgerLevel s).ledger.queue = s.ledger.queue := by
  unfold ledgerLevel
  split
  · simp
  · split <;> rfl

@[simp] theorem reserveLedger_land (r : LedgerRec) (s : State) :
    (reserveLedger r s).land = { s.land with nextSerial := r.serial + 1 } := (framesKept_ledgerLevel _).land

@[simp] theorem reserveLedger_jobs (r : LedgerRec) (s : State) : (reserveLedger r s).jobs = s.jobs :=
  (framesKept_ledgerLevel _).jobs

@[simp] theorem reserveLedger_queue (r : LedgerRec) (s : State) :
    (reserveLedger r s).ledger.queue = s.ledger.queue ++ [r] := ledgerLevel_queue _

/-! ### Each job's next frame -/

/-- The next frame of every job, by its id. -/
def nextOfJobs (s : State) : List (Nat × Nat) := s.jobs.map fun x => (x.id, x.next)

/-- A change of a job that keeps its next frame. -/
theorem nextOfJobs_modJob_keep (id : Nat) (g : Job → Job) (hid : ∀ x, (g x).id = x.id)
    (hnext : ∀ x, (g x).next = x.next) (s : State) : nextOfJobs (modJob id g s) = nextOfJobs s := by
  simp only [nextOfJobs, modJob, State.modJobs_jobs, List.map_map]
  refine List.map_congr_left fun x _ => ?_
  simp only [Function.comp]
  split <;> simp [hid, hnext]

/-! ### GAP (R54 to R56) -/

theorem holdJob_frames (i frame reason : Nat) (s : State) :
    (holdJob i frame reason s).land.flights = s.land.flights ∧
      (holdJob i frame reason s).land.nextSerial = s.land.nextSerial ∧
      nextOfJobs (holdJob i frame reason s) = nextOfJobs s := by
  refine ⟨by simp [holdJob, dropPlan, modJob], by simp [holdJob, dropPlan, modJob], ?_⟩
  rw [← nextOfJobs_modJob_keep i (fun x => { x with state := .held }) (fun _ => rfl) (fun _ => rfl) s]
  simp [nextOfJobs, holdJob, dropPlan]

/-- A GAP record takes a serial, puts nothing in flight and leaves every job's next frame. -/
theorem writeGap_frames (j : Job) (f : Flight) (r : Nat) (s : State) :
    (writeGap j f r s).land.flights = s.land.flights ∧ (writeGap j f r s).land.nextSerial = s.land.nextSerial + 1 ∧
      nextOfJobs (writeGap j f r s) = nextOfJobs s := by
  unfold writeGap
  extract_lets serial r₀ r₁ s₁ s₂ s₃ s₄
  have hf : s₄.land.flights = s.land.flights := by simp [s₄, s₃, s₂, s₁, nextLanding, modJob]
  have hn : s₄.land.nextSerial = s.land.nextSerial + 1 := by
    simp [s₄, s₃, s₂, s₁, r₁, r₀, nextLanding, modJob, ledgerOf]
  have hj : nextOfJobs s₄ = nextOfJobs s := by
    have h₄ : nextOfJobs s₄ = nextOfJobs s₂ := by simp [nextOfJobs, s₄, s₃, nextLanding]
    have h₁ : nextOfJobs s₁ = nextOfJobs s := by simp [nextOfJobs, s₁]
    rw [h₄, ← h₁]
    exact nextOfJobs_modJob_keep j.id (fun x => { x with state := .active, gapRun := x.gapRun + 1, gaps := x.gaps + 1 })
      (fun _ => rfl) (fun _ => rfl) s₁
  split
  · obtain ⟨kf, kn, kj⟩ := holdJob_frames j.id f.frame r s₄
    exact ⟨kf.trans hf, kn.trans hn, kj.trans hj⟩
  · exact ⟨hf, hn, hj⟩

/-! ### Admission (R33, R44, R48, R53) -/

/-- The frame as it goes in flight. -/
def admitted (j : Job) (f : Flight) (v : Rat) (s : State) : Flight :=
  { f with serial := s.land.nextSerial, version := s.latestVersion, ceiling := v, secure := j.secure,
           admittedAt := s.clk.opSec }

theorem admitFrame_land (j : Job) (f : Flight) (v : Rat) (s : State) :
    (admitFrame j f v s).land = { s.land with
      nextSerial := s.land.nextSerial + 1
      flights := s.land.flights ++ [admitted j f v s]
      plans := s.land.plans.filter fun p => decide (f.landing < p.landing)
      next := s.land.next.map (· + pitchOf f) } := by
  simp [admitFrame, nextLanding, modJob, ledgerOf, admitted, pitchOf]

theorem admitFrame_queue (j : Job) (f : Flight) (v : Rat) (s : State) :
    (admitFrame j f v s).ledger.queue = s.ledger.queue ++ [ledgerOf s (admitted j f v s)] := by
  simp [admitFrame, nextLanding, modJob, admitted]

/-- Admission moves its job on by one frame and leaves the others. -/
theorem admitFrame_next (j : Job) (f : Flight) (v : Rat) (s : State) :
    nextOfJobs (admitFrame j f v s) = s.jobs.map fun x => (x.id, if x.id = j.id then x.next + 1 else x.next) := by
  simp only [nextOfJobs, admitFrame, nextLanding, modJob, State.modLand_jobs, State.modJobs_jobs, State.modCfg_jobs,
    reserveLedger_jobs, List.map_map]
  refine List.map_congr_left fun x _ => ?_
  simp only [Function.comp]
  split <;> rfl

/-! ### PLAN_PREPARE (R57) -/

/-- The plans of landings before `l` are dropped. -/
def freshPlans (l : Int) (s : State) : State :=
  s.modLand fun x => { x with plans := x.plans.filter fun p => decide (l ≤ p.landing) }

/-- One of the next two frames whose plan is missing and can be prepared. -/
def planMissing (s : State) (q : Job × Nat × Int) : Bool :=
  !prepared s q.1.id q.2.1 q.2.2 && planOkFor s (wouldFly s q.1 q.2.1 q.2.2)

theorem exec_planPrepare : exec .planPrepare s = execPlanPrepare s := rfl

theorem execPlanPrepare_idle (h : s.land.mode = .thread ∨ coreStalled s 1 = true) :
    exec .planPrepare s = .next s := by
  rw [exec_planPrepare, execPlanPrepare, if_pos h.symm]

section
variable (hc : coreStalled s 1 = false) (hm : s.land.mode ≠ .thread) (hl : s.land.next = some l)
include hc hm hl

theorem execPlanPrepare_due : exec .planPrepare s = .next
    (match (nextPlans (freshPlans l s) l).find? (planMissing (freshPlans l s)) with
      | some (j, fr, p) => (freshPlans l s).modLand fun x =>
          { x with plans := x.plans ++ [{ job := j.id, frame := fr, landing := p, profile := planSegs s }] }
      | none => freshPlans l s) := by
  rw [exec_planPrepare, execPlanPrepare, if_neg (by simp [hc, hm]), hl]
  rfl

theorem execPlanPrepare_some {fr : Nat} {p : Int}
    (hq : (nextPlans (freshPlans l s) l).find? (planMissing (freshPlans l s)) = some (j, fr, p)) :
    exec .planPrepare s = .next ((freshPlans l s).modLand fun x =>
      { x with plans := x.plans ++ [{ job := j.id, frame := fr, landing := p, profile := planSegs s }] }) := by
  rw [execPlanPrepare_due hc hm hl, hq]

theorem execPlanPrepare_none (hq : ∀ q ∈ nextPlans (freshPlans l s) l,
    prepared (freshPlans l s) q.1.id q.2.1 q.2.2 = true ∨
      planOkFor (freshPlans l s) (wouldFly (freshPlans l s) q.1 q.2.1 q.2.2) = false) :
    exec .planPrepare s = .next (freshPlans l s) := by
  have hn : (nextPlans (freshPlans l s) l).find? (planMissing (freshPlans l s)) = none := by
    rw [List.find?_eq_none]
    intro q hmem hp
    rcases hq q hmem with h | h <;> simp [planMissing, h] at hp
  rw [execPlanPrepare_due hc hm hl, hn]

end

/-! ### ADMISSION_ATTEMPT (R43, R46, R47, R200, R407) -/

/-- What an attempt does at the admission position of landing `l`. -/
def atAdmission (l : Int) (s : State) : State :=
  if s.maint.gapNext ≠ 0 ∧ admissionStopped s = false then passMaintGap s
  else if admissionStopped s then nextLanding s.cfg.cur.lineStep (leaveReduced s)
  else match nextFrame s with
    | none => nextLanding s.cfg.cur.lineStep s
    | some (j, fr) => landingPassed (attempt j (wouldFly s j fr l) s)

theorem exec_admissionAttempt : exec .admissionAttempt s = execAdmissionAttempt s := rfl

theorem enterReduced_none (h : s.land.reducedReq = false) : enterReduced s = s := by simp [enterReduced, h]

theorem execAdmissionAttempt_thread (h : (enterReduced s).land.mode = .thread) :
    exec .admissionAttempt s = .next (enterReduced s) := by
  simp [exec_admissionAttempt, execAdmissionAttempt, h]

section
variable (hm : (enterReduced s).land.mode ≠ .thread)
include hm

theorem execAdmissionAttempt_first (hl : (enterReduced s).land.next = none) :
    exec .admissionAttempt s =
      .next ((enterReduced s).modLand fun l => { l with next := some (firstLanding (enterReduced s)) }) := by
  simp [exec_admissionAttempt, execAdmissionAttempt, hm, hl]

variable (hl : (enterReduced s).land.next = some l)
include hl

theorem execAdmissionAttempt_early
    (hx : newelLines (enterReduced s) < ((l - leadLines (enterReduced s) l : Int) : Rat)) :
    exec .admissionAttempt s = .next (enterReduced s) := by
  simp only [exec_admissionAttempt, execAdmissionAttempt, if_neg hm, hl, if_pos hx]

theorem execAdmissionAttempt_due
    (hx : ((l - leadLines (enterReduced s) l : Int) : Rat) ≤ newelLines (enterReduced s)) :
    exec .admissionAttempt s = .next (atAdmission l (enterReduced s)) := by
  simp only [exec_admissionAttempt, execAdmissionAttempt, if_neg hm, hl, if_neg (not_lt.2 hx)]
  rfl

end

theorem atAdmission_stopped (hs : admissionStopped s = true) :
    atAdmission l s = nextLanding s.cfg.cur.lineStep (leaveReduced s) := by
  simp [atAdmission, hs]

section
variable (hs : admissionStopped s = false)
include hs

theorem atAdmission_maintGap (hg : s.maint.gapNext ≠ 0) : atAdmission l s = passMaintGap s := by
  simp [atAdmission, hs, hg]

theorem atAdmission_noFrame (hg : s.maint.gapNext = 0) (hf : nextFrame s = none) :
    atAdmission l s = nextLanding s.cfg.cur.lineStep s := by
  simp [atAdmission, hs, hg, hf]

theorem atAdmission_frame {fr : Nat} (hg : s.maint.gapNext = 0) (hf : nextFrame s = some (j, fr)) :
    atAdmission l s = landingPassed (attempt j (wouldFly s j fr l) s) := by
  simp [atAdmission, hs, hg, hf]

end

/-! ### The checks of R48 in their order -/

/-- What the station checks of a frame say (Table 03-3). -/
def stationCheck (s : State) (f : Flight) : Option Nat :=
  stationReason s f ((List.range 16).filter f.stations.contains)

/-- The state in which a job that may slow has its frame planned: its slow request stands, the target is lowered to it
(R55). -/
def slowed (v : Rat) (s : State) : State :=
  if v < (addReq 1000 v s).gov.target then newTarget v (addReq 1000 v s) else addReq 1000 v s

theorem attempt_unplanned (hp : ¬ prepared s j.id f.frame f.landing = true) : attempt j f s = writeGap j f 6 s := by
  simp [attempt, hp]

section
variable (hp : prepared s j.id f.frame f.landing = true)
include hp

theorem attempt_missing (ha : allThere s f j = false) : attempt j f s = writeGap j f 1 s := by
  simp [attempt, hp, ha]

variable (ha : allThere s f j = true)
include ha

theorem attempt_unmapped (hn : ((List.range 16).filter j.layers.getLsbD).length ≠ f.use.length) :
    attempt j f s = writeGap j f 2 s := by
  simp [attempt, hp, ha, hn]

variable (hn : ((List.range 16).filter j.layers.getLsbD).length = f.use.length)
include hn

theorem attempt_route (hc : stationCheck s f = some 2) : attempt j f s = writeGap j f 2 s := by
  rw [stationCheck] at hc
  simp [attempt, hp, ha, hn, hc]

/-- A GAP for RESIDENCY leaves its job HELD, if not for its gap limit then for this. -/
theorem attempt_residency (hc : stationCheck s f = some 3) :
    attempt j f s = writeGap j f 3 s ∨ attempt j f s = holdJob j.id f.frame 3 (writeGap j f 3 s) := by
  rw [stationCheck] at hc
  simp only [attempt, hp, ha, hn, hc, Bool.not_true, Bool.false_eq_true, if_false, ne_eq, not_true_eq_false]
  split
  · exact .inl rfl
  · exact .inr rfl

variable (hc : stationCheck s f = none)
include hc

theorem attempt_tooSlow (hv : candidateSpeed s f < 25) : attempt j f s = writeGap j f 4 s := by
  rw [stationCheck] at hc
  simp [attempt, hp, ha, hn, hc, hv]

variable (hv : 25 ≤ candidateSpeed s f)
include hv

theorem attempt_feasible (hf : fetchFeasible s (s.land.flights ++ [f]) = true) :
    attempt j f s = admitFrame j f (candidateSpeed s f) s := by
  rw [stationCheck] at hc
  simp [attempt, hp, ha, hn, hc, not_lt.2 hv, hf]

variable (hf : fetchFeasible s (s.land.flights ++ [f]) = false)
include hf

theorem attempt_infeasible (hj : j.slow = false) : attempt j f s = writeGap j f 5 s := by
  rw [stationCheck] at hc
  simp [attempt, hp, ha, hn, hc, not_lt.2 hv, hf, hj]

theorem attempt_slowed (hj : j.slow = true) : attempt j f s =
    if fetchFeasible (slowed (candidateSpeed s f) s) ((slowed (candidateSpeed s f) s).land.flights ++ [f]) then
      admitFrame j f (candidateSpeed s f) (slowed (candidateSpeed s f) s)
    else writeGap j f 5 (slowed (candidateSpeed s f) s) := by
  rw [stationCheck] at hc
  simp [attempt, hp, ha, hn, hc, not_lt.2 hv, hf, hj]
  rfl

end

/-- Settles O35: PLAN_PREPARE, the attempt and the checks of R48 by their branches, the records by what they leave. -/
theorem admissionDecidesInOrder : Obligations.AdmissionDecidesInOrder := by
  unfold Obligations.AdmissionDecidesInOrder
  refine ⟨?planSome, ?planNone, fun s => execPlanPrepare_idle, fun s => enterReduced_none,
    fun s => execAdmissionAttempt_thread, fun s hm hl => execAdmissionAttempt_first hm hl,
    fun l s hm hl hx => execAdmissionAttempt_early hm hl hx,
    ?stopped, ?maintGap, ?noFrame, ?frame, ?attempt, writeGap_frames, ?admission⟩
  case stopped =>
    intro l s e hm hl hx hs
    rw [execAdmissionAttempt_due hm hl hx, atAdmission_stopped hs]
  case maintGap =>
    intro l s e hm hl hx hs hg
    rw [execAdmissionAttempt_due hm hl hx, atAdmission_maintGap hs hg]
  case noFrame =>
    intro l s e hm hl hx hg hs hf
    rw [execAdmissionAttempt_due hm hl hx, atAdmission_noFrame hs hg hf]
  case frame =>
    intro l j fr s e hm hl hx hg hs hf
    rw [execAdmissionAttempt_due hm hl hx, atAdmission_frame hs hg hf]
  case planSome =>
    intro j fr l p s e hc hm hl hq
    exact execPlanPrepare_some hc hm hl hq
  case planNone =>
    intro l s e hc hm hl hq
    exact execPlanPrepare_none hc hm hl hq
  case attempt =>
    intro j f s planned layers check v q t
    exact ⟨attempt_unplanned, attempt_missing, attempt_unmapped, attempt_route, attempt_residency, attempt_tooSlow,
      attempt_feasible, attempt_infeasible, attempt_slowed⟩
  case admission =>
    intro j f v s t
    have hland := admitFrame_land j f v s
    exact ⟨admitted j f v s, ledgerOf s (admitted j f v s), congrArg Land.flights hland, rfl, rfl, rfl, rfl, rfl,
      congrArg Land.nextSerial hland, congrArg Land.plans hland, admitFrame_queue j f v s, rfl, rfl,
      admitFrame_next j f v s⟩

end Sys2Proof.Machine
end

section
/-! SUPPORT. Landings and the end of a flight (O36): what STATION_LANDING does for a flight, for a frame that has left
and for no frame, when a flight leaves, what its closing record says, and the end of the run dwell (R15, R33, R44, R64,
R112 to R115, R209, R453). -/

namespace Sys2Proof.Machine

open Sys2Proof

variable {s : State} {n serial : Nat} {f : Flight} {p : Pend}

theorem exec_stationLanding : exec (.stationLanding n serial) s = execStationLanding n serial s := rfl

theorem exec_frameLeavesFlight : exec (.frameLeavesFlight serial) s = execFrameLeavesFlight serial s := rfl

theorem exec_runDwellEnd : exec .runDwellEnd s = execRunDwellEnd s := rfl

/-! ### A landing of a flight (R15, R115) -/

/-- The coinciding landings of lower stations, in ascending station order. -/
def lowerLand (n : Nat) (f : Flight) (s : State) : State :=
  (landedWith n f s).foldl (fun s p => match flight s p.2 with | some g => landAt p.1 g s | none => s) s

section
variable (h0 : serial ≠ 0) (hf : flight s serial = some f)
include h0 hf

theorem execStationLanding_lands (hn : n ∉ f.landed) (hx : (stationLanding s f n : Rat) ≤ newelLines s) :
    exec (.stationLanding n serial) s =
      .next (landAt n ((flight (lowerLand n f s) serial).getD f) (lowerLand n f s)) := by
  simp only [exec_stationLanding, execStationLanding, if_neg h0, hf, List.contains_iff_mem,
    if_neg (not_or.2 ⟨hn, not_lt.2 hx⟩)]
  rfl

theorem execStationLanding_again_or_early (h : n ∈ f.landed ∨ newelLines s < (stationLanding s f n : Rat)) :
    exec (.stationLanding n serial) s = .next s := by
  simp only [exec_stationLanding, execStationLanding, if_neg h0, hf, List.contains_iff_mem, if_pos h]

end

/-- No lower station that a flight has still to land at shares the newel position of the landing. -/
theorem landedWith_eq_nil (h : ∀ m < n, ∀ g ∈ s.land.flights, m ∈ g.stations → m ∉ g.landed →
    stationLanding s g m ≠ stationLanding s f n) : landedWith n f s = [] := by
  rw [landedWith, List.flatMap_eq_nil_iff]
  intro m hm
  rw [List.map_eq_nil_iff, List.filter_eq_nil_iff]
  intro g hg hc
  simp only [Bool.and_eq_true, Bool.not_eq_true', List.contains_eq_mem, decide_eq_true_eq,
    decide_eq_false_iff_not, beq_iff_eq] at hc
  obtain ⟨⟨hs, hl⟩, hp⟩ := hc
  exact h m (List.mem_range.1 hm) g hg hs hl hp

/-! ### A landing of a frame that has left, and of no frame (R33, R112, R114, R209) -/

section
variable (h0 : serial ≠ 0) (hf : flight s serial = none)
include h0 hf

theorem execStationLanding_left : exec (.stationLanding n serial) s = .next (boundLanding n serial s) := by
  simp only [exec_stationLanding, execStationLanding, if_neg h0, hf]

theorem execStationLanding_unbound (h : ∀ p, s.cfg.pend = some p → p.bound ≠ some serial) :
    exec (.stationLanding n serial) s = .next s := by
  rw [execStationLanding_left h0 hf, boundLanding]
  cases hp : s.cfg.pend with
  | none => rfl
  | some p => simp [h p hp]

theorem execStationLanding_bound (hp : s.cfg.pend = some p) (hb : p.bound = some serial)
    (hx : ((p.landing + offsetOf s n : Int) : Rat) ≤ newelLines s) :
    exec (.stationLanding n serial) s = .next (restoreLane n (stationPart n serial (pressPart s))) := by
  rw [execStationLanding_left h0 hf, boundLanding, hp]
  exact congrArg _ (if_pos ⟨hb, hx⟩)

end

/-- At a landing without a frame the counter takes a returned NEWEL's counts again, if no frame is in flight. -/
theorem execStationLanding_noFrame : exec (.stationLanding n 0) s = .next (restoreLane n
    (if s.newel.lost = true ∨ noFlights s = false then s else s.modNewel fun x => { x with onBackup := false })) := by
  simp [exec_stationLanding, execStationLanding]

/-! ### Leaving flight (R44, R64) -/

section
variable (hf : flight s serial = some f)
include hf

theorem execFrameLeavesFlight_past (hx : (lastPos s f : Rat) ≤ newelLines s) :
    exec (.frameLeavesFlight serial) s = .next (closeFlight f s) := by
  simp only [exec_frameLeavesFlight, execFrameLeavesFlight, hf, if_neg (not_lt.2 hx)]

theorem execFrameLeavesFlight_early (hx : newelLines s < (lastPos s f : Rat)) :
    exec (.frameLeavesFlight serial) s = .next s := by
  simp only [exec_frameLeavesFlight, execFrameLeavesFlight, hf, if_pos hx]

end

theorem execFrameLeavesFlight_none (hf : flight s serial = none) : exec (.frameLeavesFlight serial) s = .next s := by
  simp only [exec_frameLeavesFlight, execFrameLeavesFlight, hf]

/-! ### The closing record (R64, Table 03-6) -/

section
variable (s) (r : LedgerRec)

theorem closeRec_spoiled (h : f.spoiled = true) :
    (closeRec s f r).state = .spoiled ∧ (closeRec s f r).cause = f.cause := by simp [closeRec, h]

theorem closeRec_degraded (h : f.spoiled = false) (hd : f.degraded ≠ 0#16) :
    (closeRec s f r).state = .degraded ∧ (closeRec s f r).cause = 0 := by simp [closeRec, h, hd]

theorem closeRec_printed (h : f.spoiled = false) (hd : f.degraded = 0#16) :
    (closeRec s f r).state = .printed ∧ (closeRec s f r).cause = 0 := by simp [closeRec, h, hd]

end

/-! ### The end of the run dwell (R453) -/

/-- A station of the run sequence without its locks raises a facet phase fault against its polygon. -/
def lockCheck (t : State) (n : Nat) : State := if hasLocks t n then t else raise 0x0803 (polygonH t n) 0 n t

theorem execRunDwellEnd_dwell (h : s.land.run = .dwell) : exec .runDwellEnd s =
    .next ((runStations s).foldl lockCheck (s.modLand fun l => { l with run := .none })) := by
  rw [exec_runDwellEnd, execRunDwellEnd, if_pos h]
  refine congrArg _ (List.foldl_ext _ _ _ fun t n _ => ?_)
  unfold lockCheck polygonH
  cases polygonOf t.cfg.cur n <;> rfl

theorem execRunDwellEnd_other (h : s.land.run ≠ .dwell) : exec .runDwellEnd s = .next s := by
  rw [exec_runDwellEnd, execRunDwellEnd, if_neg h]

/-- Stations that hold every lock raise nothing. -/
theorem foldl_lockCheck_locked {ns : List Nat} {t : State} (h : ∀ n ∈ ns, hasLocks t n = true) :
    ns.foldl lockCheck t = t := by
  induction ns with
  | nil => rfl
  | cons n ns ih =>
    rw [List.foldl_cons, lockCheck, if_pos (h n List.mem_cons_self)]
    exact ih fun k hk => h k (List.mem_cons_of_mem _ hk)

/-- Settles O36: each event by its cases, the dwell by the stations that hold their locks raising nothing. -/
theorem landingsAndFlightsEnd : Obligations.LandingsAndFlightsEnd := by
  unfold Obligations.LandingsAndFlightsEnd
  refine ⟨?lands, fun n f s => landedWith_eq_nil, fun n serial f s h0 hf => execStationLanding_again_or_early h0 hf,
    fun n serial s h0 hf => execStationLanding_unbound h0 hf,
    fun n serial p s h0 hf hp hb hx => execStationLanding_bound h0 hf hp hb hx, ?regained, ?kept,
    fun serial f s hf => execFrameLeavesFlight_past hf, fun serial f s hf => execFrameLeavesFlight_early hf,
    fun serial s => execFrameLeavesFlight_none, ?record, ?locked, ?unlocked, fun s => execRunDwellEnd_other⟩
  case lands =>
    intro n serial f s e h0 hf hn hx
    exact execStationLanding_lands h0 hf hn hx
  case regained =>
    intro n s hl hf
    rw [execStationLanding_noFrame, if_neg (by simp [hl, hf])]
  case kept =>
    intro n s h
    rw [execStationLanding_noFrame, if_pos h]
  case record =>
    intro s f r c
    exact ⟨closeRec_spoiled s r, closeRec_degraded s r, closeRec_printed s r, rfl, rfl, rfl, rfl, rfl, rfl⟩
  case locked =>
    intro s hd hl
    rw [execRunDwellEnd_dwell hd, foldl_lockCheck_locked (t := s.modLand _) hl]
  case unlocked =>
    intro s hd
    rw [execRunDwellEnd_dwell hd]
    refine congrArg _ (List.foldl_ext _ _ _ fun t n _ => ?_)
    unfold lockCheck polygonH
    cases polygonOf t.cfg.cur n <;> rfl

end Sys2Proof.Machine
end

section
/-! SUPPORT. Marks (O39): what SOS_MARK judges, opens and prints, the sweep counters that a mark restarts, and what
exposure and consumption do in each of their cases (R9, R10, R62, R63, R107, R154 to R159, R163). -/

namespace Sys2Proof.Machine

open Sys2Proof

variable {s : State} {n m k l : Nat} {f : Flight} {b : RBand}

/-! ### The mark (R155 to R157, R181) -/

theorem exec_sosMark : exec (.sosMark n m) s = execSosMark n m s := rfl

theorem execSosMark_station (h : s.cfg.cur.hasStation n = true) : exec (.sosMark n m) s =
    .next (if standby (sweepOpens n m (sweepEnds n s)) then sweepOpens n m (sweepEnds n s)
      else sweepPrints n (sweepOpens n m (sweepEnds n s))) := by
  simp [exec_sosMark, execSosMark, h]

theorem execSosMark_none (h : s.cfg.cur.hasStation n = false) : exec (.sosMark n m) s = .next s := by
  simp [exec_sosMark, execSosMark, h]

theorem sweepEnds_noLane (h : stationLane s n = none) : sweepEnds n s = surveyPause n s := by
  simp [sweepEnds, statMark, tailed, h]

/-- The sweep of a swept lane whose LANE_STAT came is judged by its timestamp. -/
theorem sweepEnds_swept (hl : stationLane s n = some l) (hm : (s.lane l).mode = .swept)
    (hs : (s.lane l).statSeen = true) : sweepEnds n s =
      surveyMark n (((if (s.st n).scan.tsSeen then s else badTimestamp n s).st n).scan.sweeps + 1)
        (if (s.st n).scan.tsSeen then s else badTimestamp n s) := by
  simp [sweepEnds, statMark, tailed, hl, hm, hs]

/-! ### The sweep that a mark opens (R153 to R156, R163, R171) -/

theorem scan_modScan (g : Rise → Rise) (s : State) : ((modScan n g s).st n).scan = g (s.st n).scan := by
  simp [modScan]

/-- The sweep rate that a mark predicts. -/
def markRate (n : Nat) (s : State) : Rat :=
  predict (modScan n (fun x => { x with nsw := some (s.cfgGet 0x01 n 6 2) }) s) n

/-- The band and the switch schedule that a mark computes, one sweep ahead. -/
def markPlan (n : Nat) (s : State) : Nat × List (Nat × Nat × Nat) :=
  schedule (chirpSegs (kvGet ({} : CalSt) s.cal.inst n).chirp) (s.st n).scan.table (s.cfgGet 0x01 n 6 2) (markRate n s)
    (s.st n).scan.postdiv

/-- What a mark computes, if its station has a band table. -/
def markNext (n : Nat) (s : State) : Option (Nat × List (Nat × Nat × Nat)) :=
  if (s.st n).scan.table.isEmpty then none else some (markPlan n s)

theorem markNext_of_table (h : (s.st n).scan.table ≠ []) : markNext n s = some (markPlan n s) :=
  if_neg (by simpa using h)

theorem startSweep_keeps (n m : Nat) (s : State) :
    startSweep n m s = { s with stations := (startSweep n m s).stations } := rfl

theorem startSweep_st_ne (m : Nat) (s : State) (h : k ≠ n) : (startSweep n m s).st k = s.st k := st_modSt_ne s _ h

/-- The counters that a mark restarts, and what it takes over. -/
theorem startSweep_counters (n m : Nat) (s : State) :
    let x := (s.st n).scan
    let y := ((startSweep n m s).st n).scan
    y.sweeps = x.sweeps + 1 ∧ y.phi = 0 ∧ y.word = 0 ∧ y.phase = m % 64 ∧ y.mark = newelFine s ∧
      y.sPred = markRate n s ∧ y.gov = x.hdr ∧ y.hdr = none := by
  intro x y
  have hy : y = _ := scan_modScan _ s
  rw [hy]
  exact ⟨rfl, rfl, rfl, rfl, rfl, rfl, rfl, rfl⟩

theorem startSweep_facet (m : Nat) (h : s.cfgGet 0x01 n 14 1 ≠ 0) :
    ((startSweep n m s).st n).scan.facet = ((s.st n).scan.facet + 1) % s.cfgGet 0x01 n 14 1 := by
  rw [startSweep, scan_modScan]
  exact if_neg h

theorem startSweep_schedNext (n m : Nat) (s : State) : ((startSweep n m s).st n).scan.schedNext = markNext n s := by
  rw [startSweep, scan_modScan]
  rfl

/-- The sweep takes the schedule computed one sweep before, or the one computed now where there was none. -/
theorem startSweep_now (m : Nat) {p : Nat × List (Nat × Nat × Nat)}
    (h : (s.st n).scan.schedNext.or (markNext n s) = some p) :
    ((startSweep n m s).st n).scan.band = p.1 ∧ ((startSweep n m s).st n).scan.sched = p.2 := by
  rw [startSweep, scan_modScan]
  simp only [placeMark]
  cases hs : (s.st n).scan.schedNext with
  | some q =>
    rw [hs] at h
    cases h
    exact ⟨rfl, rfl⟩
  | none =>
    rw [hs, Option.none_or, markNext, markPlan, markRate] at h
    simp only [h, and_self]

/-! ### Exposure (R9, R10, R62, R63, R107, R159, R184) -/

/-- Band `k` of a flight has been exposed at station `n`: the halves have swapped, the flight keeps the exposure. -/
def exposed (n k : Nat) (f : Flight) (s : State) : State :=
  inExposure n f.serial k (modFlight f.serial (noteExposure n k s)
    (modSt n (fun x => { x with xHalf := x.wHalf, wHalf := {} }) s))

/-- A blank half stands for band `k` of a flight. -/
def blankHalf (n k : Nat) (f : Flight) (s : State) : State :=
  modSt n (fun x => { x with xHalf := { serial := f.serial, band := k }, wHalf := {} }) s

section
variable (hm : n ∉ f.marking)
include hm

theorem exposeBand_unused (hu : n ∉ f.stations) : exposeBand n f k s = s := by
  simp [exposeBand, hm, hu]

variable (hu : n ∈ f.stations)
include hu

theorem exposeBand_failed (hf : f.failsAt n k = true) : exposeBand n f k s = blankHalf n k f s := by
  simp [exposeBand, hm, hu, hf, swapHalves, blankHalf]

variable (hf : f.failsAt n k = false) (hd : (s.st n).dec = .idle) (hdark : darkNow s n = false)
include hf hd hdark

/-- The band in the write half is exposed on a swept lane; beyond the lock window that is noted. -/
theorem exposeBand_prints (hs : sweptNow s n = true) (h1 : (s.st n).wHalf.serial = f.serial)
    (h2 : (s.st n).wHalf.band = k) : exposeBand n f k s =
      if (1 : Rat) / 16 < absRat (s.st n).scan.ef ∧ (s.st n).scan.overLim = false then
        note 0x0804 (stH (exposed n k f s) n) 0 (exposed n k f s)
      else exposed n k f s := by
  simp [exposeBand, swapHalves, exposed, hm, hu, hf, hd, hdark, hs, h1, h2]

/-- Without the band, or with a lane that is not swept, the layer fails from there on. -/
theorem exposeBand_lost
    (h : (s.st n).wHalf.serial ≠ f.serial ∨ (s.st n).wHalf.band ≠ k ∨ sweptNow s n = false) :
    exposeBand n f k s = failLayer f.serial n k 0x11 (blankHalf n k f s) := by
  rcases h with h | h | h <;> simp [exposeBand, swapHalves, blankHalf, hm, hu, hf, hd, hdark, h]

end

/-! ### Consumption (R9, R49, R62, R63, R100) -/

/-- A flight's band `k` counts as consumed at station `n`. -/
def countConsumed (n k : Nat) (f : Flight) (s : State) : State :=
  modFlight f.serial (fun f => { f with consumed := kvSet f.consumed n (max (k + 1) (kvGet 0 f.consumed n)) }) s

section
variable (hm : n ∉ f.marking)
include hm

theorem consume_failed (hf : f.failsAt n k = true) : consume n f k s = dropFailed n (countConsumed n k f s) := by
  simp [consume, countConsumed, hm, hf]

/-- A resident band starts its decode if it is sound and its offset table computed; else the decoder waits for it. -/
theorem consume_resident (hu : n ∈ f.stations) (hf : f.failsAt n k = false)
    (hb : ((s.st n).buf.find? fun b => b.serial == f.serial && b.id.band == k && !b.gone) = some b) :
    consume n f k s = if b.ok && hasTable (s.st n) b then beginDecode n b (countConsumed n k f s)
      else modSt n (fun x => { x with dec := .waiting, cur := some b, curMark := false }) (countConsumed n k f s) := by
  have hst : (countConsumed n k f s).st n = s.st n := rfl
  unfold consume
  rw [← countConsumed]
  simp [hst, hm, hu, hf, hb]

end

/-- Settles O39: the sweep that ends, the counters of the next one, exposure and consumption by their cases. -/
theorem marksExposeBands : Obligations.MarksExposeBands := by
  unfold Obligations.MarksExposeBands
  refine ⟨?station, fun n m s => execSosMark_none, fun n s => sweepEnds_noLane, ?timed, ?untimed, ?opens, ?prints,
    ?lost, ?failed, ?unused, ?resident, ?dropped⟩
  case station =>
    intro n m s h t
    exact execSosMark_station h
  case timed =>
    intro n l s hl hm hs ht
    rw [sweepEnds_swept hl hm hs, if_pos ht]
  case untimed =>
    intro n l s hl hm hs ht
    rw [sweepEnds_swept hl hm hs, if_neg (by simp [ht])]
  case opens =>
    intro n m s t x y nsw rate plan
    obtain ⟨hsweeps, hphi, hword, hphase, hmark, hpred, hgov, hhdr⟩ := startSweep_counters n m s
    refine ⟨hsweeps, hphi, hword, hphase, hmark, hpred, hgov, hhdr, startSweep_facet m, ?planned, ?first, ?ahead,
      startSweep_keeps n m s, fun k => startSweep_st_ne m s⟩
    case planned =>
      intro p (hp : (s.st n).scan.schedNext = some p)
      exact startSweep_now m (by rw [hp, Option.some_or])
    case first =>
      intro (hp : (s.st n).scan.schedNext = none) ht
      exact startSweep_now m (p := markPlan n s) (by rw [hp, Option.none_or, markNext_of_table ht])
    case ahead =>
      intro ht
      exact (startSweep_schedNext n m s).trans (markNext_of_table ht)
  case prints =>
    intro n k f s x u hm hu hf h1 h2 hd hdark hs
    have h := exposeBand_prints (by simpa using hm) (by simpa using hu) hf hd hdark hs h1 h2
    refine ⟨fun he => ?_, fun he ho => ?_⟩
    · exact h.trans (if_neg fun hc => not_lt.2 he hc.1)
    · exact h.trans (if_pos ⟨he, ho⟩)
  case lost =>
    intro n k f s x hm hu hf h hd hdark
    exact exposeBand_lost (by simpa using hm) (by simpa using hu) hf hd hdark h
  case failed =>
    intro n k f s hm hu hf
    exact exposeBand_failed (by simpa using hm) (by simpa using hu) hf
  case unused =>
    intro n k f s hm hu
    exact exposeBand_unused (by simpa using hm) (by simpa using hu)
  case resident =>
    intro n k f b s t hm hu hf hb
    have h := consume_resident (by simpa using hm) (by simpa using hu) hf hb
    refine ⟨fun ho ht => ?_, fun hw => ?_⟩
    · exact h.trans (if_pos (by simp [ho, ht]))
    · exact h.trans (if_neg (by rcases hw with hw | hw <;> simp [hw]))
  case dropped =>
    intro n k f s t hm hf
    exact consume_failed (by simpa using hm) hf

end Sys2Proof.Machine
end

section
/-! SUPPORT. Opening a fault record (O52): the record stands under the channel of the error, which for a unit in a
RETIRE_AS_ONE group is the group and not the unit (R30). The statement gives it the unit's own handle without asking
that no such group holds the unit, and a self-test's error in a group refutes it. -/

namespace Sys2Proof.Machine

open Sys2Proof

variable {s : State}

/-! ### The record that an error opens (R30, R328, R329) -/

/-- Telling a fault leaves the fault table as it stands. -/
@[simp] theorem tellFault_recs (type i : Nat) (s : State) : (tellFault type i s).faults.recs = s.faults.recs := by
  unfold tellFault
  extract_lets r s₁ s₂ s₃
  have h : Tells s₁ s₃ := (tells_post ..).trans (tells_galWrite ..)
  split
  · exact (h.trans (tells_galFlush _)).recs
  · exact h.recs

/-- An error of class 1 sets off nothing when its record opens: its self-test runs first (R323, R326). -/
theorem react_one (code : Nat) (h : Handle) (sel : Nat) (s : State) : react 1 code h sel s = s := rfl

/-- The record that an error of class 1 opens stands under the error's channel. -/
theorem openRecord_channel (i code : Nat) (h : Handle) (sel detail : Nat) (s : State) :
    ∃ r, kvFind (openRecord i 1 code h sel detail s).faults.recs i = some r ∧
      (r.handle, r.sel) = channelOf s h sel := by
  simp only [openRecord, react_one, tellFault_recs, State.modFaults_faults, kvFind_kvSet_self]
  exact ⟨_, rfl, rfl⟩

/-! ### A unit in a group that retires as one -/

/-- A device whose current set holds a RETIRE_AS_ONE group at INDEX 32 and in it an axis at INDEX 33. -/
def groupedAxis : State :=
  { cfg := { cur := { units := [(32, { utype := 0x0F, parent := 0#16, retireAsOne := true }),
      (33, { utype := 0x06, parent := 32#16 })] } } }

theorem channelOf_groupedAxis : channelOf groupedAxis 33#16 0 = (32#16, 0) := by decide

/-- Refutes O52: OVERCURRENT (0x0E01), a class 1 error, of the axis at INDEX 33 opens a record under the handle of the
group at INDEX 32, as R30 asks, and so under another handle than the axis's. -/
theorem not_faultRecordsOpenMergeAndClose : ¬ Obligations.FaultRecordsOpenMergeAndClose := by
  unfold Obligations.FaultRecordsOpenMergeAndClose
  rintro ⟨-, hopen, -⟩
  obtain ⟨t, ht, -, -, r, hr, -, -, hown, -⟩ := hopen 1 1 0x0E01 33#16 0 0 groupedAxis
  obtain ⟨q, hq, hch⟩ := openRecord_channel 1 0x0E01 33#16 0 0 groupedAxis
  rw [ht, react_one, tellFault_recs, hr] at hq
  cases hq
  rw [channelOf_groupedAxis, hown] at hch
  have hhandle : (33#16 : Handle) = 32#16 := congrArg Prod.fst hch
  exact absurd hhandle (by decide)

end Sys2Proof.Machine
end

section
/-! SUPPORT. What no step takes back (O4), and with it what the operations below a command leave alone: the boot stage and
cause, whether the mailbox serves, and its inbound ring, which only a reset, the boot, a clock failure and the arrival and
start of commands change. Each operation keeps what it finds (`Keeping f`, `keeping_…`), as an equivalence that `simp`
chains through the operations built on it without side conditions; so does a command's body (`keeps_body…`). What arrives,
starts, boots or resets still goes onward only (`onward_…`), and so does every step. -/

namespace Sys2Proof.Machine

open Sys2Proof

variable {r s t u : State}

/-! ### What is kept -/

theorem Onward.refl (s : State) : Onward s s := ⟨le_rfl, le_rfl⟩

theorem Onward.trans (a : Onward s t) (b : Onward t u) : Onward s u :=
  ⟨a.version.trans b.version, a.gallery.trans b.gallery⟩

/-- A state with the same sets and the same gallery is onward. -/
theorem Onward.of_eq (hc : t.cfg = s.cfg) (hg : t.gal = s.gal) : Onward s t := ⟨(congrArg _ hc).ge, (congrArg _ hg).ge⟩

/-- What goes onward goes onward from before a change of other components. -/
theorem Onward.after (a : Onward t u) (hc : t.cfg = s.cfg) (hg : t.gal = s.gal) :
    Onward s u := (Onward.of_eq hc hg).trans a

/-- From `s` to `t` nothing is taken back, and how the device has booted and what has come in stand as they did. -/
structure Keeps (s t : State) : Prop where
  onward : Onward s t
  stage : t.boot.stage = s.boot.stage
  cause : t.boot.cause = s.boot.cause
  live : t.mbx.live = s.mbx.live
  inRing : t.mbx.inRing = s.mbx.inRing

@[simp] theorem Keeps.refl (s : State) : Keeps s s := ⟨.refl s, rfl, rfl, rfl, rfl⟩

theorem Keeps.trans (a : Keeps s t) (b : Keeps t u) : Keeps s u :=
  ⟨a.onward.trans b.onward, b.stage.trans a.stage, b.cause.trans a.cause, b.live.trans a.live,
    b.inRing.trans a.inRing⟩

theorem Keeps.of_eq (hc : t.cfg = s.cfg) (hg : t.gal = s.gal) (hb : t.boot = s.boot) (hm : t.mbx = s.mbx) : Keeps s t :=
  ⟨.of_eq hc hg, congrArg _ hb, congrArg _ hb, congrArg _ hm, congrArg _ hm⟩

theorem Tells.keeps (h : Tells s t) : Keeps s t :=
  ⟨⟨(congrArg _ h.cfg).ge, h.seq⟩, congrArg _ h.boot, congrArg _ h.boot, h.live, h.inRing⟩

/-- `t` keeps what `r` has although `s`, which `t` comes from, does not. -/
def Regains (r s t : State) : Prop := ¬ Keeps r s ∧ Keeps r t

/-- `simp` has nothing to do inside `Regains`. -/
@[congr] theorem regains_congr (r s t : State) : Regains r s t = Regains r s t := rfl

theorem Keeps.iff (h : Keeps s t) : Keeps r t ↔ Keeps r s ∨ Regains r s t := by
  by_cases k : Keeps r s
  · simp [k, k.trans h]
  · simp [k, Regains]

/-- `f` keeps what it finds, in the form in which `simp` chains it (`Keeps.iff`): `Keeps r (f s)` falls back on
`Keeps r s`. -/
abbrev Keeping (f : State → State) : Prop := ∀ r s, Keeps r (f s) ↔ Keeps r s ∨ Regains r s (f s)

theorem Keeping.of {f : State → State} (h : ∀ s, Keeps s (f s)) : Keeping f := fun _ s => (h s).iff

/-- One operation more, by its `keeping_…`. -/
theorem Keeps.step (k : Keeps r s) (h : Keeps r t ↔ Keeps r s ∨ Regains r s t) : Keeps r t := h.2 (.inl k)

/-- A choice of two states keeps what the chosen one does. -/
@[simp] theorem keeps_ite {c : Prop} {_ : Decidable c} :
    Keeps r (if c then s else t) ↔ if c then Keeps r s else Keeps r t := by split <;> rfl

/-- A run of changes that each keep what they find keeps it. -/
theorem Keeps.foldl {α : Type} {f : State → α → State} (h : ∀ s a, Keeps s (f s a)) (l : List α) (s : State) :
    Keeps s (l.foldl f s) := List.foldlRecOn l f (.refl s) fun t ht a _ => ht.trans (h t a)

@[simp] theorem keeps_foldl {α : Type} {f : State → α → State} (h : ∀ s a, Keeps s (f s a)) (l : List α) :
    Keeps r (l.foldl f s) ↔ Keeps r s ∨ Regains r s (l.foldl f s) := (Keeps.foldl h l s).iff

/-! ### Changes of one component -/

@[simp] theorem keeping_modClk (f : Clk → Clk) : Keeping (.modClk f) := .of fun _ => .of_eq rfl rfl rfl rfl
@[simp] theorem keeping_modUnits (f : Units → Units) : Keeping (.modUnits f) := .of fun _ => .of_eq rfl rfl rfl rfl
@[simp] theorem keeping_modJobs (f : List Job → List Job) : Keeping (.modJobs f) := .of fun _ => .of_eq rfl rfl rfl rfl
@[simp] theorem keeping_modLand (f : Land → Land) : Keeping (.modLand f) := .of fun _ => .of_eq rfl rfl rfl rfl
@[simp] theorem keeping_modGov (f : Gov → Gov) : Keeping (.modGov f) := .of fun _ => .of_eq rfl rfl rfl rfl
@[simp] theorem keeping_modIngest (f : Ingest → Ingest) : Keeping (.modIngest f) := .of fun _ => .of_eq rfl rfl rfl rfl
@[simp] theorem keeping_modHost (f : HostL → HostL) : Keeping (.modHost f) := .of fun _ => .of_eq rfl rfl rfl rfl
@[simp] theorem keeping_modSpool (f : Spool → Spool) : Keeping (.modSpool f) := .of fun _ => .of_eq rfl rfl rfl rfl
@[simp] theorem keeping_modStations (f : KV Station → KV Station) :
    Keeping (.modStations f) := .of fun _ => .of_eq rfl rfl rfl rfl
@[simp] theorem keeping_modLanes (f : KV Lane → KV Lane) : Keeping (.modLanes f) := .of fun _ => .of_eq rfl rfl rfl rfl
@[simp] theorem keeping_modIntlk (f : Intlk → Intlk) : Keeping (.modIntlk f) := .of fun _ => .of_eq rfl rfl rfl rfl
@[simp] theorem keeping_modNewel (f : Newel → Newel) : Keeping (.modNewel f) := .of fun _ => .of_eq rfl rfl rfl rfl
@[simp] theorem keeping_modAxes (f : KV Axis → KV Axis) : Keeping (.modAxes f) := .of fun _ => .of_eq rfl rfl rfl rfl
@[simp] theorem keeping_modSteppers (f : KV Stepper → KV Stepper) :
    Keeping (.modSteppers f) := .of fun _ => .of_eq rfl rfl rfl rfl
@[simp] theorem keeping_modSols (f : KV Solenoid → KV Solenoid) :
    Keeping (.modSols f) := .of fun _ => .of_eq rfl rfl rfl rfl
@[simp] theorem keeping_modRing (f : Ring → Ring) : Keeping (.modRing f) := .of fun _ => .of_eq rfl rfl rfl rfl
@[simp] theorem keeping_modLoops (f : KV LoopSlot → KV LoopSlot) :
    Keeping (.modLoops f) := .of fun _ => .of_eq rfl rfl rfl rfl
@[simp] theorem keeping_modPower (f : Power → Power) : Keeping (.modPower f) := .of fun _ => .of_eq rfl rfl rfl rfl
@[simp] theorem keeping_modTherm (f : Therm → Therm) : Keeping (.modTherm f) := .of fun _ => .of_eq rfl rfl rfl rfl
@[simp] theorem keeping_modFaults (f : Faults → Faults) : Keeping (.modFaults f) := .of fun _ => .of_eq rfl rfl rfl rfl
@[simp] theorem keeping_modPair (f : Pair → Pair) : Keeping (.modPair f) := .of fun _ => .of_eq rfl rfl rfl rfl
@[simp] theorem keeping_modLedger (f : Ledger → Ledger) : Keeping (.modLedger f) := .of fun _ => .of_eq rfl rfl rfl rfl
@[simp] theorem keeping_modAuth (f : Auth → Auth) : Keeping (.modAuth f) := .of fun _ => .of_eq rfl rfl rfl rfl
@[simp] theorem keeping_modCal (f : Cal → Cal) : Keeping (.modCal f) := .of fun _ => .of_eq rfl rfl rfl rfl
@[simp] theorem keeping_modMaint (f : Maint → Maint) : Keeping (.modMaint f) := .of fun _ => .of_eq rfl rfl rfl rfl
@[simp] theorem keeping_modPanel (f : Panel → Panel) : Keeping (.modPanel f) := .of fun _ => .of_eq rfl rfl rfl rfl
@[simp] theorem keeping_modFree (f : Nat → Nat) : Keeping (.modFree f) := .of fun _ => .of_eq rfl rfl rfl rfl

@[simp] theorem keeping_modBoot {f : Boot → Boot} (hs : ∀ b, (f b).stage = b.stage) (hc : ∀ b, (f b).cause = b.cause) :
    Keeping (.modBoot f) := .of fun _ => ⟨.of_eq rfl rfl, hs _, hc _, rfl, rfl⟩

@[simp] theorem keeping_modMbx {f : Mbx → Mbx} (hl : ∀ b, (f b).live = b.live) (hi : ∀ b, (f b).inRing = b.inRing) :
    Keeping (.modMbx f) := .of fun _ => ⟨.of_eq rfl rfl, rfl, rfl, hl _, hi _⟩

theorem Keeps.modCfg {f : Cfg → Cfg} (h : s.cfg.highVer ≤ (f s.cfg).highVer) : Keeps s (s.modCfg f) :=
  ⟨⟨h, le_rfl⟩, rfl, rfl, rfl, rfl⟩

@[simp] theorem keeping_modCfg {f : Cfg → Cfg} (h : ∀ c, c.highVer ≤ (f c).highVer) : Keeping (.modCfg f) :=
  .of fun _ => .modCfg (h _)

theorem Keeps.modGal {f : Gallery → Gallery} (h : s.gal.nextSeq ≤ (f s.gal).nextSeq) : Keeps s (s.modGal f) :=
  (tells_modGal f s h).keeps

@[simp] theorem keeping_modGal {f : Gallery → Gallery} (h : ∀ g, g.nextSeq ≤ (f g).nextSeq) : Keeping (.modGal f) :=
  .of fun _ => .modGal (h _)

/-! ### Replies and outcomes -/

/-- The state that a command's body leaves, whether it answers or waits. -/
def Reply.state : Reply → State
  | .done _ _ t => t
  | .later t => t

@[simp] theorem Reply.state_done (st : Status) (p : List Byte) (t : State) : (Reply.done st p t).state = t := rfl

@[simp] theorem Reply.state_later (t : State) : (Reply.later t).state = t := rfl

@[simp] theorem Reply.state_refuse (st : Status) (s : State) : (refuse st s).state = s := rfl

@[simp] theorem Reply.state_ite {c : Prop} {_ : Decidable c} (a b : Reply) :
    (if c then a else b).state = if c then a.state else b.state := apply_ite ..

/-- The state in which a step ends, if it ends in one, is as `p` says. -/
def Ends (p : State → Prop) : Host.Outcome State Fault Refusal → Prop
  | .next t => p t
  | .fault _ => True
  | .refused _ => True

@[simp] theorem ends_next {p : State → Prop} : Ends p (.next t) ↔ p t := Iff.rfl

/-- What ends with everything kept goes onward. -/
theorem Ends.onward : ∀ {o : Host.Outcome State Fault Refusal}, Ends (Keeps s) o → Ends (Onward s) o
  | .next _, h => Keeps.onward h
  | .fault _, h => h
  | .refused _, h => h

theorem Ends.after (hc : t.cfg = s.cfg) (hg : t.gal = s.gal) :
    ∀ {o : Host.Outcome State Fault Refusal}, Ends (Onward t) o → Ends (Onward s) o
  | .next _, h => Onward.after h hc hg
  | .fault _, h => h
  | .refused _, h => h

/-! ### Telling the outside (R330, R360 to R364, R383 to R389) -/

@[simp] theorem keeping_send (x : OutMsg) : Keeping (·.send x) := .of fun s => (tells_send x s).keeps
@[simp] theorem keeping_draw : Keeping (·.draw.2) := .of fun s => by simp [State.draw]
@[simp] theorem keeping_post (c : Nat) (h : Handle) (p : List Byte) :
    Keeping (post c h p) := .of fun s => (tells_post c h p s).keeps
@[simp] theorem keeping_galFlush : Keeping galFlush := .of fun s => (tells_galFlush s).keeps
@[simp] theorem keeping_galPut (n : GalRec) : Keeping (galPut n) := .of fun s => (tells_galPut n s).keeps
@[simp] theorem keeping_galLevel : Keeping galLevel := .of fun s => (tells_galLevel s).keeps
@[simp] theorem keeping_galWrite (k : Nat) (h : Handle) (sel aux : Nat) (p : List Byte) :
    Keeping (galWrite k h sel aux p) :=
  .of fun _ => (tells_galWrite ..).keeps
@[simp] theorem keeping_note (c : Nat) (h : Handle) (sel : Nat) :
    Keeping (note c h sel) := .of fun _ => (tells_note ..).keeps
@[simp] theorem keeping_pump : Keeping pump := .of fun s => (tells_pump s).keeps
@[simp] theorem keeping_deliver (p : Path) (ms : List Msg) :
    Keeping (deliver p ms) := .of fun s => (tells_deliver p ms s).keeps
@[simp] theorem keeping_respond (op : Nat) (m : Cmd) (st : Status) (p : List Byte) : Keeping (respond op m st p) :=
  .of fun _ => (tells_respond ..).keeps
@[simp] theorem keeping_finish (p : Waiter → Bool) (st : Status) (b : List Byte) : Keeping (finish p st b) :=
  .of fun _ => (tells_finish ..).keeps
@[simp] theorem keeping_seqCheck (q : Nat) : Keeping (seqCheck q) := .of fun s => (tells_seqCheck q s).keeps
@[simp] theorem keeping_setUnitState (h : Handle) (st : UnitState) (cls : Nat) : Keeping (setUnitState h st cls) :=
  .of fun s => by simp [setUnitState]
@[simp] theorem keeping_useGrant (op : Nat) (m : Cmd) : Keeping (useGrant op m) := .of fun s => by simp [useGrant]

/-! ### The mailbox (R383 to R393) -/

theorem onward_startCmd (op : Nat) (m : Cmd) (s : State) : Onward s (startCmd op m s) := by
  unfold startCmd
  extract_lets ps mine k
  split_ifs
  · exact .of_eq rfl rfl
  · exact Keeps.onward (by simp)

/-- A mailbox command goes onward when its body keeps what it finds. -/
theorem onward_runCmd {i : CmdInfo} {need : State → Nat} {m : Cmd} {body : State → Reply}
    (hb : ∀ t, Keeps t (body t).state) (s : State) : Onward s (runCmd i need m body s) := by
  unfold runCmd
  split
  · exact .refl s
  · extract_lets s₁ s₂
    refine (onward_startCmd i.op m s).trans (Keeps.onward (s := s₁) ?_)
    have h₂ : Keeps s₁ s₂ := by simp [s₂]
    have hr := h₂.trans (hb s₂)
    split
    · simp
    · split
      · next e =>
        rw [e, Reply.state_done] at hr
        (repeat' split) <;> simp [h₂, hr]
      · next e =>
        rw [e, Reply.state_later] at hr
        split <;> simp [h₂, hr]

theorem onward_dropTail (k : Nat) (s : State) : Onward s (dropTail k s) := by
  unfold dropTail
  extract_lets n
  split
  · exact .refl s
  · exact (tells_respond ..).keeps.onward.after rfl rfl

theorem onward_enterRing (p : Path) (m : Msg) (s : State) : Onward s (enterRing p m s) := by
  unfold enterRing
  extract_lets s₁ s₂ s₃
  have h₁ : Onward s s₁ := Keeps.onward (by simp [s₁])
  split
  · exact h₁.trans (Keeps.onward (by simp [s₂]))
  · have h₃ : Onward s s₃ := h₁.trans (.of_eq rfl rfl)
    split
    · exact h₃
    · exact h₃.trans (onward_dropTail 1 s₃)

theorem onward_enterPart (p : Path) (m : Msg) (k : Nat) (s : State) : Onward s (enterPart p m k s) := by
  unfold enterPart
  extract_lets s₁ s₂
  have h₁ : Onward s s₁ := Keeps.onward (by simp [s₁])
  split
  · exact h₁.trans (onward_dropTail k s₁)
  split
  · exact h₁.trans (Keeps.onward (by simp [s₂]))
  · exact h₁.trans (.of_eq rfl rfl)

theorem onward_arrive (p : Path) (m : Msg) (s : State) : Onward s (arrive p m s) := by
  unfold arrive
  split
  · exact .refl s
  split
  · exact Keeps.onward (by simp)
  split
  · next t k _ =>
    extract_lets s₁
    have h₁ : Onward s s₁ := onward_dropTail k s
    split_ifs
    · exact onward_enterPart p m k s
    · exact h₁.trans (Keeps.onward (by simp))
    · exact h₁.trans (onward_enterRing p m s₁)
  · split_ifs
    · exact Keeps.onward (by simp)
    · exact onward_enterRing p m s

/-! ### Stations, lanes, frames in flight, slow requests (03, 05) -/

@[simp] theorem keeping_modSt (n : Nat) (f : Station → Station) : Keeping (modSt n f) := .of fun s => by simp [modSt]
@[simp] theorem keeping_modScan (n : Nat) (f : Rise → Rise) : Keeping (modScan n f) := .of fun s => by simp [modScan]
@[simp] theorem keeping_modEms (n : Nat) (f : Ems → Ems) : Keeping (modEms n f) := .of fun s => by simp [modEms]
@[simp] theorem keeping_modLane (l : Nat) (f : Lane → Lane) : Keeping (modLane l f) := .of fun s => by simp [modLane]
@[simp] theorem keeping_modAxis (a : Nat) (f : Axis → Axis) : Keeping (modAxis a f) := .of fun s => by simp [modAxis]
@[simp] theorem keeping_modGear (a : Nat) (f : Gear → Gear) : Keeping (modGear a f) := .of fun s => by simp [modGear]

@[simp] theorem keeping_modLoop (k : Nat) (f : LoopSlot → LoopSlot) : Keeping (modLoop k f) := .of fun s => by
  simp [modLoop]

@[simp] theorem keeping_modNode (n : Nat) (f : Node → Node) : Keeping (modNode n f) := .of fun s => by simp [modNode]
@[simp] theorem keeping_modRail (r : Nat) (f : Rail → Rail) : Keeping (modRail r f) := .of fun s => by simp [modRail]

@[simp] theorem keeping_modFlight (serial : Nat) (f : Flight → Flight) : Keeping (modFlight serial f) := .of fun s => by
  simp [modFlight]

@[simp] theorem keeping_failLayer (serial n k cause : Nat) : Keeping (failLayer serial n k cause) := .of fun s => by
  simp [failLayer]

@[simp] theorem keeping_failStation (n cause : Nat) : Keeping (failStation n cause) := .of fun s => by
  simp [failStation]

@[simp] theorem keeping_spoilAll (cause : Nat) : Keeping (spoilAll cause) := .of fun s => by simp [spoilAll]

@[simp] theorem keeping_markEmitter (n since : Nat) : Keeping (markEmitter n since) := .of fun s => by
  simp [markEmitter]

@[simp] theorem keeping_setPair (st : PairSt) : Keeping (setPair st) := .of fun s => by simp [setPair]
@[simp] theorem keeping_askStop (w : HoldSrc) : Keeping (askStop w) := .of fun s => by simp [askStop]
@[simp] theorem keeping_addReq (src : Nat) (v : Rat) : Keeping (addReq src v) := .of fun s => by simp [addReq]
@[simp] theorem keeping_dropReq (src : Nat) : Keeping (dropReq src) := .of fun s => by simp [dropReq]
@[simp] theorem keeping_askReduced : Keeping askReduced := .of fun s => by simp [askReduced]

/-! ### Rails and reset outputs (15) -/

@[simp] theorem keeping_assertResets : Keeping assertResets := .of fun s => by simp [assertResets]
@[simp] theorem keeping_setRail (r : Nat) (st : RailState) : Keeping (setRail r st) := .of fun s => by simp [setRail]
@[simp] theorem keeping_disableRail (r : Nat) : Keeping (disableRail r) := .of fun s => by simp [disableRail]

@[simp] theorem keeping_disableReady : Keeping disableReady :=
  .of fun s => Keeps.foldl (fun t r => .step (.refl t) (keeping_disableRail r ..)) _ s

@[simp] theorem keeping_dropRail (r : Nat) : Keeping (dropRail r) := .of fun s => by
  unfold dropRail
  extract_lets s₁
  have h₁ : Keeps s s₁ := by simp [s₁]
  refine .step (h₁.trans ?_) (keeping_disableReady ..)
  exact Keeps.foldl (fun t q => by split <;> simp) _ _

/-! ### Withdrawal from service (R30, R114, R198 to R202, R242, R260, R281) -/

@[simp] theorem keeping_beginStore : Keeping beginStore := .of fun s => by simp [beginStore]
@[simp] theorem keeping_requestStore : Keeping requestStore := .of fun s => by simp [requestStore]

@[simp] theorem keeping_modEm (n e : Nat) (f : Emitter → Emitter) : Keeping (modEm n e f) := .of fun s => by
  simp [modEm]

@[simp] theorem keeping_stationFault (n cls cause : Nat) : Keeping (stationFault n cls cause) := .of fun s => by
  simp [stationFault]

@[simp] theorem keeping_stationReady (n : Nat) : Keeping (stationReady n) := .of fun s => by simp [stationReady]

@[simp] theorem keeping_retireEmitter (n e : Nat) : Keeping (retireEmitter n e) := .of fun s => by
  simp only [retireEmitter]
  (repeat' split) <;> simp

@[simp] theorem keeping_loseLane (l n : Nat) : Keeping (loseLane l n) := .of fun s => by simp [loseLane]
@[simp] theorem keeping_retireLane (l : Nat) : Keeping (retireLane l) := .of fun s => by simp [retireLane]

@[simp] theorem keeping_faultAbove (i cls : Nat) : Keeping (faultAbove i cls) := .of fun s => by
  unfold faultAbove
  split <;> simp

@[simp] theorem keeping_retireSensor (h : Handle) (back : Bool) : Keeping (retireSensor h back) := .of fun s => by
  simp [retireSensor]

@[simp] theorem keeping_stopAxis (a : Nat) : Keeping (stopAxis a) := .of fun s => by simp [stopAxis]

@[simp] theorem keeping_retireAxis (h : Handle) : Keeping (retireAxis h) := .of fun s => by
  unfold retireAxis
  split
  · refine .step ?_ (keeping_faultAbove ..)
    split
    · split_ifs <;> simp
    · simp
  · simp

@[simp] theorem keeping_disableLoop (k : Nat) : Keeping (disableLoop k) := .of fun s => by simp [disableLoop]
@[simp] theorem keeping_dropCascade (k : Nat) : Keeping (dropCascade k) := .of fun s => by simp [dropCascade]
@[simp] theorem keeping_retireSlot (k : Nat) : Keeping (retireSlot k) := .of fun s => by simp [retireSlot]

@[simp] theorem keeping_retireLoop (h : Handle) (sel : Nat) : Keeping (retireLoop h sel) := .of fun s => by
  unfold retireLoop
  split <;> simp

@[simp] theorem keeping_retireNode (h : Handle) : Keeping (retireNode h) := .of fun s => by
  unfold retireNode
  extract_lets s₁
  have h₁ : Keeps s s₁ := by unfold s₁; split <;> simp
  exact h₁.trans (Keeps.foldl (fun t i => by extract_lets u t₁; split <;> simp [t₁]) _ _)

@[simp] theorem keeping_retireUnit (i : Nat) : Keeping (retireUnit · i) := .of fun s => by
  simp only [retireUnit]
  (repeat' split) <;> simp

@[simp] theorem keeping_retireGroup (g : Nat) : Keeping (retireGroup g) := .of fun s => by simp [retireGroup]
@[simp] theorem keeping_disableHv : Keeping disableHv := .of fun s => by simp [disableHv]

/-! ### The fault collector: records, classes, reactions (17) -/

@[simp] theorem keeping_lockout (keep : Bool) : Keeping (lockout keep) := .of fun s => by
  unfold lockout
  extract_lets s₁ s₂ s₃ s₄ s₅
  have h₄ : Keeps s s₄ := by simp [s₄, s₃, s₂, s₁]
  refine .step ?_ (keeping_galFlush ..)
  unfold s₅
  split_ifs <;> simp [h₄]

@[simp] theorem keeping_retireOne (code : Nat) (h : Handle) (sel : Nat) :
    Keeping (retireOne code h sel) := .of fun s => by
  simp only [retireOne]
  (repeat' split) <;> simp

@[simp] theorem keeping_retireChannel (code : Nat) (h : Handle) (sel : Nat) :
    Keeping (retireChannel code h sel) := .of fun s => by
  unfold retireChannel
  split <;> simp

@[simp] theorem keeping_react (cls code : Nat) (h : Handle) (sel : Nat) :
    Keeping (react cls code h sel) := .of fun s => by
  unfold react
  split <;> simp

@[simp] theorem keeping_tellFault (type i : Nat) : Keeping (tellFault type i) := .of fun s => by simp [tellFault]

@[simp] theorem keeping_raiseClass (i cls code : Nat) : Keeping (raiseClass i cls code) := .of fun s => by
  simp [raiseClass]

@[simp] theorem keeping_openRecord (i cls code : Nat) (h : Handle) (sel detail : Nat) :
    Keeping (openRecord i cls code h sel detail) := .of fun s => by
  simp [openRecord]

@[simp] theorem keeping_mergeRecord (i cls code : Nat) (h : Handle) :
    Keeping (mergeRecord i cls code h) := .of fun s => by
  simp [mergeRecord]

@[simp] theorem keeping_addTransient (h : Handle) (sel : Nat) : Keeping (addTransient h sel) := .of fun s => by
  simp [addTransient]

@[simp] theorem keeping_raiseAs (cls fail code : Nat) (h : Handle) (sel detail : Nat) :
    Keeping (raiseAs cls fail code h sel detail) := .of fun s => by
  unfold raiseAs
  (repeat' split) <;> simp

@[simp] theorem keeping_raise (code : Nat) (h : Handle) (sel detail : Nat) :
    Keeping (raise code h sel detail) := .of fun s => by
  simp [raise]

@[simp] theorem keeping_testFailed (i : Nat) : Keeping (testFailed i) := .of fun s => by simp [testFailed]

@[simp] theorem keeping_testPassed (i : Nat) : Keeping (testPassed i) := .of fun s => by
  simp only [testPassed]
  (repeat' split) <;> simp

@[simp] theorem keeping_testEnded (pass : Bool) (h : Handle) (sel : Nat) :
    Keeping (testEnded pass h sel) := .of fun s => by
  unfold testEnded
  split <;> simp

@[simp] theorem keeping_codeTestEnded (pass : Bool) (h : Handle) (code : Nat) :
    Keeping (codeTestEnded pass h code) := .of fun s => by
  unfold codeTestEnded
  split <;> simp

@[simp] theorem keeping_giveUpStation (n : Nat) : Keeping (giveUpStation n) := .of fun s => by simp [giveUpStation]
@[simp] theorem keeping_closeRecord (i : Nat) : Keeping (closeRecord i) := .of fun s => by simp [closeRecord]
@[simp] theorem keeping_closeIfCleared (i : Nat) : Keeping (closeIfCleared i) := .of fun s => by simp [closeIfCleared]

@[simp] theorem keeping_causeGone (h : Handle) (code : Nat) : Keeping (causeGone h code) := .of fun s => by
  unfold causeGone
  split <;> simp

/-! ### Beam lanes (08) -/

@[simp] theorem keeping_setLasers : Keeping setLasers := .of fun s => by simp [setLasers]
@[simp] theorem keeping_darken : Keeping darken := .of fun s => by simp [darken]

@[simp] theorem keeping_launchSide (l : Nat) (m : SideMsg) : Keeping (launchSide l m) := .of fun s => by
  simp [launchSide]

@[simp] theorem keeping_sendSide (l kind : Nat) (data : List Nat) : Keeping (sendSide l kind data) := .of fun s => by
  simp [sendSide]

@[simp] theorem keeping_pumpSide (k l : Nat) : Keeping (pumpSide k l) := .of fun s => by
  induction k generalizing s with
  | zero => exact .refl s
  | succ k ih =>
    unfold pumpSide
    split
    · split_ifs
      · exact .trans (by simp) (ih _)
      · exact .refl s
    · exact .refl s

@[simp] theorem keeping_writeTables (l : Nat) : Keeping (writeTables l) := .of fun s => by simp [writeTables]

@[simp] theorem keeping_startTraining (l : Nat) (initial : Bool) : Keeping (startTraining l initial) := .of fun s => by
  simp [startTraining]

@[simp] theorem keeping_reenter (n p : Nat) : Keeping (reenter n p) := .of fun s => by simp [reenter]
@[simp] theorem keeping_retrain (n l p : Nat) : Keeping (retrain n l p) := .of fun s => by simp [retrain]
@[simp] theorem keeping_acquire (n : Nat) : Keeping (acquire n) := .of fun s => by simp [acquire]

@[simp] theorem keeping_leaveDark (l : Nat) : Keeping (leaveDark l) := .of fun s => by
  simp only [leaveDark]
  (repeat' split) <;> simp

@[simp] theorem keeping_leaveAllDark : Keeping leaveAllDark := .of fun s => by simp [leaveAllDark]
@[simp] theorem keeping_failExposure (n : Nat) : Keeping (failExposure n) := .of fun s => by simp [failExposure]
@[simp] theorem keeping_dropSweep (n : Nat) : Keeping (dropSweep n) := .of fun s => by simp [dropSweep]

@[simp] theorem keeping_orderRetrain (l code detail : Nat) : Keeping (orderRetrain l code detail) := .of fun s => by
  simp only [orderRetrain]
  (repeat' split) <;> simp

@[simp] theorem keeping_statMark (n : Nat) : Keeping (statMark n) := .of fun s => by
  unfold statMark
  split <;> simp

@[simp] theorem keeping_startBer (l : Nat) (cmd : Bool) : Keeping (startBer l cmd) := .of fun s => by
  unfold startBer
  split <;> simp

/-! ### The unit tree and fan-outs (R28, R29, R400) -/

@[simp] theorem keeping_freeEntries (before : List Nat) (old : State) :
    Keeping (freeEntries before old) := .of fun s => by
  simp [freeEntries]

theorem Keeps.changeSets {f : Cfg → Cfg} (h : s.cfg.highVer ≤ (f s.cfg).highVer) : Keeps s (changeSets f s) :=
  .step (.modCfg h) (keeping_freeEntries ..)

@[simp] theorem keeping_changeSets {f : Cfg → Cfg} (h : ∀ c, c.highVer ≤ (f c).highVer) : Keeping (changeSets f) :=
  .of fun _ => .changeSets (h _)

@[simp] theorem keeping_stageUnit (i : Nat) (u : UnitDesc) : Keeping (stageUnit i u) := .of fun s => by
  simp [stageUnit]

theorem keeps_bodyUnitCreate (m : Cmd) (s : State) : Keeps s (bodyUnitCreate m s).state := by
  simp only [bodyUnitCreate]
  (repeat' split) <;> simp

theorem keeps_bodyUnitDelete (m : Cmd) (s : State) : Keeps s (bodyUnitDelete m s).state := by
  unfold bodyUnitDelete
  split <;> simp

theorem keeps_bodyUnitMove (m : Cmd) (s : State) : Keeps s (bodyUnitMove m s).state := by
  simp only [bodyUnitMove]
  (repeat' split) <;> simp

theorem keeps_bodyUnitSet (m : Cmd) (s : State) : Keeps s (bodyUnitSet m s).state := by
  simp only [bodyUnitSet]
  (repeat' split) <;> simp

@[simp] theorem keeping_enableLoop (k : Nat) : Keeping (enableLoop k) := .of fun s => by simp [enableLoop]

@[simp] theorem keeping_enableUnit (i : Nat) : Keeping (enableUnit i) := .of fun s => by
  simp only [enableUnit]
  split <;> simp

@[simp] theorem keeping_disableUnit (i : Nat) : Keeping (disableUnit i) := .of fun s => by
  simp only [disableUnit]
  split <;> simp

@[simp] theorem keeping_fanDone (f : FanOut) : Keeping (fanDone f) := .of fun s => by simp [fanDone]
@[simp] theorem keeping_putFan (f : FanOut) : Keeping (putFan f) := .of fun s => by simp [putFan]

@[simp] theorem keeping_wantRail (i : Nat) : Keeping (wantRail i) := .of fun s => by
  unfold wantRail
  split
  · split_ifs <;> simp
  · exact .refl s

@[simp] theorem keeping_runFan (k : Nat) (f : FanOut) : Keeping (runFan k f) := .of fun s => by
  induction k generalizing f s with
  | zero => simp [runFan]
  | succ k ih =>
    unfold runFan
    split
    · simp
    · simp [(ih _ _).iff]

@[simp] theorem keeping_wakeFan (f : FanOut) : Keeping (wakeFan · f) := .of fun s => by
  unfold wakeFan
  split <;> simp

@[simp] theorem keeping_wakeFans : Keeping wakeFans := .of fun s => by simp [wakeFans]
theorem keeps_bodyUnitEnable (m : Cmd) (s : State) : Keeps s (bodyUnitEnable m s).state := by simp [bodyUnitEnable]
theorem keeps_bodyUnitDisable (m : Cmd) (s : State) : Keeps s (bodyUnitDisable m s).state := by simp [bodyUnitDisable]
@[simp] theorem keeping_startFans : Keeping startFans := .of fun s => by simp [startFans]

theorem keeps_bodyUnitRead (m : Cmd) (s : State) : Keeps s (bodyUnitRead m s).state := by
  unfold bodyUnitRead
  split <;> simp

theorem keeps_bodyUnitLookup (m : Cmd) (s : State) : Keeps s (bodyUnitLookup m s).state := by
  unfold bodyUnitLookup
  (repeat' split) <;> simp

theorem keeps_bodyUnitChildren (m : Cmd) (s : State) : Keeps s (bodyUnitChildren m s).state := by
  simp [bodyUnitChildren]

/-! ### The maintenance scheduler's counts -/

@[simp] theorem keeping_modAct (k : Nat) (h : Handle) (f : Act → Act) : Keeping (modAct k h f) := .of fun s => by
  simp [modAct]

@[simp] theorem keeping_askGap (k : Nat) (h : Handle) : Keeping (askGap k h) := .of fun s => by simp [askGap]
@[simp] theorem keeping_judgeAct (k : Nat) (h : Handle) : Keeping (judgeAct k h) := .of fun s => by simp [judgeAct]
@[simp] theorem keeping_judgeActs : Keeping judgeActs := .of fun s => by simp [judgeActs]
@[simp] theorem keeping_bumpAct (k : Nat) (h : Handle) : Keeping (bumpAct k h) := .of fun s => by simp [bumpAct]
@[simp] theorem keeping_countFrame (n : Nat) : Keeping (countFrame n) := .of fun s => by simp [countFrame]
@[simp] theorem keeping_askUrgent (k : Nat) (h : Handle) : Keeping (askUrgent k h) := .of fun s => by simp [askUrgent]

@[simp] theorem keeping_endAct (k : Nat) (h : Handle) (pass : Bool) : Keeping (endAct k h pass) := .of fun s => by
  simp [endAct]

@[simp] theorem keeping_landingPassed : Keeping landingPassed := .of fun s => by simp [landingPassed]

@[simp] theorem keeping_gapInserted : Keeping gapInserted := .of fun s => by
  unfold gapInserted
  split <;> simp

/-! ### Configuration sets (R33 to R39, R401) -/

@[simp] theorem keeping_configRecord (old new state cls role : Nat) :
    Keeping (configRecord old new state cls role) := .of fun s => by
  simp [configRecord]

@[simp] theorem keeping_reloadLoops (old new : CfgSet) (phases : List (Nat × Nat × Nat)) :
    Keeping (reloadLoops old new phases) := .of fun s => by
  simp [reloadLoops]

@[simp] theorem keeping_reloadMap : Keeping reloadMap := .of fun s => by simp [reloadMap]

@[simp] theorem keeping_setCovered (i : Nat) (b : Bool) : Keeping (setCovered i b) := .of fun s => by
  simp [setCovered]

@[simp] theorem keeping_coverLane (base : CfgSet) (n : Nat) : Keeping (coverLane base n) := .of fun s => by
  unfold coverLane
  split <;> simp

@[simp] theorem keeping_newRoute (base : CfgSet) (n : Nat) : Keeping (newRoute base n) := .of fun s => by
  unfold newRoute
  split <;> simp

@[simp] theorem keeping_reloadRoutes (base : CfgSet) : Keeping (reloadRoutes base) := .of fun s => by
  simp [reloadRoutes]

@[simp] theorem keeping_leaveThread : Keeping leaveThread := .of fun s => by simp [leaveThread]
@[simp] theorem keeping_effectDone (p : Pend) : Keeping (effectDone p) := .of fun s => by simp [effectDone]

@[simp] theorem keeping_effectPart (owner : Option Nat) : Keeping (effectPart owner) := .of fun s => by
  unfold effectPart
  (repeat' split) <;> simp

@[simp] theorem keeping_takeEffect : Keeping takeEffect := .of fun s => by
  unfold takeEffect
  split <;> simp

@[simp] theorem keeping_effectIfIdle : Keeping effectIfIdle := .of fun s => by
  unfold effectIfIdle
  split <;> simp

@[simp] theorem keeping_trainNew (base c : CfgSet) : Keeping (trainNew base c) := .of fun s => by simp [trainNew]

@[simp] theorem keeping_acceptSet (c : CfgSet) (revert : Bool) (role : Nat) :
    Keeping (acceptSet c revert role) := .of fun s => by
  unfold acceptSet
  extract_lets v old base c' cls turn s₁ slot s₂ s₃ s₄
  have h₁ : Keeps s s₁ := by simp [s₁]
  have h₂ : Keeps s s₂ := h₁.trans (.modCfg (Nat.le_succ s.cfg.highVer))
  have h₃ : Keeps s s₃ := by unfold s₃; split_ifs <;> simp [h₂]
  simp [s₄, h₃]

@[simp] theorem state_acceptReply (s : State) : (acceptReply s).state = effectIfIdle s := rfl
theorem keeps_bodyCfgStageBegin (s : State) : Keeps s (bodyCfgStageBegin s).state := by simp [bodyCfgStageBegin]

theorem keeps_bodyCfgWrite (m : Cmd) (s : State) : Keeps s (bodyCfgWrite m s).state := by
  unfold bodyCfgWrite
  (repeat' split) <;> simp

theorem keeps_bodyCfgRead (m : Cmd) (s : State) : Keeps s (bodyCfgRead m s).state := by
  unfold bodyCfgRead
  (repeat' split) <;> simp

theorem keeps_bodyCfgStageAbort (s : State) : Keeps s (bodyCfgStageAbort s).state := by simp [bodyCfgStageAbort]

theorem keeps_bodyCfgCommit (role : Nat) (m : Cmd) (s : State) : Keeps s (bodyCfgCommit role m s).state := by
  unfold bodyCfgCommit
  split <;> simp

theorem keeps_bodyCfgRevert (role : Nat) (m : Cmd) (s : State) : Keeps s (bodyCfgRevert role m s).state := by
  unfold bodyCfgRevert
  split
  · simp
  · split <;> simp

theorem keeps_bodyCfgStatus (s : State) : Keeps s (bodyCfgStatus s).state := by simp [bodyCfgStatus]

/-! ### The spool's layout and its members' queues (06) -/

@[simp] theorem keeping_modDesc (id : BandId) (f : BandDesc → BandDesc) : Keeping (modDesc id f) := .of fun s => by
  simp [modDesc]

@[simp] theorem keeping_modMember (c : Nat) (f : Member → Member) : Keeping (modMember c f) := .of fun s => by
  simp [modMember]

@[simp] theorem keeping_serve (c k : Nat) : Keeping (serve c k) := .of fun s => by
  induction k generalizing s with
  | zero => exact .refl s
  | succ k ih =>
    unfold serve
    split
    · exact .refl s
    · split_ifs
      · exact .refl s
      · split
        · exact .refl s
        · exact .trans (by simp) (ih _)

@[simp] theorem keeping_serveAll : Keeping serveAll := .of fun s => by simp [serveAll]
@[simp] theorem keeping_enqueue (c : Nat) (q : NvmeCmd) : Keeping (enqueue c q) := .of fun s => by simp [enqueue]

@[simp] theorem keeping_issueAll (op : NvmeOp) (key : Int) (d : BandDesc) :
    Keeping (issueAll op key d) := .of fun s => by
  simp [issueAll]

@[simp] theorem keeping_dropCmds (p : NvmeCmd → Bool) : Keeping (dropCmds p) := .of fun s => by simp [dropCmds]

@[simp] theorem keeping_writePage (op : NvmeOp) (g : Nat) (data : List Byte) :
    Keeping (writePage op g data) := .of fun s => by
  simp [writePage]

@[simp] theorem keeping_onEvery (q : NvmeCmd) : Keeping (onEvery q) := .of fun s => by simp [onEvery]

@[simp] theorem keeping_writeSuper (copy : Nat) (second : Bool) : Keeping (writeSuper copy second) := .of fun s => by
  simp [writeSuper]

@[simp] theorem keeping_superUpdate (f : Superblock → Superblock) : Keeping (superUpdate f) := .of fun s => by
  simp only [superUpdate]
  split <;> simp

@[simp] theorem keeping_advanceSuper : Keeping advanceSuper := .of fun s => by
  simp only [advanceSuper]
  (repeat' split) <;> simp

@[simp] theorem keeping_beginBatch : Keeping beginBatch := .of fun s => by simp [beginBatch]
@[simp] theorem keeping_batchDirWrites : Keeping batchDirWrites := .of fun s => by simp [batchDirWrites]
@[simp] theorem keeping_batchMapWrites : Keeping batchMapWrites := .of fun s => by simp [batchMapWrites]

@[simp] theorem keeping_batchEnds : Keeping batchEnds := .of fun s => by
  simp only [batchEnds]
  (repeat' split) <;> simp

@[simp] theorem keeping_advanceBatch : Keeping advanceBatch := .of fun s => by simp [advanceBatch]
@[simp] theorem keeping_unmountSpool : Keeping unmountSpool := .of fun s => by simp [unmountSpool]

/-! ### The frame directory and ingest credit (R97, R130 to R134) -/

@[simp] theorem keeping_modJob (id : Nat) (f : Job → Job) : Keeping (modJob id f) := .of fun s => by simp [modJob]

@[simp] theorem keeping_freeFrame (job frame : Nat) : Keeping (freeFrame job frame) := .of fun s => by
  simp [freeFrame]

@[simp] theorem keeping_returnCredit (n : Nat) : Keeping (returnCredit n) := .of fun s => by simp [returnCredit]

@[simp] theorem keeping_unstage (id : BandId) : Keeping (unstage id) := .of fun s => by
  unfold unstage
  split <;> simp

@[simp] theorem keeping_bandEvent (code : Nat) (id : BandId) (why : Nat) :
    Keeping (bandEvent code id why) := .of fun s => by
  simp [bandEvent]

@[simp] theorem keeping_rejectBand (id : BandId) (why : Nat) : Keeping (rejectBand id why) := .of fun s => by
  simp [rejectBand]

/-! ### Jobs (R403) -/

theorem keeps_bodyJobSubmit (m : Cmd) (s : State) : Keeps s (bodyJobSubmit m s).state := by
  unfold bodyJobSubmit
  (repeat' split) <;> simp

theorem keeps_bodyJobCancel (m : Cmd) (s : State) : Keeps s (bodyJobCancel m s).state := by
  unfold bodyJobCancel
  split <;> simp

@[simp] theorem keeping_dropPlan (job : Nat) : Keeping (dropPlan job) := .of fun s => by simp [dropPlan]

theorem keeps_bodyJobHold (m : Cmd) (s : State) : Keeps s (bodyJobHold m s).state := by
  unfold bodyJobHold
  split <;> simp

theorem keeps_bodyJobRelease (m : Cmd) (s : State) : Keeps s (bodyJobRelease m s).state := by
  unfold bodyJobRelease
  split <;> simp

theorem keeps_bodyJobStatus (m : Cmd) (s : State) : Keeps s (bodyJobStatus m s).state := by
  unfold bodyJobStatus
  split <;> simp

/-! ### The ledger and the gallery (R365 to R371) -/

@[simp] theorem keeping_releaseLedger : Keeping releaseLedger := .of fun s => by simp [releaseLedger]

@[simp] theorem keeping_writeLedgerPage : Keeping writeLedgerPage := .of fun s => by
  unfold writeLedgerPage
  (repeat' split) <;> simp

@[simp] theorem keeping_ledgerWritten : Keeping ledgerWritten := .of fun s => by
  unfold ledgerWritten
  split <;> simp

@[simp] theorem keeping_sendRecords (k : Nat) (rs : List LedgerRec) : Keeping (sendRecords k rs) := .of fun s => by
  induction k generalizing rs s with
  | zero => exact .refl s
  | succ k ih => simp [sendRecords, (ih _ _).iff]

@[simp] theorem keeping_sendLedger : Keeping sendLedger := .of fun s => by
  simp only [sendLedger]
  (repeat' split) <;> simp

@[simp] theorem keeping_ledgerLevel : Keeping ledgerLevel := .of fun s => by simp [ledgerLevel]

@[simp] theorem keeping_reserveLedger (r : LedgerRec) : Keeping (reserveLedger r) := .of fun s => by
  simp [reserveLedger]

@[simp] theorem keeping_afterClose : Keeping afterClose := .of fun s => by simp [afterClose]

@[simp] theorem keeping_closeLedger (serial : Nat) (f : LedgerRec → LedgerRec) :
    Keeping (closeLedger serial f) := .of fun s => by
  simp [closeLedger]

@[simp] theorem keeping_ackLedger (a w : Nat) : Keeping (ackLedger a w) := .of fun s => by simp [ackLedger]
theorem keeps_bodyGalRead (m : Cmd) (s : State) : Keeps s (bodyGalRead m s).state := by simp [bodyGalRead]
theorem keeps_bodyGalStatus (s : State) : Keeps s (bodyGalStatus s).state := by simp [bodyGalStatus]
theorem keeps_bodyGalExport (m : Cmd) (s : State) : Keeps s (bodyGalExport m s).state := by simp [bodyGalExport]

@[simp] theorem keeping_clearGallery (seq : Nat) : Keeping (clearGallery seq) := .of fun s => by
  unfold clearGallery
  extract_lets
  refine .modGal ?_
  simp only
  omega

theorem keeps_bodyGalClear (m : Cmd) (s : State) : Keeps s (bodyGalClear m s).state := by simp [bodyGalClear]

theorem keeps_bodyLdgRead (m : Cmd) (s : State) : Keeps s (bodyLdgRead m s).state := by
  unfold bodyLdgRead
  (repeat' split) <;> simp

theorem keeps_bodyLdgAck (m : Cmd) (s : State) : Keeps s (bodyLdgAck m s).state := by simp [bodyLdgAck]
theorem keeps_bodyLdgStatus (s : State) : Keeps s (bodyLdgStatus s).state := by simp [bodyLdgStatus]

/-! ### The newel profile (R49 to R61) -/

@[simp] theorem keeping_planTo (v : Rat) : Keeping (planTo v) := .of fun s => by simp [planTo]

@[simp] theorem keeping_advancePlan : Keeping advancePlan := .of fun s => by
  simp only [advancePlan]
  split <;> simp

@[simp] theorem keeping_planToward (w : Rat) : Keeping (planToward w) := .of fun s => by
  simp only [planToward]
  split <;> simp

@[simp] theorem keeping_lowerBy (x v : Rat) : Keeping (lowerBy x v) := .of fun s => by simp [lowerBy]
@[simp] theorem keeping_dropLater : Keeping dropLater := .of fun s => by simp [dropLater]

@[simp] theorem keeping_endDwell : Keeping endDwell := .of fun s => by
  unfold endDwell
  split <;> simp

@[simp] theorem keeping_postSpeed : Keeping postSpeed := .of fun s => by simp [postSpeed]
@[simp] theorem keeping_newTarget (v : Rat) : Keeping (newTarget v) := .of fun s => by simp [newTarget]
@[simp] theorem keeping_lowerFor (ds : List (Rat × Rat)) : Keeping (lowerFor ds) := .of fun s => by simp [lowerFor]

/-! ### Gearing, moves, solenoids (10, 12) -/

@[simp] theorem keeping_modFollower (f : Follower) (g : Gear → Gear) : Keeping (modFollower f g) := .of fun s => by
  unfold modFollower
  split <;> simp

@[simp] theorem keeping_freePolygons : Keeping freePolygons :=
  .of fun s => Keeps.foldl (fun t n => by split <;> simp) _ s

@[simp] theorem keeping_threadPostDivs : Keeping threadPostDivs := .of fun s => by
  refine Keeps.foldl (fun t n => ?_) _ s
  extract_lets p
  split_ifs
  · exact .refl t
  · split <;> simp

@[simp] theorem keeping_enterThread : Keeping enterThread := .of fun s => by simp [enterThread]
@[simp] theorem keeping_fallToThread : Keeping fallToThread := .of fun s => by simp [fallToThread]
@[simp] theorem keeping_threadCheck : Keeping threadCheck := .of fun s => by simp [threadCheck]
@[simp] theorem keeping_planRest (v : Rat) : Keeping (planRest v) := .of fun s => by simp [planRest]

@[simp] theorem keeping_beginStop : Keeping beginStop := .of fun s => by
  unfold beginStop
  (repeat' split) <;> simp

theorem keeps_bodyMotPressStop (m : Cmd) (s : State) : Keeps s (bodyMotPressStop m s).state := by
  simp [bodyMotPressStop]

theorem keeps_bodyMotPressThread (m : Cmd) (s : State) : Keeps s (bodyMotPressThread m s).state := by
  simp [bodyMotPressThread]

theorem keeps_bodyMotPressRun (m : Cmd) (s : State) : Keeps s (bodyMotPressRun m s).state := by simp [bodyMotPressRun]
theorem keeps_bodyMotJog (m : Cmd) (s : State) : Keeps s (bodyMotJog m s).state := by simp [bodyMotJog]

theorem keeps_bodyMotHome (m : Cmd) (s : State) : Keeps s (bodyMotHome m s).state := by
  unfold bodyMotHome
  split <;> simp

theorem keeps_bodyMotGearHold (m : Cmd) (s : State) : Keeps s (bodyMotGearHold m s).state := by
  unfold bodyMotGearHold
  split <;> simp

theorem keeps_bodyMotGearFree (m : Cmd) (s : State) : Keeps s (bodyMotGearFree m s).state := by
  unfold bodyMotGearFree
  split <;> simp

theorem keeps_bodyMotGearRegear (m : Cmd) (s : State) : Keeps s (bodyMotGearRegear m s).state := by
  unfold bodyMotGearRegear
  split <;> simp

theorem keeps_bodyMotRatio (m : Cmd) (s : State) : Keeps s (bodyMotRatio m s).state := by
  unfold bodyMotRatio
  split <;> simp

theorem keeps_bodyMotRatioCancel (m : Cmd) (s : State) : Keeps s (bodyMotRatioCancel m s).state := by
  unfold bodyMotRatioCancel
  split
  · simp
  · extract_lets g x
    split
    · simp
    · split
      · split <;> simp
      · simp

theorem keeps_bodyMotPhase (m : Cmd) (s : State) : Keeps s (bodyMotPhase m s).state := by
  unfold bodyMotPhase
  split <;> simp

theorem keeps_bodyMotMove (m : Cmd) (s : State) : Keeps s (bodyMotMove m s).state := by
  unfold bodyMotMove
  split <;> simp

theorem fireSol_keeps {k now ms tag : Nat} (h : fireSol k now ms tag s = some t) : Keeps s t := by
  unfold fireSol at h
  extract_lets x hold at h
  split_ifs at h
  · cases h; simp
  · split at h
    · simp at h
    · cases h; simp

@[simp] theorem keeping_releaseSol (k now : Nat) : Keeping (releaseSol k now) := .of fun s => by simp [releaseSol]

theorem keeps_bodyMotSolFire (m : Cmd) (s : State) : Keeps s (bodyMotSolFire m s).state := by
  unfold bodyMotSolFire
  split
  · extract_lets rel ready
    split
    · simp
    split
    · split <;> simp
    · split
      · simp
      · next t ht =>
        have ht : Keeps s t := fireSol_keeps ht
        split <;> simp [ht]
  · simp

/-! ### The loop engine (13) -/

@[simp] theorem keeping_drive (k : Nat) (u : F32) : Keeping (drive k u) := .of fun s => by
  simp only [drive]
  (repeat' split) <;> simp

@[simp] theorem keeping_takeOwner (k : Nat) : Keeping (takeOwner k) := .of fun s => by simp [takeOwner]
@[simp] theorem keeping_numericFault (k : Nat) : Keeping (numericFault k) := .of fun s => by simp [numericFault]

@[simp] theorem keeping_storeSample (k : Nat) (mode : LoopMode) (forced : Bool) (t : Law) (w y u us integ : F32) :
    Keeping (storeSample k mode forced t w y u us integ) := .of fun s => by
  simp [storeSample]

@[simp] theorem keeping_sampleLoop (k : Nat) : Keeping (sampleLoop k) := .of fun s => by
  unfold sampleLoop
  extract_lets x s₁ s₂ x₂ x' s₃ f mode v w t sum lo hi u0 u us T g
  have h₂ : Keeps s s₂ := by unfold s₂; split_ifs <;> simp [s₁]
  have h₃ : Keeps s s₃ := by simp [s₃, h₂]
  clear_value s₃ u0 g us u sum t w v
  split
  · simp
  split
  · split <;> simp [h₃]
  split
  · split <;> simp [h₃]
  · split <;> simp [h₃]

@[simp] theorem keeping_runLoops (j : Nat) : Keeping (runLoops j) := .of fun s => by simp [runLoops]

theorem keeps_bodyMotLoopMode (m : Cmd) (s : State) : Keeps s (bodyMotLoopMode m s).state := by
  unfold bodyMotLoopMode
  split <;> simp

theorem keeps_bodyMotLoopTarget (m : Cmd) (s : State) : Keeps s (bodyMotLoopTarget m s).state := by
  unfold bodyMotLoopTarget
  split <;> simp

theorem keeps_bodyMotLoopSwitch (m : Cmd) (s : State) : Keeps s (bodyMotLoopSwitch m s).state := by
  unfold bodyMotLoopSwitch
  (repeat' split) <;> simp

/-! ### The landing machine (03) -/

@[simp] theorem keeping_nextLanding (d : Int) : Keeping (nextLanding d) := .of fun s => by simp [nextLanding]

@[simp] theorem keeping_holdJob (j frame reason : Nat) : Keeping (holdJob j frame reason) := .of fun s => by
  simp [holdJob]

@[simp] theorem keeping_writeGap (j : Job) (f : Flight) (reason : Nat) :
    Keeping (writeGap j f reason) := .of fun s => by
  simp [writeGap]

@[simp] theorem keeping_admitFrame (j : Job) (f : Flight) (v : Rat) : Keeping (admitFrame j f v) := .of fun s => by
  simp [admitFrame]

@[simp] theorem keeping_attempt (j : Job) (f : Flight) : Keeping (attempt j f) := .of fun s => by
  unfold attempt
  (repeat' split) <;> simp

@[simp] theorem keeping_passMaintGap : Keeping passMaintGap := .of fun s => by simp [passMaintGap]

@[simp] theorem keeping_holdPolygon (n : Nat) : Keeping (holdPolygon n) := .of fun s => by
  unfold holdPolygon
  extract_lets s₁
  have h₁ : Keeps s s₁ := by simp [s₁]
  split
  · exact .step h₁ (keeping_modGear ..)
  · exact h₁

@[simp] theorem keeping_enterReduced : Keeping enterReduced := .of fun s => by simp [enterReduced]
@[simp] theorem keeping_leaveReduced : Keeping leaveReduced := .of fun s => by simp [leaveReduced]

@[simp] theorem keeping_slewHeld (n : Nat) : Keeping (slewHeld n) := .of fun s => by
  unfold slewHeld
  split
  · split_ifs <;> simp
  · exact .refl s

@[simp] theorem keeping_regearTurned (n : Nat) : Keeping (regearTurned n) := .of fun s => by
  unfold regearTurned
  split
  · simp
  split
  extract_lets g s₁ s₂
  have h₂ : Keeps s s₂ := by
    unfold s₂
    split
    · split_ifs <;> simp [s₁]
    · simp [s₁]
  split_ifs
  · exact .step h₂ (keeping_acquire ..)
  · exact .refl s

@[simp] theorem keeping_regearHeld : Keeping regearHeld := .of fun s => by simp [regearHeld]

@[simp] theorem keeping_restoreLane (n : Nat) : Keeping (restoreLane n) := .of fun s => by
  unfold restoreLane
  split <;> simp

@[simp] theorem keeping_riderNote (r : RiderL) : Keeping (riderNote r) := .of fun s => by simp [riderNote]

@[simp] theorem keeping_applyRider (sl : Int) (r : RiderL) : Keeping (applyRider sl r) := .of fun s => by
  unfold applyRider
  (repeat' split) <;> simp

@[simp] theorem keeping_pressPart : Keeping pressPart := .of fun s => by
  unfold pressPart
  split <;> simp

@[simp] theorem keeping_stationPart (n serial : Nat) : Keeping (stationPart n serial) := .of fun s => by
  unfold stationPart
  split <;> simp

@[simp] theorem keeping_boundLanding (n serial : Nat) : Keeping (boundLanding n serial) := .of fun s => by
  unfold boundLanding
  split <;> simp

@[simp] theorem keeping_landAt (n : Nat) (f : Flight) : Keeping (landAt n f) := .of fun s => by simp [landAt]

@[simp] theorem keeping_jobDone (id : Nat) : Keeping (jobDone id) := .of fun s => by
  unfold jobDone
  split <;> simp

@[simp] theorem keeping_afterFlights : Keeping afterFlights := .of fun s => by simp [afterFlights]
@[simp] theorem keeping_closeFlight (f : Flight) : Keeping (closeFlight f) := .of fun s => by simp [closeFlight]

@[simp] theorem keeping_regearAll (up : Bool) : Keeping (regearAll up) := .of fun s => by
  unfold regearAll
  refine .step (Keeps.foldl (fun t n => ?_) _ s) (keeping_modLand ..)
  split
  extract_lets t₁ p
  have h₁ : Keeps t t₁ := by unfold t₁; split <;> simp
  split
  · split_ifs <;> simp [h₁]
  · exact h₁

@[simp] theorem keeping_runStep (rates : List (Nat × Nat)) (drain : Nat) :
    Keeping (runStep rates drain) := .of fun s => by
  unfold runStep
  split <;> simp

@[simp] theorem keeping_askPostDiv (x : Rat) (up : Bool) : Keeping (askPostDiv x up) := .of fun s => by
  refine Keeps.foldl (fun t n => ?_) _ s
  extract_lets p
  split
  · split_ifs <;> simp
  · simp

@[simp] theorem keeping_dwellWork : Keeping dwellWork := .of fun s => by
  unfold dwellWork
  split <;> simp

@[simp] theorem keeping_governSpeed (rates : List (Nat × Nat)) (drain : Nat) :
    Keeping (governSpeed rates drain) := .of fun s => by
  simp [governSpeed]

/-! ### The emitter supervisor (09) -/

@[simp] theorem keeping_stationUp (n : Nat) : Keeping (stationUp n) := .of fun s => by simp [stationUp]
@[simp] theorem keeping_surveyPause (n : Nat) : Keeping (surveyPause n) := .of fun s => by simp [surveyPause]

@[simp] theorem keeping_missResult (n : Nat) (r : MeasReq) : Keeping (missResult n r) := .of fun s => by
  simp only [missResult]
  (repeat' split) <;> simp

@[simp] theorem keeping_surveyMark (n k : Nat) : Keeping (surveyMark n k) := .of fun s => by
  unfold surveyMark
  split <;> simp

@[simp] theorem keeping_startEmTest (n e : Nat) : Keeping (startEmTest n e) := .of fun s => by simp [startEmTest]

@[simp] theorem keeping_fillVacant (n slot : Nat) : Keeping (fillVacant n slot) := .of fun s => by
  simp only [fillVacant]
  (repeat' split) <;> simp

@[simp] theorem keeping_surveyDone (n : Nat) : Keeping (surveyDone n) := .of fun s => by simp [surveyDone]

@[simp] theorem keeping_testResult (n e cnt : Nat) (ok good : Bool) :
    Keeping (testResult n e cnt ok good) := .of fun s => by
  simp [testResult]

@[simp] theorem keeping_judge (n : Nat) (r : MeasReq) (good : Bool) : Keeping (judge n r good) := .of fun s => by
  simp only [judge]
  split <;> simp

@[simp] theorem keeping_askHead (n addr len : Nat) : Keeping (askHead n addr len) := .of fun s => by
  unfold askHead
  split <;> simp

@[simp] theorem keeping_readHead (n : Nat) : Keeping (readHead n) := .of fun s => by simp [readHead]

@[simp] theorem keeping_listRecord (serial : Nat) (mask : BitVec 36) (why : Nat) :
    Keeping (listRecord serial mask why) := .of fun s => by
  simp [listRecord]

@[simp] theorem keeping_newHead (n : Nat) : Keeping (newHead n) := .of fun s => by simp [newHead]

@[simp] theorem keeping_acceptHead (n : Nat) : Keeping (acceptHead n) := .of fun s => by
  simp only [acceptHead]
  (repeat' split) <;> simp

@[simp] theorem keeping_loseHead (n : Nat) : Keeping (loseHead n) := .of fun s => by simp [loseHead]

@[simp] theorem keeping_identityReply (n addr : Nat) (data : List Nat) (status : Nat) :
    Keeping (identityReply n addr data status) := .of fun s => by
  simp [identityReply]

@[simp] theorem keeping_presenceReply (n : Nat) (data : List Nat) (status : Nat) :
    Keeping (presenceReply n data status) := .of fun s => by
  simp [presenceReply]

/-! ### The beam word former -/

@[simp] theorem keeping_emitWord (l : Nat) (w : FwdWord) : Keeping (emitWord l w) := .of fun s => by simp [emitWord]

@[simp] theorem keeping_sideWord (l : Nat) (t : WordType) (data : Nat) : Keeping (sideWord l t data) := .of fun s => by
  simp [sideWord]

@[simp] theorem keeping_berData (l : Nat) : Keeping fun s => (berData l s).2 := .of fun s => by
  unfold berData
  split <;> simp

@[simp] theorem keeping_sweptWord (n l i : Nat) : Keeping (sweptWord n l i) := .of fun s => by simp [sweptWord]

@[simp] theorem keeping_laneWord (n l : Nat) : Keeping (laneWord n l) := .of fun s => by
  unfold laneWord
  extract_lets x
  split
  · exact .refl s
  · simp
  · split_ifs <;> simp
  · simp
  · split_ifs <;> simp

@[simp] theorem keeping_pixelPeriod (n : Nat) : Keeping (pixelPeriod n) := .of fun s => by simp [pixelPeriod]

/-! ### The print pipeline and the synthesiser (07) -/

@[simp] theorem keeping_bandFails (n : Nat) (b : RBand) (code : Nat) : Keeping (bandFails n b code) := .of fun s => by
  simp [bandFails]

@[simp] theorem keeping_beginDecode (n : Nat) (b : RBand) : Keeping (beginDecode n b) := .of fun s => by
  simp [beginDecode]

@[simp] theorem keeping_freeBand (n serial band : Nat) : Keeping (freeBand n serial band) := .of fun s => by
  simp [freeBand]

@[simp] theorem keeping_dropFailed (n : Nat) : Keeping (dropFailed n) := .of fun s => by simp [dropFailed]

@[simp] theorem keeping_consume (n : Nat) (f : Flight) (k : Nat) : Keeping (consume n f k) := .of fun s => by
  simp only [consume]
  (repeat' split) <;> simp

@[simp] theorem keeping_swapHalves (n serial k : Nat) (have_ : Bool) :
    Keeping (swapHalves n serial k have_) := .of fun s => by
  simp [swapHalves]

@[simp] theorem keeping_inExposure (n serial k : Nat) : Keeping (inExposure n serial k) := .of fun s => by
  simp [inExposure]

@[simp] theorem keeping_exposeBand (n : Nat) (f : Flight) (k : Nat) : Keeping (exposeBand n f k) := .of fun s => by
  simp [exposeBand]

@[simp] theorem keeping_rotateHalves (n : Nat) : Keeping (rotateHalves n) := .of fun s => by simp [rotateHalves]

@[simp] theorem keeping_continueBand (n : Nat) (f : Flight) (k : Nat) (odd : Bool) :
    Keeping (continueBand n f k odd) := .of fun s => by
  simp [continueBand]

@[simp] theorem keeping_leaveStation (n : Nat) (f : Flight) : Keeping (leaveStation n f) := .of fun s => by
  simp [leaveStation]

@[simp] theorem keeping_exposeFlight (n : Nat) (u : Int) (f : Flight) :
    Keeping (exposeFlight n u · f) := .of fun s => by
  simp [exposeFlight]

@[simp] theorem keeping_markFlight (n : Nat) (f : Flight) : Keeping (markFlight n · f) := .of fun s => by
  simp [markFlight]

@[simp] theorem keeping_installCal (n : Nat) : Keeping (installCal n) := .of fun s => by
  simp only [installCal]
  (repeat' split) <;> simp

@[simp] theorem keeping_calDone (n : Nat) : Keeping (calDone n) := .of fun s => by simp [calDone]

@[simp] theorem keeping_installAt (n : Nat) : Keeping (installAt n) := .of fun s => by
  simp only [installAt]
  (repeat' split) <;> simp

@[simp] theorem keeping_loseSos (n : Nat) : Keeping (loseSos n) := .of fun s => by
  simp only [loseSos]
  split <;> simp

@[simp] theorem keeping_badTimestamp (n : Nat) : Keeping (badTimestamp n) := .of fun s => by simp [badTimestamp]
@[simp] theorem keeping_facetLocked (n : Nat) : Keeping (facetLocked n) := .of fun s => by simp [facetLocked]
@[simp] theorem keeping_facetSample (n : Nat) : Keeping (facetSample n) := .of fun s => by simp [facetSample]

@[simp] theorem keeping_markLane (n : Nat) : Keeping (markLane n) := .of fun s => by
  simp only [markLane]
  (repeat' split) <;> simp

@[simp] theorem keeping_startSweep (n m : Nat) : Keeping (startSweep n m) := .of fun s => by simp [startSweep]
@[simp] theorem keeping_sweepEnds (n : Nat) : Keeping (sweepEnds n) := .of fun s => by simp [sweepEnds]

@[simp] theorem keeping_sweepOpens (n m : Nat) : Keeping (sweepOpens n m) := .of fun s => by
  simp only [sweepOpens]
  split <;> simp

@[simp] theorem keeping_sweepPrints (n : Nat) : Keeping (sweepPrints n) := .of fun s => by
  unfold sweepPrints
  extract_lets s₁ s₂
  have h₂ : Keeps s s₂ := by simp [s₂, s₁]
  split
  · split_ifs <;> simp [h₂]
  · exact h₂

@[simp] theorem keeping_loseLock (n : Nat) : Keeping (loseLock n) := .of fun s => by
  simp only [loseLock]
  (repeat' split) <;> simp

@[simp] theorem keeping_locked (n : Nat) : Keeping (locked n) := .of fun s => by
  simp only [locked]
  split <;> simp

/-! ### The fault collector's own events (R334 to R336) -/

@[simp] theorem keeping_reviveChannel (h : Handle) (sel : Nat) : Keeping (reviveChannel h sel) := .of fun s => by
  simp only [reviveChannel]
  (repeat' split) <;> simp

@[simp] theorem keeping_releaseMerged (h : Handle) : Keeping (releaseMerged h) := .of fun s => by simp [releaseMerged]

@[simp] theorem keeping_returnEnded (pass : Bool) (h : Handle) (sel : Nat) :
    Keeping (returnEnded pass h sel) := .of fun s => by
  simp [returnEnded]

@[simp] theorem keeping_stallLockout : Keeping stallLockout := .of fun s => by
  unfold stallLockout
  split <;> simp

@[simp] theorem keeping_sramEffect (w : SramPlace) : Keeping (sramEffect w) := .of fun s => by
  unfold sramEffect
  (repeat' split) <;> simp

@[simp] theorem keeping_testBank (bank : Nat) (place : SramPlace) : Keeping (testBank bank place) := .of fun s => by
  simp [testBank]

/-! ### Lane training, sideband, the interlock (08) -/

@[simp] theorem keeping_trainingDone (l : Nat) : Keeping (trainingDone l) := .of fun s => by
  simp only [trainingDone]
  split <;> simp

@[simp] theorem keeping_berEnded (pass : Bool) (l : Nat) : Keeping (berEnded pass l) := .of fun s => by
  simp only [berEnded]
  (repeat' split) <;> simp

@[simp] theorem keeping_berJudge (l errors : Nat) : Keeping (berJudge l errors) := .of fun s => by
  unfold berJudge
  split <;> simp

@[simp] theorem keeping_interlockFrames : Keeping interlockFrames := .of fun s => by simp [interlockFrames]
@[simp] theorem keeping_gateOpens : Keeping gateOpens := .of fun s => by simp [gateOpens]

/-! ### The host link (R98, R420 to R424) -/

@[simp] theorem keeping_badDatagram (lane : Nat) : Keeping (badDatagram lane) := .of fun s => by simp [badDatagram]

@[simp] theorem keeping_dropDesc (id : BandId) : Keeping (dropDesc id) := .of fun s => by
  unfold dropDesc
  split <;> simp

@[simp] theorem keeping_duplicateBand (lane : Nat) (id : BandId) : Keeping (duplicateBand lane id) := .of fun s => by
  simp [duplicateBand]

theorem withDescs_keeps {id : BandId} (h : withDescs id s = some t) : Keeps s t := by
  unfold withDescs at h
  split at h
  · simp at h
  · split_ifs at h
    · cases h; exact .refl s
    · obtain ⟨a, -, rfl⟩ := Option.map_eq_some_iff.1 h
      simp

@[simp] theorem keeping_placeBand (b : Staged) (data : List Byte) : Keeping (placeBand b data) := .of fun s => by
  unfold placeBand
  split_ifs
  · simp
  · exact .refl s
  · split
    · next t a ht _ =>
      have ht : Keeps s t := withDescs_keeps ht
      split_ifs <;> simp [ht]
    · exact .refl s

@[simp] theorem keeping_placeBands : Keeping placeBands := .of fun s => by simp [placeBands]

@[simp] theorem keeping_enterFrame (id : BandId) (bands : Nat) : Keeping (enterFrame id bands) := .of fun s => by
  simp [enterFrame]

@[simp] theorem keeping_ingestBand (lane : Nat) (id : BandId) : Keeping (ingestBand lane id) := .of fun s => by
  simp only [ingestBand]
  (repeat' split) <;> simp

@[simp] theorem keeping_unknownJob (id : BandId) : Keeping (unknownJob id) := .of fun s => by simp [unknownJob]

@[simp] theorem keeping_addFragment (lane : Nat) (b : Staged) (off len : Nat) (data : List Byte) :
    Keeping (addFragment lane b off len data) := .of fun s => by
  simp [addFragment]

@[simp] theorem keeping_bandFragment (lane : Nat) (id : BandId) (off len seq : Nat) (data : List Byte) :
    Keeping (bandFragment lane id off len seq data) := .of fun s => by
  unfold bandFragment
  split <;> simp

/-! ### The newel counter, limits and homing (R207, R208, R221 to R223) -/

@[simp] theorem keeping_spoilNewel : Keeping spoilNewel := .of fun s => by simp [spoilNewel]

@[simp] theorem keeping_reversalCheck : Keeping reversalCheck := .of fun s => by
  simp only [reversalCheck]
  (repeat' split) <;> simp

@[simp] theorem keeping_newelLoss : Keeping newelLoss := .of fun s => by simp [newelLoss]

@[simp] theorem keeping_backupLoss : Keeping backupLoss := .of fun s => by
  simp only [backupLoss]
  split <;> simp

@[simp] theorem keeping_encoderLoss (aux : Bool) : Keeping (encoderLoss aux) := .of fun s => by simp [encoderLoss]
@[simp] theorem keeping_countNewel (aux up : Bool) : Keeping (countNewel aux up) := .of fun s => by simp [countNewel]
@[simp] theorem keeping_illegalNewel (aux : Bool) : Keeping (illegalNewel aux) := .of fun s => by simp [illegalNewel]
@[simp] theorem keeping_homeFailed (a : Nat) : Keeping (homeFailed a) := .of fun s => by simp [homeFailed]

@[simp] theorem keeping_homeChatter (a : Nat) (h : Handle) : Keeping (homeChatter a h) := .of fun s => by
  simp [homeChatter]

@[simp] theorem keeping_homeDone (a : Nat) (h : Handle) (capture : Int) :
    Keeping (homeDone a h capture) := .of fun s => by
  simp [homeDone]

@[simp] theorem keeping_homeInput (a : Nat) (h : Handle) (level : Bool) (capture : Int) :
    Keeping (homeInput a h level capture) := .of fun s => by
  simp only [homeInput]
  (repeat' split) <;> simp

@[simp] theorem keeping_limitTrip (a : Nat) (h : Handle) : Keeping (limitTrip a h) := .of fun s => by simp [limitTrip]

/-! ### Motor commutation and field control (11) -/

@[simp] theorem keeping_axisTestEnded (pass : Bool) (a code : Nat) :
    Keeping (axisTestEnded pass a code) := .of fun s => by
  simp only [axisTestEnded]
  (repeat' split) <;> simp

@[simp] theorem keeping_axisError (a code : Nat) : Keeping (axisError a code) := .of fun s => by
  unfold axisError
  split <;> simp

@[simp] theorem keeping_axisTestTick (a : Nat) : Keeping (axisTestTick a) := .of fun s => by
  unfold axisTestTick
  split <;> simp

@[simp] theorem keeping_windingStep (a : Nat) : Keeping (windingStep a) := .of fun s => by
  unfold windingStep
  split <;> simp

@[simp] theorem keeping_sendComm (a : Nat) (t : Rat) (sector : Nat) (duty : Rat) :
    Keeping (sendComm a t sector duty) := .of fun s => by
  simp [sendComm]

@[simp] theorem keeping_crossing (a t : Nat) : Keeping (crossing a t) := .of fun s => by simp [crossing]

@[simp] theorem keeping_loseFacet (a : Nat) : Keeping (loseFacet a) := .of fun s => by
  unfold loseFacet
  split <;> simp

@[simp] theorem keeping_beginStart (a : Nat) : Keeping (beginStart a) := .of fun s => by simp [beginStart]
@[simp] theorem keeping_startFailed (a : Nat) : Keeping (startFailed a) := .of fun s => by simp [startFailed]
@[simp] theorem keeping_sixStep (a : Nat) : Keeping (sixStep a) := .of fun s => by simp [sixStep]
@[simp] theorem keeping_skipSample (a : Nat) : Keeping (skipSample a) := .of fun s => by simp [skipSample]

@[simp] theorem keeping_singleShunt (a : Nat) (ts : List Rat) : Keeping (singleShunt a ts) := .of fun s => by
  unfold singleShunt
  split <;> simp

@[simp] theorem keeping_lowSide (a : Nat) (ts : List Rat) : Keeping (lowSide a ts) := .of fun s => by
  simp only [lowSide]
  split <;> simp

@[simp] theorem keeping_focStep (a : Nat) : Keeping (focStep a) := .of fun s => by
  simp only [focStep]
  split <;> simp

@[simp] theorem keeping_torqueRef (a : Nat) : Keeping (torqueRef a) := .of fun s => by simp [torqueRef]

@[simp] theorem keeping_crossWindow (a : Nat) (vm cm : Rat × Rat) : Keeping (crossWindow a vm cm) := .of fun s => by
  simp [crossWindow]

@[simp] theorem keeping_dtcStep (a : Nat) : Keeping (dtcStep a) := .of fun s => by simp [dtcStep]

/-! ### The node ring and the axis engine (12) -/

@[simp] theorem keeping_raiseOnce (code : Nat) (h : Handle) (detail : Nat) :
    Keeping (raiseOnce code h detail) := .of fun s => by
  simp [raiseOnce]

@[simp] theorem keeping_axisRecord (u : AxisUp) : Keeping (axisRecord u) := .of fun s => by
  unfold axisRecord
  (repeat' split) <;> simp

@[simp] theorem keeping_stepperRecord (k flags : Nat) : Keeping (stepperRecord k flags) := .of fun s => by
  simp [stepperRecord]

@[simp] theorem keeping_heaterRecord (i flags : Nat) : Keeping (heaterRecord i flags) := .of fun s => by
  simp [heaterRecord]

@[simp] theorem keeping_hvRecord (i : Nat) (dc cur ac : Int) (flags : Nat) :
    Keeping (hvRecord i dc cur ac flags) := .of fun s => by
  simp only [hvRecord]
  (repeat' split) <;> simp

@[simp] theorem keeping_hvTick : Keeping hvTick := .of fun s => by simp [hvTick]

@[simp] theorem keeping_ringBreak (port detail : Nat) : Keeping (ringBreak port detail) := .of fun s => by
  simp [ringBreak]

@[simp] theorem keeping_nodeRecord (u : NodeUp) : Keeping (nodeRecord u) := .of fun s => by simp [nodeRecord]

@[simp] theorem keeping_recordMissing (n : Nat) : Keeping (recordMissing n) := .of fun s => by
  unfold recordMissing
  extract_lets h k s₁ s₂
  have h₁ : Keeps s s₁ := by simp [s₁]
  have h₂ : Keeps s s₂ := h₁.trans (Keeps.foldl (fun t i => by split <;> simp) _ _)
  split_ifs <;> simp [h₂]

@[simp] theorem keeping_nodeRecords (ups : List NodeUp) : Keeping (nodeRecords ups) := .of fun s => by
  unfold nodeRecords
  extract_lets live
  split_ifs
  · exact .refl s
  · exact Keeps.foldl (fun t n => by split <;> simp) _ s

@[simp] theorem keeping_nodeEnable (n : Nat) : Keeping (nodeEnable n) := .of fun s => by simp [nodeEnable]

@[simp] theorem keeping_nodeAsk (n op : Nat) (arg : Nat × Nat × Nat) : Keeping (nodeAsk n op arg) := .of fun s => by
  simp [nodeAsk]

@[simp] theorem keeping_mailboxTurn : Keeping mailboxTurn := .of fun s => by
  simp only [mailboxTurn]
  (repeat' split) <;> simp

@[simp] theorem keeping_noSlot (n : Nat) : Keeping (noSlot n) := .of fun s => by simp [noSlot]

@[simp] theorem keeping_assignNode (cw n pos : Nat) (p : RingPos) : Keeping (assignNode cw n pos p) := .of fun s => by
  simp [assignNode]

@[simp] theorem keeping_profileTick (before : State) : Keeping (profileTick before) := .of fun s => by
  simp [profileTick]

@[simp] theorem keeping_webSpeedCheck : Keeping webSpeedCheck := .of fun s => by simp [webSpeedCheck]

@[simp] theorem keeping_freeMotion (a : Nat) : Keeping (freeMotion a) := .of fun s => by
  simp only [freeMotion]
  split <;> simp

@[simp] theorem keeping_homeTick (a : Nat) : Keeping (homeTick a) := .of fun s => by
  simp only [homeTick]
  (repeat' split) <;> simp

@[simp] theorem keeping_orphanWaiters (a : Nat) : Keeping (orphanWaiters a) := .of fun s => by simp [orphanWaiters]

@[simp] theorem keeping_regearEnds (h : Handle) (r : Option Bool) : Keeping (regearEnds h r) := .of fun s => by
  unfold regearEnds
  split <;> simp

@[simp] theorem keeping_axisFollow (a : Nat) : Keeping (axisFollow a) := .of fun s => by simp [axisFollow]
@[simp] theorem keeping_stepperTick (k : Nat) : Keeping (stepperTick k) := .of fun s => by simp [stepperTick]

@[simp] theorem keeping_jogTick : Keeping jogTick := .of fun s => by
  unfold jogTick
  split <;> simp

@[simp] theorem keeping_solTick (k : Nat) : Keeping (solTick k) := .of fun s => by
  unfold solTick
  extract_lets line now s₁
  have h₁ : Keeps s s₁ := by unfold s₁; split_ifs <;> simp
  refine h₁.trans (Keeps.foldl (fun t p => ?_) _ _)
  split
  · next u hu => exact fireSol_keeps hu
  · simp

@[simp] theorem keeping_axisTick (a : Nat) : Keeping (axisTick a) := .of fun s => by
  simp only [axisTick]
  split <;> simp

@[simp] theorem keeping_dropClaim : Keeping dropClaim := .of fun s => by simp [dropClaim]
@[simp] theorem keeping_launch : Keeping launch := .of fun s => by simp [launch]
@[simp] theorem keeping_sendMirror : Keeping sendMirror := .of fun s => by simp [sendMirror]
@[simp] theorem keeping_mirrorLost : Keeping mirrorLost := .of fun s => by simp [mirrorLost]
@[simp] theorem keeping_pairTick : Keeping pairTick := .of fun s => by simp [pairTick]
@[simp] theorem keeping_handOver : Keeping handOver := .of fun s => by simp [handOver]
@[simp] theorem keeping_lockoutSafe : Keeping lockoutSafe := .of fun s => by simp [lockoutSafe]
@[simp] theorem keeping_ringIn (ups : List NodeUp) : Keeping (ringIn ups) := .of fun s => by simp [ringIn]
@[simp] theorem keeping_ringWeb (before : State) : Keeping (ringWeb before) := .of fun s => by simp [ringWeb]
@[simp] theorem keeping_ringFollow : Keeping ringFollow := .of fun s => by simp [ringFollow]
@[simp] theorem keeping_ringOut : Keeping ringOut := .of fun s => by simp [ringOut]

/-! ### Reset and the clocks (14, R438) -/

theorem onward_resetDevice (s : State) : Onward s (resetDevice s) := ⟨le_rfl, le_rfl⟩
theorem onward_leaveReset (s : State) : Onward s (leaveReset s) := .of_eq rfl rfl

theorem onward_selfReset (s : State) : Onward s (selfReset s) :=
  (onward_resetDevice s).trans (onward_leaveReset _)

@[simp] theorem keeping_throttleCore (div : Nat) : Keeping (throttleCore div) := .of fun s => by simp [throttleCore]
theorem onward_clocksFail (cause : BitVec 4) (s : State) : Onward s (clocksFail cause s) := .of_eq rfl rfl

theorem onward_rootFails (s : State) : Onward s (rootFails s) := by
  unfold rootFails
  extract_lets s₁
  split_ifs
  · exact .of_eq rfl rfl
  · exact .of_eq rfl rfl

@[simp] theorem keeping_rootLockout (code : Nat) : Keeping (rootLockout code) := .of fun s => by simp [rootLockout]

theorem onward_rootLost (code : Nat) (s : State) : Onward s (rootLost code s) := by
  unfold rootLost
  split_ifs
  · exact .refl s
  · exact Keeps.onward (by simp)
  · exact .refl s
  · exact Keeps.onward (by simp)
  · exact onward_rootFails s
  · exact .refl s

/-! ### Power sequences and the power log (15, R311) -/

@[simp] theorem keeping_railDown (r : Nat) : Keeping (railDown r) := .of fun s => by simp [railDown]
@[simp] theorem keeping_logFailure (r cause : Nat) : Keeping (logFailure r cause) := .of fun s => by simp [logFailure]
@[simp] theorem keeping_openLog : Keeping openLog := .of fun s => by simp [openLog]
@[simp] theorem keeping_upDone : Keeping upDone := .of fun s => by simp [upDone]
@[simp] theorem keeping_downDone : Keeping downDone := .of fun s => by simp [downDone]
@[simp] theorem keeping_goDown : Keeping goDown := .of fun s => by simp [goDown]
@[simp] theorem keeping_fallen (r : Nat) : Keeping (fallen r) := .of fun s => by simp [fallen]
@[simp] theorem keeping_railFails (r cause : Nat) : Keeping (railFails r cause) := .of fun s => by simp [railFails]

@[simp] theorem keeping_judgeRail (r mv limit : Nat) (clean : Bool) :
    Keeping (judgeRail r mv limit clean) := .of fun s => by
  simp only [judgeRail]
  split <;> simp

@[simp] theorem keeping_judgeStatus (r word : Nat) : Keeping (judgeStatus r word) := .of fun s => by
  simp only [judgeStatus]
  split <;> simp

@[simp] theorem keeping_noAnswer (r : Nat) : Keeping (noAnswer r) := .of fun s => by simp [noAnswer]
@[simp] theorem keeping_startUp : Keeping startUp := .of fun s => by simp [startUp]
@[simp] theorem keeping_bootPower : Keeping bootPower := .of fun s => by simp [bootPower]
@[simp] theorem keeping_logPowerFail : Keeping logPowerFail := .of fun s => by simp [logPowerFail]

theorem keeps_bodyPwrStatus (m : Cmd) (s : State) : Keeps s (bodyPwrStatus m s).state := by
  unfold bodyPwrStatus
  split <;> simp

theorem keeps_bodyPwrRailRestart (m : Cmd) (s : State) : Keeps s (bodyPwrRailRestart m s).state := by
  unfold bodyPwrRailRestart
  split <;> simp

theorem keeps_bodyPwrDown (s : State) : Keeps s (bodyPwrDown s).state := by simp [bodyPwrDown]
theorem keeps_bodyPwrUp (s : State) : Keeps s (bodyPwrUp s).state := by simp [bodyPwrUp]

theorem keeps_bodyPwrLogRead (m : Cmd) (s : State) : Keeps s (bodyPwrLogRead m s).state := by
  unfold bodyPwrLogRead
  split <;> simp

theorem keeps_bodyPwrReset (m : Cmd) (s : State) : Keeps s (bodyPwrReset m s).state := by simp [bodyPwrReset]

/-! ### The thermal manager (16) -/

@[simp] theorem keeping_modSource (k : Nat) (f : TSrc → TSrc) : Keeping (modSource k f) := .of fun s => by
  simp [modSource]

@[simp] theorem keeping_breakSource (k : Nat) : Keeping (breakSource k) := .of fun s => by simp [breakSource]
@[simp] theorem keeping_checkSource (k : Nat) : Keeping (checkSource k) := .of fun s => by simp [checkSource]

@[simp] theorem keeping_readSource (k : Nat) (v : Option Int) : Keeping (readSource k v) := .of fun s => by
  simp [readSource]

@[simp] theorem keeping_leaveHot (k : Nat) : Keeping (leaveHot k) := .of fun s => by
  simp only [leaveHot]
  (repeat' split) <;> simp

@[simp] theorem keeping_leaveAllHot : Keeping leaveAllHot := .of fun s => by simp [leaveAllHot]
@[simp] theorem keeping_enterSlow (k : Nat) : Keeping (enterSlow k) := .of fun s => by simp [enterSlow]
@[simp] theorem keeping_enterStop (k : Nat) : Keeping (enterStop k) := .of fun s => by simp [enterStop]
@[simp] theorem keeping_enterTrip (k : Nat) : Keeping (enterTrip k) := .of fun s => by simp [enterTrip]

@[simp] theorem keeping_judgeLevel (k : Nat) : Keeping (judgeLevel k) := .of fun s => by
  unfold judgeLevel
  split <;> simp

@[simp] theorem keeping_setThrottle (n : Nat) : Keeping (setThrottle n) := .of fun s => by simp [setThrottle]

@[simp] theorem keeping_judgeThrottle : Keeping judgeThrottle := .of fun s => by
  unfold judgeThrottle
  split <;> simp

@[simp] theorem keeping_readEntries (td : List (Option Int)) : Keeping (readEntries td) := .of fun s => by
  refine Keeps.foldl (fun t i => ?_) _ s
  extract_lets h
  split_ifs
  · simp
  · simp
  · split <;> simp

@[simp] theorem keeping_dropUnused : Keeping dropUnused := .of fun s => by simp [dropUnused]

/-! ### Panel and token port (22) -/

@[simp] theorem keeping_scanKey (down : BitVec 64) (i : Nat) : Keeping (scanKey down · i) := .of fun s => by
  simp [scanKey]

theorem keeps_bodyPnlLed (m : Cmd) (s : State) : Keeps s (bodyPnlLed m s).state := by simp [bodyPnlLed]
theorem keeps_bodyPnlBuzzer (m : Cmd) (s : State) : Keeps s (bodyPnlBuzzer m s).state := by simp [bodyPnlBuzzer]
@[simp] theorem keeping_touchReport (bs : List Byte) : Keeping (touchReport bs) := .of fun s => by simp [touchReport]

@[simp] theorem keeping_usbRecord (what vendor product : Nat) :
    Keeping (usbRecord what vendor product) := .of fun s => by
  simp [usbRecord]

/-! ### Authority and the approved list (19, R372 to R378) -/

theorem keeps_bodyAuthChallenge (s : State) : Keeps s (bodyAuthChallenge s).state := by simp [bodyAuthChallenge]
@[simp] theorem keeping_deny (why : Nat) (k : Ticket) : Keeping (deny why k) := .of fun s => by simp [deny]

@[simp] theorem keeping_present (k : Ticket) : Keeping fun s => (present k s).2.2 := .of fun s => by
  unfold present
  extract_lets d s₁ s₂
  clear_value d
  split <;> simp [s₂, s₁]

theorem keeps_bodyAuthTicket (m : Cmd) (s : State) : Keeps s (bodyAuthTicket m s).state := by simp [bodyAuthTicket]

theorem keeps_bodyAuthTokenSign (m : Cmd) (s : State) : Keeps s (bodyAuthTokenSign m s).state := by
  unfold bodyAuthTokenSign
  (repeat' split) <;> simp

@[simp] theorem keeping_signEnds (st : Status) (p : List Byte) : Keeping (signEnds st p) := .of fun s => by
  simp [signEnds]

@[simp] theorem keeping_keyChange (role index what ident : Nat) :
    Keeping (keyChange role index what ident) := .of fun s => by
  simp [keyChange]

theorem keeps_bodyAuthKeyInstall (m : Cmd) (s : State) : Keeps s (bodyAuthKeyInstall m s).state := by
  simp [bodyAuthKeyInstall]

theorem keeps_bodyAuthKeyRemove (m : Cmd) (s : State) : Keeps s (bodyAuthKeyRemove m s).state := by
  simp only [bodyAuthKeyRemove]
  split <;> simp

@[simp] theorem keeping_putDigests (l : List Nat) : Keeping (putDigests l) := .of fun s => by simp [putDigests]

theorem keeps_bodyAuthDigestAdd (m : Cmd) (s : State) : Keeps s (bodyAuthDigestAdd m s).state := by
  simp [bodyAuthDigestAdd]

theorem keeps_bodyAuthDigestRemove (m : Cmd) (s : State) : Keeps s (bodyAuthDigestRemove m s).state := by
  simp [bodyAuthDigestRemove]

theorem keeps_bodyAuthStatus (s : State) : Keeps s (bodyAuthStatus s).state := by simp [bodyAuthStatus]

/-! ### The calibration store (R379, R412) -/

theorem keeps_bodyCalWrite (m : Cmd) (s : State) : Keeps s (bodyCalWrite m s).state := by
  unfold bodyCalWrite
  split <;> simp

theorem keeps_bodyCalCommit (m : Cmd) (s : State) : Keeps s (bodyCalCommit m s).state := by
  unfold bodyCalCommit
  split <;> simp

theorem keeps_bodyCalRead (m : Cmd) (s : State) : Keeps s (bodyCalRead m s).state := by
  unfold bodyCalRead
  split <;> simp

theorem keeps_bodyCalAbort (m : Cmd) (s : State) : Keeps s (bodyCalAbort m s).state := by
  unfold bodyCalAbort
  split <;> simp

@[simp] theorem keeping_unretire (n e : Nat) : Keeping (unretire n e) := .of fun s => by simp [unretire]

@[simp] theorem keeping_returnEmitters (serial : Nat) (mask : BitVec 36) :
    Keeping (returnEmitters serial mask) := .of fun s => by
  simp [returnEmitters]

theorem keeps_bodyCalHeadClear (m : Cmd) (s : State) : Keeps s (bodyCalHeadClear m s).state := by
  simp only [bodyCalHeadClear]
  (repeat' split) <;> simp

/-! ### The spool engine (06) -/

@[simp] theorem keeping_tryController (port : Nat) (i : NvmeInfo) : Keeping (tryController port i) := .of fun s => by
  simp [tryController]

@[simp] theorem keeping_takeEight : Keeping takeEight := .of fun s => by simp [takeEight]
@[simp] theorem keeping_askStatus : Keeping askStatus := .of fun s => by simp [askStatus]
@[simp] theorem keeping_benchReads : Keeping benchReads := .of fun s => by simp [benchReads]
@[simp] theorem keeping_beginWindows : Keeping beginWindows := .of fun s => by simp [beginWindows]

@[simp] theorem keeping_mountSpool (c : SuperCopy) (ms : List Member) (gens : Nat × Nat) :
    Keeping (mountSpool c ms gens) := .of fun s => by
  simp [mountSpool]

@[simp] theorem keeping_newBandwidth (c bw : Nat) : Keeping (newBandwidth c bw) := .of fun s => by simp [newBandwidth]
@[simp] theorem keeping_endBench : Keeping endBench := .of fun s => by simp [endBench]

@[simp] theorem keeping_modLoading (n : Nat) (id : BandId) (f : RBand → RBand) :
    Keeping (modLoading n id f) := .of fun s => by
  simp [modLoading]

@[simp] theorem keeping_lateNote (n : Nat) (b : RBand) : Keeping (lateNote n b) := .of fun s => by
  unfold lateNote
  split <;> simp

@[simp] theorem keeping_bandLoaded (n : Nat) (b : RBand) (again : Bool) :
    Keeping (bandLoaded n b again) := .of fun s => by
  simp only [bandLoaded]
  (repeat' split) <;> simp

@[simp] theorem keeping_loseSpool (c : Nat) : Keeping (loseSpool c) := .of fun s => by simp [loseSpool]

@[simp] theorem keeping_bandLost (c : Nat) (id : BandId) : Keeping (bandLost c id) := .of fun s => by
  simp only [bandLost]
  split <;> simp

@[simp] theorem keeping_rereadFailed (c : Nat) (id : BandId) : Keeping (rereadFailed c id) := .of fun s => by
  unfold rereadFailed
  split <;> simp

@[simp] theorem keeping_readFailed (c : Nat) (q : NvmeCmd) (page : Nat) :
    Keeping (readFailed c q page) := .of fun s => by
  simp [readFailed]

@[simp] theorem keeping_rereadEnded (c : Nat) (id : BandId) (page : Nat) (ok : Bool) :
    Keeping (rereadEnded c id page ok) := .of fun s => by
  simp only [rereadEnded]
  (repeat' split) <;> simp

@[simp] theorem keeping_shareArrived (c : Nat) (id : BandId) (diff : List (Nat × Nat)) :
    Keeping (shareArrived c id diff) := .of fun s => by
  simp only [shareArrived]
  (repeat' split) <;> simp

@[simp] theorem keeping_bandWritten (id : BandId) : Keeping (bandWritten id) := .of fun s => by
  unfold bandWritten
  split <;> simp

@[simp] theorem keeping_formatDone : Keeping formatDone := .of fun s => by simp [formatDone]
@[simp] theorem keeping_formatClear : Keeping formatClear := .of fun s => by simp [formatClear]
@[simp] theorem keeping_formatTrim : Keeping formatTrim := .of fun s => by simp [formatTrim]

@[simp] theorem keeping_advanceFormat : Keeping advanceFormat := .of fun s => by
  unfold advanceFormat
  split <;> simp

@[simp] theorem keeping_scrubRead (u : Scrub) : Keeping (scrubRead u) := .of fun s => by simp [scrubRead]

@[simp] theorem keeping_scrubNext : Keeping scrubNext := .of fun s => by
  unfold scrubNext
  (repeat' split) <;> simp

@[simp] theorem keeping_scrubJudge : Keeping scrubJudge := .of fun s => by
  unfold scrubJudge
  (repeat' split) <;> simp

@[simp] theorem keeping_scrubArrived (ok : Bool) (diff : List (Nat × Nat)) :
    Keeping (scrubArrived ok diff) := .of fun s => by
  simp [scrubArrived]

@[simp] theorem keeping_takeOut (c : Nat) (q : NvmeCmd) : Keeping (takeOut c q) := .of fun s => by simp [takeOut]
@[simp] theorem keeping_afterCommand (c : Nat) : Keeping (afterCommand c) := .of fun s => by simp [afterCommand]

@[simp] theorem keeping_rereadDone (c : Nat) (id : BandId) (page : Nat) (ok : Bool) (diff : List (Nat × Nat)) :
    Keeping (rereadDone c id page ok diff) := .of fun s => by
  simp [rereadDone]

@[simp] theorem keeping_commandDone (c : Nat) (q : NvmeCmd) (page : Nat) (ok : Bool) (diff : List (Nat × Nat)) :
    Keeping (commandDone c q page ok diff) := .of fun s => by
  unfold commandDone
  split <;> simp

@[simp] theorem keeping_loseMember (c : Nat) : Keeping (loseMember c) := .of fun s => by
  unfold loseMember
  split
  · exact .refl s
  · split_ifs
    · exact .refl s
    · extract_lets s₁ s₂
      have h₂ : Keeps s s₂ := by simp [s₂, s₁]
      refine .step (.step (h₂.trans ?_) (keeping_raise ..)) (keeping_send ..)
      exact Keeps.foldl (fun t f => Keeps.foldl (fun t n => by split <;> simp) _ t) _ _

@[simp] theorem keeping_rejoin (c : Nat) : Keeping (rejoin c) := .of fun s => by simp [rejoin]

/-! ### Maintenance activities (R405 to R409) -/

@[simp] theorem keeping_fireAct (k ms : Nat) : Keeping (fireAct k ms) := .of fun s => by
  unfold fireAct
  split
  · next j _ =>
    cases h : fireSol j (nextCycle s) ms 0 s with
    | none => exact .refl s
    | some t => exact fireSol_keeps h
  · exact .refl s

@[simp] theorem keeping_releaseAct (k : Nat) : Keeping (releaseAct k) := .of fun s => by
  unfold releaseAct
  split <;> simp

@[simp] theorem keeping_startEffect (k : Nat) (h : Handle) : Keeping (startEffect k h) := .of fun s => by
  simp only [startEffect]
  (repeat' split) <;> simp

@[simp] theorem keeping_startAct (k : Nat) (h : Handle) : Keeping (startAct k h) := .of fun s => by simp [startAct]
@[simp] theorem keeping_resumeSurvey (n : Nat) : Keeping (resumeSurvey n) := .of fun s => by simp [resumeSurvey]

@[simp] theorem keeping_endEffect (k : Nat) (h : Handle) (pass : Bool) (stagger : List Nat) (scanStart : Nat) (sosOff : Int) :
    Keeping (endEffect k h pass stagger scanStart sosOff) := .of fun s => by
  simp only [endEffect]
  (repeat' split) <;> simp

theorem keeps_bodyMntStart (m : Cmd) (s : State) : Keeps s (bodyMntStart m s).state := by simp [bodyMntStart]

@[simp] theorem keeping_stopEffect (k : Nat) (h : Handle) : Keeping (stopEffect k h) := .of fun s => by
  unfold stopEffect
  (repeat' split) <;> simp

theorem keeps_bodyMntStop (m : Cmd) (s : State) : Keeps s (bodyMntStop m s).state := by simp [bodyMntStop]
theorem keeps_bodyMntStatus (m : Cmd) (s : State) : Keeps s (bodyMntStatus m s).state := by simp [bodyMntStatus]
theorem keeps_bodyMntFaultAck (m : Cmd) (s : State) : Keeps s (bodyMntFaultAck m s).state := by simp [bodyMntFaultAck]

@[simp] theorem keeping_returnTest (h : Handle) (sel : Nat) : Keeping (returnTest h sel) := .of fun s => by
  simp [returnTest]

theorem keeps_bodyMntReturn (m : Cmd) (s : State) : Keeps s (bodyMntReturn m s).state := by simp [bodyMntReturn]

theorem keeps_bodyMntIntlkRelease (m : Cmd) (s : State) : Keeps s (bodyMntIntlkRelease m s).state := by
  simp only [bodyMntIntlkRelease]
  (repeat' split) <;> simp

theorem keeps_bodyMntSpoolFormat (m : Cmd) (s : State) : Keeps s (bodyMntSpoolFormat m s).state := by
  simp [bodyMntSpoolFormat]

/-! ### The redundant pair (18) -/

@[simp] theorem keeping_recordCands : Keeping recordCands := .of fun s => by simp [recordCands]

@[simp] theorem keeping_dropCands (serials : List Nat) : Keeping (dropCands serials) := .of fun s => by
  simp [dropCands]

@[simp] theorem keeping_assertClaim (st : PairSt) : Keeping (assertClaim st) := .of fun s => by simp [assertClaim]

@[simp] theorem keeping_restartHello : Keeping restartHello := .of fun s => by
  simp only [restartHello]
  split <;> simp

@[simp] theorem keeping_trySync : Keeping trySync := .of fun s => by simp [trySync]

@[simp] theorem keeping_peerRecords (slot : Nat) (rs : List GalRec) : Keeping (peerRecords slot rs) := .of fun s => by
  simp [peerRecords]

@[simp] theorem keeping_mirrorFlights (admitted : List Flight) (closed : List Nat) :
    Keeping (mirrorFlights admitted closed) := .of fun s => by
  simp [mirrorFlights]

@[simp] theorem keeping_mirrorSets (cur : CfgSet) (ver : Nat) (prev : Option (Nat × CfgSet)) :
    Keeping (mirrorSets cur ver prev) := .of fun s => by
  simp [mirrorSets]

@[simp] theorem keeping_mirrorCal (x : CalStore) : Keeping (mirrorCal x) := .of fun s => by simp [mirrorCal]

@[simp] theorem keeping_freeClosed (rs : List LedgerRec) : Keeping (freeClosed rs) := .of fun s => by
  simp [freeClosed]

@[simp] theorem keeping_standbySection (a : MirrorSec) : Keeping (standbySection · a) := .of fun s => by
  unfold standbySection
  split <;> simp

@[simp] theorem keeping_applySection (slot : Nat) (sec : MirrorSec) :
    Keeping (applySection slot · sec) := .of fun s => by
  unfold applySection
  split <;> simp

@[simp] theorem keeping_leaveDarkKept : Keeping leaveDarkKept := .of fun s => by simp [leaveDarkKept]
@[simp] theorem keeping_nextAhead : Keeping nextAhead := .of fun s => by simp [nextAhead]
@[simp] theorem keeping_takeHistories : Keeping takeHistories := .of fun s => by simp [takeHistories]
@[simp] theorem keeping_inherit_ (cause : Nat) : Keeping (inherit_ cause) := .of fun s => by simp [inherit_]

@[simp] theorem keeping_takeoverRecord (alive : Bool) : Keeping (takeoverRecord alive) := .of fun s => by
  simp [takeoverRecord]

@[simp] theorem keeping_takeover (alive : Bool) : Keeping (takeover alive) := .of fun s => by simp [takeover]

@[simp] theorem keeping_coldTakeover : Keeping coldTakeover := .of fun s => by
  unfold coldTakeover
  extract_lets s₁
  have h₁ : Keeps s s₁ := by simp [s₁]
  refine .step (.step (h₁.trans ?_) (keeping_raise ..)) (keeping_leaveAllDark ..)
  exact Keeps.foldl (fun t n => by split <;> simp) _ _

@[simp] theorem keeping_checkClaims (active lock : Bool) : Keeping (checkClaims active lock) := .of fun s => by
  simp [checkClaims]

theorem keeps_bodyPairHandover (s : State) : Keeps s (bodyPairHandover s).state := by simp [bodyPairHandover]

/-! ### Diagnosis (R413) -/

theorem keeps_bodyDiagState (m : Cmd) (s : State) : Keeps s (bodyDiagState m s).state := by simp [bodyDiagState]
theorem keeps_bodyDiagFaults (m : Cmd) (s : State) : Keeps s (bodyDiagFaults m s).state := by simp [bodyDiagFaults]
theorem keeps_bodyDiagNotes (m : Cmd) (s : State) : Keeps s (bodyDiagNotes m s).state := by simp [bodyDiagNotes]
theorem keeps_bodyDiagMeter (m : Cmd) (s : State) : Keeps s (bodyDiagMeter m s).state := by simp [bodyDiagMeter]
theorem keeps_bodyDiagSpool (s : State) : Keeps s (bodyDiagSpool s).state := by simp [bodyDiagSpool]
theorem keeps_bodyDiagBoot (s : State) : Keeps s (bodyDiagBoot s).state := by simp [bodyDiagBoot]

/-! ### The boot ROM and the start of firmware (24) -/

theorem onward_trySlot (s : State) (k : Nat) (slot : Option (Nat × Bool)) : Onward s (trySlot s k slot) := by
  unfold trySlot
  split
  · exact .refl s
  · split
    · exact .refl s
    · extract_lets s₁
      split
      · exact .of_eq rfl rfl
      · have h₁ : Keeps s s₁ := by simp [s₁]
        exact Keeps.onward (by simp [h₁])

@[simp] theorem keeping_tellDiscard (v : Nat × Bool) : Keeping (tellDiscard · v) := .of fun s => by simp [tellDiscard]

@[simp] theorem loadSets_highVer (c : Cfg) : (loadSets c).highVer = c.highVer := by
  unfold loadSets
  extract_lets a b keep bWins top low c'
  split <;> rfl

@[simp] theorem keeping_loadConfig : Keeping loadConfig := .of fun s => by simp [loadConfig]

@[simp] theorem keeping_loadStation (n : Nat) : Keeping (loadStation · n) := .of fun s => by simp [loadStation]
@[simp] theorem keeping_loadCal : Keeping loadCal := .of fun s => by simp [loadCal]
@[simp] theorem keeping_loadLedger : Keeping loadLedger := .of fun s => by simp [loadLedger]

/-- Limp is entered by the stage alone; the rest is told. -/
theorem keeps_enterLimp (s : State) : Keeps (s.modBoot fun b => { b with stage := .limp }) (enterLimp s) := by
  simp [enterLimp]

/-- Running is entered by the stage alone; the rest is told, shown and taken up by the power unit. -/
theorem keeps_enterRunning (s : State) : Keeps (s.modBoot fun b => { b with stage := .running }) (enterRunning s) := by
  unfold enterRunning
  extract_lets s₁ s₂
  have h₂ : Keeps s₁ s₂ := by unfold s₂; split <;> simp
  simp [h₂, s₁]

/-! ### Doorbells, datagrams and the management SPI (R383 to R397, R425) -/

@[simp] theorem keeping_indexRefused : Keeping indexRefused := .of fun s => by simp [indexRefused]

theorem onward_enterSlot (s : State) : Onward s (enterSlot s) := by
  unfold enterSlot
  extract_lets k m s₁
  have h₁ : Onward s s₁ := (onward_arrive ..).after rfl rfl
  exact h₁.trans (.of_eq rfl rfl)

theorem onward_times {f : State → State} (hf : ∀ s, Onward s (f s)) (k : Nat) (s : State) : Onward s (times f k s) := by
  induction k generalizing s with
  | zero => exact .refl s
  | succ k ih => exact (hf s).trans (ih (f s))

theorem onward_spiByte (a : Nat) (v : Byte) (s : State) : Onward s (spiByte a v s) := by
  unfold spiByte
  split_ifs <;> exact .of_eq rfl rfl

@[simp] theorem keeping_sendHeld (dst k : Nat) (ms : List Msg) : Keeping (sendHeld dst k ms) := .of fun s => by
  induction k generalizing ms s with
  | zero => exact .refl s
  | succ k ih => simp [sendHeld, (ih _ _).iff]

/-! ### The unit tree and fan-outs (R28, R29, R400): commands -/

theorem onward_execUnitEnable (m : Cmd) (s : State) : Ends (Onward s) (execUnitEnable m s) :=
  (onward_runCmd (i := opUnitEnable) (need := noTicket) (m := m) (keeps_bodyUnitEnable m) s).trans (Keeps.onward (by simp))

theorem onward_execUnitDisable (m : Cmd) (s : State) : Ends (Onward s) (execUnitDisable m s) :=
  (onward_runCmd (i := opUnitDisable) (need := noTicket) (m := m) (keeps_bodyUnitDisable m) s).trans (Keeps.onward (by simp))

theorem onward_execFanOutStepDelay (root child : Handle) (s : State) :
    Ends (Onward s) (execFanOutStepDelay root child s) := .onward <| by
  unfold execFanOutStepDelay
  split <;> simp

theorem onward_execFanOutStepTimeout (root child : Handle) (s : State) :
    Ends (Onward s) (execFanOutStepTimeout root child s) := .onward <| by
  unfold execFanOutStepTimeout
  split <;> simp

/-! ### Configuration sets (R33 to R39, R401): commands -/

theorem onward_execConfigSlotWriteComplete (s : State) :
    Ends (Onward s) (execConfigSlotWriteComplete s) := .onward <| by
  unfold execConfigSlotWriteComplete
  split <;> simp

/-! ### The ledger and the gallery (R365 to R371): commands -/

theorem onward_execGalleryFlush (s : State) : Ends (Onward s) (execGalleryFlush s) := .onward <| by
  simp [execGalleryFlush]

theorem onward_execLedgerAcknowledgement (a w : Nat) (s : State) :
    Ends (Onward s) (execLedgerAcknowledgement a w s) := .onward <| by
  simp [execLedgerAcknowledgement]

theorem onward_execLedgerResendTimeout (s : State) : Ends (Onward s) (execLedgerResendTimeout s) := .onward <| by
  simp [execLedgerResendTimeout]

theorem onward_execLedgerPageWrite (s : State) : Ends (Onward s) (execLedgerPageWrite s) := .onward <| by
  simp [execLedgerPageWrite]

/-! ### The loop engine (13): commands -/

theorem onward_execLoopFollowingTimeout (slot : Nat) (s : State) :
    Ends (Onward s) (execLoopFollowingTimeout slot s) := .onward <| by
  simp [execLoopFollowingTimeout]

theorem onward_execLoopInputHoldTimeout (slot : Nat) (s : State) :
    Ends (Onward s) (execLoopInputHoldTimeout slot s) := .onward <| by
  simp [execLoopInputHoldTimeout]

theorem onward_execLoopSaturated (slot : Nat) (s : State) : Ends (Onward s) (execLoopSaturated slot s) := .onward <| by
  simp [execLoopSaturated]

/-! ### The landing machine (03): commands -/

theorem onward_execPlanPrepare (s : State) : Ends (Onward s) (execPlanPrepare s) := .onward <| by
  simp only [execPlanPrepare]
  (repeat' split) <;> simp

theorem onward_execAdmissionAttempt (s : State) : Ends (Onward s) (execAdmissionAttempt s) := .onward <| by
  simp only [execAdmissionAttempt, ends_next]
  (repeat' split) <;> simp

theorem onward_execStationLanding (station serial : Nat) (s : State) :
    Ends (Onward s) (execStationLanding station serial s) := .onward <| by
  unfold execStationLanding
  rw [ends_next]
  split
  · refine .step ?_ (keeping_restoreLane ..)
    split <;> simp
  split
  · split
    · exact .refl s
    · exact .step (Keeps.foldl (fun t p => by split <;> simp) _ s) (keeping_landAt ..)
  · simp

theorem onward_execFrameLeavesFlight (serial : Nat) (s : State) :
    Ends (Onward s) (execFrameLeavesFlight serial s) := .onward <| by
  unfold execFrameLeavesFlight
  split <;> simp

theorem onward_execRunDwellEnd (s : State) : Ends (Onward s) (execRunDwellEnd s) := .onward <| by
  simp [execRunDwellEnd]

theorem onward_execGovernorEvaluate (rates : List (Nat × Nat)) (drain : Nat) (s : State) :
    Ends (Onward s) (execGovernorEvaluate rates drain s) := .onward <| by
  simp [execGovernorEvaluate]

/-! ### The emitter supervisor (09): commands -/

theorem onward_execMeasResult (lane sweep emitter tag v1 v2 m1 m2 : Nat) (s : State) :
    Ends (Onward s) (execMeasResult lane sweep emitter tag v1 v2 m1 m2 s) := .onward <| by
  unfold execMeasResult
  (repeat' split) <;> simp

theorem onward_execEmitterResultStale (station emitter : Nat) (s : State) :
    Ends (Onward s) (execEmitterResultStale station emitter s) := .onward <| by
  simp [execEmitterResultStale]

theorem onward_execHeadData (lane addr : Nat) (data : List Nat) (status : Nat) (s : State) :
    Ends (Onward s) (execHeadData lane addr data status s) := .onward <| by
  unfold execHeadData
  split <;> simp

theorem onward_execHeadPresenceCheck (station : Nat) (s : State) :
    Ends (Onward s) (execHeadPresenceCheck station s) := .onward <| by
  unfold execHeadPresenceCheck
  split <;> simp

/-! ### The print pipeline and the synthesiser (07): commands -/

theorem onward_execOffsetComputeComplete (station : Nat) (s : State) :
    Ends (Onward s) (execOffsetComputeComplete station s) := .onward <| by
  unfold execOffsetComputeComplete
  split <;> simp

theorem onward_execDecodeComplete (station : Nat) (s : State) :
    Ends (Onward s) (execDecodeComplete station s) := .onward <| by
  simp only [execDecodeComplete]
  (repeat' split) <;> simp

theorem onward_execSaveSlotCopyComplete (station : Nat) (s : State) :
    Ends (Onward s) (execSaveSlotCopyComplete station s) := .onward <| by
  simp [execSaveSlotCopyComplete]

theorem onward_execSosMark (station m : Nat) (s : State) : Ends (Onward s) (execSosMark station m s) := .onward <| by
  simp [execSosMark]

theorem onward_execSosTs (lane sweep tc : Nat) (valid : Bool) (s : State) :
    Ends (Onward s) (execSosTs lane sweep tc valid s) := .onward <| by
  unfold execSosTs
  split <;> simp

theorem onward_execFacetPhaseFault (station : Nat) (s : State) :
    Ends (Onward s) (execFacetPhaseFault station s) := .onward <| by
  simp [execFacetPhaseFault]

theorem onward_execSynthLock (station : Nat) (s : State) : Ends (Onward s) (execSynthLock station s) := .onward <| by
  simp [execSynthLock]

theorem onward_execSynthLossOfLock (station : Nat) (s : State) :
    Ends (Onward s) (execSynthLossOfLock station s) := .onward <| by
  simp [execSynthLossOfLock]

theorem onward_execSynthReferenceCycle (station : Nat) (dco : Rat) (s : State) :
    Ends (Onward s) (execSynthReferenceCycle station dco s) := .onward <| by
  simp [execSynthReferenceCycle]

theorem onward_execBandSwitch (station : Nat) (s : State) : Ends (Onward s) (execBandSwitch station s) := .onward <| by
  unfold execBandSwitch
  split <;> simp

theorem onward_execBandTableCalibrationComplete (station : Nat) (table : List (Nat × Nat)) (s : State) :
    Ends (Onward s) (execBandTableCalibrationComplete station table s) := .onward <| by
  simp [execBandTableCalibrationComplete]

theorem onward_execBandTableTrack (station : Nat) (s : State) :
    Ends (Onward s) (execBandTableTrack station s) := .onward <| by
  simp [execBandTableTrack]

/-! ### The fault collector's own events (R334 to R336): commands -/

theorem onward_execFaultRecordClose (entry : Nat) (s : State) :
    Ends (Onward s) (execFaultRecordClose entry s) := .onward <| by
  unfold execFaultRecordClose
  split <;> simp

theorem onward_execSelfTestTimeout (entry : Nat) (s : State) :
    Ends (Onward s) (execSelfTestTimeout entry s) := .onward <| by
  unfold execSelfTestTimeout
  split <;> simp

theorem onward_execCoreWatchdogExpiry (core : Nat) (s : State) :
    Ends (Onward s) (execCoreWatchdogExpiry core s) := .onward <| by
  simp [execCoreWatchdogExpiry]

theorem onward_execCoreStallEscalation (core : Nat) (s : State) :
    Ends (Onward s) (execCoreStallEscalation core s) := .onward <| by
  simp [execCoreStallEscalation]

theorem onward_execAliveToggle (serviced : List Nat) (s : State) :
    Ends (Onward s) (execAliveToggle serviced s) := .onward <| by
  simp [execAliveToggle]

theorem onward_execSramError (bank : Nat) (corrected : Bool) (place : SramPlace) (s : State) :
    Ends (Onward s) (execSramError bank corrected place s) := .onward <| by
  simp [execSramError]

theorem onward_execSramBankTestComplete (bank : Nat) (pass : Bool) (s : State) :
    Ends (Onward s) (execSramBankTestComplete bank pass s) := .onward <| by
  simp [execSramBankTestComplete]

/-! ### Lane training, sideband, the interlock (08): commands -/

theorem onward_execLinkUp (lane module serial : Nat) (tables : Bool) (s : State) :
    Ends (Onward s) (execLinkUp lane module serial tables s) := .onward <| by
  simp only [execLinkUp]
  (repeat' split) <;> simp

theorem onward_execLaneTrainingComplete (lane : Nat) (s : State) :
    Ends (Onward s) (execLaneTrainingComplete lane s) := .onward <| by
  simp [execLaneTrainingComplete]

theorem onward_execLaneTrainingTimeout (lane : Nat) (s : State) :
    Ends (Onward s) (execLaneTrainingTimeout lane s) := .onward <| by
  simp only [execLaneTrainingTimeout]
  (repeat' split) <;> simp

theorem onward_execLaneTrainingRetry (lane : Nat) (s : State) :
    Ends (Onward s) (execLaneTrainingRetry lane s) := .onward <| by
  simp [execLaneTrainingRetry]

theorem onward_execAckMsg (lane tag status : Nat) (s : State) :
    Ends (Onward s) (execAckMsg lane tag status s) := .onward <| by
  unfold execAckMsg
  split <;> simp

theorem onward_execSidebandAckTimeout (lane tag : Nat) (s : State) :
    Ends (Onward s) (execSidebandAckTimeout lane tag s) := .onward <| by
  unfold execSidebandAckTimeout
  split <;> simp

theorem onward_execStatusMsg (lane : Nat) (locked : Bool) (laser : BitVec 2) (temp : Int) (s : State) :
    Ends (Onward s) (execStatusMsg lane locked laser temp s) := .onward <| by
  simp [execStatusMsg]

theorem onward_execLaneStat (lane sweep failed flags ber : Nat) (s : State) :
    Ends (Onward s) (execLaneStat lane sweep failed flags ber s) := .onward <| by
  unfold execLaneStat
  split <;> simp

theorem onward_execBackChannelLoss (lane : Nat) (s : State) :
    Ends (Onward s) (execBackChannelLoss lane s) := .onward <| by
  simp [execBackChannelLoss]

theorem onward_execBerTestComplete (lane errors : Nat) (s : State) :
    Ends (Onward s) (execBerTestComplete lane errors s) := .onward <| by
  simp [execBerTestComplete]

theorem onward_execBerNoWordTimeout (lane : Nat) (s : State) :
    Ends (Onward s) (execBerNoWordTimeout lane s) := .onward <| by
  simp [execBerNoWordTimeout]

theorem onward_execInterlockAssert (low : BitVec 8) (s : State) :
    Ends (Onward s) (execInterlockAssert low s) := .onward <| by
  simp [execInterlockAssert]

theorem onward_execInterlockGateOpen (s : State) : Ends (Onward s) (execInterlockGateOpen s) := .onward <| by
  simp only [execInterlockGateOpen]
  split <;> simp

theorem onward_execInterlockPathMismatch (s : State) : Ends (Onward s) (execInterlockPathMismatch s) := .onward <| by
  simp [execInterlockPathMismatch]

/-! ### The host link (R98, R420 to R424): commands -/

theorem onward_execBandAllocate (s : State) : Ends (Onward s) (execBandAllocate s) := .onward <| by
  simp [execBandAllocate]

theorem onward_execBandDatagram (lane : Nat) (bytes : List Byte) (s : State) :
    Ends (Onward s) (execBandDatagram lane bytes s) := .onward <| by
  simp only [execBandDatagram]
  (repeat' split) <;> simp

theorem onward_execBandReassemblyTimeout (job layer frame band : Nat) (s : State) :
    Ends (Onward s) (execBandReassemblyTimeout job layer frame band s) := .onward <| by
  simp only [execBandReassemblyTimeout]
  split <;> simp

theorem onward_execCreditDatagram (s : State) : Ends (Onward s) (execCreditDatagram s) := .onward <| by
  simp [execCreditDatagram]

theorem onward_execArpRequest (lane ip : Nat) (s : State) : Ends (Onward s) (execArpRequest lane ip s) := .onward <| by
  simp [execArpRequest]

theorem onward_execBadDatagram (lane : Nat) (s : State) : Ends (Onward s) (execBadDatagram lane s) := .onward <| by
  simp [execBadDatagram]

theorem onward_execHostLinkDown (lane : Nat) (s : State) : Ends (Onward s) (execHostLinkDown lane s) := .onward <| by
  simp [execHostLinkDown]

theorem onward_execHostLinkUp (lane : Nat) (s : State) : Ends (Onward s) (execHostLinkUp lane s) := .onward <| by
  simp [execHostLinkUp]

/-! ### The newel counter, limits and homing (R207, R208, R221 to R223): commands -/

theorem onward_execNewelCount (aux : Bool) (edge : NewelEdge) (s : State) :
    Ends (Onward s) (execNewelCount aux edge s) := .onward <| by
  unfold execNewelCount
  split <;> simp

theorem onward_execNewelIndex (s : State) : Ends (Onward s) (execNewelIndex s) := .onward <| by simp [execNewelIndex]

theorem onward_execNewelLossOfSignal (aux : Bool) (s : State) :
    Ends (Onward s) (execNewelLossOfSignal aux s) := .onward <| by
  simp [execNewelLossOfSignal]

theorem onward_execNewelBackupCheck (s : State) : Ends (Onward s) (execNewelBackupCheck s) := .onward <| by
  simp [execNewelBackupCheck]

theorem onward_execWebFollowingTimeout (s : State) : Ends (Onward s) (execWebFollowingTimeout s) := .onward <| by
  simp [execWebFollowingTimeout]

theorem onward_execLimitInputAccepted (input : Handle) (level : Bool) (capture : Int) (s : State) :
    Ends (Onward s) (execLimitInputAccepted input level capture s) := .onward <| by
  simp [execLimitInputAccepted]

/-! ### Motor commutation and field control (11): commands -/

theorem onward_execWindingModelUpdate (s : State) : Ends (Onward s) (execWindingModelUpdate s) := .onward <| by
  simp [execWindingModelUpdate]

theorem onward_execCommutationMiss (axis : Nat) (s : State) :
    Ends (Onward s) (execCommutationMiss axis s) := .onward <| by
  simp [execCommutationMiss]

theorem onward_execSixStepStart (axis : Nat) (ok : Bool) (s : State) :
    Ends (Onward s) (execSixStepStart axis ok s) := .onward <| by
  unfold execSixStepStart
  (repeat' split) <;> simp

theorem onward_execCatchWindow (axis : Nat) (seen : CatchSeen) (s : State) :
    Ends (Onward s) (execCatchWindow axis seen s) := .onward <| by
  unfold execCatchWindow
  (repeat' split) <;> simp

theorem onward_execOffsetLearnUpdate (axis : Nat) (resid : List Int) (s : State) :
    Ends (Onward s) (execOffsetLearnUpdate axis resid s) := .onward <| by
  unfold execOffsetLearnUpdate
  split <;> simp

theorem onward_execFocPwmPeriod (s : State) : Ends (Onward s) (execFocPwmPeriod s) := .onward <| by
  simp [execFocPwmPeriod]

theorem onward_execVoltageLimit (axis : Nat) (s : State) : Ends (Onward s) (execVoltageLimit axis s) := .onward <| by
  simp [execVoltageLimit]

theorem onward_execEstimatorCrossCheck (axis : Nat) (s : State) :
    Ends (Onward s) (execEstimatorCrossCheck axis s) := .onward <| by
  unfold execEstimatorCrossCheck
  rw [ends_next]
  extract_lets x r dr f k k' s₁
  clear_value k'
  split
  · exact .refl s
  · split <;> simp [s₁]

theorem onward_execKappaSave (s : State) : Ends (Onward s) (execKappaSave s) := .onward <| by simp [execKappaSave]

theorem onward_execEstimatorStale (axis : Nat) (s : State) :
    Ends (Onward s) (execEstimatorStale axis s) := .onward <| by
  simp [execEstimatorStale]

theorem onward_execStageDisable (axis : Nat) (s : State) : Ends (Onward s) (execStageDisable axis s) := .onward <| by
  simp [execStageDisable]

theorem onward_execAxisFollowingTimeout (axis : Nat) (s : State) :
    Ends (Onward s) (execAxisFollowingTimeout axis s) := .onward <| by
  simp [execAxisFollowingTimeout]

/-! ### The node ring and the axis engine (12): commands -/

theorem onward_execNodeMailboxReply (node tag status value : Nat) (s : State) :
    Ends (Onward s) (execNodeMailboxReply node tag status value s) := .onward <| by
  unfold execNodeMailboxReply
  split <;> simp

theorem onward_execRingPortDown (port : Nat) (s : State) : Ends (Onward s) (execRingPortDown port s) := .onward <| by
  simp [execRingPortDown]

theorem onward_execRingPortUp (port : Nat) (s : State) : Ends (Onward s) (execRingPortUp port s) := .onward <| by
  simp [execRingPortUp]

theorem onward_execRingEnumeration (cw ccw : Nat) (found : List RingPos) (s : State) :
    Ends (Onward s) (execRingEnumeration cw ccw found s) := .onward <| by
  simp [execRingEnumeration]

theorem onward_execLoopTestRead (target : Option Nat) (ends : List (Nat × Nat)) (s : State) :
    Ends (Onward s) (execLoopTestRead target ends s) := .onward <| by
  unfold execLoopTestRead
  split <;> simp

theorem onward_execRingCycle (ups : List NodeUp) (s : State) : Ends (Onward s) (execRingCycle ups s) := .onward <| by
  simp [execRingCycle]

/-! ### Reset and the clocks (14, R438): commands -/

theorem onward_execPorstNAssert (s : State) : Ends (Onward s) (execPorstNAssert s) := onward_resetDevice s

theorem onward_execPorstNRelease (pairSlot bootMode : Nat) (testEn : Bool) (s : State) :
    Ends (Onward s) (execPorstNRelease pairSlot bootMode testEn s) := by
  unfold execPorstNRelease
  split
  · exact .refl s
  split
  · trivial
  · exact .of_eq rfl rfl

theorem onward_execDeviceReset (s : State) : Ends (Onward s) (execDeviceReset s) := by
  unfold execDeviceReset
  rw [ends_next]
  split_ifs
  · exact onward_selfReset s
  · exact .refl s

theorem onward_execDividerStep (s : State) : Ends (Onward s) (execDividerStep s) := .onward <| by
  simp [execDividerStep]

theorem onward_execFoscCheck (khz : Nat) (s : State) : Ends (Onward s) (execFoscCheck khz s) := by
  unfold execFoscCheck
  rw [ends_next]
  split_ifs
  · exact .refl s
  · exact .of_eq rfl rfl
  · exact .of_eq rfl rfl
  · exact onward_resetDevice s
  · exact .of_eq rfl rfl

theorem onward_execXtal0StartTimeout (s : State) : Ends (Onward s) (execXtal0StartTimeout s) := by
  unfold execXtal0StartTimeout
  rw [ends_next]
  split_ifs
  · exact onward_clocksFail 1#4 s
  · exact .refl s

theorem onward_execRootLock (s : State) : Ends (Onward s) (execRootLock s) := .onward <| by simp [execRootLock]

theorem onward_execRootAttemptTimeout (s : State) : Ends (Onward s) (execRootAttemptTimeout s) := by
  unfold execRootAttemptTimeout
  rw [ends_next]
  split_ifs
  · exact onward_rootFails s
  · exact .refl s

theorem onward_execXtal0Lost (s : State) : Ends (Onward s) (execXtal0Lost s) := onward_rootLost 0x0103 s
theorem onward_execRootUnlock (s : State) : Ends (Onward s) (execRootUnlock s) := onward_rootLost 0x0104 s

theorem onward_execXtal0Gate (count : Nat) (s : State) : Ends (Onward s) (execXtal0Gate count s) := by
  unfold execXtal0Gate
  rw [ends_next]
  extract_lets good
  split
  · exact .refl s
  split
  · split
    · exact .refl s
    · exact onward_rootLost 0x0103 s
  split
  · exact .refl s
  · exact .of_eq rfl rfl

theorem onward_execXtal1Check (ok : Bool) (s : State) : Ends (Onward s) (execXtal1Check ok s) := .onward <| by
  simp only [execXtal1Check]
  (repeat' split) <;> simp

theorem onward_execLanePllLockTimeout (pll : Nat) (s : State) :
    Ends (Onward s) (execLanePllLockTimeout pll s) := .onward <| by
  simp [execLanePllLockTimeout]

theorem onward_execClockMeterDone (count : Nat) (s : State) :
    Ends (Onward s) (execClockMeterDone count s) := .onward <| by
  simp [execClockMeterDone]

/-! ### Power sequences and the power log (15, R311): commands -/

theorem onward_execRailJudgement (pins : List (Nat × Rat)) (s : State) :
    Ends (Onward s) (execRailJudgement pins s) := .onward <| by
  unfold execRailJudgement
  rw [ends_next]
  split
  · exact .refl s
  · refine Keeps.foldl (fun t r => ?_) _ s
    split
    · exact .refl t
    · split <;> simp

theorem onward_execPmbusPoll (device page : Nat) (answer : Option (Nat × Nat)) (s : State) :
    Ends (Onward s) (execPmbusPoll device page answer s) := .onward <| by
  unfold execPmbusPoll
  (repeat' split) <;> simp

theorem onward_execPmbAlert (reads : List (Nat × Nat × Option Nat)) (s : State) :
    Ends (Onward s) (execPmbAlert reads s) := .onward <| by
  unfold execPmbAlert
  rw [ends_next]
  split
  · exact .refl s
  · exact Keeps.foldl (fun t x => by split <;> simp) _ s

theorem onward_execRailEnable (ready : List Nat) (s : State) : Ends (Onward s) (execRailEnable ready s) := .onward <| by
  unfold execRailEnable
  split <;> simp

theorem onward_execRiseTimeout (rail : Nat) (s : State) : Ends (Onward s) (execRiseTimeout rail s) := .onward <| by
  simp [execRiseTimeout]

theorem onward_execFallTimeout (rail : Nat) (s : State) : Ends (Onward s) (execFallTimeout rail s) := .onward <| by
  simp [execFallTimeout]

theorem onward_execOffDelayExpiry (rail : Nat) (s : State) :
    Ends (Onward s) (execOffDelayExpiry rail s) := .onward <| by
  simp [execOffDelayExpiry]

theorem onward_execResetOutputRelease (output : Nat) (s : State) :
    Ends (Onward s) (execResetOutputRelease output s) := .onward <| by
  unfold execResetOutputRelease
  rw [ends_next]
  split
  · exact .refl s
  · extract_lets s₁
    have h₁ : Keeps s s₁ := by simp [s₁]
    refine h₁.trans (Keeps.foldl (fun t n => ?_) _ s₁)
    split
    · split_ifs <;> simp
    · exact .refl t

theorem onward_execAdcReferenceCheck (s : State) : Ends (Onward s) (execAdcReferenceCheck s) := .onward <| by
  simp [execAdcReferenceCheck]

theorem onward_execPfwN (s : State) : Ends (Onward s) (execPfwN s) := .onward <| by simp [execPfwN]

theorem onward_execPowerFailReset (s : State) : Ends (Onward s) (execPowerFailReset s) := by
  unfold execPowerFailReset
  rw [ends_next]
  split_ifs
  · exact onward_selfReset s
  · exact .refl s

theorem onward_execPwrDown (m : Cmd) (s : State) : Ends (Onward s) (execPwrDown m s) :=
  (onward_runCmd (i := opPwrDown) (need := noTicket) (m := m) keeps_bodyPwrDown s).trans (Keeps.onward (by simp))

theorem onward_execPwrUp (m : Cmd) (s : State) : Ends (Onward s) (execPwrUp m s) := by
  unfold execPwrUp
  rw [ends_next]
  extract_lets t
  have h : Onward s t := onward_runCmd keeps_bodyPwrUp s
  split
  · exact h.trans (Keeps.onward (by simp))
  · exact h

/-! ### The thermal manager (16): commands -/

theorem onward_execThermalEvaluate (die : List Int) (td : List (Option Int)) (s : State) :
    Ends (Onward s) (execThermalEvaluate die td s) := .onward <| by
  unfold execThermalEvaluate
  rw [ends_next]
  split
  · exact .refl s
  · extract_lets s₁ s₂ s₃
    have h₁ : Keeps s s₁ := by simp [s₁]
    have h₂ : Keeps s s₂ := h₁.trans (Keeps.foldl (fun t k => by split <;> simp) _ s₁)
    simp [s₃, h₂]

theorem onward_execThermalStageExit (source stage : Nat) (s : State) :
    Ends (Onward s) (execThermalStageExit source stage s) := .onward <| by
  unfold execThermalStageExit
  split <;> simp

theorem onward_execSlowStep (source : Nat) (s : State) : Ends (Onward s) (execSlowStep source s) := .onward <| by
  unfold execSlowStep
  split <;> simp

theorem onward_execDieTripComparator (sensor : Nat) (reading : Int) (s : State) :
    Ends (Onward s) (execDieTripComparator sensor reading s) := .onward <| by
  simp [execDieTripComparator]

theorem onward_execSensorStuck (source : Nat) (s : State) : Ends (Onward s) (execSensorStuck source s) := .onward <| by
  simp [execSensorStuck]

/-! ### Panel and token port (22): commands -/

theorem onward_execKeyScan (down : BitVec 64) (s : State) : Ends (Onward s) (execKeyScan down s) := .onward <| by
  simp [execKeyScan]

theorem onward_execLedPwmStep (s : State) : Ends (Onward s) (execLedPwmStep s) := .onward <| by simp [execLedPwmStep]

theorem onward_execBuzzerDurationEnd (s : State) : Ends (Onward s) (execBuzzerDurationEnd s) := .onward <| by
  simp [execBuzzerDurationEnd]

theorem onward_execPnlStatus (m : Cmd) (s : State) : Ends (Onward s) (execPnlStatus m s) := by
  unfold execPnlStatus
  exact onward_runCmd (fun t => by simp) s

theorem onward_execTouchInterrupt (report : Option (List Byte)) (s : State) :
    Ends (Onward s) (execTouchInterrupt report s) := .onward <| by
  unfold execTouchInterrupt
  (repeat' split) <;> simp

theorem onward_execTouchStuck (s : State) : Ends (Onward s) (execTouchStuck s) := .onward <| by simp [execTouchStuck]

theorem onward_execTouchInterruptRelease (s : State) : Ends (Onward s) (execTouchInterruptRelease s) := .onward <| by
  simp [execTouchInterruptRelease]

theorem onward_execUsbAttach (vendor product : Nat) (ccid : Bool) (s : State) :
    Ends (Onward s) (execUsbAttach vendor product ccid s) := .onward <| by
  simp [execUsbAttach]

theorem onward_execUsbDetach (s : State) : Ends (Onward s) (execUsbDetach s) := .onward <| by
  unfold execUsbDetach
  split <;> simp

theorem onward_execUsbOverCurrent (s : State) : Ends (Onward s) (execUsbOverCurrent s) := .onward <| by
  simp [execUsbOverCurrent]

theorem onward_execVbusRestore (s : State) : Ends (Onward s) (execVbusRestore s) := .onward <| by
  simp [execVbusRestore]

/-! ### Authority and the approved list (19, R372 to R378): commands -/

theorem onward_execChallengeExpiry (s : State) : Ends (Onward s) (execChallengeExpiry s) := .onward <| by
  simp [execChallengeExpiry]

theorem onward_execGrantExpiry (s : State) : Ends (Onward s) (execGrantExpiry s) := .onward <| by
  simp [execGrantExpiry]

theorem onward_execAuthBackoffEnd (s : State) : Ends (Onward s) (execAuthBackoffEnd s) := .onward <| by
  simp [execAuthBackoffEnd]

theorem onward_execTokenSignatureResponse (r t sw : Nat) (s : State) :
    Ends (Onward s) (execTokenSignatureResponse r t sw s) := .onward <| by
  unfold execTokenSignatureResponse
  split <;> simp

theorem onward_execTokenSignTimeout (s : State) : Ends (Onward s) (execTokenSignTimeout s) := .onward <| by
  simp [execTokenSignTimeout]

/-! ### The calibration store (R379, R412): commands -/

theorem onward_execCalStoreWriteComplete (s : State) : Ends (Onward s) (execCalStoreWriteComplete s) := .onward <| by
  simp [execCalStoreWriteComplete]

/-! ### The spool engine (06): commands -/

theorem onward_execSpoolPerstRelease (s : State) : Ends (Onward s) (execSpoolPerstRelease s) := .onward <| by
  simp [execSpoolPerstRelease]

theorem onward_execSpoolLinkRetry (port : Nat) (s : State) :
    Ends (Onward s) (execSpoolLinkRetry port s) := .onward <| by
  simp [execSpoolLinkRetry]

theorem onward_execSpoolLinkUp (port : Nat) (found : List NvmeInfo) (s : State) :
    Ends (Onward s) (execSpoolLinkUp port found s) := .onward <| by
  simp [execSpoolLinkUp]

theorem onward_execAerError (port : Nat) (s : State) : Ends (Onward s) (execAerError port s) := .onward <| by
  simp [execAerError]

theorem onward_execSpoolWake (s : State) : Ends (Onward s) (execSpoolWake s) := .onward <| by simp [execSpoolWake]

theorem onward_execSmartPoll (member warning : Nat) (s : State) :
    Ends (Onward s) (execSmartPoll member warning s) := .onward <| by
  unfold execSmartPoll
  split <;> simp

theorem onward_execSpoolMount (copies : List (List Byte × List Byte)) (s : State) :
    Ends (Onward s) (execSpoolMount copies s) := .onward <| by
  simp only [execSpoolMount]
  (repeat' split) <;> simp

theorem onward_execSaturatedWindow (member : Nat) (s : State) :
    Ends (Onward s) (execSaturatedWindow member s) := .onward <| by
  unfold execSaturatedWindow
  split <;> simp

theorem onward_execBandwidthProbe (ends : Bool) (s : State) :
    Ends (Onward s) (execBandwidthProbe ends s) := .onward <| by
  simp [execBandwidthProbe]

theorem onward_execDirectoryBatch (s : State) : Ends (Onward s) (execDirectoryBatch s) := .onward <| by
  simp [execDirectoryBatch]

theorem onward_execFetchRelease (station serial band : Nat) (s : State) :
    Ends (Onward s) (execFetchRelease station serial band s) := .onward <| by
  simp only [execFetchRelease]
  (repeat' split) <;> simp

theorem onward_execBandwidthMountMeasure (s : State) : Ends (Onward s) (execBandwidthMountMeasure s) := .onward <| by
  simp [execBandwidthMountMeasure]

theorem onward_execNvmeCompletion (member : Nat) (op : NvmeOp) (job layer frame band page : Nat) (ok : Bool) (diff : List (Nat × Nat)) (s : State) :
    Ends (Onward s) (execNvmeCompletion member op job layer frame band page ok diff s) := .onward <| by
  simp only [execNvmeCompletion]
  split <;> simp

theorem onward_execSpoolReadTimeout (member job layer frame band page : Nat) (s : State) :
    Ends (Onward s) (execSpoolReadTimeout member job layer frame band page s) := .onward <| by
  simp only [execSpoolReadTimeout]
  split <;> simp

theorem onward_execSpoolMemberLoss (member : Nat) (s : State) :
    Ends (Onward s) (execSpoolMemberLoss member s) := .onward <| by
  simp [execSpoolMemberLoss]

theorem onward_execSpoolMemberRecovery (member : Nat) (found : Option (List Byte × List Byte)) (s : State) :
    Ends (Onward s) (execSpoolMemberRecovery member found s) := .onward <| by
  unfold execSpoolMemberRecovery
  split <;> simp

/-! ### Maintenance activities (R405 to R409): commands -/

theorem onward_execMaintenanceStart (activity : Nat) (scope : Handle) (s : State) :
    Ends (Onward s) (execMaintenanceStart activity scope s) := .onward <| by
  simp [execMaintenanceStart]

theorem onward_execMaintenanceComplete (activity : Nat) (scope : Handle) (pass : Bool) (stagger : List Nat) (scanStart : Nat) (sosOff : Int) (s : State) :
    Ends (Onward s) (execMaintenanceComplete activity scope pass stagger scanStart sosOff s) := .onward <| by
  simp [execMaintenanceComplete]

theorem onward_execMaintenanceCountTick (activity : Nat) (scope : Handle) (s : State) :
    Ends (Onward s) (execMaintenanceCountTick activity scope s) := .onward <| by
  simp [execMaintenanceCountTick]

theorem onward_execQuietWindowTimeout (activity : Nat) (scope : Handle) (s : State) :
    Ends (Onward s) (execQuietWindowTimeout activity scope s) := .onward <| by
  simp [execQuietWindowTimeout]

theorem onward_execMntReturn (m : Cmd) (s : State) : Ends (Onward s) (execMntReturn m s) := by
  unfold execMntReturn
  rw [ends_next]
  extract_lets t
  have h : Onward s t := onward_runCmd (keeps_bodyMntReturn m) s
  split
  · exact h.trans (Keeps.onward (by simp))
  · exact h

/-! ### The redundant pair (18): commands -/

theorem onward_execBootClaim (claimIn : Bool) (s : State) : Ends (Onward s) (execBootClaim claimIn s) := .onward <| by
  simp only [execBootClaim]
  (repeat' split) <;> simp

theorem onward_execClaimConflict (s : State) : Ends (Onward s) (execClaimConflict s) := .onward <| by
  simp only [execClaimConflict]
  (repeat' split) <;> simp

theorem onward_execHello (slot digest version : Nat) (claimIn : Bool) (s : State) :
    Ends (Onward s) (execHello slot digest version claimIn s) := .onward <| by
  simp only [execHello]
  (repeat' split) <;> simp

theorem onward_execSyncTimeout (s : State) : Ends (Onward s) (execSyncTimeout s) := .onward <| by
  simp [execSyncTimeout]

theorem onward_execClaim (claimIn alive : Bool) (s : State) :
    Ends (Onward s) (execClaim claimIn alive s) := .onward <| by
  simp only [execClaim]
  (repeat' split) <;> simp

theorem onward_execMirrorFrame (flags : BitVec 8) (cyc seq : Nat) (claimIn alive : Bool) (secs : List MirrorSec) (s : State) :
    Ends (Onward s) (execMirrorFrame flags cyc seq claimIn alive secs s) := .onward <| by
  simp [execMirrorFrame]

theorem onward_execPairStatus (m : Cmd) (s : State) : Ends (Onward s) (execPairStatus m s) := by
  unfold execPairStatus
  exact onward_runCmd (fun t => by simp) s

theorem onward_execPairResync (m : Cmd) (s : State) : Ends (Onward s) (execPairResync m s) := by
  unfold execPairResync
  exact onward_runCmd (fun t => by simp) s

/-! ### The boot ROM and the start of firmware (24): commands -/

theorem onward_execBootImageCheck (slots : List (Option (Nat × Bool))) (s : State) :
    Ends (Onward s) (execBootImageCheck slots s) := by
  unfold execBootImageCheck
  rw [ends_next]
  split
  · exact .refl s
  · extract_lets s₁ s₂
    have h₁ : Onward s s₁ := .of_eq rfl rfl
    have h₂ : Onward s s₂ := h₁.trans <|
      List.foldlRecOn _ _ (.refl s₁) fun t ht p _ => ht.trans (onward_trySlot t p.2 p.1)
    split
    · exact h₂.trans (.of_eq rfl rfl)
    · exact h₂

/-- The state in which firmware begins to serve the mailbox: with empty rings (R396). -/
def ringsEmptied (s : State) : State :=
  s.modMbx fun b =>
    { b with
      live := true, inRing := [], inProd := 0#16, inCons := 0#16, outRing := [], outProd := 0#16, outCons := 0#16
      evtRing := [], evtProd := 0#16, evtCons := 0#16 }

theorem onward_ringsEmptied (s : State) : Onward s (ringsEmptied s) := .of_eq rfl rfl

/-- Firmware does not start before an image is accepted and the clocks are decided (R450). -/
theorem execFirmwareStart_waits {keysOk claimIn : Bool}
    (h : (s.boot.porst || s.boot.stage != .accepted || !(s.clk.stairDone || s.boot.cause != 0#4)) = true) :
    execFirmwareStart keysOk claimIn s = .next s := by
  rw [execFirmwareStart, if_pos h]

/-- Firmware starts: it reads the stores back with what boot left standing, and enters limp when the clocks failed. -/
theorem execFirmwareStart_starts {keysOk claimIn : Bool}
    (h : (s.boot.porst || s.boot.stage != .accepted || !(s.clk.stairDone || s.boot.cause != 0#4)) = false) :
    ∃ u, Keeps (ringsEmptied s) u ∧
      execFirmwareStart keysOk claimIn s = .next (if u.boot.cause ≠ 0#4 then enterLimp u else enterRunning u) := by
  rw [execFirmwareStart, if_neg (by rw [h]; decide)]
  extract_lets s₁ s₂ s₃ s₄ s₅ s₆ s₇ s₈
  refine ⟨s₈, ?_, rfl⟩
  have h₆ : Keeps s₁ s₆ := by simp [s₆, s₅, s₄, s₃, s₂]
  have h₇ : Keeps s₁ s₇ := by unfold s₇; split_ifs <;> simp [h₆]
  exact .step h₇ (keeping_modPanel ..)

theorem onward_execFirmwareStart (keysOk claimIn : Bool) (s : State) :
    Ends (Onward s) (execFirmwareStart keysOk claimIn s) := by
  cases h : s.boot.porst || s.boot.stage != .accepted || !(s.clk.stairDone || s.boot.cause != 0#4) with
  | true => rw [execFirmwareStart_waits h]; exact .refl s
  | false =>
    obtain ⟨u, hu, e⟩ := execFirmwareStart_starts (keysOk := keysOk) (claimIn := claimIn) h
    have hs : Onward s u := (onward_ringsEmptied s).trans hu.onward
    rw [e, ends_next]
    split
    · exact hs.trans ((keeps_enterLimp u).onward.after rfl rfl)
    · exact hs.trans ((keeps_enterRunning u).onward.after rfl rfl)

/-! ### Doorbells, datagrams and the management SPI (R383 to R397, R425): commands -/

theorem onward_execMailboxDatagram (lane src : Nat) (bytes : List Byte) (s : State) :
    Ends (Onward s) (execMailboxDatagram lane src bytes s) := by
  unfold execMailboxDatagram
  rw [ends_next]
  split
  · exact .refl s
  split
  · exact Keeps.onward (by simp)
  · exact List.foldlRecOn _ _ (.refl s) fun t ht m _ => ht.trans (onward_arrive _ m t)

theorem onward_execInProd (v : BitVec 16) (s : State) : Ends (Onward s) (execInProd v s) := by
  unfold execInProd
  rw [ends_next]
  split
  · exact .refl s
  extract_lets k
  split
  · exact onward_times onward_enterSlot k s
  · exact Keeps.onward (by simp)

theorem onward_execOutCons (v : BitVec 16) (s : State) : Ends (Onward s) (execOutCons v s) := .onward <| by
  simp [execOutCons]

theorem onward_execEvtCons (v : BitVec 16) (s : State) : Ends (Onward s) (execEvtCons v s) := .onward <| by
  simp [execEvtCons]

theorem onward_execSpiRegisterWrite (addr : Nat) (bytes : List Byte) (s : State) :
    Ends (Onward s) (execSpiRegisterWrite addr bytes s) := by
  unfold execSpiRegisterWrite
  rw [ends_next]
  split
  · exact .refl s
  · exact List.foldlRecOn _ _ (.refl s) fun t ht p _ => ht.trans (onward_spiByte _ _ t)

theorem onward_execResponseRelease (s : State) : Ends (Onward s) (execResponseRelease s) := .onward <| by
  simp [execResponseRelease]

theorem onward_execEventOverflowPost (s : State) : Ends (Onward s) (execEventOverflowPost s) := .onward <| by
  simp [execEventOverflowPost, evtPush]

theorem onward_execResponseDatagramFlush (s : State) : Ends (Onward s) (execResponseDatagramFlush s) := .onward <| by
  simp [execResponseDatagramFlush]

/-! ### Every step -/

/-- What a command does, each by its own lemma above, takes nothing back. -/
theorem exec_onward (c : Instr) (s : State) : Ends (Onward s) (exec c s) :=
  match c with
  | .unitCreate m => onward_runCmd (keeps_bodyUnitCreate m) s
  | .unitDelete m => onward_runCmd (keeps_bodyUnitDelete m) s
  | .unitMove m => onward_runCmd (keeps_bodyUnitMove m) s
  | .unitSet m => onward_runCmd (keeps_bodyUnitSet m) s
  | .unitEnable m => onward_execUnitEnable m s
  | .unitDisable m => onward_execUnitDisable m s
  | .unitRead m => onward_runCmd (keeps_bodyUnitRead m) s
  | .unitLookup m => onward_runCmd (keeps_bodyUnitLookup m) s
  | .unitChildren m => onward_runCmd (keeps_bodyUnitChildren m) s
  | .cfgStageBegin m => onward_runCmd keeps_bodyCfgStageBegin s
  | .cfgWrite m => onward_runCmd (keeps_bodyCfgWrite m) s
  | .cfgRead m => onward_runCmd (keeps_bodyCfgRead m) s
  | .cfgStageAbort m => onward_runCmd keeps_bodyCfgStageAbort s
  | .cfgCommit m => onward_runCmd (keeps_bodyCfgCommit _ m) s
  | .cfgRevert m => onward_runCmd (keeps_bodyCfgRevert _ m) s
  | .cfgStatus m => onward_runCmd keeps_bodyCfgStatus s
  | .jobSubmit m => onward_runCmd (keeps_bodyJobSubmit m) s
  | .jobCancel m => onward_runCmd (keeps_bodyJobCancel m) s
  | .jobHold m => onward_runCmd (keeps_bodyJobHold m) s
  | .jobRelease m => onward_runCmd (keeps_bodyJobRelease m) s
  | .jobStatus m => onward_runCmd (keeps_bodyJobStatus m) s
  | .motPressStop m => onward_runCmd (keeps_bodyMotPressStop m) s
  | .motPressThread m => onward_runCmd (keeps_bodyMotPressThread m) s
  | .motPressRun m => onward_runCmd (keeps_bodyMotPressRun m) s
  | .motJog m => onward_runCmd (keeps_bodyMotJog m) s
  | .motHome m => onward_runCmd (keeps_bodyMotHome m) s
  | .motGearHold m => onward_runCmd (keeps_bodyMotGearHold m) s
  | .motGearFree m => onward_runCmd (keeps_bodyMotGearFree m) s
  | .motGearRegear m => onward_runCmd (keeps_bodyMotGearRegear m) s
  | .motRatio m => onward_runCmd (keeps_bodyMotRatio m) s
  | .motRatioCancel m => onward_runCmd (keeps_bodyMotRatioCancel m) s
  | .motPhase m => onward_runCmd (keeps_bodyMotPhase m) s
  | .motMove m => onward_runCmd (keeps_bodyMotMove m) s
  | .motLoopMode m => onward_runCmd (keeps_bodyMotLoopMode m) s
  | .motLoopTarget m => onward_runCmd (keeps_bodyMotLoopTarget m) s
  | .motLoopSwitch m => onward_runCmd (keeps_bodyMotLoopSwitch m) s
  | .motSolFire m => onward_runCmd (keeps_bodyMotSolFire m) s
  | .mntStart m => onward_runCmd (keeps_bodyMntStart m) s
  | .mntStop m => onward_runCmd (keeps_bodyMntStop m) s
  | .mntStatus m => onward_runCmd (keeps_bodyMntStatus m) s
  | .mntFaultAck m => onward_runCmd (keeps_bodyMntFaultAck m) s
  | .mntReturn m => onward_execMntReturn m s
  | .mntIntlkRelease m => onward_runCmd (keeps_bodyMntIntlkRelease m) s
  | .mntSpoolFormat m => onward_runCmd (keeps_bodyMntSpoolFormat m) s
  | .galRead m => onward_runCmd (keeps_bodyGalRead m) s
  | .galStatus m => onward_runCmd keeps_bodyGalStatus s
  | .galExport m => onward_runCmd (keeps_bodyGalExport m) s
  | .galClear m => onward_runCmd (keeps_bodyGalClear m) s
  | .ldgRead m => onward_runCmd (keeps_bodyLdgRead m) s
  | .ldgAck m => onward_runCmd (keeps_bodyLdgAck m) s
  | .ldgStatus m => onward_runCmd keeps_bodyLdgStatus s
  | .authChallenge m => onward_runCmd keeps_bodyAuthChallenge s
  | .authTicket m => onward_runCmd (keeps_bodyAuthTicket m) s
  | .authKeyInstall m => onward_runCmd (keeps_bodyAuthKeyInstall m) s
  | .authKeyRemove m => onward_runCmd (keeps_bodyAuthKeyRemove m) s
  | .authDigestAdd m => onward_runCmd (keeps_bodyAuthDigestAdd m) s
  | .authDigestRemove m => onward_runCmd (keeps_bodyAuthDigestRemove m) s
  | .authDigestClear m => onward_runCmd (fun t => by simp) s
  | .authStatus m => onward_runCmd keeps_bodyAuthStatus s
  | .authTokenSign m => onward_runCmd (keeps_bodyAuthTokenSign m) s
  | .tokenSignatureResponse r t sw => onward_execTokenSignatureResponse r t sw s
  | .calWrite m => onward_runCmd (keeps_bodyCalWrite m) s
  | .calCommit m => onward_runCmd (keeps_bodyCalCommit m) s
  | .calRead m => onward_runCmd (keeps_bodyCalRead m) s
  | .calAbort m => onward_runCmd (keeps_bodyCalAbort m) s
  | .calHeadClear m => onward_runCmd (keeps_bodyCalHeadClear m) s
  | .pwrStatus m => onward_runCmd (keeps_bodyPwrStatus m) s
  | .pwrRailRestart m => onward_runCmd (keeps_bodyPwrRailRestart m) s
  | .pwrDown m => onward_execPwrDown m s
  | .pwrUp m => onward_execPwrUp m s
  | .pwrLogRead m => onward_runCmd (keeps_bodyPwrLogRead m) s
  | .pwrReset m => onward_runCmd (keeps_bodyPwrReset m) s
  | .diagState m => onward_runCmd (keeps_bodyDiagState m) s
  | .diagFaults m => onward_runCmd (keeps_bodyDiagFaults m) s
  | .diagNotes m => onward_runCmd (keeps_bodyDiagNotes m) s
  | .diagMeter m => onward_runCmd (keeps_bodyDiagMeter m) s
  | .diagSpool m => onward_runCmd keeps_bodyDiagSpool s
  | .diagBoot m => onward_runCmd keeps_bodyDiagBoot s
  | .pairStatus m => onward_execPairStatus m s
  | .pairHandover m => onward_runCmd keeps_bodyPairHandover s
  | .pairResync m => onward_execPairResync m s
  | .pnlLed m => onward_runCmd (keeps_bodyPnlLed m) s
  | .pnlBuzzer m => onward_runCmd (keeps_bodyPnlBuzzer m) s
  | .pnlStatus m => onward_execPnlStatus m s
  | .mailboxDatagram lane src bytes => onward_execMailboxDatagram lane src bytes s
  | .inProd v => onward_execInProd v s
  | .outCons v => onward_execOutCons v s
  | .evtCons v => onward_execEvtCons v s
  | .spiRegisterWrite addr bytes => onward_execSpiRegisterWrite addr bytes s
  | .responseRelease => onward_execResponseRelease s
  | .eventOverflowPost => onward_execEventOverflowPost s
  | .responseDatagramFlush => onward_execResponseDatagramFlush s
  | .bandDatagram lane bytes => onward_execBandDatagram lane bytes s
  | .bandReassemblyTimeout job layer frame band => onward_execBandReassemblyTimeout job layer frame band s
  | .creditDatagram => onward_execCreditDatagram s
  | .ledgerAcknowledgement a w => onward_execLedgerAcknowledgement a w s
  | .ledgerResendTimeout => onward_execLedgerResendTimeout s
  | .arpRequest lane ip => onward_execArpRequest lane ip s
  | .badDatagram lane => onward_execBadDatagram lane s
  | .hostLinkDown lane => onward_execHostLinkDown lane s
  | .hostLinkUp lane => onward_execHostLinkUp lane s
  | .spoolPerstRelease => onward_execSpoolPerstRelease s
  | .spoolLinkRetry port => onward_execSpoolLinkRetry port s
  | .spoolLinkUp port found => onward_execSpoolLinkUp port found s
  | .spoolMount copies => onward_execSpoolMount copies s
  | .bandwidthMountMeasure => onward_execBandwidthMountMeasure s
  | .spoolWake => onward_execSpoolWake s
  | .nvmeCompletion member op job layer frame band page ok diff => onward_execNvmeCompletion member op job layer frame band page ok diff s
  | .spoolReadTimeout member job layer frame band page => onward_execSpoolReadTimeout member job layer frame band page s
  | .directoryBatch => onward_execDirectoryBatch s
  | .bandAllocate => onward_execBandAllocate s
  | .fetchRelease station serial band => onward_execFetchRelease station serial band s
  | .smartPoll member warning => onward_execSmartPoll member warning s
  | .saturatedWindow member => onward_execSaturatedWindow member s
  | .bandwidthProbe ends => onward_execBandwidthProbe ends s
  | .spoolMemberLoss member => onward_execSpoolMemberLoss member s
  | .spoolMemberRecovery member found => onward_execSpoolMemberRecovery member found s
  | .ledgerPageWrite => onward_execLedgerPageWrite s
  | .admissionAttempt => onward_execAdmissionAttempt s
  | .planPrepare => onward_execPlanPrepare s
  | .stationLanding station serial => onward_execStationLanding station serial s
  | .frameLeavesFlight serial => onward_execFrameLeavesFlight serial s
  | .governorEvaluate rates drain => onward_execGovernorEvaluate rates drain s
  | .sosMark station m => onward_execSosMark station m s
  | .offsetComputeComplete station => onward_execOffsetComputeComplete station s
  | .decodeComplete station => onward_execDecodeComplete station s
  | .saveSlotCopyComplete station => onward_execSaveSlotCopyComplete station s
  | .sramError bank corrected place => onward_execSramError bank corrected place s
  | .sramBankTestComplete bank pass => onward_execSramBankTestComplete bank pass s
  | .synthLock station => onward_execSynthLock station s
  | .synthLossOfLock station => onward_execSynthLossOfLock station s
  | .bandSwitch station => onward_execBandSwitch station s
  | .bandTableCalibrationComplete station table => onward_execBandTableCalibrationComplete station table s
  | .bandTableTrack station => onward_execBandTableTrack station s
  | .facetPhaseFault station => onward_execFacetPhaseFault station s
  | .linkUp lane module serial tables => onward_execLinkUp lane module serial tables s
  | .sosTs lane sweep tc valid => onward_execSosTs lane sweep tc valid s
  | .measResult lane sweep emitter tag v1 v2 m1 m2 => onward_execMeasResult lane sweep emitter tag v1 v2 m1 m2 s
  | .headData lane addr data status => onward_execHeadData lane addr data status s
  | .laneStat lane sweep failed flags ber => onward_execLaneStat lane sweep failed flags ber s
  | .statusMsg lane locked laser temp => onward_execStatusMsg lane locked laser temp s
  | .ackMsg lane tag status => onward_execAckMsg lane tag status s
  | .sidebandAckTimeout lane tag => onward_execSidebandAckTimeout lane tag s
  | .backChannelLoss lane => onward_execBackChannelLoss lane s
  | .laneTrainingComplete lane => onward_execLaneTrainingComplete lane s
  | .laneTrainingTimeout lane => onward_execLaneTrainingTimeout lane s
  | .laneTrainingRetry lane => onward_execLaneTrainingRetry lane s
  | .berTestComplete lane errors => onward_execBerTestComplete lane errors s
  | .berNoWordTimeout lane => onward_execBerNoWordTimeout lane s
  | .interlockAssert low => onward_execInterlockAssert low s
  | .interlockGateOpen => onward_execInterlockGateOpen s
  | .interlockPathMismatch => onward_execInterlockPathMismatch s
  | .emitterResultStale station emitter => onward_execEmitterResultStale station emitter s
  | .headPresenceCheck station => onward_execHeadPresenceCheck station s
  | .ringCycle ups => onward_execRingCycle ups s
  | .focPwmPeriod => onward_execFocPwmPeriod s
  | .commutationMiss axis => onward_execCommutationMiss axis s
  | .sixStepStart axis ok => onward_execSixStepStart axis ok s
  | .catchWindow axis seen => onward_execCatchWindow axis seen s
  | .offsetLearnUpdate axis resid => onward_execOffsetLearnUpdate axis resid s
  | .windingModelUpdate => onward_execWindingModelUpdate s
  | .estimatorCrossCheck axis => onward_execEstimatorCrossCheck axis s
  | .kappaSave => onward_execKappaSave s
  | .estimatorStale axis => onward_execEstimatorStale axis s
  | .voltageLimit axis => onward_execVoltageLimit axis s
  | .stageDisable axis => onward_execStageDisable axis s
  | .axisFollowingTimeout axis => onward_execAxisFollowingTimeout axis s
  | .newelCount aux edge => onward_execNewelCount aux edge s
  | .newelIndex => onward_execNewelIndex s
  | .newelLossOfSignal aux => onward_execNewelLossOfSignal aux s
  | .newelBackupCheck => onward_execNewelBackupCheck s
  | .webFollowingTimeout => onward_execWebFollowingTimeout s
  | .limitInputAccepted input level capture => onward_execLimitInputAccepted input level capture s
  | .ringPortDown port => onward_execRingPortDown port s
  | .ringPortUp port => onward_execRingPortUp port s
  | .ringEnumeration cw ccw found => onward_execRingEnumeration cw ccw found s
  | .nodeMailboxReply node tag status value => onward_execNodeMailboxReply node tag status value s
  | .loopTestRead target ends => onward_execLoopTestRead target ends s
  | .loopFollowingTimeout slot => onward_execLoopFollowingTimeout slot s
  | .loopInputHoldTimeout slot => onward_execLoopInputHoldTimeout slot s
  | .loopSaturated slot => onward_execLoopSaturated slot s
  | .porstNAssert => onward_execPorstNAssert s
  | .porstNRelease pairSlot bootMode testEn => onward_execPorstNRelease pairSlot bootMode testEn s
  | .foscCheck khz => onward_execFoscCheck khz s
  | .xtal0Gate count => onward_execXtal0Gate count s
  | .xtal0StartTimeout => onward_execXtal0StartTimeout s
  | .rootLock => onward_execRootLock s
  | .rootAttemptTimeout => onward_execRootAttemptTimeout s
  | .dividerStep => onward_execDividerStep s
  | .xtal0Lost => onward_execXtal0Lost s
  | .rootUnlock => onward_execRootUnlock s
  | .xtal1Check ok => onward_execXtal1Check ok s
  | .clockMeterDone count => onward_execClockMeterDone count s
  | .railJudgement pins => onward_execRailJudgement pins s
  | .pmbusPoll device page answer => onward_execPmbusPoll device page answer s
  | .pmbAlert reads => onward_execPmbAlert reads s
  | .railEnable ready => onward_execRailEnable ready s
  | .riseTimeout rail => onward_execRiseTimeout rail s
  | .fallTimeout rail => onward_execFallTimeout rail s
  | .offDelayExpiry rail => onward_execOffDelayExpiry rail s
  | .resetOutputRelease output => onward_execResetOutputRelease output s
  | .pfwN => onward_execPfwN s
  | .powerFailReset => onward_execPowerFailReset s
  | .adcReferenceCheck => onward_execAdcReferenceCheck s
  | .thermalEvaluate die td => onward_execThermalEvaluate die td s
  | .thermalStageExit source stage => onward_execThermalStageExit source stage s
  | .slowStep source => onward_execSlowStep source s
  | .dieTripComparator sensor reading => onward_execDieTripComparator sensor reading s
  | .sensorStuck source => onward_execSensorStuck source s
  | .faultRecordClose entry => onward_execFaultRecordClose entry s
  | .selfTestTimeout entry => onward_execSelfTestTimeout entry s
  | .coreWatchdogExpiry core => onward_execCoreWatchdogExpiry core s
  | .coreStallEscalation core => onward_execCoreStallEscalation core s
  | .aliveToggle serviced => onward_execAliveToggle serviced s
  | .mirrorFrame flags cyc seq claimIn alive secs => onward_execMirrorFrame flags cyc seq claimIn alive secs s
  | .hello slot digest version claimIn => onward_execHello slot digest version claimIn s
  | .syncTimeout => onward_execSyncTimeout s
  | .bootClaim claimIn => onward_execBootClaim claimIn s
  | .claim claimIn alive => onward_execClaim claimIn alive s
  | .claimConflict => onward_execClaimConflict s
  | .galleryFlush => onward_execGalleryFlush s
  | .challengeExpiry => onward_execChallengeExpiry s
  | .grantExpiry => onward_execGrantExpiry s
  | .authBackoffEnd => onward_execAuthBackoffEnd s
  | .calStoreWriteComplete => onward_execCalStoreWriteComplete s
  | .configSlotWriteComplete => onward_execConfigSlotWriteComplete s
  | .bootImageCheck slots => onward_execBootImageCheck slots s
  | .firmwareStart keysOk claimIn => onward_execFirmwareStart keysOk claimIn s
  | .runDwellEnd => onward_execRunDwellEnd s
  | .keyScan down => onward_execKeyScan down s
  | .touchInterrupt report => onward_execTouchInterrupt report s
  | .touchStuck => onward_execTouchStuck s
  | .ledPwmStep => onward_execLedPwmStep s
  | .usbAttach vendor product ccid => onward_execUsbAttach vendor product ccid s
  | .usbDetach => onward_execUsbDetach s
  | .usbOverCurrent => onward_execUsbOverCurrent s
  | .vbusRestore => onward_execVbusRestore s
  | .maintenanceStart activity scope => onward_execMaintenanceStart activity scope s
  | .maintenanceComplete activity scope pass stagger scanStart sosOff => onward_execMaintenanceComplete activity scope pass stagger scanStart sosOff s
  | .fanOutStepDelay root child => onward_execFanOutStepDelay root child s
  | .fanOutStepTimeout root child => onward_execFanOutStepTimeout root child s
  | .lanePllLockTimeout pll => onward_execLanePllLockTimeout pll s
  | .synthReferenceCycle station dco => onward_execSynthReferenceCycle station dco s
  | .aerError port => onward_execAerError port s
  | .maintenanceCountTick activity scope => onward_execMaintenanceCountTick activity scope s
  | .quietWindowTimeout activity scope => onward_execQuietWindowTimeout activity scope s
  | .tokenSignTimeout => onward_execTokenSignTimeout s
  | .deviceReset => onward_execDeviceReset s
  | .buzzerDurationEnd => onward_execBuzzerDurationEnd s
  | .touchInterruptRelease => onward_execTouchInterruptRelease s

/-- A step runs the front command on the rest of the queue, which holds neither number. -/
theorem step_onward (s : State) : Ends (Onward s) (step s) := by
  unfold step
  split
  · exact .refl s
  next c rest _ => exact .after (s := s) (t := s.modPending fun _ => rest) rfl rfl (exec_onward c _)

/-- Settles O4: what every command does takes neither number back (`exec_onward`). -/
theorem versionsAndGalleryNumbersNeverFall : Obligations.VersionsAndGalleryNumbersNeverFall := by
  intro s t e
  have h : Ends (Onward s) (step s) := step_onward s
  rwa [e] at h

end Sys2Proof.Machine
end

section
/-! SUPPORT. What freeing unit entries leaves alone, the configuration sets that boot reads back (O57, and what O54 says of
them), and the state after reset (O60) (R24, R34, R35, R36). -/

namespace Sys2Proof.Machine

open Sys2Proof

variable {c : Cfg}

/-! ### A change of the sets (R24) -/

/-- Freeing entries changes the unit table's bookkeeping alone. -/
theorem freeEntries_eq (before : List Nat) (old s : State) :
    freeEntries before old s = { s with units := (freeEntries before old s).units } := by
  unfold freeEntries
  exact List.foldlRecOn (motive := fun t : State => t = { s with units := t.units }) _ _ rfl
    fun t ht i _ => by rw [ht]; rfl

theorem changeSets_cfg (f : Cfg → Cfg) (s : State) : (changeSets f s).cfg = f s.cfg := by
  rw [changeSets, freeEntries_eq]; rfl

/-- A change of the sets changes the configuration and the unit table's bookkeeping. -/
theorem changeSets_eq (f : Cfg → Cfg) (s : State) :
    changeSets f s = { s with cfg := (changeSets f s).cfg, units := (changeSets f s).units } := by
  rw [changeSets_cfg]
  exact freeEntries_eq ..

/-! ### The slots at boot (R34, R35, R36) -/

theorem loadSets_higherA (ha : c.slotA.good = true) (hb : c.slotB.good = true)
    (h : c.slotB.version ≤ c.slotA.version) :
    loadSets c = { c with slotIsB := false, cur := c.slotA.set, curVer := c.slotA.version,
                          prev := some (c.slotB.version, c.slotB.set) } := by
  simp [loadSets, ha, hb, h.not_gt]

theorem loadSets_higherB (ha : c.slotA.good = true) (hb : c.slotB.good = true)
    (h : c.slotA.version < c.slotB.version) :
    loadSets c = { c with slotIsB := true, cur := c.slotB.set, curVer := c.slotB.version,
                          prev := some (c.slotA.version, c.slotA.set) } := by
  simp [loadSets, ha, hb, h]

theorem loadSets_onlyA (ha : c.slotA.good = true) (hb : c.slotB.good = false) :
    loadSets c = { c with slotB := {}, slotIsB := false, cur := c.slotA.set, curVer := c.slotA.version, prev := none } := by
  simp [loadSets, ha, hb]

theorem loadSets_onlyB (ha : c.slotA.good = false) (hb : c.slotB.good = true) :
    loadSets c = { c with slotA := {}, slotIsB := true, cur := c.slotB.set, curVer := c.slotB.version, prev := none } := by
  simp [loadSets, ha, hb]

theorem loadSets_neither (ha : c.slotA.good = false) (hb : c.slotB.good = false) :
    loadSets c = { c with slotA := {}, slotB := {}, slotIsB := false, cur := {}, curVer := 0, prev := none } := by
  simp [loadSets, ha, hb]

/-- A slot that boot discards is PENDING, or ACTIVE with a wrong CRC. -/
theorem good_of_discarded {x : SetSlot} (h : x.discarded ≠ []) : x.good = false := by
  have hx : x.state = .pending ∨ (x.state = .active ∧ x.crcOk = false) := by
    by_contra hn
    exact h (if_neg hn)
  obtain hp | ⟨-, hc⟩ := hx
  · simp [SetSlot.good, hp]
  · simp [SetSlot.good, hc]

/-- Settles O57: no slot is good, so `loadSets` takes the default set (`loadSets_neither`). -/
theorem defaultSetAtBoot : Obligations.DefaultSetAtBoot := by
  unfold Obligations.DefaultSetAtBoot
  refine ⟨?neither, ⟨rfl, rfl⟩, ?discarded, changeSets_cfg loadSets⟩
  case neither =>
    intro c ha hb
    rw [loadSets_neither ha hb]
    exact ⟨rfl, rfl, rfl⟩
  case discarded =>
    intro c ha hb
    rw [loadSets_neither (good_of_discarded ha) (good_of_discarded hb)]
    exact ⟨rfl, rfl, rfl, rfl, rfl⟩

/-- Settles O60: every component of the reset state stands at its default, and a lane, station, axis or rail that no
table holds reads as the default one. -/
theorem resetState : Obligations.ResetState :=
  ⟨rfl, rfl, rfl, rfl, rfl, rfl, rfl, rfl, rfl, rfl, fun _ => ⟨rfl, rfl⟩, fun _ => ⟨rfl, rfl, rfl⟩, fun _ => rfl,
    fun _ => rfl, rfl, rfl, rfl, rfl, rfl, rfl, rfl, rfl⟩

end Sys2Proof.Machine
end

section
/-! SUPPORT. The UNIT_ commands on the staged set (O10) and the reads of the tree (O11): what the body of each answers in
the state it enters (R21, R22, R24 to R26, R28, R32, R400). -/

namespace Sys2Proof.Machine

open Sys2Proof

variable {m : Cmd} {s : State} {c : CfgSet}

/-! ### The staged set (R32) -/

theorem staging_ok (hc : s.cfg.staged = some c) (hp : s.cfg.pend = none) : staging s = .ok c := by
  simp [staging, hc, hp]

theorem stageUnit_eq (hc : s.cfg.staged = some c) (i : Nat) (u : UnitDesc) :
    stageUnit i u s = s.modCfg fun g => { g with staged := some { c with units := kvSet c.units i u } } := by
  simp [stageUnit, State.modCfg, hc]

section
variable (hc : s.cfg.staged = some c) (hp : s.cfg.pend = none)
include hc hp

/-- UNIT_CREATE takes the entry out of the free ones and stages the descriptor (R24, R26). -/
theorem bodyUnitCreate_ok {i a : Nat} (hh : checkHandle s c (m.h 2) = none) (hr : createRange c m = true)
    (hi : allocEntry s = some i) (ha : slotRun s (createDesc m).bankSlots = some a)
    (hn : nameTaken c (m.h 2) none (m.bytes 16 16) = false)
    (hd : depthOk { c with units := kvSet c.units i { createDesc m with gen := kvGet 0 s.units.gens i, firstSlot := a } } = true) :
    bodyUnitCreate m s = .done .ok (leBytes 2 (mkHandle (kvGet 0 s.units.gens i) i).toNat)
      (stageUnit i { createDesc m with gen := kvGet 0 s.units.gens i, firstSlot := a } (s.modUnits fun t =>
        { t with fresh := if t.freed.contains i then t.fresh else i + 1, freed := t.freed.filter (· != i) })) := by
  have hn' : nameTaken c (createDesc m).parent none (createDesc m).name = false := hn
  simp [bodyUnitCreate, staging_ok hc hp, hh, hr, hi, ha, hn', hd]

/-- UNIT_DELETE of a unit that nothing refers to (R25). -/
theorem bodyUnitDelete_ok (hk : c.children (hIndex m.handle) = []) (hl : loopRefers c m.handle = false)
    (hr : routeRefers c m.handle = false) (hg : gearRefers s m.handle = false) (hi : 32 ≤ hIndex m.handle) :
    bodyUnitDelete m s = .done .ok [] (changeSets (fun t =>
      { t with staged := t.staged.map fun x => { x with units := kvDel x.units (hIndex m.handle) } }) s) := by
  simp [bodyUnitDelete, staging_ok hc hp, hk, hl, hr, hg, Nat.not_lt.2 hi]

theorem bodyUnitMove_ok {u : UnitDesc} (hu : c.unit (hIndex m.handle) = some u) (hh : checkHandle s c (m.h 2) = none)
    (hi : 32 ≤ hIndex m.handle) (ha : parentAllowed u.utype (c.typeOf (m.h 2)) = true)
    (hb : c.under (hIndex m.handle) (hIndex (m.h 2)) = false)
    (hf : c.typeOf (m.h 2) = 0x0F → u.parent ≠ m.h 2 → (c.children (hIndex (m.h 2))).length < 255)
    (hn : nameTaken c (m.h 2) (some (hIndex m.handle)) u.name = false)
    (hd : depthOk { c with units := kvSet c.units (hIndex m.handle) { u with parent := m.h 2, order := m.u 1 1 } } = true) :
    bodyUnitMove m s = .done .ok [] (stageUnit (hIndex m.handle) { u with parent := m.h 2, order := m.u 1 1 } s) := by
  have hroom : ¬((c.typeOf (m.h 2) = 0x0F ∧ u.parent ≠ m.h 2) ∧ 255 ≤ (c.children (hIndex (m.h 2))).length) :=
    fun ⟨⟨ht, hne⟩, h⟩ => absurd (hf ht hne) h.not_gt
  simp [bodyUnitMove, staging_ok hc hp, hu, hh, Nat.not_lt.2 hi, ha, hb, hroom, hn, hd]

/-- UNIT_SET: of the values the flags may have, bit 1 is set in 2 alone. -/
theorem bodyUnitSet_ok {u : UnitDesc} (hu : c.unit (hIndex m.handle) = some u)
    (hf : m.u 2 1 = 0 ∨ (m.u 2 1 = 2 ∧ u.utype = 0x0F)) (hd : m.u 4 2 ≤ 10000) (ht : m.u 6 2 ≤ 60000)
    (hi : 32 ≤ hIndex m.handle ∨ m.bytes 16 16 = u.name)
    (hn : nameTaken c u.parent (some (hIndex m.handle)) (m.bytes 16 16) = false) :
    bodyUnitSet m s = .done .ok [] (stageUnit (hIndex m.handle)
      { u with order := m.u 1 1, retireAsOne := m.u 2 1 == 2, stepDelay := m.u 4 2
               stepTimeout := (if m.u 6 2 = 0 then 2000 else m.u 6 2), name := m.bytes 16 16 } s) := by
  have hbit : bitOf (m.u 2 1) 1 = (m.u 2 1 == 2) := by
    obtain h | ⟨h, -⟩ := hf <;> rw [h] <;> decide
  have hrange : ¬(¬(m.u 2 1 = 0 ∨ (m.u 2 1 = 2 ∧ u.utype = 0x0F)) ∨ 10000 < m.u 4 2 ∨ 60000 < m.u 6 2 ∨
      (hIndex m.handle < 32 ∧ m.bytes 16 16 ≠ u.name)) := by
    rintro (h | h | h | ⟨h, hne⟩)
    · exact h hf
    · omega
    · omega
    · exact hi.elim (fun hi => by omega) hne
  simp only [bodyUnitSet, staging_ok hc hp, hu, if_neg hrange, hn, hbit]
  rfl

end

/-- Settles O10: each command by its body's equation; the staged set of the result is that of `stageUnit`. -/
theorem unitStagingCommandsComplete : Obligations.UnitStagingCommandsComplete := by
  unfold Obligations.UnitStagingCommandsComplete
  refine ⟨?create, ?delete, ?move, ?set⟩
  case create =>
    intro m s c i a e u h hc hp hh hr hi ha hn hd
    refine ⟨_, runCmd_ok h (bodyUnitCreate_ok hc hp hh hr hi ha hn hd), ?_⟩
    rw [stageUnit_eq (by exact hc)]
    exact ⟨rfl, by simp [State.modCfg, State.modUnits], rfl, rfl⟩
  case delete =>
    intro m s c e i h hc hp hk hl hr hg hi
    refine ⟨_, runCmd_ok h (bodyUnitDelete_ok hc hp hk hl hr hg hi), ?_, changeSets_eq _ _⟩
    rw [changeSets_cfg, show (entered opUnitDelete m s).cfg.staged = some c from hc]
    rfl
  case move =>
    intro m s c u e i u' h hc hp hu hh hi ha hb hf hn hd
    exact ⟨_, runCmd_ok h (bodyUnitMove_ok hc hp hu hh hi ha hb hf hn hd), stageUnit_eq hc _ _⟩
  case set =>
    intro m s c u e i u' h hc hp hu hf hd ht hi hn
    exact ⟨_, runCmd_ok h (bodyUnitSet_ok hc hp hu hf hd ht hi hn), stageUnit_eq hc _ _⟩

/-! ### Reads (R24, R28) -/

theorem exec_unitLookup : exec (.unitLookup m) s = .next (runCmd opUnitLookup noTicket m (bodyUnitLookup m) s) := rfl

theorem bodyUnitRead_current (h : m.u 1 1 = 0) :
    bodyUnitRead m s = .done .ok (descBytes s s.cfg.cur (hIndex m.handle)) s := by
  simp [bodyUnitRead, h]

theorem bodyUnitRead_staged (h : m.u 1 1 = 1) (hc : s.cfg.staged = some c) :
    bodyUnitRead m s = .done .ok (descBytes s c (hIndex m.handle)) s := by
  simp [bodyUnitRead, h, hc]

section
variable (hh : checkHandle s s.cfg.cur (m.h 0) = none)
include hh

theorem bodyUnitLookup_found {i : Nat} (hi : (s.cfg.cur.children (hIndex (m.h 0))).find?
      (fun j => (s.cfg.cur.unit j).any fun u => u.name == m.bytes 16 16) = some i) :
    bodyUnitLookup m s = .done .ok (leBytes 2 (s.cfg.cur.handle i).toNat) s := by
  simp only [bodyUnitLookup, hh, hi]

theorem bodyUnitLookup_none (hn : ∀ j ∈ s.cfg.cur.children (hIndex (m.h 0)),
      ((s.cfg.cur.unit j).any fun u => u.name == m.bytes 16 16) = false) :
    bodyUnitLookup m s = refuse .noUnit s := by
  have hnone : (s.cfg.cur.children (hIndex (m.h 0))).find?
      (fun j => (s.cfg.cur.unit j).any fun u => u.name == m.bytes 16 16) = none :=
    List.find?_eq_none.2 fun j hj => by simp [hn j hj]
  simp only [bodyUnitLookup, hh, hnone]

end

theorem bodyUnitChildren_eq : bodyUnitChildren m s =
    let cs := (s.cfg.cur.children (hIndex m.handle)).drop (m.u 1 1)
    .done .ok (leBytes 1 (min 23 cs.length) ++ leBytes 1 (if 23 < cs.length then 1 else 0) ++
      (cs.take 23).flatMap fun i => leBytes 2 (s.cfg.cur.handle i).toNat) s := by
  simp [bodyUnitChildren, bnat]

/-- Settles O11: each read by its body's equation, which leaves the state it enters. -/
theorem unitReadsComplete : Obligations.UnitReadsComplete := by
  unfold Obligations.UnitReadsComplete
  refine ⟨?current, ?staged, ?found, ?absent, ?children⟩
  case current =>
    intro m s e h hu
    exact runCmd_ok h (bodyUnitRead_current hu)
  case staged =>
    intro m s c e h hu hc
    exact runCmd_ok h (bodyUnitRead_staged hu hc)
  case found =>
    intro m s i e named h hh hi
    exact runCmd_ok h (bodyUnitLookup_found hh hi)
  case absent =>
    intro m s e h hh hn
    rw [exec_unitLookup, runCmd_done h (bodyUnitLookup_none hh hn) (by decide)]
    rfl
  case children =>
    intro m s e cs h
    exact runCmd_ok h bodyUnitChildren_eq

end Sys2Proof.Machine
end

section
/-! SUPPORT. Fan-outs (O12): which of them a command starts, one step of each kind, and the end (R27, R28, R29). -/

namespace Sys2Proof.Machine

open Sys2Proof

variable {m : Cmd} {s : State} {f : FanOut} {h : Handle} {r : List Handle} {k : Nat}

/-! ### The arms -/

theorem exec_unitEnable :
    exec (.unitEnable m) s = .next (startFans (runCmd opUnitEnable noTicket m (bodyUnitEnable m) s)) := rfl

theorem exec_unitDisable :
    exec (.unitDisable m) s = .next (startFans (runCmd opUnitDisable noTicket m (bodyUnitDisable m) s)) := rfl

theorem exec_fanOutStepDelay (r h : Handle) : exec (.fanOutStepDelay r h) s = execFanOutStepDelay r h s := rfl

theorem exec_fanOutStepTimeout (r h : Handle) : exec (.fanOutStepTimeout r h) s = execFanOutStepTimeout r h s := rfl

/-! ### Starting (R28) -/

theorem bodyUnitEnable_later (hb : fanBusy s m.handle = false) : bodyUnitEnable m s =
    .later (putFan { root := m.handle, todo := (fanOrder s.cfg.cur 16 (hIndex m.handle)).map s.cfg.cur.handle } s) := by
  simp [bodyUnitEnable, hb]

theorem bodyUnitEnable_busy (hb : fanBusy s m.handle = true) : bodyUnitEnable m s = refuse .busy s := by
  simp [bodyUnitEnable, hb]

theorem bodyUnitDisable_later (hb : fanBusy s m.handle = false) : bodyUnitDisable m s =
    .later (putFan { root := m.handle, disable := true
                     todo := ((fanOrder s.cfg.cur 16 (hIndex m.handle)).map s.cfg.cur.handle).reverse } s) := by
  simp [bodyUnitDisable, hb]

theorem bodyUnitDisable_busy (hb : fanBusy s m.handle = true) : bodyUnitDisable m s = refuse .busy s := by
  simp [bodyUnitDisable, hb]

/-- A unit without children is its own fan-out. -/
theorem fanOrder_leaf {c : CfgSet} {i : Nat} (hk : c.children i = []) : fanOrder c 16 i = [i] := by
  simp [fanOrder, hk]

/-- Where every fan-out waits, none starts. -/
theorem startFans_waiting (hw : ∀ g ∈ s.units.fans, g.cur.isSome = true) : startFans s = s := by
  have hnone : (s.units.fans.filter fun g => g.cur.isNone) = [] :=
    List.filter_eq_nil_iff.2 fun g hg => by simp [Option.isSome_iff_ne_none.1 (hw g hg)]
  simp [startFans, hnone]

/-- Where every other fan-out waits, the one that a command has put there starts. -/
theorem startFans_underWay (i : CmdInfo) (hf : f.cur = none) (hw : ∀ g ∈ s.units.fans, g.cur.isSome = true) :
    startFans (underWay i m (putFan f s)) = runFan 2100 f (underWay i m (putFan f s)) := by
  have hfans : (underWay i m (putFan f s)).units.fans = (s.units.fans.filter fun g => g.root != f.root) ++ [f] := rfl
  have hrest : ((s.units.fans.filter fun g => g.root != f.root).filter fun g => g.cur.isNone) = [] :=
    List.filter_eq_nil_iff.2 fun g hg => by
      simp [Option.isSome_iff_ne_none.1 (hw g (List.mem_of_mem_filter hg))]
  simp [startFans, hfans, hrest, hf]

/-! ### One step (R28) -/

section
variable (ht : f.todo = h :: r)
include ht

section
variable (hd : f.disable = false) (hu : f.undo = false)
include hd hu

theorem runFan_turns (hx : unitFailed s (hIndex h) = true) :
    runFan (k + 1) f s = runFan k { f with todo := f.done, done := [], cur := none, undo := true } s := by
  simp [runFan, ht, hd, hu, hx]

theorem runFan_enables (hx : unitFailed s (hIndex h) = false) (hr : canReady s (hIndex h) = true) :
    runFan (k + 1) f s =
      if stepDelayOf (enableUnit (hIndex h) s) h = 0 then
        runFan k { f with todo := r, done := h :: f.done, cur := none } (enableUnit (hIndex h) s)
      else putFan { f with todo := r, done := h :: f.done, cur := some h } (enableUnit (hIndex h) s) := by
  simp [runFan, ht, hd, hu, hx, hr]

theorem runFan_awaits (hx : unitFailed s (hIndex h) = false) (hr : canReady s (hIndex h) = false) :
    runFan (k + 1) f s = putFan { f with cur := some h } (wantRail (hIndex h) s) := by
  simp [runFan, ht, hd, hu, hx, hr]

end

theorem runFan_awaitsNode (hd : f.disable = true) (hu : f.undo = false) (hn : nodeServes s (hIndex h) = false) :
    runFan (k + 1) f s = putFan { f with cur := some h } s := by
  simp [runFan, ht, hd, hu, hn]

theorem runFan_disables (hd : f.disable = true) (hn : nodeServes s (hIndex h) = true)
    (h0 : stepDelayOf (disableUnit (hIndex h) s) h = 0) :
    runFan (k + 1) f s =
      runFan k { f with todo := r, done := h :: f.done, cur := none } (disableUnit (hIndex h) s) := by
  simp [runFan, ht, hd, hn, h0]

end

/-- A fan-out with no unit left ends (R28). -/
theorem runFan_done (ht : f.todo = []) : runFan (k + 1) f s = fanDone f s := by
  simp [runFan, ht]

/-- The last enable step without a delay ends the fan-out. -/
theorem runFan_enableLast (ht : f.todo = [h]) (hd : f.disable = false) (hu : f.undo = false)
    (hx : unitFailed s (hIndex h) = false) (hr : canReady s (hIndex h) = true)
    (h0 : stepDelayOf (enableUnit (hIndex h) s) h = 0) :
    runFan (k + 2) f s =
      fanDone { f with todo := [], done := h :: f.done, cur := none } (enableUnit (hIndex h) s) := by
  rw [runFan_enables ht hd hu hx hr, if_pos h0, runFan_done rfl]

/-- The last disable step without a delay ends the fan-out. -/
theorem runFan_disableLast (ht : f.todo = [h]) (hd : f.disable = true) (hn : nodeServes s (hIndex h) = true)
    (h0 : stepDelayOf (disableUnit (hIndex h) s) h = 0) :
    runFan (k + 2) f s =
      fanDone { f with todo := [], done := h :: f.done, cur := none } (disableUnit (hIndex h) s) := by
  rw [runFan_disables ht hd hn h0, runFan_done rfl]

/-! ### A unit's own step leaves the sets -/

theorem setUnitState_cfg (st : UnitState) (cls : Nat) : (setUnitState h st cls s).cfg = s.cfg := by
  unfold setUnitState
  extract_lets old code
  split <;> simp

/-- Changes of the unit's loop slots leave the sets. -/
theorem foldl_cfg {α : Type} {g : State → α → State} (hg : ∀ t a, (g t a).cfg = t.cfg) (l : List α) (s : State) :
    (l.foldl g s).cfg = s.cfg := List.foldlRecOn (motive := fun t : State => t.cfg = s.cfg) l g rfl
  fun t ht a _ => (hg t a).trans ht

theorem enableUnit_cfg (i : Nat) (s : State) : (enableUnit i s).cfg = s.cfg := by
  unfold enableUnit
  extract_lets h t u
  have ht : t.cfg = s.cfg := foldl_cfg (g := fun t k => enableLoop k t) (fun t k => rfl) _ s
  have hu : u.cfg = s.cfg := by
    simp only [u]
    split
    · exact ht
    · exact ht
  split
  · exact hu
  · rw [setUnitState_cfg, hu]

theorem disableUnit_cfg (i : Nat) (s : State) : (disableUnit i s).cfg = s.cfg := by
  unfold disableUnit
  extract_lets h t u
  have ht : t.cfg = s.cfg := foldl_cfg (g := fun t k => disableLoop k t) (fun t k => rfl) _ s
  have hu : u.cfg = s.cfg := by
    simp only [u]
    split
    · exact ht
    · exact ht
  split
  · exact hu
  · rw [setUnitState_cfg, hu]

theorem stepDelayOf_congr {t : State} (hc : t.cfg = s.cfg) : stepDelayOf t h = stepDelayOf s h := by
  simp [stepDelayOf, hc]

theorem nodeServes_congr {t : State} (hc : t.cfg = s.cfg) (hn : t.ring = s.ring) (i : Nat) :
    nodeServes t i = nodeServes s i := by
  simp only [nodeServes, State.node, hc, hn]

theorem canReady_congr {t : State} (hc : t.cfg = s.cfg) (hn : t.ring = s.ring) (hl : t.units.live = s.units.live)
    (hp : t.power = s.power) (i : Nat) : canReady t i = canReady s i := by
  simp only [canReady, liveOf, railUnit, State.rail, nodeServes_congr hc hn, hc, hl, hp]
  rfl

/-- Settles O12: the commands by their bodies' equations and `startFans_underWay`, the steps by `runFan_…`. -/
theorem fanOutsEnableInOrderAndUndo : Obligations.FanOutsEnableInOrderAndUndo := by
  unfold Obligations.FanOutsEnableInOrderAndUndo
  refine ⟨?enable, ?disable, ?enableLeaf, ?disableLeaf, ?step, ?disableStep, ?done, ?enableBusy, ?disableBusy, ?delay,
    ?timeout⟩
  case enable =>
    intro m s e f h hb hw
    rw [exec_unitEnable, runCmd_later h (bodyUnitEnable_later hb), startFans_underWay _ rfl hw]
  case disable =>
    intro m s e f h hb hw
    rw [exec_unitDisable, runCmd_later h (bodyUnitDisable_later hb), startFans_underWay _ rfl hw]
  case enableLeaf =>
    intro m s e i f h hb hw hk hh hx hr h0
    have hf : (fanOrder e.cfg.cur 16 i).map e.cfg.cur.handle = [m.handle] := by simp [fanOrder_leaf hk, hh]
    let u := underWay opUnitEnable m (putFan f e)
    have hr' : canReady u i = true := (canReady_congr (t := u) (s := e) rfl rfl rfl rfl i).trans hr
    have h0' : stepDelayOf (enableUnit i u) m.handle = 0 := (stepDelayOf_congr (enableUnit_cfg i u)).trans h0
    have hlast := runFan_enableLast (k := 2098) (f := f) (h := m.handle) (s := u) rfl rfl rfl hx hr' h0'
    rw [exec_unitEnable, runCmd_later h (bodyUnitEnable_later hb), startFans_underWay _ rfl hw, hf]
    exact congrArg Host.Outcome.next hlast
  case disableLeaf =>
    intro m s e i f h hb hw hk hh hn h0
    have hf : ((fanOrder e.cfg.cur 16 i).map e.cfg.cur.handle).reverse = [m.handle] := by simp [fanOrder_leaf hk, hh]
    let u := underWay opUnitDisable m (putFan f e)
    have hn' : nodeServes u i = true := (nodeServes_congr (t := u) (s := e) rfl rfl i).trans hn
    have h0' : stepDelayOf (disableUnit i u) m.handle = 0 := (stepDelayOf_congr (disableUnit_cfg i u)).trans h0
    have hlast := runFan_disableLast (k := 2098) (f := f) (h := m.handle) (s := u) rfl rfl hn' h0'
    rw [exec_unitDisable, runCmd_later h (bodyUnitDisable_later hb), startFans_underWay _ rfl hw, hf]
    exact congrArg Host.Outcome.next hlast
  case step =>
    intro k f h r s t g ht hd hu
    exact ⟨runFan_turns ht hd hu, runFan_enables ht hd hu, runFan_awaits ht hd hu⟩
  case disableStep =>
    intro k f h r s ht hd hu hn
    exact runFan_awaitsNode ht hd hu hn
  case done =>
    intro k f s ht
    exact runFan_done ht
  case enableBusy =>
    intro m s e h hb hw
    refine ⟨_, rfl, ?_⟩
    rw [runCmd_done h (bodyUnitEnable_busy hb) (by decide)]
    exact startFans_waiting (by rw [respond_units]; exact hw)
  case disableBusy =>
    intro m s e h hb hw
    refine ⟨_, rfl, ?_⟩
    rw [runCmd_done h (bodyUnitDisable_busy hb) (by decide)]
    exact startFans_waiting (by rw [respond_units]; exact hw)
  case delay =>
    intro r h f s hf
    constructor
    · intro hgo
      have hno : ¬((!f.disable && !f.undo && unitFailed s (hIndex h)) = true) := by
        obtain hd | hu | hx := hgo <;> simp [*]
      simp only [exec_fanOutStepDelay, execFanOutStepDelay, hf, if_neg hno]
    · intro hd hu hx
      simp only [exec_fanOutStepDelay, execFanOutStepDelay, hf, hd, hu, hx]
      rfl
  case timeout =>
    intro r h f s hf
    constructor
    · intro hd
      simp only [exec_fanOutStepTimeout, execFanOutStepTimeout, hf, hd]
      rfl
    · intro hd
      simp only [exec_fanOutStepTimeout, execFanOutStepTimeout, hf, hd]
      rfl

end Sys2Proof.Machine
end

section
/-! SUPPORT. The CFG_ commands on the staged set (O13), and the acceptance of a set by CFG_COMMIT and CFG_REVERT with the
end of its slot write (O14) (R32 to R35, R37, R40, R401, R402). -/

namespace Sys2Proof.Machine

open Sys2Proof

variable {m : Cmd} {s : State} {c : CfgSet}

/-! ### The arms -/

theorem exec_cfgStageBegin :
    exec (.cfgStageBegin m) s = .next (runCmd opCfgStageBegin noTicket m bodyCfgStageBegin s) := rfl

theorem exec_cfgCommit : exec (.cfgCommit m) s =
    .next (runCmd opCfgCommit commitNeed m (bodyCfgCommit (ticketRole (commitNeed s) s) m) s) := rfl

theorem exec_cfgRevert : exec (.cfgRevert m) s =
    .next (runCmd opCfgRevert revertNeed m (bodyCfgRevert (ticketRole (revertNeed s) s) m) s) := rfl

theorem exec_configSlotWriteComplete : exec .configSlotWriteComplete s = execConfigSlotWriteComplete s := rfl

/-! ### The staged set (R32, R401) -/

theorem bodyCfgStageBegin_ok (hc : s.cfg.staged = none) :
    bodyCfgStageBegin s = .done .ok [] (s.modCfg fun c => { c with staged := some s.latestSet }) := by
  simp [bodyCfgStageBegin, hc]

theorem bodyCfgStageBegin_conflict (hc : s.cfg.staged = some c) : bodyCfgStageBegin s = refuse .conflict s := by
  simp [bodyCfgStageBegin, hc]

theorem bodyCfgWrite_ok (hi : inEntry m = true) (hc : s.cfg.staged = some c) (hp : s.cfg.pend = none)
    (hz : (c.write (m.u 0 1) (m.u 2 2) (m.u 4 2) (m.bytes 16 (m.u 6 2))).size ≤ 262144) :
    bodyCfgWrite m s = .done .ok [] (s.modCfg fun g =>
      { g with staged := some (c.write (m.u 0 1) (m.u 2 2) (m.u 4 2) (m.bytes 16 (m.u 6 2))) }) := by
  simp [bodyCfgWrite, hi, staging_ok hc hp, Nat.not_lt.2 hz]

theorem bodyCfgStageAbort_ok (hc : s.cfg.staged = some c) :
    bodyCfgStageAbort s = .done .ok [] (changeSets (fun c => { c with staged := none }) s) := by
  simp [bodyCfgStageAbort, hc]

theorem bodyCfgRead_ok (hi : inEntry m = true) (hn : m.u 1 1 ≤ 2) (hc : sourceSet (m.u 1 1) s = some c) :
    bodyCfgRead m s = .done .ok (c.read (m.u 0 1) (m.u 2 2) (m.u 4 2) (m.u 6 2)) s := by
  simp [bodyCfgRead, hi, Nat.not_lt.2 hn, hc]

/-- A flag and three reserved bytes. -/
theorem leBytes_flag (b : Bool) :
    leBytes 1 (bnat b) ++ leBytes 3 0 = [if b then 1#8 else 0#8, 0#8, 0#8, 0#8] := by
  cases b <;> rfl

theorem bodyCfgStatus_eq : bodyCfgStatus s =
    let prev := match s.cfg.prev with | some p => p.1 | none => 0
    let pend := match s.cfg.pend with | some p => p.version | none => 0
    let dig := match s.cfg.staged with | some c => setDigest c | none => List.replicate 32 0#8
    .done .ok (leBytes 4 s.cfg.curVer ++ leBytes 4 prev ++ leBytes 4 pend ++
      [if s.cfg.staged.isSome then 1#8 else 0#8, 0#8, 0#8, 0#8] ++ dig) s := by
  unfold bodyCfgStatus
  extract_lets prev pend dig
  rw [List.append_assoc _ (leBytes 1 _), leBytes_flag]
  rfl

/-- Settles O13: each command by its body's equation. -/
theorem stagedSetCommandsComplete : Obligations.StagedSetCommandsComplete := by
  unfold Obligations.StagedSetCommandsComplete
  refine ⟨?begin, ?beginConflict, ?write, ?abort, ?read, ?status⟩
  case begin =>
    intro m s e h hc
    exact runCmd_ok h (bodyCfgStageBegin_ok hc)
  case beginConflict =>
    intro m s c e h hc
    rw [exec_cfgStageBegin, runCmd_done h (bodyCfgStageBegin_conflict hc) (by decide)]
    rfl
  case write =>
    intro m s c e c' h hi hc hp hz
    exact runCmd_ok h (bodyCfgWrite_ok hi hc hp hz)
  case abort =>
    intro m s c e h hc
    exact ⟨_, runCmd_ok h (bodyCfgStageAbort_ok hc), changeSets_cfg _ _, changeSets_eq _ _⟩
  case read =>
    intro m s c e h hi hn hc
    exact runCmd_ok h (bodyCfgRead_ok hi hn hc)
  case status =>
    intro m s e prev pend dig h
    exact runCmd_ok h bodyCfgStatus_eq

/-! ### Acceptance (R33, R34, R35, R37) -/

theorem acceptReply_eq (s : State) : acceptReply s =
    .done .ok (leBytes 4 s.cfg.highVer ++ leBytes 1 (binding s) ++ leBytes 11 0) (effectIfIdle s) := by
  rw [acceptReply, List.append_assoc _ (leBytes 5 0)]
  rfl

section
variable {role : Nat} (hv : s.cfg.highVer < 0xFFFFFFFF)
  (hr : (s.cfg.routePend.isSome && routeDiffers s.cfg.cur c) = false)
include hv hr

theorem bodyCfgCommit_ok (hc : s.cfg.staged = some c) (hp : s.cfg.pend = none) (hd : m.bytes 0 32 = setDigest c)
    (hk : contentOk s c = true) (hm : tooMany c = false) :
    bodyCfgCommit role m s = acceptReply (acceptSet (trimSpoil c) false role s) := by
  simp [bodyCfgCommit, hc, hp, hd, hk, Nat.not_le.2 hv, hr, hm]

theorem bodyCfgRevert_ok {v : Nat} (hc : s.cfg.prev = some (v, c)) (hp : s.cfg.pend = none) (hm : m.u 0 4 = v) :
    bodyCfgRevert role m s = acceptReply (acceptSet c true role s) := by
  simp [bodyCfgRevert, hc, hp, hm, Nat.not_le.2 hv, hr]

end

theorem bodyCfgCommit_busy {role : Nat} {p : Pend} (hc : s.cfg.staged = some c) (hp : s.cfg.pend = some p) :
    bodyCfgCommit role m s = refuse .busy s := by
  simp [bodyCfgCommit, hc, hp]

theorem bodyCfgRevert_busy {role : Nat} {p : Pend} (hp : s.cfg.pend = some p) :
    bodyCfgRevert role m s = refuse .busy s := by
  simp [bodyCfgRevert, hp]

theorem trainNew_cfg (base c : CfgSet) (s : State) : (trainNew base c s).cfg = s.cfg := by
  unfold trainNew
  refine foldl_cfg (fun t l => ?_) _ s
  extract_lets ready
  split <;> rfl

theorem configRecord_cfg (old new state cls role : Nat) (s : State) :
    (configRecord old new state cls role s).cfg = s.cfg := galWrite_cfg ..

theorem recordGens_eq (s : State) (c : CfgSet) : recordGens s c = { c with gens := (recordGens s c).gens } := by
  simp only [recordGens]

/-- Acceptance numbers the set after the highest version consumed and leaves it pending. -/
theorem acceptSet_pending (c : CfgSet) (revert : Bool) (role : Nat) (s : State) :
    let t := acceptSet c revert role s
    t.cfg.highVer = s.cfg.highVer + 1 ∧ t.cfg.cur = s.cfg.cur ∧ t.cfg.curVer = s.cfg.curVer ∧
    t.cfg.writing = !revert ∧ t.cfg.staged = (if revert then s.cfg.staged else none) ∧
    ∃ p, t.cfg.pend = some p ∧ p.set = { c with gens := p.set.gens } ∧ p.base = s.cfg.cur ∧
      p.version = s.cfg.highVer + 1 ∧ p.oldVersion = s.cfg.curVer ∧ p.revert = revert ∧ p.bound = none := by
  unfold acceptSet
  extract_lets v old base c' cls turn s₁ slot s₂ s₃ s₄ t
  have hs₃ : s₃.cfg = s₂.cfg := by unfold s₃; split <;> rfl
  have ht : t.cfg = s₂.cfg := by rw [configRecord_cfg, trainNew_cfg, hs₃]
  rw [ht]
  exact ⟨rfl, rfl, rfl, rfl, rfl, _, rfl, recordGens_eq s c, rfl, rfl, rfl, rfl, rfl⟩

/-! ### The slot write (R35) -/

/-- The pending set stands in the slot that is not the current one's; its write has ended. -/
def slotWritten (p : Pend) (s : State) : State :=
  s.modCfg fun c =>
    { c with
      writing := false, pend := some { p with slotDone := true }
      slotA := if c.slotIsB then slotWith p.version .pending p.set else c.slotA
      slotB := if c.slotIsB then c.slotB else slotWith p.version .pending p.set }

theorem execConfigSlotWriteComplete_writing {p : Pend} (hp : s.cfg.pend = some p) (hw : s.cfg.writing = true) :
    execConfigSlotWriteComplete s = .next (effectIfIdle (slotWritten p s)) := by
  simp [execConfigSlotWriteComplete, slotWritten, hp, hw]

/-- Settles O14: the commands by their bodies' equations, the acceptance by `acceptSet_pending`, the end of the slot
write by `slotWritten`. -/
theorem commitConsumesNextVersion : Obligations.CommitConsumesNextVersion := by
  unfold Obligations.CommitConsumesNextVersion
  refine ⟨?commit, ?revert, acceptSet_pending, ?written, ?commitBusy, ?revertBusy⟩
  case commit =>
    intro m s c e need role h hc hp hd hk hv hr hm t
    exact runCmd_ok h ((bodyCfgCommit_ok hv hr hc hp hd hk hm).trans (acceptReply_eq t))
  case revert =>
    intro m s v c e need role h hc hp hm hv hr t
    exact runCmd_ok h ((bodyCfgRevert_ok hv hr hc hp hm).trans (acceptReply_eq t))
  case written =>
    intro p s hp hw
    refine ⟨slotWritten p s, ?_, rfl, rfl, ?_, ?_, rfl⟩
    · rw [exec_configSlotWriteComplete, execConfigSlotWriteComplete_writing hp hw]
    · cases hb : s.cfg.slotIsB <;> simp [slotWritten, hb]
    · cases hb : s.cfg.slotIsB <;> simp [slotWritten, hb]
  case commitBusy =>
    intro m s c p e h hc hp
    rw [exec_cfgCommit, runCmd_done h (bodyCfgCommit_busy hc hp) (by decide)]
    rfl
  case revertBusy =>
    intro m s p e h hp
    rw [exec_cfgRevert, runCmd_done h (bodyCfgRevert_busy hp) (by decide)]
    rfl

end Sys2Proof.Machine
end

section
/-! SUPPORT. The boot ROM's slots one by one, and what the start of firmware leaves (O54) (R34 to R36, R292, R335, R371,
R377, R378, R380, R396, R450). -/

namespace Sys2Proof.Machine

open Sys2Proof

variable {s : State} {k d : Nat} {sg : Bool}

/-! ### The boot ROM (R377, R378) -/

theorem exec_bootImageCheck (l : List (Option (Nat × Bool))) :
    exec (.bootImageCheck l) s = execBootImageCheck l s := rfl

/-- The state in which the ROM has read what stands in the two QSPI slots. -/
def slotsRead (l : List (Option (Nat × Bool))) (s : State) : State :=
  s.modAuth fun a => { a with qspi := (l.take 2).map fun x => x.map (·.1) }

theorem execBootImageCheck_skips {l : List (Option (Nat × Bool))}
    (h : s.boot.porst = true ∨ s.clk.foscGood = false ∨ s.boot.stage ≠ .rom) : execBootImageCheck l s = .next s := by
  have hskip : (s.boot.porst || !s.clk.foscGood || s.boot.stage != .rom) = true := by
    obtain h | h | h := h <;> simp [h]
  rw [execBootImageCheck, if_pos hskip]

/-- The ROM tries the two slots in their order; when no image is accepted, none runs. -/
theorem execBootImageCheck_tries (a b : Option (Nat × Bool)) (hp : s.boot.porst = false) (hf : s.clk.foscGood = true)
    (hs : s.boot.stage = .rom) :
    execBootImageCheck [a, b] s =
      let t := trySlot (trySlot (slotsRead [a, b] s) 0 a) 1 b
      .next (if t.boot.stage = .rom then t.modBoot fun b => { b with stage := .none } else t) := by
  have hgo : ¬((s.boot.porst || !s.clk.foscGood || s.boot.stage != .rom) = true) := by simp [hp, hf, hs]
  rw [execBootImageCheck, if_neg hgo]
  rfl

/-- Once an image is accepted, no further slot is tried. -/
theorem trySlot_decided (h : s.boot.stage ≠ .rom) (x : Option (Nat × Bool)) : trySlot s k x = s := by
  cases x with
  | none => rfl
  | some x => simp [trySlot, h]

theorem trySlot_accepts (hs : s.boot.stage = .rom) (hd : s.auth.digests = [] ∨ d ∈ s.auth.digests) :
    trySlot s k (some (d, true)) =
      s.modBoot fun b => { b with imageSlot := k, stage := .accepted, imageDigest := d } := by
  simp [trySlot, hs, hd, State.modBoot]

/-- A slot that is refused is marked and told of; the ROM goes on. -/
theorem trySlot_refuses (hs : s.boot.stage = .rom) (hd : sg = false ∨ (s.auth.digests ≠ [] ∧ d ∉ s.auth.digests)) :
    (trySlot s k (some (d, sg))).boot = { s.boot with imageSlot := k, refused := setBit s.boot.refused k } := by
  have hno : ¬(sg = true ∧ (s.auth.digests = [] ∨ d ∈ s.auth.digests)) := by
    rintro ⟨hsg, hlisted⟩
    obtain h | ⟨hne, hn⟩ := hd
    · simp [h] at hsg
    · exact hlisted.elim hne hn
  simp [trySlot, hs, hno, (tells_galPut ..).boot]

theorem getLsbD_setBit_self (x : BitVec 16) (hk : k < 16) : (setBit x k).getLsbD k = true := by
  rw [setBit, BitVec.getLsbD_or, BitVec.getLsbD_ofNat]
  simp [hk, Nat.testBit_two_pow_self]

/-! ### The start of firmware (R36, R396, R450) -/

/-- Firmware that starts serves empty rings, in limp when the clocks failed and running when not. -/
theorem execFirmwareStart_serves (a c : Bool) (hp : s.boot.porst = false) (hs : s.boot.stage = .accepted)
    (hc : s.clk.stairDone = true ∨ s.boot.cause ≠ 0#4) :
    ∃ t, execFirmwareStart a c s = .next t ∧ t.mbx.live = true ∧ t.mbx.inRing = [] ∧
      (s.boot.cause = 0#4 → t.boot.stage = .running) ∧ (s.boot.cause ≠ 0#4 → t.boot.stage = .limp) := by
  have hgo : (s.boot.porst || s.boot.stage != .accepted || !(s.clk.stairDone || s.boot.cause != 0#4)) = false := by
    obtain h | h := hc <;> simp [hp, hs, h]
  obtain ⟨u, hu, e⟩ := execFirmwareStart_starts (keysOk := a) (claimIn := c) hgo
  have hcause : u.boot.cause = s.boot.cause := hu.cause
  by_cases h0 : s.boot.cause = 0#4
  · have hr := keeps_enterRunning u
    rw [if_neg (by rw [hcause]; exact not_not.2 h0)] at e
    exact ⟨_, e, hr.live.trans hu.live, hr.inRing.trans hu.inRing, fun _ => hr.stage, fun h => absurd h0 h⟩
  · have hl := keeps_enterLimp u
    rw [if_pos (by rwa [hcause])] at e
    exact ⟨_, e, hl.live.trans hu.live, hl.inRing.trans hu.inRing, fun h => absurd h h0, fun _ => hl.stage⟩

/-- Settles O54: the ROM slot by slot, the start of firmware by what entering a stage keeps, the sets by `loadSets_…`. -/
theorem bootReadsImagesAndStores : Obligations.BootReadsImagesAndStores := by
  unfold Obligations.BootReadsImagesAndStores
  refine ⟨?skips, ?accepts, ?blank, ?refuses, ?waits, ?starts, ?sets⟩
  case skips =>
    intro l s h
    exact execBootImageCheck_skips h
  case accepts =>
    intro d s hp hf hs hd x
    let u := slotsRead [some (d, true), x] s
    refine ⟨u.modBoot fun b => { b with imageSlot := 0, stage := .accepted, imageDigest := d }, ?_, rfl, rfl, rfl, rfl⟩
    have h₀ := trySlot_accepts (s := u) (k := 0) hs hd
    rw [exec_bootImageCheck, execBootImageCheck_tries _ x hp hf hs, h₀, trySlot_decided (by simp)]
    rfl
  case blank =>
    intro s hp hf hs
    refine ⟨(slotsRead [none, none] s).modBoot fun b => { b with stage := .none }, ?_, rfl, rfl⟩
    rw [exec_bootImageCheck, execBootImageCheck_tries none none hp hf hs]
    exact congrArg Host.Outcome.next (if_pos hs)
  case refuses =>
    intro k d sg s hs hd
    rw [trySlot_refuses hs hd]
    exact ⟨hs, getLsbD_setBit_self _⟩
  case waits =>
    intro a c s h
    have hwait : (s.boot.porst || s.boot.stage != .accepted || !(s.clk.stairDone || s.boot.cause != 0#4)) = true := by
      obtain h | h | ⟨hd, hc⟩ := h
      · simp [h]
      · simp [h]
      · simp [hd, hc]
    exact execFirmwareStart_waits hwait
  case starts =>
    intro a c s hp hs hc
    exact execFirmwareStart_serves a c hp hs hc
  case sets =>
    intro c t
    refine ⟨fun ha hb hv => ?_, fun ha hb hv => ?_, fun ha hb => ?_, fun ha hb => ?_, fun ha hb => ?_,
      loadSets_highVer c⟩
    · rw [show t = _ from loadSets_higherA ha hb hv]
      exact ⟨rfl, rfl, rfl⟩
    · rw [show t = _ from loadSets_higherB ha hb hv]
      exact ⟨rfl, rfl, rfl⟩
    · rw [show t = _ from loadSets_onlyA ha hb]
      exact ⟨rfl, rfl, rfl, rfl⟩
    · rw [show t = _ from loadSets_onlyB ha hb]
      exact ⟨rfl, rfl, rfl, rfl⟩
    · rw [show t = _ from loadSets_neither ha hb]
      exact ⟨rfl, rfl, rfl⟩

end Sys2Proof.Machine
end

section
/-! SUPPORT. The JOB_ commands (O15): what the body of each answers in the state it enters (R44, R56, R130, R364, R403,
R423). -/

namespace Sys2Proof.Machine

open Sys2Proof

variable {m : Cmd} {s : State} {j : Job} {base : Nat}

/-! ### The arms -/

theorem exec_jobCancel : exec (.jobCancel m) s = .next (runCmd opJobCancel noTicket m (bodyJobCancel m) s) := rfl

theorem exec_jobHold : exec (.jobHold m) s = .next (runCmd opJobHold noTicket m (bodyJobHold m) s) := rfl

theorem exec_jobRelease : exec (.jobRelease m) s = .next (runCmd opJobRelease noTicket m (bodyJobRelease m) s) := rfl

theorem exec_jobStatus : exec (.jobStatus m) s = .next (runCmd opJobStatus noTicket m (bodyJobStatus m) s) := rfl

/-! ### JOB_SUBMIT (R130, R364) -/

/-- A submission's job stands last in the queue; a finished job of its id and that job's frame entries are gone. -/
def submitted (m : Cmd) (base : Nat) (s : State) : State :=
  (s.modJobs fun l => (l.filter fun j => j.id != m.u 0 4) ++ [submitJob m base s]).modSpool fun p =>
    { p with dir := p.dir.filter fun f => f.job != m.u 0 4 }

theorem bodyJobSubmit_ok (hr : submitRange m s = true) (hj : (s.jobs.any fun j => j.id == m.u 0 4 && j.live) = false)
    (hs : mounted s = true) (hg : galNear s.gal = false) (hb : frameRun s (m.u 4 4) = some base) :
    bodyJobSubmit m s = .done .ok [] (submitted m base s) := by
  simp only [bodyJobSubmit, hr, hj, hs, hg, hb]
  rfl

/-! ### JOB_CANCEL (R44, R134, R423) -/

/-- The waiting frames of a job are freed. -/
def framesFreed (j : Job) (s : State) : State := (waitingFrames s j).foldl (fun s f => freeFrame j.id f s) s

/-- The bands of a job that are still arriving leave staging. -/
def bandsUnstaged (j : Job) (s : State) : State :=
  ((s.ingest.bands.filter fun b => b.id.job == j.id).map (·.id)).foldl (fun s id => unstage id s) s

theorem bodyJobCancel_ok (hj : (s.jobs.find? fun j => j.id == m.u 0 4 && j.live) = some j) :
    bodyJobCancel m s = .done .ok [] (dropPlan j.id
      (modJob j.id (fun j => { j with state := .cancelled, key := 0 }) (bandsUnstaged j (framesFreed j s)))) := by
  simp only [bodyJobCancel, hj]
  rfl

theorem bodyJobCancel_range (hj : (s.jobs.any fun j => j.id == m.u 0 4 && j.live) = false) :
    bodyJobCancel m s = refuse .range s := by
  have hnone : (s.jobs.find? fun j => j.id == m.u 0 4 && j.live) = none :=
    List.find?_eq_none.2 fun j h => by simpa using List.any_eq_false.1 hj j h
  simp only [bodyJobCancel, hnone]

/-! ### JOB_HOLD and JOB_RELEASE (R56, R403) -/

section
variable (hj : jobOf s (m.u 0 4) = some j)
include hj

theorem bodyJobHold_ok (hs : j.state = .queued ∨ j.state = .active) :
    bodyJobHold m s = .done .ok [] (dropPlan j.id (modJob j.id (fun j => { j with state := .held }) s)) := by
  simp only [bodyJobHold, hj, if_pos hs]

theorem bodyJobHold_conflict (hq : j.state ≠ .queued) (ha : j.state ≠ .active) :
    bodyJobHold m s = refuse .conflict s := by
  simp only [bodyJobHold, hj, if_neg (not_or.2 ⟨hq, ha⟩)]

theorem bodyJobRelease_ok (hs : j.state = .held) :
    bodyJobRelease m s = .done .ok [] (modJob j.id (fun j =>
      { j with state := if 0 < j.admitted + j.gaps then .active else .queued, gapRun := 0 }) s) := by
  simp only [bodyJobRelease, hj, if_pos hs]

theorem bodyJobRelease_conflict (hs : j.state ≠ .held) : bodyJobRelease m s = refuse .conflict s := by
  simp only [bodyJobRelease, hj, if_neg hs]

end

/-- A change of the only job of an id is its change of that job. -/
theorem modJob_unique (g : Job → Job) (hu : ∀ k ∈ s.jobs, k.id = j.id → k = j) :
    modJob j.id g s = modJob j.id (fun _ => g j) s := by
  refine congrArg (fun l => { s with jobs := l }) (List.map_congr_left fun k hk => ?_)
  by_cases hid : k.id = j.id
  · rw [if_pos hid, if_pos hid, hu k hk hid]
  · rw [if_neg hid, if_neg hid]

/-! ### JOB_STATUS (R403) -/

theorem bodyJobStatus_ok (hj : jobOf s (m.u 0 4) = some j) :
    bodyJobStatus m s = .done .ok (leBytes 1 j.state.code ++ [0#8, 0#8, 0#8] ++ leBytes 4 (spooledFrames s j) ++
      leBytes 4 j.admitted ++ leBytes 4 j.closed ++ leBytes 4 j.gaps ++ leBytes 4 j.next) s := by
  simp only [bodyJobStatus, hj]
  rfl

theorem bodyJobStatus_range (hj : jobOf s (m.u 0 4) = none) : bodyJobStatus m s = refuse .range s := by
  simp only [bodyJobStatus, hj]

/-- Settles O15: each command by its body's equation. -/
theorem jobCommandsComplete : Obligations.JobCommandsComplete := by
  unfold Obligations.JobCommandsComplete
  refine ⟨?submit, ?cancel, ?hold, ?release, ?status, ?holdConflict, ?releaseConflict, ?cancelRange, ?statusRange⟩
  case submit =>
    intro m s base e h hr hj hs hg hb
    exact ⟨submitted m base e, submitJob m base e, runCmd_ok h (bodyJobSubmit_ok hr hj hs hg hb), rfl, rfl, rfl, rfl,
      rfl, rfl, rfl⟩
  case cancel =>
    intro m s j e t ids u h hj
    exact runCmd_ok h (bodyJobCancel_ok hj)
  case hold =>
    intro m s j e h hj hs
    exact runCmd_ok h (bodyJobHold_ok hj hs)
  case release =>
    intro m s j e st h hj hs hu
    exact runCmd_ok h ((bodyJobRelease_ok hj hs).trans (congrArg (Reply.done .ok []) (modJob_unique _ hu)))
  case status =>
    intro m s j e h hj
    exact runCmd_ok h (bodyJobStatus_ok hj)
  case holdConflict =>
    intro m s j e h hj hq ha
    rw [exec_jobHold, runCmd_done h (bodyJobHold_conflict hj hq ha) (by decide)]
    rfl
  case releaseConflict =>
    intro m s j e h hj hs
    rw [exec_jobRelease, runCmd_done h (bodyJobRelease_conflict hj hs) (by decide)]
    rfl
  case cancelRange =>
    intro m s e h hj
    rw [exec_jobCancel, runCmd_done h (bodyJobCancel_range hj) (by decide)]
    rfl
  case statusRange =>
    intro m s e h hj
    rw [exec_jobStatus, runCmd_done h (bodyJobStatus_range hj) (by decide)]
    rfl

end Sys2Proof.Machine
end

section
/-! SUPPORT. The governor's evaluation (O37): its order, what it does at a dwell, when it raises the plan, and a
lowering that nothing asks for (R53, R58 to R61, R453). -/

namespace Sys2Proof.Machine

open Sys2Proof

variable {s : State} {rates : List (Nat × Nat)} {drain : Nat} {x : Rat} {up : Bool}

/-! ### The evaluation (R58, R404, R453) -/

theorem execGovernorEvaluate_stalled (h : coreStalled s 1 = true) : execGovernorEvaluate rates drain s = .next s :=
  congrArg _ (if_pos h)

theorem execGovernorEvaluate_serving (h : coreStalled s 1 = false) :
    let t := pressPart (beginStop (threadCheck (advancePlan s)))
    execGovernorEvaluate rates drain s = .next (regearHeld
      (if t.land.mode = .thread then runStep rates drain t else governSpeed rates drain (dropReq 1000 t))) :=
  congrArg _ (if_neg (Bool.eq_false_iff.1 h))

/-! ### The dwell (R53, R61) -/

theorem dwellWork_none (h : dwellNow s = none) : dwellWork s = s := by
  simp only [dwellWork, h]

section
variable (h : dwellNow s = some (x, up))
include h

theorem dwellWork_goesOn (ho : dwellOver (askPostDiv x up s) x up = false) : dwellWork s = askPostDiv x up s := by
  simp [dwellWork, h, ho]

variable (ho : dwellOver (askPostDiv x up s) x up = true)
include ho

theorem dwellWork_lowers (hu : up = false) : dwellWork s = endDwell (askPostDiv x up s) := by
  subst hu
  simp [dwellWork, h, ho]

/-- A raise goes on from the dwell only with every frame in flight feasible on it. -/
theorem dwellWork_raises (hu : up = true) : dwellWork s =
    let t := endDwell (askPostDiv x up s)
    if fetchFeasible t t.land.flights then t else askPostDiv x up s := by
  subst hu
  cases hf : fetchFeasible (endDwell (askPostDiv x true s)) (endDwell (askPostDiv x true s)).land.flights <;>
    simp [dwellWork, h, ho, hf]

end

/-! ### The speed (R58, R59) -/

theorem governSpeed_waits (h : (dwellWork s).gov.stopping = true ∨ (dwellWork s).land.run = .dwell) :
    governSpeed rates drain s = dwellWork s := by
  have hw : ((dwellWork s).gov.stopping || (dwellWork s).land.run == .dwell) = true := by simpa using h
  rw [governSpeed]
  exact if_pos hw

/-- No ramp of a change of mode waits to be planned any more (R18). -/
def rampPlanned (s : State) : State := s.modLand fun l => { l with rampWait := false }

/-- The governor raises the plan of `e` to `want`: well above the speed, with nothing that stops the press, and every
frame in flight feasible on the raised plan. -/
def raises (want : Rat) (e : State) : Bool :=
  decide (e.gov.target < want) && decide (e.gov.speed + 2 ≤ want) && e.land.stopReq == .none && !stopActive e &&
    fetchFeasible (newTarget want (rampPlanned e)) (newTarget want (rampPlanned e)).land.flights

theorem raises_iff {want : Rat} {e : State} : raises want e = true ↔
    e.gov.target < want ∧ e.gov.speed + 2 ≤ want ∧ e.land.stopReq = .none ∧ stopActive e = false ∧
      fetchFeasible (newTarget want (rampPlanned e)) (newTarget want (rampPlanned e)).land.flights = true := by
  simp [raises, and_assoc]

theorem governSpeed_plans (hs : (dwellWork s).gov.stopping = false) (hr : (dwellWork s).land.run ≠ .dwell) :
    governSpeed rates drain s =
      if raises (governorTarget (dwellWork s) rates drain) (dwellWork s) then
        newTarget (governorTarget (dwellWork s) rates drain) (rampPlanned (dwellWork s))
      else lowerFor (demands (dwellWork s) rates drain) (rampPlanned (dwellWork s)) := by
  have hgo : ¬ ((dwellWork s).gov.stopping || (dwellWork s).land.run == .dwell) = true := by simp [hs, hr]
  rw [governSpeed]
  exact if_neg hgo

/-! ### Lowering (R59) -/

theorem dropLater_ramping (h : steady s = false) : dropLater s = s := if_neg (Bool.eq_false_iff.1 h)

/-- Predictions that the plan already meets place nothing. -/
theorem foldl_lowerBy_met {ds : List (Rat × Rat)} (h : ∀ d ∈ ds, fastestFrom s d.1 ≤ d.2) :
    ds.foldl (fun s d => if fastestFrom s d.1 ≤ d.2 then s else lowerBy d.1 d.2 s) s = s := by
  induction ds with
  | nil => rfl
  | cons d ds ih =>
    rw [List.foldl_cons, if_pos (h d List.mem_cons_self)]
    exact ih fun e he => h e (List.mem_cons_of_mem _ he)

theorem lowerFor_met {ds : List (Rat × Rat)} (hs : steady s = false) (h : ∀ d ∈ ds, fastestFrom s d.1 ≤ d.2) :
    lowerFor ds s = s := by
  simp [lowerFor, dropLater_ramping hs, foldl_lowerBy_met h]

/-- Settles O37: the evaluation's order, the dwell, the raise and the lowering each by its equations. -/
theorem governorLowersAtOnceRaisesWithCare : Obligations.GovernorLowersAtOnceRaisesWithCare := by
  unfold Obligations.GovernorLowersAtOnceRaisesWithCare
  refine ⟨fun rates drain s => execGovernorEvaluate_serving, fun rates drain s => execGovernorEvaluate_stalled,
    fun s => dwellWork_none, ?dwell, fun rates drain s => governSpeed_waits, ?plans, fun ds s => lowerFor_met⟩
  case dwell =>
    intro x up s e t h
    exact ⟨dwellWork_goesOn h, dwellWork_lowers h, dwellWork_raises h⟩
  case plans =>
    intro rates drain s e want u t rises hs hr
    have h := governSpeed_plans (rates := rates) (drain := drain) hs hr
    exact ⟨fun hup => h.trans (if_pos (raises_iff.2 hup)), fun hno => h.trans (if_neg (hno ∘ raises_iff.1))⟩

end Sys2Proof.Machine
end

section
/-! SUPPORT. The print pipeline's completions and the SRAM (O40): the offset table, the decode in each of its outcomes,
the save slot's copy, and an SRAM error where it is found (R62, R83, R84, R89, R90, R92 to R94, R99, R100, R103,
R327). -/

namespace Sys2Proof.Machine

open Sys2Proof

variable {s : State} {n : Nat} {b : RBand} {cs : List (List Nat)}

/-! ### Offsets (R100) -/

/-- The offset table of a band has been computed. -/
def tabled (n : Nat) (b : RBand) (s : State) : State := modSt n (fun x => { x with tabs := x.tabs ++ [offTable b] }) s

theorem execOffsetComputeComplete_none (h : nextOffsets s n = none) : execOffsetComputeComplete n s = .next s := by
  simp only [execOffsetComputeComplete, h]

section
variable (h : nextOffsets s n = some b)
include h

theorem execOffsetComputeComplete_adds (hd : (s.st n).dec ≠ .waiting) :
    execOffsetComputeComplete n s = .next (tabled n b s) := by
  simp [execOffsetComputeComplete, tabled, h, hd]

/-- The decoder that waits for the band starts it. -/
theorem execOffsetComputeComplete_starts {c : RBand} (hd : (s.st n).dec = .waiting) (hc : (s.st n).cur = some c)
    (hs : c.serial = b.serial) (hi : c.id = b.id) :
    execOffsetComputeComplete n s = .next (beginDecode n b (tabled n b s)) := by
  simp [execOffsetComputeComplete, tabled, h, hd, hc, hs, hi]

end

/-! ### Decoding (R83, R84, R90 to R94) -/

/-- The decoder of a station is idle, and the half it wrote stands. -/
def decoded (n : Nat) (h : Half) (s : State) : State :=
  modSt n (fun x => { x with dec := .idle, cur := none, curMark := false, wHalf := h }) s

/-- The half that a band's cells make. -/
def halfOf (b : RBand) (cs : List (List Nat)) : Half :=
  { serial := b.serial, band := b.id.band, width := bWidth b.data, tile := bFlag b.data 2, cells := cs }

/-- The history that a station's decode of a band starts from. -/
def liveHist (x : Station) (b : RBand) : Hist := (startHist x.hist x.save b.data).getD x.hist

/-- A stream band's history is valid no more. -/
def histDropped (b : RBand) (live : Hist) (x : Station) : Station :=
  if bStream b.data then { x with hist := { live with valid := false } } else x

theorem execDecodeComplete_idle (h : (s.st n).cur = none ∨ (s.st n).dec ≠ .decoding) :
    execDecodeComplete n s = .next s := by
  cases hc : (s.st n).cur with
  | none => simp [execDecodeComplete, hc]
  | some b =>
    have hd : (s.st n).dec ≠ .decoding := h.resolve_left (by simp [hc])
    simp [execDecodeComplete, hc, hd]

section
variable (hc : (s.st n).cur = some b) (hd : (s.st n).dec = .decoding) (hm : (s.st n).curMark = false)
include hc hd hm

/-- A sound band frees its space, its cells and history stand at the station, and its flight keeps its CRC. -/
theorem execDecodeComplete_sound (h : decodeBand (s.st n).hist (s.st n).save b.data = .cells cs true) :
    execDecodeComplete n s = .next (modFlight b.serial (addCrc n b.data)
      (modSt n (newHistory b.data cs) (decoded n (halfOf b cs) (freeBand n b.serial b.id.band s)))) := by
  simp only [execDecodeComplete, hc, hd, hm, h]
  rfl

theorem execDecodeComplete_noHistory (h : decodeBand (s.st n).hist (s.st n).save b.data = .noHistory) :
    execDecodeComplete n s = .next (bandFails n b 0x14 (decoded n {} (freeBand n b.serial b.id.band s))) := by
  simp only [execDecodeComplete, hc, hd, hm, h]
  rfl

theorem execDecodeComplete_wrongCrc (h : decodeBand (s.st n).hist (s.st n).save b.data = .cells cs false) :
    execDecodeComplete n s = .next (bandFails n b 0x15
      (decoded n {} (modSt n (histDropped b (liveHist (s.st n) b)) (freeBand n b.serial b.id.band s)))) := by
  simp only [execDecodeComplete, hc, hd, hm, h]
  rfl

end

theorem histDropped_plain (live : Hist) (h : bStream b.data = false) : histDropped b live = id :=
  funext fun _ => if_neg (Bool.eq_false_iff.1 h)

theorem histDropped_stream (live : Hist) (h : bStream b.data = true) :
    histDropped b live = fun x => { x with hist := { live with valid := false } } :=
  funext fun _ => if_pos h

/-- A new history takes its place among the histories of a station and changes nothing else of it. -/
theorem newHistory_keeps (d : List Byte) (cs : List (List Nat)) (x : Station) :
    newHistory d cs x = { x with hist := (newHistory d cs x).hist, save := (newHistory d cs x).save
                                 saveCopying := (newHistory d cs x).saveCopying } := by
  unfold newHistory
  split <;> rfl

/-- The histories after a band are those of the band and of the histories before it. -/
theorem newHistory_congr {d : List Byte} {x y : Station} (hh : y.hist = x.hist) (hs : y.save = x.save) :
    (newHistory d cs y).hist = (newHistory d cs x).hist ∧ (newHistory d cs y).save = (newHistory d cs x).save := by
  unfold newHistory
  split
  · exact ⟨hh, hs⟩
  · exact ⟨rfl, by simp only [hs]⟩

/-- A station whose band has been decoded: idle, with the band's half and history. -/
theorem st_decoded (h : Half) (d : List Byte) (s : State) :
    let x := s.st n
    let y := (modSt n (newHistory d cs) (decoded n h s)).st n
    y.dec = .idle ∧ y.cur = none ∧ y.wHalf = h ∧ y.buf = x.buf ∧ y.hist = (newHistory d cs x).hist ∧
      y.save = (newHistory d cs x).save := by
  intro x y
  have hy : y = newHistory d cs { x with dec := .idle, cur := none, curMark := false, wHalf := h } := by
    simp [y, x, decoded]
  rw [hy]
  obtain ⟨hh, hs⟩ := newHistory_congr (cs := cs) (d := d) (x := x)
    (y := { x with dec := .idle, cur := none, curMark := false, wHalf := h }) rfl rfl
  rw [newHistory_keeps]
  exact ⟨rfl, rfl, rfl, rfl, hh, hs⟩

/-- Freeing a band touches neither history. -/
theorem freeBand_hists (serial band : Nat) (s : State) :
    ((freeBand n serial band s).st n).hist = (s.st n).hist ∧
      ((freeBand n serial band s).st n).save = (s.st n).save := by
  simp [freeBand]

/-! ### A failed band (R62, R89, R90) -/

theorem bandFails_plain (code : Nat) (h : bStream b.data = false) :
    bandFails n b code s = failLayer b.serial n b.id.band 0x11 (note (0x0700 + code) (stH s n) 0 s) := by
  simp only [bandFails, h]
  rfl

theorem bandFails_stream (code : Nat) (h : bStream b.data = true) :
    let t := modSt n (fun x => { x with hist := { x.hist with valid := false } }) s
    bandFails n b code s = failLayer b.serial n b.id.band 0x11 (note (0x0700 + code) (stH t n) 0 t) := by
  simp only [bandFails, h]
  rfl

/-! ### The save slot (R94) -/

theorem execSaveSlotCopyComplete_copies (h : (s.st n).saveCopying = true) : execSaveSlotCopyComplete n s =
    .next (modSt n (fun x => { x with saveCopying := false, peerSave := x.save }) s) := congrArg _ (if_pos h)

theorem execSaveSlotCopyComplete_none (h : (s.st n).saveCopying = false) : execSaveSlotCopyComplete n s = .next s :=
  congrArg _ (if_neg (Bool.eq_false_iff.1 h))

/-! ### SRAM errors (R103, R327) -/

section
variable {bank : Nat}

theorem testBank_starts {w : SramPlace} (hb : kvFind s.faults.banks bank = none) (hs : s.faults.spares ≠ 0) :
    testBank bank w s = raise 0x0402 0#16 0 bank
      (s.modFaults fun f => { f with banks := kvSet f.banks bank 1, spares := f.spares - 1 }) := by
  simp [testBank, hb, hs]

theorem testBank_spent {w : SramPlace} (hb : kvFind s.faults.banks bank = none) (hs : s.faults.spares = 0) :
    testBank bank w s = raise 0x0403 0#16 0 bank s := by
  simp [testBank, hb, hs]

theorem testBank_again (hb : kvFind s.faults.banks bank ≠ none) :
    testBank bank .other s = raise 0x0402 0#16 0 bank s := by
  simp [testBank, Option.isSome_iff_ne_none.2 hb]

/-- An error in a resident band that nothing decodes fails the band, which is free first. -/
theorem sramEffect_resident {i : Nat} (hi : (s.st n).buf[i]? = some b) (hg : b.gone = false)
    (hc : (s.st n).cur = none) :
    sramEffect (.band n i) s = bandFails n b 0x10 (freeBand n b.serial b.id.band s) := by
  simp [sramEffect, hi, hg, hc]

/-- An error in the half exposed blanks its word and fails the layer at that band. -/
theorem sramEffect_exposed {line word : Nat} (hd : (s.st n).ems.dbl = false) (hx : (s.st n).xHalf.serial ≠ 0) :
    sramEffect (.sweep n line word) s = failLayer (s.st n).xHalf.serial n (s.st n).xHalf.band 0x11
      (modSt n (fun x => { x with xHalf := { (s.st n).xHalf with
        blank := (s.st n).xHalf.blank ++ [1536 * line + word] } }) s) := by
  simp [sramEffect, fromPrev, hd, hx]

theorem execSramBankTestComplete_under (h : kvFind s.faults.banks bank = some 1) :
    execSramBankTestComplete bank true s = .next (codeTestEnded true 0#16 0x0402
      (s.modFaults fun f => { f with banks := kvDel f.banks bank, spares := f.spares + 1 })) ∧
    execSramBankTestComplete bank false s = .next (codeTestEnded false 0#16 0x0402
      (s.modFaults fun f => { f with banks := kvSet f.banks bank 2 })) :=
  ⟨congrArg _ (if_pos h), congrArg _ (if_pos h)⟩

theorem execSramBankTestComplete_other (h : kvFind s.faults.banks bank ≠ some 1) (pass : Bool) :
    execSramBankTestComplete bank pass s = .next s := congrArg _ (if_neg h)

end

/-- Settles O40: each completion by its cases, the decode by its outcomes, `execDecodeComplete_…`. -/
theorem bandsDecodeOncePerStation : Obligations.BandsDecodeOncePerStation := by
  unfold Obligations.BandsDecodeOncePerStation
  refine ⟨fun n b s => execOffsetComputeComplete_adds, fun n b c s h => execOffsetComputeComplete_starts h,
    fun n s => execOffsetComputeComplete_none, ?prints, ?fails,
    fun n code b s => ⟨bandFails_plain code, bandFails_stream code⟩, fun n s => execDecodeComplete_idle,
    fun n s => execSaveSlotCopyComplete_copies, fun n s => execSaveSlotCopyComplete_none, ?errors, ?resident, ?exposed,
    fun bank s => ⟨execSramBankTestComplete_under, execSramBankTestComplete_other⟩⟩
  case prints =>
    intro n b cs s hc hd hm hcs
    obtain ⟨hdec, hcur, hhalf, hbuf, hhist, hsave⟩ :=
      st_decoded (cs := cs) (n := n) (halfOf b cs) b.data (freeBand n b.serial b.id.band s)
    obtain ⟨hfh, hfs⟩ := freeBand_hists (n := n) b.serial b.id.band s
    obtain ⟨hnh, hns⟩ := newHistory_congr (cs := cs) (d := b.data) hfh hfs
    exact ⟨_, execDecodeComplete_sound hc hd hm hcs, hdec, hcur, hhalf, hbuf, hhist.trans hnh, hsave.trans hns, rfl⟩
  case fails =>
    intro n b s hc hd hm w t live
    refine ⟨execDecodeComplete_noHistory hc hd hm, fun cs hs hcs => ?_, fun cs hs hcs => ?_⟩
    · have h := execDecodeComplete_wrongCrc hc hd hm hcs
      rwa [histDropped_plain _ hs] at h
    · have h := execDecodeComplete_wrongCrc hc hd hm hcs
      rwa [histDropped_stream _ hs] at h
  case errors =>
    intro bank w s
    exact ⟨rfl, fun hb hs => congrArg Host.Outcome.next (testBank_starts hb hs),
      fun hb hs => congrArg Host.Outcome.next (testBank_spent hb hs),
      fun hb => congrArg Host.Outcome.next (testBank_again hb)⟩
  case resident =>
    intro bank n i b s hi hg hc
    exact congrArg (fun t => Host.Outcome.next (testBank bank (.band n i) t)) (sramEffect_resident hi hg hc)
  case exposed =>
    intro bank n line word s hd hx
    exact congrArg (fun t => Host.Outcome.next (testBank bank (.sweep n line word) t)) (sramEffect_exposed hd hx)

end Sys2Proof.Machine
end

section
/-! SUPPORT. The newel counter (O45): what a count of each kind moves, the check for a reversal, the index, the losses
of an encoder, the backup's check and the web following error (R45, R207 to R209, R212). -/

namespace Sys2Proof.Machine

open Sys2Proof

variable {s : State} {up : Bool}

/-! ### The counter (R207) -/

theorem wrapNewel_of_fits {i : Int} (hlo : -(2 : Int) ^ 79 ≤ i) (hhi : i < 2 ^ 79) : wrapNewel i = i :=
  BitVec.toInt_ofInt_eq_self (by decide) hlo hhi

/-! ### Reversal (R45) -/

theorem reversalCheck_noFlights (hf : noFlights s = true) :
    reversalCheck s = s.modNewel fun x => { x with high := x.pos } := if_pos hf

section
variable (hf : noFlights s = false)
include hf

theorem reversalCheck_near (h : s.newel.high - s.newel.pos ≤ 2 ^ 30) :
    reversalCheck s = s.modNewel fun x => { x with high := max x.high x.pos } := by
  have hnear : ¬((2 : Int) ^ 30 < max s.newel.high s.newel.pos - s.newel.pos) := by omega
  rw [reversalCheck, if_neg (Bool.eq_false_iff.1 hf)]
  exact if_neg hnear

/-- A reversal spoils the frames in flight, and the position gone back to is the highest from then on. -/
theorem reversalCheck_far (h : 2 ^ 30 < s.newel.high - s.newel.pos) :
    reversalCheck s = raise 0x0D04 0#16 0 0 (spoilNewel (s.modNewel fun x => { x with high := x.pos })) := by
  have hfar : (2 : Int) ^ 30 < max s.newel.high s.newel.pos - s.newel.pos := by omega
  rw [reversalCheck, if_neg (Bool.eq_false_iff.1 hf)]
  exact if_pos hfar

end

/-! ### Counts (R207, R208, Table 10-1) -/

theorem exec_newelCount_dir (aux up : Bool) :
    exec (.newelCount aux (if up then .up else .down)) s = .next (countNewel aux up s) := by
  cases up <;> rfl

section
variable (hb : s.newel.onBackup = false) (hf : noFlights s = true)
include hb hf

theorem countNewel_newel (hl : s.newel.lost = false) : countNewel false up s = s.modNewel fun x =>
    { x with idx := x.idx + countSign s up, pos := wrapNewel (x.pos + countSign s up * newelScale s)
             high := wrapNewel (x.pos + countSign s up * newelScale s) } := by
  rw [countNewel, reversalCheck_noFlights (by exact hf)]
  simp [State.modNewel, hl, hb]

theorem countNewel_backup : countNewel true up s = s.modNewel fun x =>
    { x with backup := wrapNewel (x.backup + countSign s up * backupScale s), high := x.pos } := by
  rw [countNewel, reversalCheck_noFlights (by exact hf)]
  simp [State.modNewel, hb]

end

/-- An illegal transition joins those of the last 1 ms. -/
def illegalCounted (s : State) : State := s.modNewel fun x =>
  { x with illegal := s.ring.cyc :: x.illegal.filter fun c => decide (s.ring.cyc ≤ c + 62) }

/-- A transition that makes at most four illegal ones in 1 ms is no loss of the encoder. -/
theorem illegalNewel_few (aux : Bool) (h : s.newel.illegal.length < 4) :
    illegalNewel aux s = raise 0x0D01 0#16 0 (bnat aux) (illegalCounted s) := by
  have hfew : ¬(4 < (s.ring.cyc :: s.newel.illegal.filter fun c => decide (s.ring.cyc ≤ c + 62)).length) := by
    have := List.length_filter_le (fun c => decide (s.ring.cyc ≤ c + 62)) s.newel.illegal
    rw [List.length_cons]
    omega
  simp only [illegalNewel, if_neg hfew]
  rfl

/-! ### The index (Table 10-1) -/

/-- The index has passed; `b` says whether the next interval is a self-test. -/
def indexPassed (b : Bool) (s : State) : State := s.modNewel fun x => { x with idx := 0, idxSeen := true, idxTest := b }

/-- The index comes more than one count off the configured number, and is checked. -/
def indexOff (s : State) : Bool :=
  s.newel.idxSeen && s.cfgGet 0x05 0 8 4 != 0 && decide
    (1 < (s.newel.idx.natAbs - s.cfgGet 0x05 0 8 4) + (s.cfgGet 0x05 0 8 4 - s.newel.idx.natAbs))

theorem indexOff_iff : indexOff s = true ↔ s.newel.idxSeen = true ∧ s.cfgGet 0x05 0 8 4 ≠ 0 ∧
    1 < (s.newel.idx.natAbs - s.cfgGet 0x05 0 8 4) + (s.cfgGet 0x05 0 8 4 - s.newel.idx.natAbs) := by
  simp [indexOff, and_assoc]

theorem execNewelIndex_untested (ht : s.newel.idxTest = false) : execNewelIndex s =
    .next (if indexOff s then raise 0x0D02 0#16 0 (s.cfgGet 0x05 0 8 4) (indexPassed true s)
      else indexPassed false s) := by
  refine congrArg Host.Outcome.next ((if_neg (Bool.eq_false_iff.1 ht)).trans ?_)
  change (if indexOff s then raise 0x0D02 0#16 0 (s.cfgGet 0x05 0 8 4) (indexPassed (indexOff s && !s.newel.idxTest) s)
    else indexPassed (indexOff s && !s.newel.idxTest) s) = _
  rw [ht]
  cases indexOff s <;> simp

/-! ### Losses (R209) -/

theorem newelLoss_usable (hl : s.newel.lost = false) (hu : s.newel.usable = true) : newelLoss s =
    let t := raise 0x0D03 0#16 0 0 (s.modNewel fun x => { x with lost := true, onBackup := true })
    if t.newel.onBackup then t else beginStop (askStop .controlled (spoilNewel t)) := by
  simp [newelLoss, State.modNewel, hl, hu]

theorem newelLoss_again (hl : s.newel.lost = true) : newelLoss s = s := if_pos hl

/-! ### The backup's check (R209) -/

/-- A second has been judged; `b` says whether the backup is usable. -/
def backupJudged (b : Bool) (s : State) : State :=
  s.modNewel fun x => { x with secPos := x.pos, secBack := x.backup, usable := b }

section
variable (hl : s.newel.lost = false) (hb : backupScale s ≠ 0)
include hl hb

/-- The two advances of the second differ by at most the tolerance in parts per 10,000, or the backup is unusable. -/
theorem execNewelBackupCheck_judges :
    let x := s.newel
    let adv := (x.pos - x.secPos).natAbs
    let diff := ((x.pos - x.secPos) - (x.backup - x.secBack)).natAbs
    execNewelBackupCheck s = .next (if diff * 10000 ≤ adv * s.cfgGet 0x05 0 16 1 then backupJudged true s
      else note 0x0D06 0#16 0 (backupJudged false s)) := by
  intro x adv diff
  have hgo : (s.newel.lost || backupScale s == 0) = false := by simp [hl, hb]
  refine congrArg Host.Outcome.next ((if_neg (Bool.eq_false_iff.1 hgo)).trans ?_)
  by_cases h : diff * 10000 ≤ adv * s.cfgGet 0x05 0 16 1 <;> simp [backupJudged, State.modNewel, h, diff, adv, x]

end

/-! ### The web (R212) -/

theorem execWebFollowingTimeout_over {a : Nat} (ho : s.gov.webOver = true) (ha : webDrive s.cfg.cur = some a) :
    execWebFollowingTimeout s = .next (raise 0x0D05 (s.cfg.cur.ranked 6 a) 0 0
      (s.modGov fun g => { g with webOver := false })) := by
  simp only [execWebFollowingTimeout, ho, ha]
  rfl

theorem execWebFollowingTimeout_within (ho : s.gov.webOver = false) : execWebFollowingTimeout s = .next s := by
  simp [execWebFollowingTimeout, ho]

/-- Settles O45: each count by what it moves, the other events by their cases. -/
theorem newelCountsExactly : Obligations.NewelCountsExactly := by
  unfold Obligations.NewelCountsExactly
  refine ⟨?count, ?backup, fun i hlo hhi => wrapNewel_of_fits hlo hhi, ?reversal, ?illegal, fun aux s => ⟨rfl, rfl⟩,
    ?index, fun s => newelLoss_usable, fun s => newelLoss_again, ?check, ?web⟩
  case count =>
    intro up s hl hb hf
    rw [exec_newelCount_dir, countNewel_newel hb hf hl]
    exact ⟨_, rfl, rfl, rfl, rfl, rfl⟩
  case backup =>
    intro up s hb hf
    rw [exec_newelCount_dir, countNewel_backup hb hf]
    exact ⟨_, rfl, rfl, rfl, rfl⟩
  case reversal =>
    intro s hf
    exact ⟨reversalCheck_near hf, fun h => ⟨_, reversalCheck_far hf h, rfl⟩⟩
  case illegal =>
    intro aux s h
    exact ⟨illegalCounted s, congrArg Host.Outcome.next (illegalNewel_few aux h), rfl, rfl, rfl, rfl⟩
  case index =>
    intro s ht n t off
    have h := execNewelIndex_untested ht
    refine ⟨fun hs h0 ho => h.trans (congrArg _ (if_pos (indexOff_iff.2 ⟨hs, h0, ho⟩))), fun hok => ?_⟩
    have hin : ¬ indexOff s = true := fun hoff => by
      obtain ⟨hs, h0, ho⟩ := indexOff_iff.1 hoff
      obtain hs' | h0' | ho' := hok
      · simp [hs'] at hs
      · exact h0 h0'
      · exact ho'.not_gt ho
    exact h.trans (congrArg _ (if_neg hin))
  case check =>
    intro s x adv diff t hl hb
    have h := execNewelBackupCheck_judges hl hb
    exact ⟨fun hle => h.trans (congrArg _ (if_pos hle)), fun hlt => h.trans (congrArg _ (if_neg hlt.not_ge))⟩
  case web =>
    intro s
    exact ⟨execWebFollowingTimeout_within, fun a => execWebFollowingTimeout_over⟩

end Sys2Proof.Machine
end

section
/-! SUPPORT. Cells (O56): the pixel at a place of a decoded cell, what a pixel of a Z and of a W cell takes, and that a W
cell's payload, read as a number in base 16, has its pixels for digits (R74). -/

namespace Sys2Proof.Machine

open Sys2Proof

variable {p : Nat}

/-! ### The pixels of a cell (R74) -/

theorem cellPixels_getElem? (cls ratio s : Nat) (hp : p < 64) :
    (cellPixels cls ratio s)[p]? = some (cellPixel cls ratio s (p % 8) (p / 8)) := by
  simp [cellPixels, hp]

@[simp] theorem length_cellPixels (cls ratio s : Nat) : (cellPixels cls ratio s).length = 64 := by
  simp [cellPixels]

theorem cellPixel_z (ratio s x y : Nat) : cellPixel 0 ratio s x y = bitsOf s 3 0 := rfl

theorem cellPixel_w (ratio s p : Nat) : cellPixel 3 ratio s (p % 8) (p / 8) = bitsOf s (4 * p + 3) (4 * p) := by
  have hplace : 8 * (p / 8) + p % 8 = p := Nat.div_add_mod p 8
  simp only [cellPixel, hplace]

/-! ### Levels laid out in base 16 -/

/-- Bits 4p + 3 to 4p of a number are its digit p in base 16. -/
theorem bitsOf_eq_digit (s p : Nat) : bitsOf s (4 * p + 3) (4 * p) = s / 16 ^ p % 16 := by
  have hwidth : 4 * p + 3 + 1 - 4 * p = 4 := by omega
  simp [bitsOf, hwidth, Nat.shiftRight_eq_div_pow, Nat.pow_mul]

theorem ofDigits_digit {ls : List Nat} (hlt : ∀ l ∈ ls, l < 16) (hp : p < ls.length) :
    Nat.ofDigits 16 ls / 16 ^ p % 16 = ls[p] := by
  rw [Nat.ofDigits_div_pow_eq_ofDigits_drop p (by decide) ls hlt, List.drop_eq_getElem_cons hp, Nat.ofDigits_cons]
  simp [Nat.mod_eq_of_lt (hlt _ (List.getElem_mem hp))]

theorem cellPixels_ofDigits {ls : List Nat} (ratio : Nat) (hlen : ls.length = 64) (hlt : ∀ l ∈ ls, l < 16) :
    cellPixels 3 ratio (Nat.ofDigits 16 ls) = ls := by
  refine List.ext_getElem? fun p => ?_
  by_cases hp : p < 64
  · rw [cellPixels_getElem? 3 ratio _ hp, cellPixel_w, bitsOf_eq_digit, ofDigits_digit hlt (hlen ▸ hp),
      List.getElem?_eq_getElem]
  · rw [List.getElem?_eq_none (by simpa using hp), List.getElem?_eq_none (by omega)]

/-- Settles O56: each pixel by its place, the round trip by the payload's digits in base 16. -/
theorem cellsDecodeAsStated : Obligations.CellsDecodeAsStated := by
  unfold Obligations.CellsDecodeAsStated
  refine ⟨fun ratio s p hp => ⟨?z, ?w⟩, fun ratio ls hlen hlt => ?roundTrip⟩
  case z => rw [cellPixels_getElem? 0 ratio s hp, cellPixel_z]
  case w => rw [cellPixels_getElem? 3 ratio s hp, cellPixel_w]
  case roundTrip =>
    have hpayload : ls.foldr (fun l r => l + 16 * r) 0 = Nat.ofDigits 16 ls := by simp [Nat.ofDigits_eq_foldr]
    rw [hpayload, cellPixels_ofDigits ratio hlen hlt]

end Sys2Proof.Machine
end

section
/-! SUPPORT. The spool's commands (O34): what a completion of each outcome and a timeout do, what the loss of a member
leaves, the release of a fetch, and each end of an attempt to recover a member (R97 to R100, R122, R124, R128, R132,
R133, R138). -/

namespace Sys2Proof.Machine

open Sys2Proof

variable {c job layer frame band page : Nat} {op : NvmeOp} {ok : Bool} {diff : List (Nat × Nat)} {q : NvmeCmd}
  {m : Member} {s : State}

/-! ### The arms -/

theorem exec_bandAllocate (s : State) : exec .bandAllocate s = .next (placeBands s) := rfl

theorem exec_nvmeCompletion : exec (.nvmeCompletion c op job layer frame band page ok diff) s =
    execNvmeCompletion c op job layer frame band page ok diff s := rfl

theorem exec_spoolReadTimeout : exec (.spoolReadTimeout c job layer frame band page) s =
    execSpoolReadTimeout c job layer frame band page s := rfl

theorem exec_spoolMemberLoss : exec (.spoolMemberLoss c) s = .next (loseMember c s) := rfl

theorem exec_fetchRelease {n serial : Nat} :
    exec (.fetchRelease n serial band) s = execFetchRelease n serial band s := rfl

theorem exec_spoolMemberRecovery {found : Option (List Byte × List Byte)} :
    exec (.spoolMemberRecovery c found) s = execSpoolMemberRecovery c found s := rfl

/-! ### Completions (R97, R132, R138) -/

theorem execNvmeCompletion_outstanding
    (h : outCmd s c op { job := job, layer := layer, frame := frame, band := band } page = some q) :
    exec (.nvmeCompletion c op job layer frame band page ok diff) s =
      .next (afterCommand c (commandDone c q page ok diff (takeOut c q s))) := by
  simp [exec_nvmeCompletion, execNvmeCompletion, h]

theorem execNvmeCompletion_unknown
    (h : outCmd s c op { job := job, layer := layer, frame := frame, band := band } page = none) :
    exec (.nvmeCompletion c op job layer frame band page ok diff) s = .next s := by
  simp [exec_nvmeCompletion, execNvmeCompletion, h]

theorem bandWritten_pending {id : BandId} (h : pendingFor s .write id = true) : bandWritten id s = s := by
  unfold bandWritten
  cases descOf s id with
  | none => rfl
  | some d => simp [h]

/-- With the last of its Writes a band is on the spool and leaves staging. -/
theorem bandWritten_last {id : BandId} {d : BandDesc} (hd : descOf s id = some d) (hn : d.present = false)
    (hp : pendingFor s .write id = false) :
    bandWritten id s = placeBands (unstage id (modDesc id (fun d => { d with present := true }) s)) := by
  simp [bandWritten, hd, hn, hp]

theorem commandDone_written (h : q.op = .write) : commandDone c q page true diff s = bandWritten q.id s := by
  simp [commandDone, h]

theorem commandDone_writeFailed (h : q.op = .write) : commandDone c q page false diff s = enqueue c q s := by
  simp [commandDone, h]

theorem commandDone_readFailed (h : q.op = .read) : commandDone c q page false diff s =
    enqueue c { q with op := .reread } (raise 0x0501 (memberH s c) 0 page s) := by
  simp [commandDone, readFailed, h]

/-! ### Timeouts (R138) -/

/-- A change of a member depends on what it makes of the member as it stands. -/
theorem modMember_congr {f g : Member → Member} (hm : s.spool.members[c]? = some m) (h : f m = g m) :
    modMember c f s = modMember c g s := by
  have hmap : (s.spool.members.zipIdx.map fun x => if x.2 = c then f x.1 else x.1) =
      s.spool.members.zipIdx.map fun x => if x.2 = c then g x.1 else x.1 := by
    refine List.map_congr_left fun x hx => ?_
    split_ifs with hc
    · have hxm : x.1 = m := by
        rw [List.mem_zipIdx_iff_getElem?, hc, hm] at hx
        exact (Option.some.inj hx).symm
      rw [hxm, h]
    · rfl
  simp only [modMember, State.modSpool, hmap]

/-- A Read of member `c` has timed out: it is outstanding no more and counts. -/
def timedOut (c : Nat) (q : NvmeCmd) (s : State) : State :=
  modMember c (fun m => { m with timeouts := m.timeouts + 1, out := replaceCmd q [] m.out }) s

theorem timedOut_eq (hm : s.spool.members[c]? = some m) : timedOut c q s =
    modMember c (fun x => { x with timeouts := m.timeouts + 1, out := replaceCmd q [] x.out }) s :=
  modMember_congr hm rfl

section
variable (hm : s.spool.members[c]? = some m)
include hm

theorem execSpoolReadTimeout_read
    (h : outCmd s c .read { job := job, layer := layer, frame := frame, band := band } page = some q) :
    exec (.spoolReadTimeout c job layer frame band page) s = .next (if m.timeouts + 1 < 3 then
      afterCommand c (readFailed c q page (timedOut c q s)) else loseMember c (timedOut c q s)) := by
  simp only [exec_spoolReadTimeout, execSpoolReadTimeout, hm, h, ← not_lt, ite_not, timedOut]

theorem execSpoolReadTimeout_reread
    (h : outCmd s c .read { job := job, layer := layer, frame := frame, band := band } page = none)
    (hr : outCmd s c .reread { job := job, layer := layer, frame := frame, band := band } page = some q) :
    exec (.spoolReadTimeout c job layer frame band page) s = .next (if m.timeouts + 1 < 3 then
      afterCommand c (rereadDone c { job := job, layer := layer, frame := frame, band := band } page false []
        (timedOut c q s)) else loseMember c (timedOut c q s)) := by
  simp only [exec_spoolReadTimeout, execSpoolReadTimeout, hm, h, hr, ← not_lt, ite_not, timedOut]

end

/-! ### The loss of a member (R138) -/

/-- Member `c` is lost: what it had to write waits for its return, what it had to read is off, the scrub stops. -/
def dropMember (c : Nat) (s : State) : State :=
  (modMember c (fun m => { m with
    lost := true, tries := 0, timeouts := 0, busReset := false, out := []
    queue := (m.out ++ m.queue).filter fun q => !opReads q.op }) s).modSpool fun p => { p with scrub := none }

/-- The layers of frames in flight that need a band on member `c` fail from that band on. -/
def failUnfetched (c : Nat) (s : State) : State :=
  s.land.flights.foldl (fun s f => f.stations.foldl (fun s n => match unfetchedOn s c n f with
    | some k => failLayer f.serial n k 0x11 s
    | none => s) s) s

theorem loseMember_held (hm : s.spool.members[c]? = some m) (hl : m.lost = false) : loseMember c s =
    (raise 0x0505 (memberH (failUnfetched c (dropMember c s)) c) 0 c (failUnfetched c (dropMember c s))).send
      (.nvme c { op := .ccReset, pages := 0 } []) := by
  simp only [loseMember, hm, hl, Bool.false_eq_true, if_false]
  rfl

/-! ### Fetches (R49, R99) -/

/-- Flight `serial` has asked for the band at station `n`, and the band has its place in the station's buffer. -/
def fetchReserved (n serial band : Nat) (id : BandId) (b : BandDesc) (s : State) : State :=
  modSt n (fun x => { x with
    buf := x.buf ++ [{ serial := serial, id := id, data := b.data, off := x.bufEnd }]
    bufEnd := (x.bufEnd + b.data.length) % 1048576 })
    (modFlight serial (fun f => { f with asked := f.asked ++ [(n, band)] }) s)

theorem execFetchRelease_due {n serial : Nat} {f : Flight} {b : BandDesc} {d : Due} {rel : Int}
    (hf : flight s serial = some f)
    (hw : ((stationWork s s.land.flights n).find? fun w => w.1.serial == serial && w.1.id.band == band) = some (d, rel))
    (ha : (n, band) ∉ f.asked) (hh : d.have_ = false) (hm : mounted s = true) (hlo : (rel : Rat) ≤ newelLines s)
    (hhi : newelLines s ≤ (d.deadline : Rat)) (ht : turnOf s n (stationWork s s.land.flights n) d = true)
    (hd : descOf s d.id = some b) (hr : readable s d.id = true) :
    exec (.fetchRelease n serial band) s =
      .next (issueAll .read d.deadline b (fetchReserved n serial band d.id b s)) := by
  have hdue : (f.asked.contains (n, band) || d.have_ || !mounted s || decide (newelLines s < (rel : Rat)) ||
      decide ((d.deadline : Rat) < newelLines s) || !turnOf s n (stationWork s s.land.flights n) d) = false := by
    simp [ha, hh, hm, hlo, hhi, ht]
  simp only [exec_fetchRelease, execFetchRelease, hf, hw, hdue, hd, hr, Bool.not_true, Bool.false_eq_true, if_false]
  rfl

/-! ### Recovery (R128, R138) -/

/-- Commands sent one after the other stand in the outbox in their order. -/
theorem foldl_send {α : Type} (f : α → OutMsg) (l : List α) (s : State) :
    l.foldl (fun s a => s.send (f a)) s = s.modOutbox (· ++ l.map f) := by
  induction l generalizing s with
  | nil => simp [State.modOutbox]
  | cons a l ih => rw [List.foldl_cons, ih]; simp [State.send, State.modOutbox]

/-- Member `c`, whose queues are made anew, is back. -/
def rejoined (c : Nat) (s : State) : State :=
  modMember c (fun m => { m with lost := false, tries := 0, busReset := false })
    (s.modOutbox (· ++ [NvmeOp.deleteSq, .deleteCq, .createCq, .createSq].map
      fun op => .nvme c { op := op, pages := 0 } []))

theorem rejoin_eq (c : Nat) (s : State) : rejoin c s =
    placeBands (serveAll (codeTestEnded true (memberH (rejoined c s) c) 0x0505 (rejoined c s))) := by
  rw [rejoined, ← foldl_send]
  rfl

section
variable {found : Option (List Byte × List Byte)} (hm : s.spool.members[c]? = some m)
include hm

theorem execSpoolMemberRecovery_idle (h : m.lost = false ∨ m.gone = true) :
    exec (.spoolMemberRecovery c found) s = .next s := by
  have hidle : (!m.lost || m.gone) = true := by rcases h with h | h <;> simp [h]
  simp [exec_spoolMemberRecovery, execSpoolMemberRecovery, hm, hidle]

variable (hl : m.lost = true) (hg : m.gone = false)
include hl hg

theorem execSpoolMemberRecovery_rejoins {p : List Byte × List Byte} (h : rejoins s c p = true) :
    exec (.spoolMemberRecovery c (some p)) s = .next (rejoin c s) := by
  simp [exec_spoolMemberRecovery, execSpoolMemberRecovery, hm, hl, hg, h]

theorem execSpoolMemberRecovery_silent (hb : m.busReset = false) :
    exec (.spoolMemberRecovery c none) s = .next ((modMember c (fun m => { m with busReset := true }) s).send
      (.nvme c { op := .busReset, pages := 0 } [])) := by
  simp [exec_spoolMemberRecovery, execSpoolMemberRecovery, hm, hl, hg, hb]

theorem execSpoolMemberRecovery_fails (h : found.any (rejoins s c) = false)
    (hf : found.isSome = true ∨ m.busReset = true) :
    exec (.spoolMemberRecovery c found) s = .next (if m.tries < 2 then
      (modMember c (fun m => { m with tries := m.tries + 1, busReset := false }) s).send
        (.nvme c { op := .ccReset, pages := 0 } [])
      else codeTestEnded false (memberH s c) 0x0505 (loseSpool c s)) := by
  have hreset : (found.isNone && !m.busReset) = false := by
    rcases hf with hf | hf <;> simp [hf, ← Option.not_isSome]
  have hthird : m.tries + 1 < 3 ↔ m.tries < 2 := by omega
  simp only [exec_spoolMemberRecovery, execSpoolMemberRecovery, hm, hl, hg, h, hreset, hthird, Bool.not_true,
    Bool.or_false, Bool.false_eq_true, if_false]

end

/-- Settles O34: each event by its equations, the timeouts by `timedOut_eq`. -/
theorem spoolWritesAndReads : Obligations.SpoolWritesAndReads := by
  unfold Obligations.SpoolWritesAndReads
  refine ⟨exec_bandAllocate, ?outstanding, ?unknown, ?last, ?more, ?writeFailed, ?readFailed, ?readTimeout,
    ?rereadTimeout, ?loss, ?fetch, ?rejoins, ?silent, ?fails, ?idle⟩
  case outstanding =>
    intro c job layer frame band page op ok diff q s h
    exact execNvmeCompletion_outstanding h
  case unknown =>
    intro c job layer frame band page op ok diff s h
    exact execNvmeCompletion_unknown h
  case last =>
    intro c page q diff d s hop hd hn hp
    rw [commandDone_written hop, bandWritten_last hd hn hp]
  case more =>
    intro c page q diff s hop hp
    rw [commandDone_written hop, bandWritten_pending hp]
  case writeFailed =>
    intro c page q diff s hop
    exact commandDone_writeFailed hop
  case readFailed =>
    intro c page q diff s hop
    exact commandDone_readFailed hop
  case readTimeout =>
    intro c job layer frame band page m q s id t hm hq
    rw [execSpoolReadTimeout_read hm hq, timedOut_eq hm]
  case rereadTimeout =>
    intro c job layer frame band page m q s id t hm hq hr
    rw [execSpoolReadTimeout_reread hm hq hr, timedOut_eq hm]
  case loss =>
    intro c m s t u hm hl
    rw [exec_spoolMemberLoss]
    exact congrArg _ (loseMember_held hm hl)
  case fetch =>
    rintro n serial band f b ⟨d, rel⟩ s work hf hw ha hh hm hlo hhi ht hd hr
    exact ⟨fetchReserved n serial band d.id b s, execFetchRelease_due hf hw ha hh hm hlo hhi ht hd hr, rfl⟩
  case rejoins =>
    intro c p m s ask u hm hl hg hr
    rw [execSpoolMemberRecovery_rejoins hm hl hg hr]
    exact congrArg _ (rejoin_eq c s)
  case silent =>
    intro c m s hm hl hg hb
    exact execSpoolMemberRecovery_silent hm hl hg hb
  case fails =>
    intro c found m s hm hl hg hr hf
    exact execSpoolMemberRecovery_fails hm hl hg hr hf
  case idle =>
    intro c found m s hm h
    exact execSpoolMemberRecovery_idle hm h

end Sys2Proof.Machine
end

section
/-! SUPPORT. Riders (O38): what a rider does whose target can act, by the kind of its target, and what one does whose
target cannot (R115 to R118, Table 05-6). -/

namespace Sys2Proof.Machine

open Sys2Proof

variable {sl : Int} {r : RiderL} {s : State}

theorem applyRider_skipped (h : riderActs s r = false) : applyRider sl r s = note 0x1306 r.target r.sel s := by
  simp [applyRider, riderNote, h]

section
variable (h : riderActs s r = true)
include h

/-! ### A loop's target -/

/-- Loop slot `k` takes the target `t`. -/
def putTarget (k t : Nat) (s : State) : State := modLoop k (fun x => { x with target := some t }) s

section
variable {k : Nat} (hop : r.op = 1) (hk : slotAt s.cfg.cur r.target r.sel = some k)
include hop hk

theorem applyRider_loopTarget : applyRider sl r s =
    if q16 (r.arg % 2 ^ 32) < q16 (s.cfgGet 0x0B k 32 4) then
      note 0x1306 r.target r.sel (putTarget k (s.cfgGet 0x0B k 32 4) s)
    else if q16 (s.cfgGet 0x0B k 36 4) < q16 (r.arg % 2 ^ 32) then
      note 0x1306 r.target r.sel (putTarget k (s.cfgGet 0x0B k 36 4) s)
    else putTarget k (r.arg % 2 ^ 32) s := by
  simp [applyRider, riderNote, putTarget, h, hop, hk]

theorem applyRider_withinLimits (hlo : q16 (s.cfgGet 0x0B k 32 4) ≤ q16 (r.arg % 2 ^ 32))
    (hhi : q16 (r.arg % 2 ^ 32) ≤ q16 (s.cfgGet 0x0B k 36 4)) :
    applyRider sl r s = putTarget k (r.arg % 2 ^ 32) s := by
  rw [applyRider_loopTarget h hop hk, if_neg (not_lt.2 hlo), if_neg (not_lt.2 hhi)]

theorem applyRider_belowLimit (hlo : q16 (r.arg % 2 ^ 32) < q16 (s.cfgGet 0x0B k 32 4)) :
    applyRider sl r s = note 0x1306 r.target r.sel (putTarget k (s.cfgGet 0x0B k 32 4) s) := by
  rw [applyRider_loopTarget h hop hk, if_pos hlo]

theorem applyRider_aboveLimit (hle : q16 (s.cfgGet 0x0B k 32 4) ≤ q16 (s.cfgGet 0x0B k 36 4))
    (hhi : q16 (s.cfgGet 0x0B k 36 4) < q16 (r.arg % 2 ^ 32)) :
    applyRider sl r s = note 0x1306 r.target r.sel (putTarget k (s.cfgGet 0x0B k 36 4) s) := by
  rw [applyRider_loopTarget h hop hk, if_neg (not_lt.2 (hle.trans hhi.le)), if_pos hhi]

end

/-! ### A station's trim, a solenoid's fires, a gear's phase -/

theorem applyRider_stationTrim {n : Nat} (hop : r.op = 2) (hn : s.cfg.cur.stationOf r.target = some n) :
    applyRider sl r s = modScan n (fun x => { x with tRider := signed 16 (r.arg % 2 ^ 16) }) s := by
  simp [applyRider, h, hop, hn]

theorem applyRider_solenoid {k : Nat} (hop : r.op = 3) (hk : s.cfg.cur.rank 0x0C r.target = some k) :
    applyRider sl r s = s.modSols fun t => kvMod {} t k fun x =>
      { x with due := x.due ++ [(sl + (r.arg % 2 ^ 32 : Nat), bitsOf r.arg 47 32)] } := by
  simp [applyRider, h, hop, hk]

theorem applyRider_phase {a : Nat} (hop : r.op = 4) (ha : s.cfg.cur.rank 6 r.target = some a) :
    applyRider sl r s =
      modGear a (fun g => g.setPhase (signed 32 (r.arg % 2 ^ 32)) sl (bitsOf r.arg 47 32)) s := by
  simp [applyRider, h, hop, ha]

end

/-- Settles O38: a loop's target by its place among the slot's limits, the other targets by `applyRider_…`. -/
theorem ridersSetLiveValues : Obligations.RidersSetLiveValues := by
  unfold Obligations.RidersSetLiveValues
  refine ⟨?loopTarget, fun sl r n s hact hop hn => applyRider_stationTrim hact hop hn,
    fun sl r k s hact hop hk => applyRider_solenoid hact hop hk,
    fun sl r a s hact hop ha => applyRider_phase hact hop ha, fun sl r s => applyRider_skipped⟩
  case loopTarget =>
    intro sl r k s v lo hi put hact hop hk hle
    exact ⟨applyRider_withinLimits hact hop hk, applyRider_belowLimit hact hop hk,
      applyRider_aboveLimit hact hop hk hle⟩

end Sys2Proof.Machine
end

section
/-! SUPPORT. Beam lanes (O42): LINK_UP in each kind of training, what ends a training and what its end leaves, the
training's timeouts and retries, the sideband's acknowledgements and status, and the lane PLLs' lock timeouts (R111,
R113, R162, R174, R175, R177, R179, R287). -/

namespace Sys2Proof.Machine

open Sys2Proof

variable {l n mdl ser tag st : Nat} {tb : Bool} {s : State}

/-! ### The arms -/

theorem exec_linkUp : exec (.linkUp l mdl ser tb) s = execLinkUp l mdl ser tb s := rfl

theorem exec_laneTrainingComplete : exec (.laneTrainingComplete l) s =
    .next (if trainedNow s l then trainingDone l s else s) := rfl

theorem exec_laneTrainingTimeout : exec (.laneTrainingTimeout l) s = execLaneTrainingTimeout l s := rfl

theorem exec_laneTrainingRetry : exec (.laneTrainingRetry l) s = execLaneTrainingRetry l s := rfl

theorem exec_ackMsg : exec (.ackMsg l tag st) s = execAckMsg l tag st s := rfl

theorem exec_sidebandAckTimeout : exec (.sidebandAckTimeout l tag) s = execSidebandAckTimeout l tag s := rfl

theorem exec_statusMsg (l : Nat) (b : Bool) (le : BitVec 2) (temp : Int) (s : State) :
    exec (.statusMsg l b le temp) s =
      .next (modLane l (fun x => { x with cdrLock := b, laser := le, temp := temp }) s) := rfl

theorem exec_lanePllLockTimeout {p : Nat} : exec (.lanePllLockTimeout p) s = execLanePllLockTimeout p s := rfl

/-! ### The sideband leaves the routes as they are -/

@[simp] theorem launchSide_cfg (l : Nat) (x : SideMsg) (s : State) : (launchSide l x s).cfg = s.cfg := rfl

@[simp] theorem sendSide_cfg (l kind : Nat) (data : List Nat) (s : State) : (sendSide l kind data s).cfg = s.cfg := by
  unfold sendSide
  dsimp only
  split_ifs <;> rfl

@[simp] theorem writeTables_cfg (l : Nat) (s : State) : (writeTables l s).cfg = s.cfg := by
  simp [writeTables]

/-- The station of a lane is a matter of the route tables. -/
theorem laneStation_congr {t : State} (h : t.cfg = s.cfg) (l : Nat) : laneStation t l = laneStation s l := by
  simp only [laneStation, laneStations, stationLane, h]

/-! ### LINK_UP (R111, R113, R179) -/

theorem execLinkUp_idle (h : (s.lane l).training = false ∨ (s.lane l).linkUp = true) :
    exec (.linkUp l mdl ser tb) s = .next s := by
  have hidle : (!(s.lane l).training || (s.lane l).linkUp) = true := by rcases h with h | h <;> simp [h]
  simp [exec_linkUp, execLinkUp, hidle]

/-- The driver of lane `l` has reported itself in its training. -/
def linked (l mdl ser : Nat) (s : State) : State :=
  modLane l (fun x => { x with linkUp := true, module := mdl, serial := ser, cdrLock := true }) s

/-- A driver that has reported itself gets its tables, and its lane is restoring. -/
def givenTables (l mdl ser : Nat) (s : State) : State :=
  modLane l (fun x => { x with restore := true, tables := false }) (writeTables l (linked l mdl ser s))

theorem laneStation_givenTables (l mdl ser : Nat) (s : State) :
    laneStation (givenTables l mdl ser s) l = laneStation s l :=
  laneStation_congr (by simp [givenTables, linked]) l

/-- A driver without its tables and one in an initial training get them. -/
theorem needsTables (h : tb = false ∨ (s.lane l).initial = true) : ((s.lane l).initial || !tb) = true := by
  rcases h with h | h <;> simp [h]

section
variable (ht : (s.lane l).training = true) (hl : (s.lane l).linkUp = false)
include ht hl

theorem execLinkUp_unmapped (hc : s.cfg.cur.mapModule l ≠ some mdl) (hp : s.latestSet.mapModule l ≠ some mdl) :
    exec (.linkUp l mdl ser tb) s = .next (raise 0x0903 (laneHandle l) 0 mdl (modLane l (fun x => { x with
      module := mdl, serial := ser, training := false, trained := false, mode := .off }) s)) := by
  simp [exec_linkUp, execLinkUp, ht, hl, hc, hp]

section
variable (hm : s.cfg.cur.mapModule l = some mdl ∨ s.latestSet.mapModule l = some mdl)
include hm

/-- In a retrain a driver that kept its tables needs nothing more. -/
theorem execLinkUp_keepsTables (hb : tb = true) (hi : (s.lane l).initial = false) :
    exec (.linkUp l mdl ser tb) s = .next (modLane l (fun x => { x with tables := true }) (linked l mdl ser s)) := by
  simp [exec_linkUp, execLinkUp, linked, ht, hl, ← not_or, hm, hb, hi]

/-- Any other driver gets its tables. -/
theorem execLinkUp_noStation (h : tb = false ∨ (s.lane l).initial = true) (hn : laneStation s l = none) :
    exec (.linkUp l mdl ser tb) s = .next (givenTables l mdl ser s) := by
  rw [← laneStation_givenTables l mdl ser s, givenTables, linked] at hn
  simp only [exec_linkUp, execLinkUp, givenTables, linked, ht, hl, ne_eq, ← not_or, hm, needsTables h, hn,
    Bool.not_true, Bool.or_false, not_true_eq_false, Bool.false_eq_true, if_false, if_true]

/-- Where it has a station its head is read, in a retrain once the sweep is dropped. -/
theorem execLinkUp_station (h : tb = false ∨ (s.lane l).initial = true) (hn : laneStation s l = some n) :
    exec (.linkUp l mdl ser tb) s = .next (readHead n
      (if (s.lane l).initial then givenTables l mdl ser s else dropSweep n (givenTables l mdl ser s))) := by
  rw [← laneStation_givenTables l mdl ser s, givenTables, linked] at hn
  simp only [exec_linkUp, execLinkUp, givenTables, linked, ht, hl, ne_eq, ← not_or, hm, needsTables h, hn,
    Bool.not_true, Bool.or_false, not_true_eq_false, Bool.false_eq_true, if_false, if_true]

theorem execLinkUp_initial (hi : (s.lane l).initial = true) (hn : laneStation s l = some n) :
    exec (.linkUp l mdl ser tb) s = .next (readHead n (givenTables l mdl ser s)) := by
  rw [execLinkUp_station ht hl hm (.inr hi) hn, if_pos hi]

theorem execLinkUp_retrain (hb : tb = false) (hi : (s.lane l).initial = false) (hn : laneStation s l = some n) :
    exec (.linkUp l mdl ser tb) s = .next (readHead n (dropSweep n (givenTables l mdl ser s))) := by
  rw [execLinkUp_station ht hl hm (.inl hb) hn, if_neg (Bool.eq_false_iff.1 hi)]

end

end

/-! ### The end of a training (R162, R179, R346) -/

/-- By whether the lane serves a station, and whether its training is an initial one. -/
theorem trainedNow_iff : trainedNow s l = true ↔ (s.lane l).training = true ∧ (s.lane l).linkUp = true ∧
    (∀ n, laneServes s l = some n → (s.st n).scan.lock = true) ∧
    ((s.lane l).initial = true → ((s.lane l).restore = false ∨ standby s = true) ∧
      ∀ n, laneServes s l = some n → (s.st n).ems.readAt = none) := by
  cases hn : laneServes s l <;> cases hi : (s.lane l).initial <;> simp [trainedNow, hn, hi, and_assoc]

/-- The training of lane `l` is over; it carries the words of a lane at rest. -/
def rested (l : Nat) (s : State) : State :=
  modLane l (fun x => { x with
    mode := restMode s l, training := false, trained := true, initial := false, noLinkEp := false, leave := 0 }) s

theorem trainingDone_noStation (hn : laneStation s l = none) (h1 : openOn s (laneHandle l) 0x0901 = false)
    (h2 : openOn s (laneHandle l) 0x0902 = false) (hw : s.mbx.waiters.any (returnWaits (laneHandle l) 0) = false) :
    trainingDone l s = rested l s := by
  have hstation : laneStation (rested l s) l = none := hn
  have hword : openOn (rested l s) (laneHandle l) 0x0901 = false := h1
  have hback : openOn (rested l s) (laneHandle l) 0x0902 = false := h2
  have hwaits : (rested l s).mbx.waiters.any (returnWaits (laneHandle l) 0) = false := hw
  rw [rested] at hstation hword hback hwaits
  simp only [trainingDone, rested, hstation, hword, hback, hwaits, Bool.or_false, Bool.false_eq_true, if_false]

/-! ### The training's timeouts and retries (R113, R179) -/

/-- An initial training of lane `l` has failed: the lane is out, which is noted once per episode. -/
def trainingFailed (l : Nat) (s : State) : State :=
  if (s.lane l).noLinkEp then modLane l (fun x => { x with training := false, mode := .off, noLinkEp := true }) s
  else note 0x0906 (laneHandle l) 0
    (modLane l (fun x => { x with training := false, mode := .off, noLinkEp := true }) s)

section
variable (ht : (s.lane l).training = true)
include ht

section
variable (hi : (s.lane l).initial = true)
include hi

theorem execLaneTrainingTimeout_noStation (hn : laneStation (trainingFailed l s) l = none) :
    exec (.laneTrainingTimeout l) s = .next (trainingFailed l s) := by
  rw [trainingFailed] at hn
  simp only [exec_laneTrainingTimeout, execLaneTrainingTimeout, trainingFailed, ht, hi, hn, Bool.not_true,
    Bool.and_false, Bool.or_false, Bool.false_eq_true, if_false, if_true]

theorem execLaneTrainingTimeout_station (hn : laneStation (trainingFailed l s) l = some n) :
    exec (.laneTrainingTimeout l) s = .next (if stationOut (trainingFailed l s) n then trainingFailed l s
      else stationFault n 1 0x11 (trainingFailed l s)) := by
  rw [trainingFailed] at hn
  simp only [exec_laneTrainingTimeout, execLaneTrainingTimeout, trainingFailed, ht, hi, hn, Bool.not_true,
    Bool.and_false, Bool.or_false, Bool.false_eq_true, if_false, if_true]
  rfl

end

theorem execLaneTrainingTimeout_retrain (hi : (s.lane l).initial = false)
    (h : (s.lane l).linkUp = false ∨ (s.lane l).restore = false) :
    exec (.laneTrainingTimeout l) s =
      .next (raise 0x0905 (laneHandle l) 0 l (modLane l (fun x => { x with training := false, mode := .idle }) s)) := by
  have hlate : ((s.lane l).linkUp && (s.lane l).restore) = false := by rcases h with h | h <;> simp [h]
  simp [exec_laneTrainingTimeout, execLaneTrainingTimeout, ht, hi, hlate]

end

/-- A retrain whose linked driver is restoring is left to go on. -/
theorem execLaneTrainingTimeout_restoring (hi : (s.lane l).initial = false) (hl : (s.lane l).linkUp = true)
    (hr : (s.lane l).restore = true) : exec (.laneTrainingTimeout l) s = .next s := by
  simp [exec_laneTrainingTimeout, execLaneTrainingTimeout, hi, hl, hr]

theorem execLaneTrainingRetry_starts (htr : (s.lane l).trained = false) (ht : (s.lane l).training = false)
    (hr : (s.lane l).retired = false) (he : (s.lane l).noLinkEp = true) (hm : s.latestSet.mapModule l = some mdl) :
    exec (.laneTrainingRetry l) s = .next (startTraining l true s) := by
  simp [exec_laneTrainingRetry, execLaneTrainingRetry, htr, ht, hr, he, hm]

/-! ### The sideband (R174, R175) -/

theorem execAckMsg_unknown (h : ∀ m ∈ (s.lane l).out, m.tag ≠ tag) : exec (.ackMsg l tag st) s = .next s := by
  have hfind : ((s.lane l).out.find? fun m => m.tag == tag) = none := by simpa [List.find?_eq_none] using h
  simp [exec_ackMsg, execAckMsg, hfind]

/-- The place of the forward message with a tag is free. -/
def freedSide (l tag : Nat) (s : State) : State :=
  modLane l (fun x => { x with out := x.out.filter fun y => y.tag != tag }) s

section
variable {m : SideMsg} (hf : ((s.lane l).out.find? fun m => m.tag == tag) = some m)
include hf

theorem execAckMsg_frees (h : m.kind ≠ 3 ∨ st ≠ 0) :
    exec (.ackMsg l tag st) s = .next (pumpSide 8 l (freedSide l tag s)) := by
  have hother : ¬ (m.kind = 3 ∧ st = 0) := by tauto
  simp only [exec_ackMsg, execAckMsg, hf, if_neg hother, freedSide]

/-- The OK to the COMMIT ends restoring, and the shadows are due at the next mark. -/
theorem execAckMsg_commit (hk : m.kind = 3) (ho : st = 0) : exec (.ackMsg l tag st) s = .next (pumpSide 8 l
    (modLane l (fun x => { x with tables := true, restore := false, commitDue := x.shadow.isSome })
      (freedSide l tag s))) := by
  simp only [exec_ackMsg, execAckMsg, hf, if_pos (And.intro hk ho), freedSide]

theorem execSidebandAckTimeout_again (h : m.tries < 3) : exec (.sidebandAckTimeout l tag) s =
    .next (modLane l (fun x => { x with
      out := x.out.map fun y => if y.tag = tag then { y with tries := y.tries + 1 } else y
      tx := x.tx ++ m.slices }) s) := by
  simp [exec_sidebandAckTimeout, execSidebandAckTimeout, hf, h]

theorem execSidebandAckTimeout_givesUp (h : 3 ≤ m.tries) : exec (.sidebandAckTimeout l tag) s =
    .next (startBer l false (raise 0x0904 (laneHandle l) 0 m.kind (pumpSide 8 l (freedSide l tag s)))) := by
  simp only [exec_sidebandAckTimeout, execSidebandAckTimeout, hf, if_neg (not_lt.2 h), freedSide]

end

/-! ### Lane PLLs (R287) -/

section
variable {p : Nat} (hm : s.mbx.live = true) (hb : s.boot.stage = .running) (hp : p ≤ 3) (hh : s.clk.holdOver = false)
  (hd : (kvGet ({} : Pll) s.clk.plls p).down = false)
include hm hb hp hh hd

theorem execLanePllLockTimeout_again (h : (kvGet ({} : Pll) s.clk.plls p).tries < 3) :
    exec (.lanePllLockTimeout p) s = .next (s.modClk fun c => { c with
      plls := kvSet c.plls p
        { kvGet ({} : Pll) s.clk.plls p with tries := (kvGet ({} : Pll) s.clk.plls p).tries + 1 } }) := by
  simp [exec_lanePllLockTimeout, execLanePllLockTimeout, hm, hb, hh, hd, h, hp]

theorem execLanePllLockTimeout_down (h : 3 ≤ (kvGet ({} : Pll) s.clk.plls p).tries) :
    exec (.lanePllLockTimeout p) s = .next ((pllGroup p).foldl
      (fun s i => raiseAs (if p = 3 then 3 else 2) 0 0x0106 (BitVec.ofNat 16 i) 0 p s)
      (s.modClk fun c => { c with plls := kvSet c.plls p { kvGet ({} : Pll) s.clk.plls p with down := true } })) := by
  simp [exec_lanePllLockTimeout, execLanePllLockTimeout, hm, hb, hh, hd, hp, not_lt.2 h]

end

/-- Settles O42: each event by its cases, LINK_UP by the training it comes in. -/
theorem lanesTrainAndSidebandIsAcknowledged : Obligations.LanesTrainAndSidebandIsAcknowledged := by
  unfold Obligations.LanesTrainAndSidebandIsAcknowledged
  refine ⟨?linkUp, ?complete, ?timeout, ?retry, ?unknown, ?ack, ?ackTimeout, exec_statusMsg, ?pll⟩
  case linkUp =>
    intro l mdl ser tb s t e
    exact ⟨execLinkUp_idle, fun ht hl => ⟨execLinkUp_unmapped ht hl, fun hm => ⟨execLinkUp_keepsTables ht hl hm,
      execLinkUp_noStation ht hl hm, fun n => execLinkUp_initial ht hl hm, fun n => execLinkUp_retrain ht hl hm⟩⟩⟩
  case complete =>
    intro l s
    refine ⟨fun h => ?_, fun h => ?_, trainedNow_iff, trainingDone_noStation⟩
    · simp [exec_laneTrainingComplete, h]
    · simp [exec_laneTrainingComplete, h]
  case timeout =>
    intro l s ht
    exact ⟨fun hi => ⟨execLaneTrainingTimeout_noStation ht hi, fun n => execLaneTrainingTimeout_station ht hi⟩,
      execLaneTrainingTimeout_retrain ht, execLaneTrainingTimeout_restoring⟩
  case retry =>
    intro l mdl s htr ht hr he hm
    exact execLaneTrainingRetry_starts htr ht hr he hm
  case unknown =>
    intro l tag st s h
    exact execAckMsg_unknown h
  case ack =>
    intro l tag st m s hf
    exact ⟨execAckMsg_frees hf, execAckMsg_commit hf⟩
  case ackTimeout =>
    intro l tag m s hf
    exact ⟨execSidebandAckTimeout_again hf, execSidebandAckTimeout_givesUp hf⟩
  case pll =>
    intro p s hm hb hp hh x hd
    exact ⟨execLanePllLockTimeout_again hm hb hp hh hd, execLanePllLockTimeout_down hm hb hp hh hd⟩

end Sys2Proof.Machine
end

section
/-! SUPPORT. The ledger (O17): the LDG_ commands' bodies, an acknowledgement that is taken and one that is not, the
write of the open page and its end (R140, R369, R370, R410). -/

namespace Sys2Proof.Machine

open Sys2Proof

variable {m : Cmd} {a w : Nat} {r : LedgerRec} {rs : List LedgerRec} {s : State}

/-! ### The arms -/

theorem exec_ldgAck : exec (.ldgAck m) s = .next (runCmd opLdgAck noTicket m (bodyLdgAck m) s) := rfl

theorem exec_ledgerAcknowledgement : exec (.ledgerAcknowledgement a w) s = .next (ackLedger a w s) := rfl

theorem exec_ledgerPageWrite : exec .ledgerPageWrite s = .next (ledgerLevel (writeLedgerPage s)) := rfl

/-! ### LDG_READ and LDG_ACK (R370, R410) -/

theorem bodyLdgRead_ok (hlo : 1 ≤ m.u 8 1) (hhi : m.u 8 1 ≤ 16) (hr : ledgerRun s (m.u 8 1) (m.u 0 8) = r :: rs) :
    bodyLdgRead m s = .done .ok ((r :: rs).flatMap LedgerRec.toBytes) s := by
  have hcount : between 1 16 (m.u 8 1) = true := by simp [between, hlo, hhi]
  simp only [bodyLdgRead, hcount, hr, Bool.not_true, Bool.false_eq_true, if_false]

theorem bodyLdgAck_ok (hw : m.u 8 2 ≤ 8192) :
    bodyLdgAck m s = .done .ok [] (ackLedger (m.u 0 8) (m.u 8 2) s) := if_neg hw.not_gt

theorem bodyLdgAck_range (hw : 8192 < m.u 8 2) : bodyLdgAck m s = refuse .range s := if_pos hw

/-! ### Acknowledgements (R370) -/

theorem ackLedger_ignored
    (h : 8192 < w ∨ a < s.ledger.acked ∨ max (max s.ledger.sent s.ledger.acked) (heldBefore s) < a) :
    ackLedger a w s = note 0x0606 0#16 0 s := if_pos h

/-- The acknowledged serial and the window are `a` and `w`; the timer runs on while a record sent is unacknowledged. -/
def acknowledged (a w : Nat) (s : State) : State :=
  s.modLedger fun l =>
    { l with acked := a, window := w, timer := if decide (s.ledger.acked < a) then decide (a < l.sent) else l.timer }

/-- Without an EVENTS lane nothing goes upstream. -/
theorem sendLedger_noLane (h : eventLane s = none) : sendLedger s = s := by
  simp only [sendLedger, h, ite_self]

theorem ackLedger_taken (hw : w ≤ 8192) (hlo : s.ledger.acked ≤ a)
    (hhi : a ≤ max (max s.ledger.sent s.ledger.acked) (heldBefore s)) (hl : eventLane s = none) :
    ackLedger a w s = ledgerLevel (releaseLedger (acknowledged a w s)) := by
  have htaken : ¬(8192 < w ∨ a < s.ledger.acked ∨ max (max s.ledger.sent s.ledger.acked) (heldBefore s) < a) := by
    simp only [not_or, not_lt]
    exact ⟨hw, hlo, hhi⟩
  have hlane : eventLane (releaseLedger (acknowledged a w s)) = none := hl
  rw [ackLedger, if_neg htaken]
  exact congrArg ledgerLevel (sendLedger_noLane hlane)

theorem execLedgerResendTimeout_running (h : s.ledger.timer = true) :
    exec .ledgerResendTimeout s = .next (sendLedger (s.modLedger fun l => { l with sent := l.acked })) :=
  congrArg Host.Outcome.next (if_pos h)

/-! ### The open page (R140) -/

theorem writeLedgerPage_unavailable (h : regionState s ≠ .available) : writeLedgerPage s = s := if_pos (.inl h)

theorem writeLedgerPage_open (hr : regionState s = .available) (ho : s.spool.ledgerOut = [])
    (hp : openPage s = r :: rs) : writeLedgerPage s =
      writePage .ledgerWrite (s.spool.sb.dirPages + regionIdx s r.serial / 32)
        (ledgerPageBytes s (regionIdx s r.serial / 32) (r :: rs))
        (s.modSpool fun p => { p with ledgerOut := r :: rs }) := by
  simp [writeLedgerPage, hr, ho, hp]

/-- The page under way, its last record `r`, is written: its records stand in the region, which keeps the newest. -/
def pageStored (r : LedgerRec) (s : State) : State :=
  s.modSpool fun p => { p with
    regionRecs := (p.regionRecs ++ p.ledgerOut).filter fun x => decide (r.serial < x.serial + p.sb.regionRecords)
    regionWrite := r.serial + 1, ledgerOut := [] }

theorem ledgerWritten_last (h : s.spool.ledgerOut.getLast? = some r) : ledgerWritten s =
    if pageFull (releaseLedger (pageStored r s)) then writeLedgerPage (releaseLedger (pageStored r s))
    else releaseLedger (pageStored r s) := by
  simp only [ledgerWritten, h]
  rfl

/-- A record of the page stands in the region, unless the region is shorter than the page. -/
theorem mem_pageStored {x : LedgerRec} (hx : x ∈ s.spool.ledgerOut) :
    x ∈ (pageStored r s).spool.regionRecs ∨ x.serial + s.spool.sb.regionRecords ≤ r.serial := by
  rcases lt_or_ge r.serial (x.serial + s.spool.sb.regionRecords) with h | h
  · exact .inl (List.mem_filter.2 ⟨List.mem_append_right _ hx, decide_eq_true h⟩)
  · exact .inr h

/-- Settles O17: the commands by their bodies' equations, the acknowledgements and the page by their cases. -/
theorem ledgerCommandsComplete : Obligations.LedgerCommandsComplete := by
  unfold Obligations.LedgerCommandsComplete
  refine ⟨?read, ?status, ?ack, ?ackRange, fun a w s => exec_ledgerAcknowledgement, ?taken,
    fun a w s => ackLedger_ignored, fun s => execLedgerResendTimeout_running, ?openPage, ?noRegion, ?stored⟩
  case read =>
    intro m s r rs e h hlo hhi hr
    exact runCmd_ok h (bodyLdgRead_ok hlo hhi hr)
  case status =>
    intro m s e old h
    exact runCmd_ok h rfl
  case ack =>
    intro m s e h hw
    exact runCmd_ok h (bodyLdgAck_ok hw)
  case ackRange =>
    intro m s e h hw
    rw [exec_ldgAck, runCmd_done h (bodyLdgAck_range hw) (by decide)]
    rfl
  case taken =>
    intro a w s hw hlo hhi hl
    exact ⟨releaseLedger (acknowledged a w s), ackLedger_taken hw hlo hhi hl, rfl, rfl, rfl, rfl⟩
  case openPage =>
    intro r rs s hr ho hp page
    rw [exec_ledgerPageWrite, writeLedgerPage_open hr ho hp]
  case noRegion =>
    intro s h
    rw [exec_ledgerPageWrite, writeLedgerPage_unavailable h]
  case stored =>
    rintro _ r s rfl hr
    exact ⟨pageStored r s, ledgerWritten_last hr, rfl, rfl, fun x => mem_pageStored, rfl⟩

end Sys2Proof.Machine
end

section
/-! SUPPORT. What the members do: a command that joins a queue, is issued or dropped changes what its member has to do,
and nothing else of the device but what it sends (R124, R136, R137). -/

namespace Sys2Proof.Machine

open Sys2Proof

variable {s t u : State} {c d : Nat} {m : Member}

/-- A member beside what it has to do and what counts toward its rate. -/
def Member.standing (m : Member) : Member := { m with queue := [], out := [], readBytes := 0, sat := false }

/-- The members beside what they have to do and what counts toward their rates. -/
def standings (s : State) : List Member := s.spool.members.map Member.standing

/-- From `s` to `t` only what the members have to do, what counts toward their rates, and what is sent has changed. -/
structure AtWork (s t : State) : Prop where
  rest : t = { s with spool := { s.spool with members := t.spool.members }, outbox := t.outbox }
  standings : standings t = standings s

theorem AtWork.refl (s : State) : AtWork s s := ⟨rfl, rfl⟩

theorem AtWork.trans (a : AtWork s t) (b : AtWork t u) : AtWork s u :=
  ⟨by rw [b.rest, a.rest], b.standings.trans a.standings⟩

theorem AtWork.foldl {α : Type} {f : State → α → State} (h : ∀ s a, AtWork s (f s a)) (l : List α) (s : State) :
    AtWork s (l.foldl f s) := List.foldlRecOn l f (.refl s) fun t ht a _ => ht.trans (h t a)

theorem AtWork.spool (h : AtWork s t) : t.spool = { s.spool with members := t.spool.members } :=
  congrArg State.spool h.rest

theorem AtWork.ingest (h : AtWork s t) : t.ingest = s.ingest := by rw [h.rest]

theorem AtWork.length (h : AtWork s t) : t.spool.members.length = s.spool.members.length := by
  simpa [Machine.standings] using congrArg List.length h.standings

/-- Members that stand alike are as many, each beside its own. -/
theorem member_of_standings (h : standings t = standings s) (hm : s.spool.members[c]? = some m) :
    ∃ x, t.spool.members[c]? = some x ∧ x.standing = m.standing := by
  have hc : (standings t)[c]? = some m.standing := by rw [h, standings, List.getElem?_map, hm]; rfl
  simpa [standings, List.getElem?_map] using hc

theorem bw_of_standing {x : Member} (h : x.standing = m.standing) : x.bw = m.bw := (congrArg Member.bw h :)

theorem mountBw_of_standing {x : Member} (h : x.standing = m.standing) : x.mountBw = m.mountBw :=
  (congrArg Member.mountBw h :)

/-! ### One member -/

theorem modMember_getElem? (c d : Nat) (f : Member → Member) (s : State) :
    (modMember c f s).spool.members[d]? = s.spool.members[d]?.map fun m => if d = c then f m else m := by
  simp only [modMember, State.modSpool_spool, List.getElem?_map, List.getElem?_zipIdx, Option.map_map, Nat.zero_add]
  rfl

theorem atWork_modMember {f : Member → Member} (h : ∀ m, (f m).standing = m.standing) (c : Nat) (s : State) :
    AtWork s (modMember c f s) := by
  refine ⟨rfl, List.ext_getElem? fun d => ?_⟩
  simp only [standings, List.getElem?_map, modMember_getElem?, Option.map_map]
  congr 1
  funext m
  simp only [Function.comp]
  split_ifs
  · exact h m
  · rfl

theorem atWork_mapMembers {f : Member → Member} (h : ∀ m, (f m).standing = m.standing) (s : State) :
    AtWork s (s.modSpool fun p => { p with members := p.members.map f }) := by
  refine ⟨rfl, ?_⟩
  simp only [standings, State.modSpool_spool, List.map_map]
  exact List.map_congr_left fun m _ => h m

theorem atWork_send (x : OutMsg) (s : State) : AtWork s (s.send x) := ⟨rfl, rfl⟩

/-! ### Queues (R124, R137) -/

theorem atWork_serve (c k : Nat) (s : State) : AtWork s (serve c k s) := by
  induction k generalizing s with
  | zero => exact .refl s
  | succ k ih =>
    simp only [serve]
    split
    · exact .refl s
    · split
      · exact .refl s
      · split
        · exact .refl s
        · exact ((atWork_modMember (fun _ => by rfl) c s).trans (atWork_send ..)).trans (ih _)

theorem atWork_enqueue (c : Nat) (q : NvmeCmd) (s : State) : AtWork s (enqueue c q s) := by
  unfold enqueue
  exact (atWork_modMember (fun _ => by rfl) c s).trans (atWork_serve ..)

theorem atWork_dropCmds (p : NvmeCmd → Bool) (s : State) : AtWork s (dropCmds p s) :=
  atWork_mapMembers (fun _ => by rfl) s

theorem atWork_writePage (op : NvmeOp) (g : Nat) (data : List Byte) (s : State) :
    AtWork s (writePage op g data s) := by
  simp only [writePage]
  split
  · exact .refl s
  · exact atWork_enqueue ..

theorem atWork_onEvery (q : NvmeCmd) (s : State) : AtWork s (onEvery q s) :=
  .foldl (fun s c => atWork_enqueue c q s) _ s

theorem atWork_beginWindows (s : State) : AtWork s (beginWindows s) := atWork_mapMembers (fun _ => by rfl) s

theorem atWork_benchReads (s : State) : AtWork s (benchReads s) := atWork_onEvery _ s

end Sys2Proof.Machine
end

section
/-! SUPPORT. The service commands (O23): MNT_FAULT_ACK, MNT_RETURN, MNT_INTLK_RELEASE and MNT_SPOOL_FORMAT by their
bodies, and that a command leaves the commands that wait until its body has run (R129, R184, R324, R329, R334). -/

namespace Sys2Proof.Machine

open Sys2Proof

variable {m : Cmd} {r : FRec} {s : State}

/-! ### The arms -/

theorem exec_mntFaultAck : exec (.mntFaultAck m) s =
    .next (runCmd opMntFaultAck noTicket m (bodyMntFaultAck m) s) := rfl

theorem exec_mntReturn : exec (.mntReturn m) s = execMntReturn m s := rfl

theorem exec_mntIntlkRelease : exec (.mntIntlkRelease m) s =
    .next (runCmd opMntIntlkRelease (fun _ => 3) m (bodyMntIntlkRelease m) s) := rfl

/-- The ticket that a format needs: a regulator's when the region holds unacknowledged records (R129). -/
def formatNeed (s : State) : Nat := if regionUnacked s then 1 else 2

theorem exec_mntSpoolFormat : exec (.mntSpoolFormat m) s =
    .next (runCmd opMntSpoolFormat formatNeed m (bodyMntSpoolFormat m) s) := rfl

/-! ### The waiting commands

Telling the outside and answering a command leave them as they are. -/

@[simp] theorem post_waiters (code : Nat) (h : Handle) (p : List Byte) (s : State) :
    (post code h p s).mbx.waiters = s.mbx.waiters := by
  simp only [post]
  cases eventLane _ <;> (simp only; split_ifs <;> rfl)

@[simp] theorem galFlush_mbx (s : State) : (galFlush s).mbx = s.mbx := by
  unfold galFlush
  split_ifs <;> rfl

theorem galNew_mbx (n : GalRec) (s : State) : (galPut.galNew n s).mbx = s.mbx := by
  simp only [galPut.galNew]
  split_ifs <;> simp

@[simp] theorem galPut_mbx (n : GalRec) (s : State) : (galPut n s).mbx = s.mbx := by
  simp only [galPut]
  split
  · simp only [apply_ite State.mbx, State.modGal_mbx, galNew_mbx, ite_self]
  · exact galNew_mbx ..

@[simp] theorem noteBase_waiters (code : Nat) (h : Handle) (sel : Nat) (s : State) :
    (noteBase code h sel s).mbx.waiters = s.mbx.waiters := by
  simp only [noteBase]
  split
  · split_ifs <;> simp
  · simp

@[simp] theorem galLevel_waiters (s : State) : (galLevel s).mbx.waiters = s.mbx.waiters := by
  simp only [galLevel]
  split_ifs <;> simp

@[simp] theorem note_waiters (code : Nat) (h : Handle) (sel : Nat) (s : State) :
    (note code h sel s).mbx.waiters = s.mbx.waiters := by simp [note]

@[simp] theorem respond_waiters (op : Nat) (m : Cmd) (st : Status) (p : List Byte) (s : State) :
    (respond op m st p s).mbx.waiters = s.mbx.waiters := by
  simp only [respond, deliver]
  cases m.path <;> rfl

@[simp] theorem seqCheck_waiters (q : Nat) (s : State) : (seqCheck q s).mbx.waiters = s.mbx.waiters := by
  simp only [seqCheck]
  cases s.mbx.lastSeq with
  | none => rfl
  | some p => simp only; split_ifs <;> simp

@[simp] theorem startCmd_waiters (op : Nat) (m : Cmd) (s : State) : (startCmd op m s).mbx.waiters = s.mbx.waiters := by
  simp only [startCmd]
  split_ifs <;> simp

@[simp] theorem entered_waiters (i : CmdInfo) (m : Cmd) (s : State) : (entered i m s).mbx.waiters = s.mbx.waiters := by
  simp only [entered, useGrant]
  split_ifs <;> simp

/-! ### MNT_FAULT_ACK (R320, R324, R371) -/

/-- Record `r` of entry `i` is acknowledged, and with a record of the press the ledger's loss (log entry 142). -/
def faultAcked (i : Nat) (r : FRec) (s : State) : State :=
  let s := s.modFaults fun f => { f with recs := kvSet f.recs i { r with acked := true } }
  if r.handle = 0#16 then s.modLand fun l => { l with ledgerLostAck := true } else s

section
variable (hr : kvFind s.faults.recs (m.u 0 1) = some r)
include hr

theorem bodyMntFaultAck_ok (ho : r.isOpen = true) (hc : r.code = m.u 2 2) (hk : classOf r.code = 3) :
    bodyMntFaultAck m s =
      .done .ok [] (closeIfCleared (m.u 0 1) (leaveAllHot (faultAcked (m.u 0 1) r s))) := by
  have hget : kvGet ({} : FRec) s.faults.recs (m.u 0 1) = r := by simp [kvGet, hr]
  have hopen : (!r.isOpen || r.code != m.u 2 2 || classOf r.code != 3) = false := by simp [ho, ← hc, hk]
  simp only [bodyMntFaultAck, faultAcked, State.modFaults, kvMod, hget, hopen, Bool.false_eq_true, if_false]

theorem bodyMntFaultAck_range (hk : classOf r.code ≠ 3) : bodyMntFaultAck m s = refuse .range s := by
  simp [bodyMntFaultAck, kvGet, hr, hk]

end

/-! ### MNT_RETURN (R334) -/

theorem bodyMntReturn_later (hp : ownPath s m.handle m.sel = false) (hr : channelRetired s m.handle m.sel = true)
    (hh : channelHeld s m.handle = false) : bodyMntReturn m s = .later s := by
  simp [bodyMntReturn, hp, hr, hh]

theorem bodyMntReturn_conflict (hr : channelRetired s m.handle m.sel = false) :
    bodyMntReturn m s = refuse .conflict s := by
  simp [bodyMntReturn, hr]

/-- No MNT_RETURN waits. -/
def noReturnWaits (s : State) : Prop := ∀ w ∈ s.mbx.waiters, w.op ≠ 0x0505

theorem noReturnWaits.any_eq_false {c : Cmd} (h : noReturnWaits s) :
    (s.mbx.waiters.any fun w => w.op == 0x0505 && w.cmd == c) = false :=
  List.any_eq_false.2 fun w hw => by simp [h w hw]

/-- MNT_RETURN that now waits starts its channel's test. -/
theorem execMntReturn_starts {t : State} (hw : noReturnWaits s)
    (ht : runCmd opMntReturn (fun _ => 2) m (bodyMntReturn m) s = underWay opMntReturn m t) :
    exec (.mntReturn m) s = .next (returnTest m.handle m.sel (underWay opMntReturn m t)) := by
  have hnew : ((underWay opMntReturn m t).mbx.waiters.any fun w => w.op == 0x0505 && w.cmd == m) = true := by
    simp [underWay, opMntReturn]
  simp [exec_mntReturn, execMntReturn, ht, hnew, hw.any_eq_false]

/-- MNT_RETURN answered at once starts nothing. -/
theorem execMntReturn_answered {t : State}
    (ht : runCmd opMntReturn (fun _ => 2) m (bodyMntReturn m) s = t) (hw : noReturnWaits t) :
    exec (.mntReturn m) s = .next t := by
  simp [exec_mntReturn, execMntReturn, ht, hw.any_eq_false]

/-! ### MNT_INTLK_RELEASE (R184) -/

theorem bodyMntIntlkRelease_ok (hl : BitVec.ofNat 8 (m.u 0 1) &&& s.intlk.low = 0#8)
    (hg : s.intlk.latched &&& ~~~BitVec.ofNat 8 (m.u 0 1) ≠ 0#8 ∨ s.intlk.low ≠ 0#8 ∨ s.intlk.closedBy = 0#8) :
    bodyMntIntlkRelease m s =
      .done .ok [] (s.modIntlk fun x => { x with latched := x.latched &&& ~~~BitVec.ofNat 8 (m.u 0 1) }) := by
  have hclosed : ¬(s.intlk.latched &&& ~~~BitVec.ofNat 8 (m.u 0 1) = 0#8 ∧ s.intlk.low = 0#8 ∧
      s.intlk.closedBy ≠ 0#8) := by tauto
  simp only [bodyMntIntlkRelease, hl, ne_eq, not_true_eq_false, if_false, State.modIntlk_intlk]
  exact congrArg _ (if_neg hclosed)

theorem bodyMntIntlkRelease_conflict (hl : BitVec.ofNat 8 (m.u 0 1) &&& s.intlk.low ≠ 0#8) :
    bodyMntIntlkRelease m s = refuse .conflict s := if_pos hl

/-! ### MNT_SPOOL_FORMAT (R129, R130)

That a format of no member answers RANGE is log entry 133. -/

/-- A format has begun: identifier and key are drawn, the spool is empty, and no band has its place. -/
def formatBegun (s : State) : State :=
  let key := BitVec.ofNat 512 (Config.free (s.free + 1))
  let sb := formatSuper s (formatMembers s) (Config.free s.free) key
  { s with
    free := s.free + 2
    ingest := { s.ingest with bands := s.ingest.bands.map fun b => { b with first := none } }
    spool := { s.spool with
      fmt := 1, state := .absent, sb := sb, xtsKey := key, dir := [], descs := [], usedRuns := []
      storedDir := [], stored := [], storedRuns := [], batch := 0, sbOut := none, sbMore := false, sbGen := (0, 0)
      cursor := sb.extentStart, rereads := [], regionRecs := [], ledgerOut := [], scrub := none, scrubPos := 0
      members := (formatMembers s).map fun x => { x with tries := 0, queue := [], out := [] } } }

/-- The format's first step: every member's bench region is written. -/
def formatStarted (s : State) : State :=
  onEvery { op := .benchWrite, page := 256, pages := 262144 } (formatBegun s)

theorem atWork_formatStarted (s : State) : AtWork (formatBegun s) (formatStarted s) := atWork_onEvery ..

section
variable (hf : noFlights s = true) (hn : s.spool.fmt = 0)
include hf hn

theorem bodyMntSpoolFormat_later (hc : m.u 0 4 = 0x5120) (hm : formatMembers s ≠ [])
    (hd : 2 ≤ (formatSuper s (formatMembers s) 0 0#512).dirPages) :
    bodyMntSpoolFormat m s = .later (formatStarted s) := by
  have hrun : (!noFlights s || s.spool.fmt != 0) = false := by simp [hf, hn]
  have hform : ¬(m.u 0 4 ≠ 0x5120 ∨ (formatMembers s).isEmpty = true ∨
      (formatSuper s (formatMembers s) 0 0#512).dirPages < 2) := by
    simp only [not_or, not_lt, List.isEmpty_iff, ne_eq, not_not]
    exact ⟨hc, hm, hd⟩
  simp only [bodyMntSpoolFormat, hrun, Bool.false_eq_true, if_false, if_neg hform]
  rfl

theorem bodyMntSpoolFormat_range
    (h : m.u 0 4 ≠ 0x5120 ∨ formatMembers s = [] ∨ (formatSuper s (formatMembers s) 0 0#512).dirPages < 2) :
    bodyMntSpoolFormat m s = refuse .range s := by
  have hrun : (!noFlights s || s.spool.fmt != 0) = false := by simp [hf, hn]
  rw [← List.isEmpty_iff] at h
  simp only [bodyMntSpoolFormat, hrun, Bool.false_eq_true, if_false, if_pos h]

end

theorem bodyMntSpoolFormat_busy (h : noFlights s = false ∨ s.spool.fmt ≠ 0) :
    bodyMntSpoolFormat m s = refuse .busy s := by
  have hrun : (!noFlights s || s.spool.fmt != 0) = true := by simpa using h
  simp only [bodyMntSpoolFormat, hrun, if_true]

/-- Settles O23: each command by its body's equation, MNT_RETURN by whether it waits. -/
theorem serviceCommandsComplete : Obligations.ServiceCommandsComplete := by
  unfold Obligations.ServiceCommandsComplete
  refine ⟨?ack, ?ackRange, ?starts, ?returnConflict, ?release, ?releaseConflict, ?format, ?formatRange, ?formatBusy⟩
  case ack =>
    intro m s r e t u h hr ho hc hk
    exact runCmd_ok h (bodyMntFaultAck_ok hr ho hc hk)
  case ackRange =>
    intro m s r e h hr hk
    rw [exec_mntFaultAck, runCmd_done h (bodyMntFaultAck_range hr hk) (by decide)]
    rfl
  case starts =>
    intro m s e h hp hr hh hw
    exact execMntReturn_starts hw (runCmd_later h (bodyMntReturn_later hp hr hh))
  case returnConflict =>
    intro m s e h hr hw
    refine execMntReturn_answered (runCmd_done h (bodyMntReturn_conflict hr) (by decide)) ?_
    simpa [noReturnWaits, e] using hw
  case release =>
    intro m s e w h hl hg
    exact runCmd_ok h (bodyMntIntlkRelease_ok hl hg)
  case releaseConflict =>
    intro m s e h hl
    rw [exec_mntIntlkRelease, runCmd_done h (bodyMntIntlkRelease_conflict hl) (by decide)]
    rfl
  case format =>
    intro m s need e key h hc hm hf hn hd
    have hw := atWork_formatStarted e
    refine ⟨formatStarted e, congrArg _ (runCmd_later h (bodyMntSpoolFormat_later hf hn hc hm hd)), ?_⟩
    rw [hw.spool, hw.ingest]
    exact ⟨rfl, rfl, rfl, rfl, rfl, rfl, rfl, hw.rest⟩
  case formatRange =>
    intro m s need e h hf hn hr
    rw [exec_mntSpoolFormat, runCmd_done h (bodyMntSpoolFormat_range hf hn hr) (by decide)]
    rfl
  case formatBusy =>
    intro m s need e h hb
    rw [exec_mntSpoolFormat, runCmd_done h (bodyMntSpoolFormat_busy hb) (by decide)]
    rfl

end Sys2Proof.Machine
end

section
/-! SUPPORT. The spool's links and controllers (O32): training, retries and enumeration of a port, a controller that can
be used and one that cannot, the first eight, and what the members' status reads do (R119 to R124, R138). -/

namespace Sys2Proof.Machine

open Sys2Proof

variable {port n c w : Nat} {found : List NvmeInfo} {i : NvmeInfo} {m : Member} {s : State}

/-! ### The arms -/

theorem exec_spoolPerstRelease : exec .spoolPerstRelease s = execSpoolPerstRelease s := rfl

theorem exec_spoolLinkRetry : exec (.spoolLinkRetry port) s = execSpoolLinkRetry port s := rfl

theorem exec_spoolLinkUp : exec (.spoolLinkUp port found) s = execSpoolLinkUp port found s := rfl

theorem exec_aerError : exec (.aerError port) s = .next (note 0x0508 (portH s port) 0 s) := rfl

theorem exec_spoolWake : exec .spoolWake s = .next (askStatus (note 0x0509 (portH s 0) 0 s)) := rfl

theorem exec_smartPoll : exec (.smartPoll c w) s = execSmartPoll c w s := rfl

/-! ### Ports (R121, R122) -/

theorem execSpoolPerstRelease_ready (hb : s.boot.porst = false) (hp : spoolPowered s = true) :
    exec .spoolPerstRelease s = .next (s.modSpool fun p => { p with perst := false }) := by
  simp [exec_spoolPerstRelease, execSpoolPerstRelease, hb, hp]

theorem execSpoolPerstRelease_early (h : s.boot.porst = true ∨ spoolPowered s = false) :
    exec .spoolPerstRelease s = .next s := by
  have hearly : (s.boot.porst || !spoolPowered s) = true := by simpa using h
  simp [exec_spoolPerstRelease, execSpoolPerstRelease, hearly]

theorem execSpoolLinkUp_leftDown (hk : kvGet (false, 0) s.spool.ports port = (false, n)) (hn : 3 < n) :
    exec (.spoolLinkUp port found) s = .next s := by
  simp [exec_spoolLinkUp, execSpoolLinkUp, hk, hn]

section
variable (hk : kvGet (false, 0) s.spool.ports port = (false, n)) (hn : n ≤ 3) (hr : s.spool.perst = false)
  (hp : port < portCount s)
include hk hn hr hp

theorem execSpoolLinkRetry_down : exec (.spoolLinkRetry port) s = .next
    (if n < 3 then s.modSpool fun p => { p with ports := kvSet p.ports port (false, n + 1) }
    else raise 0x0503 (portH s port) 0 port
      (s.modSpool fun p => { p with ports := kvSet p.ports port (false, n + 1) })) := by
  simp only [exec_spoolLinkRetry, execSpoolLinkRetry, hk, hr, hp.not_ge, hn.not_gt, decide_false, Bool.or_self,
    Bool.false_eq_true, if_false]
  rfl

theorem execSpoolLinkUp_trains (hm : mounted s = false) (hf : s.spool.fmt = 0)
    (hnew : ∀ m ∈ s.spool.members, m.port ≠ port) :
    exec (.spoolLinkUp port found) s = .next (takeEight (found.foldl (fun s i => tryController port i s)
      (s.modSpool fun p => { p with ports := kvSet p.ports port (true, n) }))) := by
  have hidle : (mounted s || s.spool.fmt != 0 || s.spool.members.any fun m => m.port == port) = false := by
    simpa [hm, hf] using hnew
  simp only [exec_spoolLinkUp, execSpoolLinkUp, hk, hr, hp.not_ge, hn.not_gt, decide_false, Bool.or_self,
    Bool.false_eq_true, if_false]
  exact congrArg Host.Outcome.next (if_neg (Bool.eq_false_iff.1 hidle))

end

/-! ### Controllers (R119, R122, R123, R124) -/

theorem nvmeUsable_eq_true (hns : i.nsOk = true) (hq : i.queueOk = true) (hl : i.lba = 512 ∨ i.lba = 4096)
    (hm : i.mdts = 0 ∨ 131072 ≤ i.mdts) : nvmeUsable i = true := by
  simp [nvmeUsable, hns, hq, hl, hm]

theorem nvmeUsable_eq_false (h : i.nsOk = false ∨ i.queueOk = false ∨ (i.lba ≠ 512 ∧ i.lba ≠ 4096) ∨
    (i.mdts ≠ 0 ∧ i.mdts < 131072)) : nvmeUsable i = false := by
  rcases h with h | h | ⟨h₁, h₂⟩ | ⟨h₁, h₂⟩
  · simp [nvmeUsable, h]
  · simp [nvmeUsable, h]
  · simp [nvmeUsable, h₁, h₂]
  · simp [nvmeUsable, h₁, h₂]

/-- The member that a controller becomes. -/
def newMember (port : Nat) (i : NvmeInfo) : Member :=
  { port := port, usable := i.pages - reservedPages, lba := i.lba, entries := min 1024 (i.mqes + 1) }

/-- Commands without data for the controller tried next. -/
def askNext (ops : List NvmeOp) (s : State) : State :=
  s.modOutbox (· ++ ops.map fun op => .nvme s.spool.members.length { op := op, pages := 0 } [])

theorem tryController_usable (h : nvmeUsable i = true) : tryController port i s =
    (askNext [.identifyNs, .identifyCtrl, .createCq, .createSq] s).modSpool
      fun p => { p with members := p.members ++ [newMember port i] } := by
  rw [askNext, ← foldl_send]
  simp only [tryController, h, Bool.not_true, Bool.false_eq_true, if_false]
  rfl

theorem tryController_unusable (h : nvmeUsable i = false) : tryController port i s =
    raise 0x0504 (portH s port) 0 port (askNext [.identifyNs, .identifyCtrl] s) := by
  rw [askNext, ← foldl_send]
  simp only [tryController, h, Bool.not_false, if_true]
  rfl

theorem length_insertBy {α : Type} (le : α → α → Bool) (x : α) (l : List α) :
    (insertBy le x l).length = l.length + 1 := by
  induction l with
  | nil => rfl
  | cons y l ih =>
    simp only [insertBy]
    split
    · rfl
    · simp [ih]

theorem length_sortBy {α : Type} (le : α → α → Bool) (l : List α) : (sortBy l le).length = l.length := by
  induction l with
  | nil => rfl
  | cons x l ih => exact (length_insertBy le x _).trans (congrArg (· + 1) ih)

/-- Up to eight members are all kept. -/
theorem takeEight_all (h : s.spool.members.length ≤ 8) : takeEight s =
    s.modSpool fun p => { p with members := sortBy p.members fun a b => decide (a.port ≤ b.port) } := by
  have hlen : (sortBy s.spool.members fun a b => decide (a.port ≤ b.port)).length ≤ 8 := (length_sortBy ..).trans_le h
  simp only [takeEight, List.drop_eq_nil_of_le hlen, List.take_of_length_le hlen, List.foldl_nil, State.modSpool]

/-! ### The members' status (R121, R122, R138)

Bit 3 of the critical warning as read-only media is log entry 71. -/

theorem askStatus_eq (s : State) : askStatus s = s.modOutbox fun o => o ++
    (List.range s.spool.members.length).map fun c => .nvme c { op := .smart, pages := 0 } [] := foldl_send ..

/-- Member `c` is asked for its SMART log. -/
def smartAsked (c : Nat) (s : State) : State := s.send (.nvme c { op := .smart, pages := 0 } [])

section
variable (hm : s.spool.members[c]? = some m)
include hm

theorem execSmartPoll_readOnly (hr : m.readOnly = false) : exec (.smartPoll c 8) s = .next
    (raise 0x0506 (memberH s c) 0 c (modMember c (fun m => { m with readOnly := true }) (smartAsked c s))) := by
  have hbit : (bitOf 8 3 && !m.readOnly) = true := by rw [hr]; decide
  simp only [exec_smartPoll, execSmartPoll, hm, hbit, if_true]
  rfl

theorem execSmartPoll_warns (hb : w.testBit 3 = false) (hw : w % 8 ≠ 0 ∨ w / 16 ≠ 0) :
    exec (.smartPoll c w) s = .next (note 0x0507 (memberH s c) 0 (smartAsked c s)) := by
  have hbit : (bitOf w 3 && !m.readOnly) = false := by simp [bitOf, hb]
  simp only [exec_smartPoll, execSmartPoll, hm, hbit, Bool.false_eq_true, if_false, if_pos hw]
  rfl

theorem execSmartPoll_clear : exec (.smartPoll c 0) s = .next (smartAsked c s) := by
  simp [exec_smartPoll, execSmartPoll, hm, bitOf, smartAsked]

end

/-- Settles O32: each event by its cases, the controllers by whether R123 admits them. -/
theorem spoolLinksAndControllers : Obligations.SpoolLinksAndControllers := by
  unfold Obligations.SpoolLinksAndControllers
  refine ⟨fun s => execSpoolPerstRelease_ready, fun s => execSpoolPerstRelease_early, ?retry, ?up, ?leftDown, ?usable,
    ?unusable, fun s => takeEight_all, fun s _ => rfl, fun port s => exec_aerError, fun s => exec_spoolWake,
    askStatus_eq, ?readOnly, ?warns, fun c m s => execSmartPoll_clear⟩
  case retry =>
    intro port n s hk hr hp hn t
    exact execSpoolLinkRetry_down hk hn hr hp
  case up =>
    intro port n found s hk hn hr hp hm hf hnew
    exact execSpoolLinkUp_trains hk hn hr hp hm hf hnew
  case leftDown =>
    intro port n found s hk hn
    exact execSpoolLinkUp_leftDown hk hn
  case usable =>
    intro port i s ask hns hq hl hm
    exact ⟨newMember port i, tryController_usable (nvmeUsable_eq_true hns hq hl hm), rfl, rfl, rfl, rfl⟩
  case unusable =>
    intro port i s ask h
    exact tryController_unusable (nvmeUsable_eq_false h)
  case readOnly =>
    intro c m s e hm hr
    exact execSmartPoll_readOnly hm hr
  case warns =>
    intro c w m s e hm hb hw
    exact execSmartPoll_warns hm hb hw

end Sys2Proof.Machine
end

section
/-! SUPPORT. The spool's mount and measures (O33): what SPOOL_MOUNT finds, what a mounted spool starts from, the ends of
the members' measurements, and a directory batch from its Flush to its free map pages (R126 to R128, R131, R132,
R136). -/

namespace Sys2Proof.Machine

open Sys2Proof

variable {c : Nat} {m : Member} {s t : State}

/-! ### The arms -/

theorem exec_spoolMount {l : List (List Byte × List Byte)} : exec (.spoolMount l) s = execSpoolMount l s := rfl

theorem exec_saturatedWindow : exec (.saturatedWindow c) s = execSaturatedWindow c s := rfl

theorem exec_bandwidthProbe {ends : Bool} : exec (.bandwidthProbe ends) s = execBandwidthProbe ends s := rfl

theorem exec_bandwidthMountMeasure : exec .bandwidthMountMeasure s = execBandwidthMountMeasure s := rfl

theorem exec_directoryBatch : exec .directoryBatch s = .next (advanceBatch (beginBatch s)) := rfl

/-! ### Superblock updates (R128) -/

theorem atWork_writeSuper {copy : Nat} {second : Bool}
    (h : t = s.modSpool fun p => { p with sbOut := some (copy, second) }) : AtWork t (writeSuper copy second s) := by
  subst h
  exact .foldl (fun s (x : Nat × Nat) => atWork_enqueue x.1 _ s) _ _

/-- The superblock has changed by `f`, one generation on, and its older copy is being written. -/
def superBegun (f : Superblock → Superblock) (s : State) : State :=
  s.modSpool fun p =>
    let sb := { f p.sb with generation := p.sb.generation + 1 }
    { p with sb := sb, sbWrote := sb, sbOut := some (if p.sbGen.2 < p.sbGen.1 then 1 else 0, false) }

theorem atWork_superUpdate {f : Superblock → Superblock} (h : s.spool.sbOut = none) :
    AtWork (superBegun f s) (superUpdate f s) := by
  simp only [superUpdate, State.modSpool_spool, h, Option.isSome_none, Bool.false_eq_true, if_false]
  exact atWork_writeSuper rfl

/-! ### SPOOL_MOUNT (R126, R127, R128, R132) -/

/-- The superblock copies A and B that have been read, as fields. -/
def copiesRead (l : List (List Byte × List Byte)) : List (SuperCopy × SuperCopy) :=
  l.map fun p => (superOf p.1, superOf p.2)

theorem all_invalid_eq_false {cs : List (SuperCopy × SuperCopy)}
    (h : ∃ p ∈ cs, p.1.valid = true ∨ p.2.valid = true) : (cs.all fun p => !p.1.valid && !p.2.valid) = false := by
  obtain ⟨p, hp, hvalid⟩ := h
  refine List.all_eq_false.2 ⟨p, hp, ?_⟩
  rcases hvalid with h | h <;> simp [h]

section
variable {l : List (List Byte × List Byte)} (hm : mounted s = false) (hl : s.spool.state ≠ .lost)
  (hf : s.spool.fmt = 0) (hn : l.length = s.spool.members.length)
include hm hl hf hn

theorem execSpoolMount_absent (hv : ∀ p ∈ l, (superOf p.1).valid = false ∧ (superOf p.2).valid = false) :
    exec (.spoolMount l) s = .next (s.modSpool fun p => { p with state := .absent }) := by
  have hall : ((l.map fun p => (superOf p.1, superOf p.2)).all fun p => !p.1.valid && !p.2.valid) = true := by
    simpa using hv
  simp [exec_spoolMount, execSpoolMount, hm, hl, hf, hn, hall]

variable (hv : ∃ p ∈ copiesRead l, p.1.valid = true ∨ p.2.valid = true)
include hv

theorem execSpoolMount_mounts {c : SuperCopy} {r : List SuperCopy}
    (hc : mountCopies (copiesRead l) = some (c :: r)) (ho : mountOk s (c :: r) = true) :
    exec (.spoolMount l) s = .next (placeBands (mountSpool c (orderMembers (c :: r) s.spool.members)
      (highGen ((copiesRead l).map (·.1)), highGen ((copiesRead l).map (·.2))) s)) := by
  have hsome := all_invalid_eq_false hv
  rw [copiesRead] at hsome hc ⊢
  simp [exec_spoolMount, execSpoolMount, hm, hl, hf, hn, hsome, hc, ho]

theorem execSpoolMount_foreign (hc : mountCopies (copiesRead l) = none ∨
      ∃ c r, mountCopies (copiesRead l) = some (c :: r) ∧ mountOk s (c :: r) = false) :
    exec (.spoolMount l) s = .next (s.modSpool fun p => { p with state := .foreign }) := by
  have hsome := all_invalid_eq_false hv
  rw [copiesRead] at hsome hc
  rcases hc with hc | ⟨c, r, hc, ho⟩
  · simp [exec_spoolMount, execSpoolMount, hm, hl, hf, hn, hsome, hc]
  · simp [exec_spoolMount, execSpoolMount, hm, hl, hf, hn, hsome, hc, ho]

end

/-- The spool as the copy `c` of its superblock names it: its directory is the stored one, and so are its used runs,
unless MOUNTED is found set. -/
def spoolFound (c : SuperCopy) (ms : List Member) (gens : Nat × Nat) (s : State) : State :=
  s.modSpool fun p =>
    let sb : Superblock :=
      { generation := c.generation, spoolId := c.spoolId, width := c.width, mounted := c.mounted
        ledgerShare := c.ledgerShare, memberPages := c.memberPages, keyCheck := c.keyCheck, bad := c.bad }
    { p with
      state := .mounted, sb := sb, members := ms, sbGen := gens, sbOut := none, sbMore := false, unmounting := false
      dir := p.storedDir, descs := p.stored, batch := 0, cursor := sb.extentStart, mounting := true
      usedRuns := if c.mounted then p.stored.map fun d => (d.first, pagesOf d.data.length) else p.storedRuns }

theorem atWork_mountSpool (c : SuperCopy) (ms : List Member) (gens : Nat × Nat) (s : State) :
    AtWork (superBegun (fun b => { b with mounted := true }) (spoolFound c ms gens s)) (mountSpool c ms gens s) :=
  ((atWork_superUpdate rfl).trans (atWork_beginWindows _)).trans (atWork_benchReads _)

/-! ### Bandwidths (R136) -/

theorem newBandwidth_spool (c bw : Nat) (s : State) :
    (newBandwidth c bw s).spool = (modMember c (fun m => { m with bw := bw }) s).spool := by
  simp [newBandwidth]

section
variable {g : State → Member × Nat → State} {f : Member → Member → Member}
  (hg : ∀ t p d, (g t p).spool.members[d]? = t.spool.members[d]?.map fun x => if d = p.2 then f p.1 x else x)
include hg

theorem foldl_members_before (l : List Member) {k d : Nat} (hd : d < k) (s : State) :
    ((l.zipIdx k).foldl g s).spool.members[d]? = s.spool.members[d]? := by
  induction l generalizing k s with
  | nil => rfl
  | cons a l ih =>
    rw [List.zipIdx_cons, List.foldl_cons, ih (by omega), hg]
    simp [hd.ne]

/-- Changed one after the other, each member is changed once. -/
theorem foldl_members {l : List Member} {i : Nat} (hi : l[i]? = some m) (k : Nat) (s : State) :
    ((l.zipIdx k).foldl g s).spool.members[k + i]? = s.spool.members[k + i]?.map (f m) := by
  induction l generalizing i k s with
  | nil => simp at hi
  | cons a l ih =>
    rw [List.zipIdx_cons, List.foldl_cons]
    cases i with
    | zero =>
      obtain rfl : a = m := by simpa using hi
      rw [foldl_members_before hg l (by omega), hg]
      simp
    | succ i =>
      have hnext := ih (i := i) (by simpa using hi) (k + 1) (g s (a, k))
      rw [show k + (i + 1) = k + 1 + i by omega, hnext, hg]
      simp [show k + 1 + i ≠ k by omega]

end

theorem atWork_endBench (s : State) :
    AtWork (s.modSpool fun p => { p with mounting := false, probing := false }) (endBench s) := atWork_dropCmds _ _

/-- The members' bench reads have ended and a window begins. -/
def benchEnded (s : State) : State := beginWindows (endBench s)

theorem atWork_benchEnded (s : State) :
    AtWork (s.modSpool fun p => { p with mounting := false, probing := false }) (benchEnded s) :=
  (atWork_endBench s).trans (atWork_beginWindows _)

/-! ### BANDWIDTH_MOUNT_MEASURE (R136) -/

/-- A member's rate over the 2 s of the mount is its bandwidth. -/
def measureMember (s : State) (p : Member × Nat) : State :=
  newBandwidth p.2 (rateOver p.1 2000)
    (modMember p.2 (fun m => { m with mountBw := rateOver p.1 2000, windows := [] }) s)

/-- What the measured rate of `m` makes of the member as it stands. -/
def remeasured (m x : Member) : Member := { x with mountBw := rateOver m 2000, windows := [], bw := rateOver m 2000 }

theorem measureMember_getElem? (t : State) (p : Member × Nat) (d : Nat) : (measureMember t p).spool.members[d]? =
    t.spool.members[d]?.map fun x => if d = p.2 then remeasured p.1 x else x := by
  rw [measureMember, newBandwidth_spool, modMember_getElem?, modMember_getElem?, Option.map_map]
  congr 1
  funext x
  simp only [Function.comp]
  split_ifs <;> rfl

/-- Every member is measured. -/
def membersMeasured (s : State) : State := s.spool.members.zipIdx.foldl measureMember (endBench s)

theorem membersMeasured_mounting (s : State) : (membersMeasured s).spool.mounting = false :=
  List.foldlRecOn (motive := fun t => t.spool.mounting = false) _ measureMember rfl fun t ht p _ => by
    rw [measureMember, newBandwidth_spool]; exact ht

theorem membersMeasured_member (hm : s.spool.members[c]? = some m) :
    ∃ x, (membersMeasured s).spool.members[c]? = some x ∧ x.bw = rateOver m 2000 ∧ x.mountBw = rateOver m 2000 := by
  obtain ⟨y, hy, -⟩ := member_of_standings (atWork_endBench s).standings hm
  have hfold := foldl_members measureMember_getElem? hm 0 (endBench s)
  rw [Nat.zero_add, hy] at hfold
  exact ⟨_, hfold, rfl, rfl⟩

/-! The scrub goes on after it. -/

theorem atWork_scrubRead (u : Scrub) (s : State) :
    AtWork (s.modSpool fun p => { p with scrub := some u }) (scrubRead u s) := by
  refine .foldl (fun t c => ?_) _ _
  dsimp only
  split
  · exact .refl t
  · exact atWork_enqueue ..

theorem scrubNext_keeps (s : State) :
    (scrubNext s).spool.mounting = s.spool.mounting ∧ standings (scrubNext s) = standings s := by
  simp only [scrubNext]
  split
  · exact ⟨rfl, rfl⟩
  · split
    · rename_i u _
      have hw := atWork_scrubRead u s
      exact ⟨by rw [hw.spool]; rfl, hw.standings⟩
    · exact ⟨rfl, rfl⟩

theorem execBandwidthMountMeasure_ends (h : s.spool.mounting = true) :
    exec .bandwidthMountMeasure s = .next (scrubNext (beginWindows (membersMeasured s))) := by
  simp only [exec_bandwidthMountMeasure, execBandwidthMountMeasure, h, Bool.not_true, Bool.false_eq_true, if_false]
  rfl

/-! ### SATURATED_WINDOW (R136) -/

/-- A window of member `c` has ended, `w` the rates it keeps, and the next begins. -/
def windowEnded (c : Nat) (w : List Nat) (s : State) : State :=
  modMember c (fun x => { x with
    windows := w, readBytes := 0, sat := decide (16 ≤ (x.out.filter fun q => opReads q.op).length) }) s

section
variable (hm : s.spool.members[c]? = some m)
include hm

theorem execSaturatedWindow_unsaturated (hs : m.sat = false) :
    exec (.saturatedWindow c) s = .next (windowEnded c m.windows s) := by
  simp [exec_saturatedWindow, execSaturatedWindow, windowEnded, hm, hs]

variable (hs : m.sat = true)
include hs

theorem execSaturatedWindow_saturated {w : List Nat} (hw : (m.readBytes / 100000 :: m.windows).take 3 = w) :
    exec (.saturatedWindow c) s = .next
      (if w.length = 3 ∧ 100 * w.sum ≤ 98 * 3 * m.bw ∧ s.spool.mounting = false then
        newBandwidth c (w.sum / 3) (windowEnded c w s) else windowEnded c w s) := by
  have hkept : (rateOver m 100 :: m.windows).take 3 = w := hw
  simp only [exec_saturatedWindow, execSaturatedWindow, hm, hs, if_true, hkept, Bool.true_and, Bool.and_eq_true,
    beq_iff_eq, decide_eq_true_eq, Bool.not_eq_true', and_assoc]
  rfl

theorem execSaturatedWindow_lowers {a b : Nat} (hw : m.windows.take 2 = [a, b])
    (hlow : 100 * (m.readBytes / 100000 + a + b) ≤ 98 * 3 * m.bw) (ht : s.spool.mounting = false) :
    exec (.saturatedWindow c) s = .next (newBandwidth c ((m.readBytes / 100000 + a + b) / 3)
      (windowEnded c [m.readBytes / 100000, a, b] s)) := by
  have hkept : (m.readBytes / 100000 :: m.windows).take 3 = [m.readBytes / 100000, a, b] := by
    rw [List.take_succ_cons, hw]
  have hsum : [m.readBytes / 100000, a, b].sum = m.readBytes / 100000 + a + b := by simp [Nat.add_assoc]
  rw [execSaturatedWindow_saturated hm hs hkept, hsum, if_pos ⟨rfl, hlow, ht⟩]

theorem execSaturatedWindow_keeps (h : ((m.readBytes / 100000 :: m.windows).take 3).length ≠ 3 ∨
      98 * 3 * m.bw < 100 * ((m.readBytes / 100000 :: m.windows).take 3).sum ∨ s.spool.mounting = true) :
    exec (.saturatedWindow c) s =
      .next (windowEnded c ((m.readBytes / 100000 :: m.windows).take 3) s) := by
  rw [execSaturatedWindow_saturated hm hs rfl, if_neg]
  rintro ⟨hlen, hlow, ht⟩
  rcases h with h | h | h
  · exact h hlen
  · exact h.not_ge hlow
  · exact Bool.false_ne_true (ht.symm.trans h)

end

/-! ### BANDWIDTH_PROBE (R136) -/

theorem execBandwidthProbe_begins (hs : mounted s = true) (ht : s.spool.mounting = false)
    (hp : s.spool.probing = false) (hm : m ∈ s.spool.members) (hb : m.bw < m.mountBw) :
    exec (.bandwidthProbe false) s =
      .next (benchReads (beginWindows (s.modSpool fun p => { p with probing := true }))) := by
  have hbelow : (s.spool.members.any fun m => decide (m.bw < m.mountBw)) = true :=
    List.any_eq_true.2 ⟨m, hm, decide_eq_true hb⟩
  simp [exec_bandwidthProbe, execBandwidthProbe, hs, ht, hp, hbelow]

/-- What the probe's rate of `m` makes of the member as it stands. -/
def reprobed (m x : Member) : Member :=
  if m.bw < m.mountBw ∧ 102 * m.bw ≤ 100 * rateOver m 250 then { x with bw := min (rateOver m 250) m.mountBw } else x

/-- A member that the probe found above its measurement is raised. -/
def raiseProbed (s : State) (p : Member × Nat) : State :=
  if p.1.bw < p.1.mountBw ∧ 102 * p.1.bw ≤ 100 * rateOver p.1 250 then
    newBandwidth p.2 (min (rateOver p.1 250) p.1.mountBw) s
  else s

theorem raiseProbed_getElem? (t : State) (p : Member × Nat) (d : Nat) : (raiseProbed t p).spool.members[d]? =
    t.spool.members[d]?.map fun x => if d = p.2 then reprobed p.1 x else x := by
  unfold raiseProbed reprobed
  split
  · rw [newBandwidth_spool, modMember_getElem?]
  · simp

/-- Every member is judged by its rate in the probe. -/
def probeEnded (s : State) : State := s.spool.members.zipIdx.foldl raiseProbed (benchEnded s)

theorem probeEnded_probing (s : State) : (probeEnded s).spool.probing = false := by
  refine List.foldlRecOn (motive := fun t => t.spool.probing = false) _ raiseProbed ?_ fun t ht p _ => ?_
  · rw [(atWork_benchEnded s).spool]; rfl
  · simp only [raiseProbed]
    split
    · rw [newBandwidth_spool]; exact ht
    · exact ht

theorem probeEnded_member (hm : s.spool.members[c]? = some m) : ∃ x, (probeEnded s).spool.members[c]? = some x ∧
    x.mountBw = m.mountBw ∧ x.bw = if m.bw < m.mountBw ∧ 102 * m.bw ≤ 100 * (m.readBytes / 250000) then
      min (m.readBytes / 250000) m.mountBw else m.bw := by
  obtain ⟨y, hy, hstand⟩ := member_of_standings (atWork_benchEnded s).standings hm
  have hmount : y.mountBw = m.mountBw := mountBw_of_standing hstand
  have hrate : rateOver m 250 = m.readBytes / 250000 := rfl
  have hfold := foldl_members raiseProbed_getElem? hm 0 (benchEnded s)
  rw [Nat.zero_add, hy] at hfold
  refine ⟨_, hfold, ?_⟩
  simp only [reprobed, hrate]
  split_ifs
  · exact ⟨hmount, rfl⟩
  · exact ⟨hmount, bw_of_standing hstand⟩

theorem execBandwidthProbe_ends (h : s.spool.probing = true) :
    exec (.bandwidthProbe true) s = .next (probeEnded s) := by
  simp only [exec_bandwidthProbe, execBandwidthProbe, h, Bool.not_true, Bool.false_eq_true, if_false]
  rfl

/-! ### Directory batches (R131, R132) -/

theorem beginBatch_changed (hm : mounted s = true) (hb : s.spool.batch = 0)
    (hd : s.spool.dir ≠ s.spool.storedDir ∨ presentDescs s ≠ s.spool.stored ∨ s.spool.usedRuns ≠ s.spool.storedRuns) :
    beginBatch s = onEvery { op := .flush, pages := 0 } (s.modSpool fun p => { p with batch := 1 }) := by
  have hdirty : (s.spool.dir == s.spool.storedDir && presentDescs s == s.spool.stored &&
      s.spool.usedRuns == s.spool.storedRuns) = false := by
    rcases hd with h | h | h <;> simp [h]
  simp [beginBatch, hm, hb, hdirty]

theorem beginBatch_unchanged (hd : s.spool.dir = s.spool.storedDir) (hp : presentDescs s = s.spool.stored)
    (hr : s.spool.usedRuns = s.spool.storedRuns) : beginBatch s = s := by
  simp [beginBatch, hd, hp, hr]

theorem advanceBatch_none (h : s.spool.batch = 0) : advanceBatch s = s := by
  simp [advanceBatch, batchDirWrites, batchMapWrites, batchEnds, h]

/-- What the batch stores is fixed. -/
def batchFixed (s : State) : State :=
  s.modSpool fun p => { p with
    batch := 2, batchDir := p.dir, batchDescs := p.descs.filter (·.present), batchRuns := p.usedRuns }

theorem atWork_batchDirWrites (hb : s.spool.batch = 1) (hp : pendingOp s .flush = false) :
    AtWork (batchFixed s) (batchDirWrites s) := by
  simp only [batchDirWrites, hb, hp, ne_eq, not_true_eq_false, Bool.false_eq_true, or_self, if_false]
  exact .foldl (fun s g => atWork_writePage ..) _ _

/-- The directory that the batch wrote counts as stored, the whole batch at once (log entry 186). -/
def batchStored (s : State) : State :=
  s.modSpool fun p => { p with batch := 3, storedDir := p.batchDir, stored := p.batchDescs }

theorem atWork_batchMapWrites (hb : s.spool.batch = 2) (hp : pendingOp s .dirWrite = false) :
    AtWork (batchStored s) (batchMapWrites s) := by
  simp only [batchMapWrites, hb, hp, ne_eq, not_true_eq_false, Bool.false_eq_true, or_self, if_false]
  exact .foldl (fun s g => atWork_writePage ..) _ _

/-- Settles O33: each event by its cases, what it leaves by what the members' work leaves alone (`AtWork`). -/
theorem spoolMountsAndMeasures : Obligations.SpoolMountsAndMeasures := by
  unfold Obligations.SpoolMountsAndMeasures
  refine ⟨fun l s => execSpoolMount_absent, ?mounts, ?mount, ?foreign, ?measure, ?lowers, ?keeps, ?unsaturated,
    ?probeBegins, ?probeEnds, ?batch, ?noBatch, ?dirWrites, ?mapWrites⟩
  case mounts =>
    intro l c r s cs hm hl hf hn hv hc ho
    exact execSpoolMount_mounts hm hl hf hn hv hc ho
  case mount =>
    intro c ms g s t
    have hw : AtWork _ t := atWork_mountSpool c ms g s
    have hlen : t.spool.members.length = ms.length := hw.length
    rw [hw.spool]
    exact ⟨rfl, rfl, rfl, rfl, rfl, hlen, rfl, rfl, rfl, rfl, hw.rest⟩
  case foreign =>
    intro l s cs hm hl hf hn hv hc
    exact execSpoolMount_foreign hm hl hf hn hv hc
  case measure =>
    intro s h
    obtain ⟨hmounting, hstand⟩ := scrubNext_keeps (beginWindows (membersMeasured s))
    refine ⟨_, execBandwidthMountMeasure_ends h, hmounting.trans (membersMeasured_mounting s), fun c m hm => ?_⟩
    obtain ⟨x, hx, hbw, hmount⟩ := membersMeasured_member hm
    obtain ⟨y, hy, hyx⟩ := member_of_standings (hstand.trans (atWork_beginWindows _).standings) hx
    exact ⟨y, hy, (bw_of_standing hyx).trans hbw, (mountBw_of_standing hyx).trans hmount⟩
  case lowers =>
    intro c a b m s r hm hs hw hlow ht
    exact execSaturatedWindow_lowers hm hs hw hlow ht
  case keeps =>
    intro c m s w hm hs h
    exact execSaturatedWindow_keeps hm hs h
  case unsaturated =>
    intro c m s hm hs
    exact execSaturatedWindow_unsaturated hm hs
  case probeBegins =>
    intro m s hs ht hp hm hb
    exact execBandwidthProbe_begins hs ht hp hm hb
  case probeEnds =>
    intro s h
    exact ⟨probeEnded s, execBandwidthProbe_ends h, probeEnded_probing s, fun c m => probeEnded_member⟩
  case batch =>
    intro s hm hb hd
    rw [exec_directoryBatch, beginBatch_changed hm hb hd]
  case noBatch =>
    intro s hb hd hp hr
    rw [exec_directoryBatch, beginBatch_unchanged hd hp hr, advanceBatch_none hb]
  case dirWrites =>
    intro s hb hp t
    have hw : AtWork (batchFixed s) t := atWork_batchDirWrites hb hp
    rw [hw.spool]
    exact ⟨rfl, rfl, rfl, rfl, hw.rest⟩
  case mapWrites =>
    intro s hb hp t
    have hw : AtWork (batchStored s) t := atWork_batchMapWrites hb hp
    rw [hw.spool]
    exact ⟨rfl, rfl, rfl, hw.rest⟩

end Sys2Proof.Machine
end

section
/-! SUPPORT. Sweep timestamps, facet phase and the synthesiser (O41): a timestamp in each of its cases, what a dropped
sweep leaves, lock and its loss, that the words of a reference cycle move nothing but the lanes and the place in the
sweep, and the band tables (R141, R145 to R150, R153 to R159). -/

namespace Sys2Proof.Machine

open Sys2Proof

variable {s t u : State} {n l k tc : Nat}

/-! ### The arms -/

theorem exec_sosTs (l k tc : Nat) (v : Bool) (s : State) : exec (.sosTs l k tc v) s = execSosTs l k tc v s := rfl

theorem exec_facetPhaseFault : exec (.facetPhaseFault n) s = execFacetPhaseFault n s := rfl

theorem exec_synthLock : exec (.synthLock n) s =
    .next (if (s.st n).scan.lock || !s.cfg.cur.hasStation n then s else locked n s) := rfl

theorem exec_synthLossOfLock : exec (.synthLossOfLock n) s =
    .next (if (s.st n).scan.lock then loseLock n s else s) := rfl

theorem exec_synthReferenceCycle (n : Nat) (d : Rat) (s : State) :
    exec (.synthReferenceCycle n d) s = execSynthReferenceCycle n d s := rfl

theorem exec_bandSwitch : exec (.bandSwitch n) s = execBandSwitch n s := rfl

theorem exec_bandTableCalibrationComplete (n : Nat) (table : List (Nat × Nat)) (s : State) :
    exec (.bandTableCalibrationComplete n table) s = execBandTableCalibrationComplete n table s := rfl

theorem exec_bandTableTrack : exec (.bandTableTrack n) s = execBandTableTrack n s := rfl

/-! ### Scan timing -/

/-- A change of the scan timing is a matter of what it makes of the timing that stands. -/
theorem modScan_congr {f g : Rise → Rise} (h : f (s.st n).scan = g (s.st n).scan) : modScan n f s = modScan n g s :=
  congrArg (fun x => s.modStations fun t => kvSet t n { s.st n with scan := x }) h

theorem openOn_modScan (f : Rise → Rise) (h : Handle) (code : Nat) (s : State) :
    openOn (modScan n f s) h code = openOn s h code := rfl

/-- The lane of a station is a matter of the route tables. -/
theorem stationLane_congr (h : t.cfg = s.cfg) (n : Nat) : stationLane t n = stationLane s n := by
  simp only [stationLane, h]

/-! ### Timestamps (R156, R157) -/

/-- What a timestamp says the sweep was off by. -/
def residual (s : State) (n tc : Nat) : Rat :=
  ((tc : Int) - (kvGet ({} : CalSt) s.cal.inst n).sosOff - ((s.st n).scan.phase : Int) : Int)

/-- A valid timestamp has come: the facet's entry is adjusted, the residual kept. -/
def stamped (n tc : Nat) (s : State) : State :=
  modScan n (fun x => { x with
    tsSeen := true, facets := kvMod 0 x.facets x.facet (· + residual s n tc / 16)
    resids := (residual s n tc :: x.resids).take (s.cfgGet 0x01 n 14 1) }) s

/-- The good timestamps in a row with one more, which is good within one pixel period. -/
def goodStamps (s : State) (n tc : Nat) : Nat := if absRat (residual s n tc) ≤ 64 then (s.st n).scan.goodSos + 1 else 0

/-- A valid timestamp has come that is not bad. -/
def stampCounted (n tc : Nat) (s : State) : State :=
  modScan n (fun x => { x with badSos := 0, goodSos := goodStamps s n tc }) (stamped n tc s)

/-- SOS_OK is won, as the self-test of SOS_LOST where its record is open. -/
def sosWon (n l : Nat) (s : State) : State :=
  let t := modScan n (fun x => { x with sosOk := true, reacq := x.reacq && x.acquiring }) s
  if openOn t (laneHandle l) 0x0802 then testEnded true (laneHandle l) 0 t else t

section
variable (hl : laneStation s l = some n)
include hl

theorem execSosTs_invalid (k : Nat) : exec (.sosTs l k tc false) s = .next s := by
  simp [exec_sosTs, execSosTs, hl]

theorem execSosTs_foreign {v : Bool} (hk : k ≠ (s.st n).scan.sweeps % 65536) : exec (.sosTs l k tc v) s = .next s := by
  simp [exec_sosTs, execSosTs, hl, hk]

variable (ht : (s.st n).scan.tsSeen = false)
include ht

/-- The first valid timestamp of a sweep is judged by its residual, and by the good ones in a row. -/
theorem execSosTs_judges : exec (.sosTs l ((s.st n).scan.sweeps % 65536) tc true) s = .next
    (if 4 * 64 < absRat (residual s n tc) then badTimestamp n (stamped n tc s)
      else if !(s.st n).scan.sosOk && decide (64 ≤ goodStamps s n tc) then
        stationUp n (sosWon n l (stampCounted n tc s))
      else stampCounted n tc s) := by
  simp only [exec_sosTs, execSosTs, hl, ht, Bool.false_eq_true, ne_eq, not_true_eq_false, or_self, if_false,
    Bool.not_true]
  rfl

theorem execSosTs_bad (h : 4 * 64 < absRat (residual s n tc)) :
    exec (.sosTs l ((s.st n).scan.sweeps % 65536) tc true) s = .next (badTimestamp n (stamped n tc s)) := by
  rw [execSosTs_judges hl ht, if_pos h]

variable (h : absRat (residual s n tc) ≤ 4 * 64)
include h

theorem execSosTs_counts (hg : (s.st n).scan.sosOk = true ∨ goodStamps s n tc < 64) :
    exec (.sosTs l ((s.st n).scan.sweeps % 65536) tc true) s = .next (stampCounted n tc s) := by
  rw [execSosTs_judges hl ht, if_neg (not_lt.2 h), if_neg]
  rcases hg with hg | hg <;> simp [hg]

/-- The 64th good one in a row wins SOS_OK. -/
theorem execSosTs_wins (hs : (s.st n).scan.sosOk = false) (hg : 64 ≤ goodStamps s n tc) :
    exec (.sosTs l ((s.st n).scan.sweeps % 65536) tc true) s =
      .next (stationUp n (sosWon n l (stampCounted n tc s))) := by
  rw [execSosTs_judges hl ht, if_neg (not_lt.2 h), if_pos (by simp [hs, hg])]

end

/-- Without a self-test of SOS_LOST only the scan timing changes. -/
theorem sosWon_untested (ho : openOn s (laneHandle l) 0x0802 = false) :
    sosWon n l s = modScan n (fun x => { x with sosOk := true, reacq := x.reacq && x.acquiring }) s :=
  if_neg (by rw [openOn_modScan, ho]; exact Bool.false_ne_true)

theorem goodStamps_near (h : absRat (residual s n tc) ≤ 64) : goodStamps s n tc = (s.st n).scan.goodSos + 1 := if_pos h

theorem goodStamps_off (h : 64 < absRat (residual s n tc)) : goodStamps s n tc = 0 := if_neg (not_le.2 h)

/-- A timestamp within one pixel period counts as good. -/
theorem stampCounted_near (h : absRat (residual s n tc) ≤ 64) : stampCounted n tc s =
    modScan n (fun x => { x with badSos := 0, goodSos := x.goodSos + 1 }) (stamped n tc s) := by
  rw [stampCounted, goodStamps_near h]
  refine modScan_congr ?_
  rw [stamped, scan_modScan]

/-- One beyond it begins the count anew. -/
theorem stampCounted_off (h : 64 < absRat (residual s n tc)) : stampCounted n tc s =
    modScan n (fun x => { x with badSos := 0, goodSos := 0 }) (stamped n tc s) := by
  rw [stampCounted, goodStamps_off h]

/-- A sweep more without a good timestamp. -/
def badCounted (n : Nat) (s : State) : State :=
  modScan n (fun x => { x with badSos := x.badSos + 1, goodSos := 0 }) s

theorem badTimestamp_few (h : (s.st n).scan.badSos < 3) : badTimestamp n s = badCounted n s := by
  have hfew : ¬ 4 ≤ (s.st n).scan.badSos + 1 := by omega
  simp [badTimestamp, badCounted, hfew]

theorem badTimestamp_fourth (ho : (s.st n).scan.sosOk = true) (h : 3 ≤ (s.st n).scan.badSos) :
    badTimestamp n s = loseSos n (badCounted n s) := by
  simp [badTimestamp, badCounted, ho, h]

/-! ### A dropped sweep (R147, R157, R159) -/

/-- The layer in exposure fails in the landing machine alone. -/
theorem failExposure_rest (n : Nat) (s : State) : failExposure n s = { s with land := (failExposure n s).land } :=
  List.foldlRecOn (motive := fun t : State => t = { s with land := t.land }) _ _ rfl fun t ht p _ => by
    rw [ht]; rfl

/-- The sweep's halves of station `n` are blank. -/
def blanked (n : Nat) (s : State) : State :=
  modSt n (fun x => { x with xHalf := { x.xHalf with cells := [] }, pHalf := { x.pHalf with cells := [] } }) s

theorem dropSweep_rest (n : Nat) (s : State) : dropSweep n s = { blanked n s with land := (dropSweep n s).land } :=
  failExposure_rest n (blanked n s)

@[simp] theorem dropSweep_cfg (n : Nat) (s : State) : (dropSweep n s).cfg = s.cfg := by rw [dropSweep_rest]; rfl

@[simp] theorem dropSweep_faults (n : Nat) (s : State) : (dropSweep n s).faults = s.faults := by
  rw [dropSweep_rest]; rfl

@[simp] theorem dropSweep_scan (n : Nat) (s : State) : ((dropSweep n s).st n).scan = (s.st n).scan := by
  have hst : (dropSweep n s).st n = (blanked n s).st n := by rw [dropSweep_rest]; rfl
  rw [hst, blanked, st_modSt_self]

/-! ### The facet phase (R159) -/

/-- The sweep of station `n` is dropped, and SOS and facet phase are acquired anew. -/
def reacquired (n : Nat) (s : State) : State :=
  modScan n (fun x => { x with reacq := true }) (dropSweep n (acquire n s))

theorem execFacetPhaseFault_within (h : (s.st n).scan.overLim = false) : exec (.facetPhaseFault n) s = .next s := by
  simp [exec_facetPhaseFault, execFacetPhaseFault, h]

theorem execFacetPhaseFault_over (h : (s.st n).scan.overLim = true) (hs : s.cfg.cur.hasStation n = true) :
    exec (.facetPhaseFault n) s =
      .next (raise 0x0803 (polygonH (reacquired n s) n) 0 n (reacquired n s)) := by
  simp [exec_facetPhaseFault, execFacetPhaseFault, reacquired, h, hs]

theorem reacquired_scan (n : Nat) (s : State) : ((reacquired n s).st n).scan = { (s.st n).scan with
    acquiring := true, sosOk := false, facetLock := false, goodSos := 0, goodFacet := 0, badSos := 0, tsSeen := true
    reacq := true } := by
  rw [reacquired, scan_modScan, dropSweep_scan, acquire, scan_modScan]

theorem reacquired_cfg (n : Nat) (s : State) : (reacquired n s).cfg = s.cfg := dropSweep_cfg n _

theorem reacquired_faults (n : Nat) (s : State) : (reacquired n s).faults = s.faults := dropSweep_faults n _

/-! ### Lock (R146, R147) -/

/-- LOCK of station `n` is set. -/
def lockSet (n : Nat) (s : State) : State :=
  modScan n (fun x => { x with lock := true, outWin := 0, frozen := false }) s

theorem execSynthLock_again (h : (s.st n).scan.lock = true) : exec (.synthLock n) s = .next s := by
  simp [exec_synthLock, h]

section
variable (hs : s.cfg.cur.hasStation n = true) (h : (s.st n).scan.lock = false)
include hs h

theorem execSynthLock_locks : exec (.synthLock n) s = .next (locked n s) := by
  simp [exec_synthLock, hs, h]

variable (hl : stationLane s n = some l)
include hl

/-- What follows LOCK is the retrain of a self-test, unless the lane trains already. -/
theorem execSynthLock_lane : exec (.synthLock n) s = .next
    (if (s.st n).scan.testing && !(s.lane l).training then startTraining l false (lockSet n s) else lockSet n s) := by
  have hlane : stationLane (lockSet n s) n = some l := hl
  have htest : ((lockSet n s).st n).scan.testing = (s.st n).scan.testing := by rw [lockSet, scan_modScan]
  rw [execSynthLock_locks hs h, locked, ← lockSet, hlane]
  simp only [htest]
  rfl

theorem execSynthLock_sets (ht : (s.st n).scan.testing = false) :
    exec (.synthLock n) s = .next (lockSet n s) := by
  simp [execSynthLock_lane hs h hl, ht]

theorem execSynthLock_retrains (ht : (s.st n).scan.testing = true) (hr : (s.lane l).training = false) :
    exec (.synthLock n) s = .next (startTraining l false (lockSet n s)) := by
  simp [execSynthLock_lane hs h hl, ht, hr]

end

theorem execSynthLossOfLock_unlocked (h : (s.st n).scan.lock = false) : exec (.synthLossOfLock n) s = .next s := by
  simp [exec_synthLossOfLock, h]

/-- LOCK of station `n` is lost, and the loss counted. -/
def lossCounted (n : Nat) (s : State) : State :=
  modScan n (fun x => { x with
    lock := false, inWin := 0, lossCount := if x.lossCount = 0xFFFF#16 then x.lossCount else x.lossCount + 1#16 }) s

/-- A swept lane carries IDLE words. -/
def idled (l : Nat) (s : State) : State :=
  modLane l (fun x => { x with mode := match x.mode with | .swept => .idle | m => m }) s

/-- The sweep of station `n` is dropped with its lock; lane `l` carries IDLE words at the frozen code. -/
def lockLost (n l : Nat) (s : State) : State :=
  idled l (dropSweep n (modScan n (fun x => { x with testing := true, frozen := true }) (lossCounted n s)))

theorem loseLock_lane (hl : stationLane s n = some l) (hr : (s.lane l).training = false) :
    loseLock n s = raise 0x0801 (laneHandle l) 0 n (lockLost n l s) := by
  have hlane : stationLane (dropSweep n (modScan n (fun x => { x with testing := true, frozen := true })
      (lossCounted n s))) n = some l := (stationLane_congr (dropSweep_cfg n _) n).trans hl
  rw [lossCounted] at hlane
  simp only [loseLock, hl, hr, hlane, Bool.false_eq_true, if_false]
  rfl

theorem execSynthLossOfLock_lane (h : (s.st n).scan.lock = true) (hl : stationLane s n = some l)
    (hr : (s.lane l).training = false) :
    exec (.synthLossOfLock n) s = .next (raise 0x0801 (laneHandle l) 0 n (lockLost n l s)) := by
  rw [exec_synthLossOfLock, if_pos h, loseLock_lane hl hr]

theorem lockLost_scan (n l : Nat) (s : State) : ((lockLost n l s).st n).scan = { (s.st n).scan with
    lock := false, inWin := 0, testing := true, frozen := true
    lossCount := if (s.st n).scan.lossCount = 0xFFFF#16 then (s.st n).scan.lossCount
      else (s.st n).scan.lossCount + 1#16 } := by
  rw [lockLost, idled, modLane_st, dropSweep_scan, scan_modScan, lossCounted, scan_modScan]

theorem lockLost_mode (n l : Nat) (s : State) : ((lockLost n l s).lane l).mode ≠ .swept := by
  rw [lockLost, idled, lane_modLane_self]
  dsimp only
  split <;> simp_all

theorem lockLost_faults (n l : Nat) (s : State) : (lockLost n l s).faults = s.faults := dropSweep_faults n _

/-! ### The words of a reference cycle (R141, R169) -/

/-- Scan timing beside the place in the sweep: the words sent and the header in the tail. -/
def Rise.timing (x : Rise) : Rise := { x with word := 0, hdr := none }

/-- From `s` to `t` only words have been sent: the lanes, what is sent and station `n`'s place in the sweep may have
changed. -/
structure Worded (n : Nat) (s t : State) : Prop where
  rest : t = { s with stations := t.stations, lanes := t.lanes, outbox := t.outbox }
  others : ∀ k, k ≠ n → t.st k = s.st k
  timing : (t.st n).scan.timing = (s.st n).scan.timing

theorem Worded.refl (n : Nat) (s : State) : Worded n s s := ⟨rfl, fun _ _ => rfl, rfl⟩

theorem Worded.trans (a : Worded n s t) (b : Worded n t u) : Worded n s u :=
  ⟨by rw [b.rest, a.rest], fun k hk => (b.others k hk).trans (a.others k hk), b.timing.trans a.timing⟩

theorem Worded.foldl {α : Type} {f : State → α → State} (h : ∀ s a, Worded n s (f s a)) (as : List α) (s : State) :
    Worded n s (as.foldl f s) := List.foldlRecOn as f (.refl n s) fun t ht a _ => ht.trans (h t a)

theorem worded_modLane (n l : Nat) (f : Lane → Lane) (s : State) : Worded n s (modLane l f s) :=
  ⟨rfl, fun _ _ => rfl, rfl⟩

theorem worded_modScan {f : Rise → Rise} (h : ∀ x, (f x).timing = x.timing) (n : Nat) (s : State) :
    Worded n s (modScan n f s) :=
  ⟨rfl, fun _ hk => st_modSt_ne s _ hk, by rw [scan_modScan, h]⟩

theorem worded_emitWord (n l : Nat) (w : FwdWord) (s : State) : Worded n s (emitWord l w s) :=
  ⟨rfl, fun _ _ => rfl, rfl⟩

theorem worded_sideWord (n l : Nat) (w : WordType) (data : Nat) (s : State) : Worded n s (sideWord l w data s) :=
  (worded_modLane n l _ s).trans (worded_emitWord n l _ _)

theorem worded_berData (n l : Nat) (s : State) : Worded n s (berData l s).2 := by
  unfold berData
  split
  · exact worded_modLane n l _ s
  · exact .refl n s

/-- The header is made as the first word of its copies is sent. -/
theorem worded_header (n i : Nat) (s : State) :
    Worded n s (if i = 16 then modScan n (fun x => { x with hdr := some (makeHdr s n) }) s else s) := by
  split
  · exact worded_modScan (by intro x; rfl) n s
  · exact .refl n s

theorem worded_sweptWord (n l i : Nat) (s : State) : Worded n s (sweptWord n l i s) := by
  unfold sweptWord
  extract_lets x lead pix j ret
  have hret : ∀ role index data t, Worded n t (ret role index data t) := fun _ _ _ t => worded_emitWord n l _ t
  split_ifs
  · exact hret ..
  · exact hret ..
  · exact worded_sideWord n l _ _ s
  · exact (worded_berData n l s).trans (worded_sideWord n l _ _ _)
  · exact hret ..
  · exact (worded_header n j s).trans (hret ..)
  · exact (worded_header n j s).trans (hret ..)
  · exact (worded_berData n l s).trans (hret ..)

theorem worded_laneWord (n l : Nat) (s : State) : Worded n s (laneWord n l s) := by
  unfold laneWord
  extract_lets x
  split
  case h_1 => exact .refl n s
  case h_2 => exact worded_sideWord n l _ _ s
  case h_3 =>
    split
    · exact worded_sideWord n l _ _ s
    · exact (worded_modLane n l _ s).trans (worded_emitWord n l _ _)
  case h_4 => exact worded_sweptWord n l _ s
  case h_5 =>
    split
    · exact worded_sweptWord n l _ s
    · exact (worded_berData n l s).trans (worded_sideWord n l _ _ _)

theorem worded_pixelPeriod (n : Nat) (s : State) : Worded n s (pixelPeriod n s) := by
  rw [pixelPeriod]
  exact (Worded.foldl (fun t l => worded_laneWord n l t) _ s).trans (worded_modScan (by intro x; rfl) n _)

/-! ### The loop's step (R145, R147) -/

section
variable (f wp wi lwin d : Rat) (x : Rise)

/-- What the loop counts, whether or not the fine code is frozen. -/
theorem loopStep_counts :
    let y := loopStep f wp wi lwin d x
    y.acc = x.acc + f * (1 / 100000000) ∧ y.phi = min 1 (x.phi + x.sPred * (1 / 100000000)) ∧ y.dco = d ∧
      y.lock = x.lock := by
  intro y
  rw [min_def_lt]
  cases hf : x.frozen <;> simp [y, loopStep, hf]

theorem loopStep_fine (h : x.frozen = true) : (loopStep f wp wi lwin d x).fine = x.fine := by
  simp [loopStep, h]

theorem loopStep_outWin_le : (loopStep f wp wi lwin d x).outWin ≤ x.outWin + 1 := by
  unfold loopStep
  dsimp only
  split
  · exact Nat.le_succ _
  · exact (ite_le_sup _ _ _).trans (sup_le (Nat.zero_le _) le_rfl)

end

/-- The loop of station `n` has made the step of a reference cycle, with the gains and the window of block 0x06. -/
def loopStepped (n : Nat) (d : Rat) (s : State) : State :=
  modScan n (loopStep (targetFreq s n) (twoPi * ((bitsOf (s.cfgGet 0x06 n 0 4) 27 18 : Nat) * 10000))
    (twoPi * ((bitsOf (s.cfgGet 0x06 n 0 4) 17 8 : Nat) * 1000))
    ((bitsOf (s.cfgGet 0x06 n 0 4) 7 0 : Nat) / 1000000000000) d) s

theorem loopStepped_counts (n : Nat) (d : Rat) (s : State) :
    let x := (s.st n).scan
    let y := ((loopStepped n d s).st n).scan
    y.acc = x.acc + targetFreq s n * (1 / 100000000) ∧ y.phi = min 1 (x.phi + x.sPred * (1 / 100000000)) ∧
      y.dco = d ∧ y.lock = x.lock ∧ (x.frozen = true → y.fine = x.fine) ∧ y.outWin ≤ x.outWin + 1 := by
  dsimp only
  rw [loopStepped, scan_modScan]
  obtain ⟨hacc, hphi, hdco, hlock⟩ := loopStep_counts (targetFreq s n) _ _ _ d (s.st n).scan
  exact ⟨hacc, hphi, hdco, hlock, loopStep_fine _ _ _ _ _ _, loopStep_outWin_le ..⟩

/-- The words whose boundaries the oscillator has passed at a count of `d` leave. -/
def wordsSent (n : Nat) (d : Rat) (s t : State) : State :=
  (List.range (wordsPassed (s.st n).scan.postdiv (s.st n).scan.dco d)).foldl (fun t _ => pixelPeriod n t) t

theorem worded_wordsSent (n : Nat) (d : Rat) (s t : State) : Worded n t (wordsSent n d s t) :=
  .foldl (fun t _ => worded_pixelPeriod n t) _ t

/-- In lock, and short of eight cycles out of the window, a reference cycle makes its step and sends its words. -/
theorem execSynthReferenceCycle_inLock {d : Rat} (hs : s.cfg.cur.hasStation n = true)
    (hl : (s.st n).scan.lock = true) (ho : (s.st n).scan.outWin < 7) :
    exec (.synthReferenceCycle n d) s = .next (wordsSent n d s (loopStepped n d s)) := by
  obtain ⟨-, -, -, hkeep, -, hout⟩ := loopStepped_counts n d s
  have hlock : ((loopStepped n d s).st n).scan.lock = true := hkeep.trans hl
  have hwin : ¬ 8 ≤ ((loopStepped n d s).st n).scan.outWin := by omega
  rw [loopStepped] at hlock hwin
  simp only [exec_synthReferenceCycle, execSynthReferenceCycle, wordsSent, loopStepped, hs, hlock, hwin, Bool.not_true,
    Bool.false_and, Bool.true_and, decide_false, Bool.false_eq_true, if_false]

/-! ### Band switches (R154) -/

theorem execBandSwitch_takes {w b c : Nat} {r : List (Nat × Nat × Nat)} (h : (s.st n).scan.sched = (w, b, c) :: r) :
    exec (.bandSwitch n) s = .next (modScan n (fun x => { x with band := b, fine := c, sched := r }) s) := by
  rw [exec_bandSwitch, execBandSwitch, h]

theorem execBandSwitch_none (h : (s.st n).scan.sched = []) : exec (.bandSwitch n) s = .next s := by
  rw [exec_bandSwitch, execBandSwitch, h]

/-! ### Band tables (R148, R149, R150) -/

/-- An update of the store changes nothing outside the store. -/
theorem requestStore_rest (s : State) : requestStore s = { s with cal := (requestStore s).cal } := by
  unfold requestStore
  split_ifs <;> rfl

theorem requestStore_inst (s : State) : (requestStore s).cal.inst = s.cal.inst := by
  unfold requestStore beginStore
  dsimp only [State.modCal]
  split_ifs <;> rfl

/-- A lane that is not retired starts its initial training. -/
def trainLane (s : State) (l : Nat) : State := if (s.lane l).retired then s else startTraining l true s

/-- An initial training of lane `l` is under way. -/
def inInitialTraining (s : State) (l : Nat) : Prop := (s.lane l).training = true ∧ (s.lane l).initial = true

theorem lane_send (x : OutMsg) (l : Nat) (s : State) : (s.send x).lane l = s.lane l := rfl

theorem lane_startTraining_self (l : Nat) (b : Bool) (s : State) : (startTraining l b s).lane l =
    { s.lane l with
      mode := .training, training := true, initial := b, linkUp := false, statSeen := true, noStat := 0
      train := 0#8, leave := 0 } := by rw [startTraining, lane_send, lane_modLane_self]

theorem lane_startTraining_ne (b : Bool) (s : State) (h : k ≠ l) : (startTraining l b s).lane k = s.lane k := by
  rw [startTraining, lane_send, lane_modLane_ne s _ h]

theorem trainLane_rest (s : State) (l : Nat) :
    (trainLane s l).stations = s.stations ∧ (trainLane s l).cal = s.cal := by
  unfold trainLane; split <;> exact ⟨rfl, rfl⟩

theorem trainLane_self (h : (s.lane l).retired = false) : inInitialTraining (trainLane s l) l := by
  rw [trainLane, if_neg (by simp [h]), inInitialTraining, lane_startTraining_self]
  exact ⟨rfl, rfl⟩

theorem trainLane_retired (s : State) (k l : Nat) : ((trainLane s k).lane l).retired = (s.lane l).retired := by
  unfold trainLane
  split
  · rfl
  · by_cases hk : l = k
    · rw [hk, lane_startTraining_self]
    · rw [lane_startTraining_ne _ _ hk]

theorem trainLane_keeps (k : Nat) (h : inInitialTraining s l) : inInitialTraining (trainLane s k) l := by
  unfold trainLane
  split
  · exact h
  · by_cases hk : l = k
    · rw [hk, inInitialTraining, lane_startTraining_self]
      exact ⟨rfl, rfl⟩
    · rwa [inInitialTraining, lane_startTraining_ne _ _ hk]

theorem foldl_trainLane_rest (ls : List Nat) (s : State) :
    (ls.foldl trainLane s).stations = s.stations ∧ (ls.foldl trainLane s).cal = s.cal :=
  List.foldlRecOn (motive := fun t : State => t.stations = s.stations ∧ t.cal = s.cal) ls _ ⟨rfl, rfl⟩
    fun t ht k _ => ⟨(trainLane_rest t k).1.trans ht.1, (trainLane_rest t k).2.trans ht.2⟩

/-- Every lane of a list that is not retired is in its initial training once the list has been gone through. -/
theorem foldl_trainLane {ls : List Nat} (hl : l ∈ ls) (h : (s.lane l).retired = false) :
    inInitialTraining (ls.foldl trainLane s) l := by
  induction ls generalizing s with
  | nil => exact absurd hl List.not_mem_nil
  | cons k ks ih =>
    rw [List.foldl_cons]
    rcases List.mem_cons.1 hl with rfl | hks
    · exact List.foldlRecOn (motive := fun t => inInitialTraining t l) ks _ (trainLane_self h)
        fun t ht k _ => trainLane_keeps k ht
    · exact ih hks ((trainLane_retired s k l).trans h)

/-- The lanes that serve station `n`, or will. -/
def lanesOf (s : State) (n : Nat) : List Nat := (List.range 16).filter fun l => laneServes s l == some n

theorem mem_lanesOf : l ∈ lanesOf s n ↔ l < 16 ∧ laneServes s l = some n := by
  simp [lanesOf]

/-- A band table of station `n` has been measured: it waits for the next mark, and stands in the calibration. -/
def tableMeasured (n : Nat) (table : List (Nat × Nat)) (s : State) : State :=
  (modScan n (fun x => { x with
      tableNew := some table, table := if x.table.isEmpty then table else x.table, calibrated := true }) s).modCal
    fun c => { c with inst := kvMod {} c.inst n fun k => { k with table := table } }

/-- A table kept: the store is written with it, and the lanes of the station train. -/
def tableKept (n : Nat) (table : List (Nat × Nat)) (s : State) : State :=
  (lanesOf s n).foldl trainLane (requestStore (tableMeasured n table s))

theorem execBandTableCalibrationComplete_busy {table : List (Nat × Nat)} (hl : l ∈ lanesOf s n)
    (h : (s.lane l).trained = true ∨ (s.lane l).training = true) :
    exec (.bandTableCalibrationComplete n table) s = .next s := by
  have hbusy : ((lanesOf s n).any fun l => (s.lane l).trained || (s.lane l).training) = true :=
    List.any_eq_true.2 ⟨l, hl, by simpa using h⟩
  rw [lanesOf] at hbusy
  simp only [exec_bandTableCalibrationComplete, execBandTableCalibrationComplete, hbusy, Bool.or_true, if_true]

/-- Where no lane of the station is trained or trains, the table is judged. -/
theorem execBandTableCalibrationComplete_judges {table : List (Nat × Nat)} (hs : s.latestSet.hasStation n = true)
    (h : ∀ l ∈ lanesOf s n, (s.lane l).trained = false ∧ (s.lane l).training = false) :
    exec (.bandTableCalibrationComplete n table) s =
      .next (if bandTableOk table then tableKept n table s else raise 0x0805 (stH s n) 0 n s) := by
  have hfree : ((lanesOf s n).any fun l => (s.lane l).trained || (s.lane l).training) = false :=
    List.any_eq_false.2 fun l hl => by simp [h l hl]
  rw [lanesOf] at hfree
  simp only [exec_bandTableCalibrationComplete, execBandTableCalibrationComplete, hfree, hs, Bool.not_true,
    Bool.or_self, Bool.false_eq_true, if_false]
  cases bandTableOk table <;> rfl

theorem st_modCal (f : Cal → Cal) (n : Nat) (s : State) : (s.modCal f).st n = s.st n := rfl

theorem tableKept_scan (n : Nat) (table : List (Nat × Nat)) (s : State) : ((tableKept n table s).st n).scan =
    { (s.st n).scan with
      tableNew := some table, table := if (s.st n).scan.table.isEmpty then table else (s.st n).scan.table
      calibrated := true } := by
  have hst : (tableKept n table s).st n = (tableMeasured n table s).st n := by
    rw [State.st, tableKept, (foldl_trainLane_rest _ _).1, requestStore_rest]
    rfl
  rw [hst, tableMeasured, st_modCal, scan_modScan]

theorem tableKept_cal (n : Nat) (table : List (Nat × Nat)) (s : State) :
    (kvGet ({} : CalSt) (tableKept n table s).cal.inst n).table = table := by
  rw [tableKept, (foldl_trainLane_rest _ _).2, requestStore_inst, tableMeasured, State.modCal_cal]
  simp only [kvGet_kvMod_self]

theorem tableKept_trains (table : List (Nat × Nat)) (hl : l ∈ lanesOf s n) (h : (s.lane l).retired = false) :
    inInitialTraining (tableKept n table s) l := by
  refine foldl_trainLane hl ?_
  rw [requestStore_rest]
  exact h

/-- A mean within a quarter of the span is folded in, and the seconds beyond it end. -/
theorem execBandTableTrack_within (hl : (s.st n).scan.lock = true) (hn : (s.st n).scan.iN ≠ 0)
    (hb : beyondSpan (s.st n).scan ((s.st n).scan.iSum / ((s.st n).scan.iN : Nat)) = false) :
    exec (.bandTableTrack n) s = .next (modScan n (fun x => { x with
      iSum := 0, iN := 0, bands := []
      table := trackTable ((s.st n).scan.iSum / ((s.st n).scan.iN : Nat)) x.table x.bands, iBeyond := 0 }) s) := by
  simp [exec_bandTableTrack, execBandTableTrack, hl, hn, hb]

/-- Settles O41: a timestamp by its residual and the counts, the synthesiser's events by the lock, a reference cycle by
the loop's step and the words that follow it, a band table by the lanes of its station. -/
theorem timestampsAndSynthesiser : Obligations.TimestampsAndSynthesiser := by
  unfold Obligations.TimestampsAndSynthesiser
  refine ⟨?stamp, ?bad, ?facet, ?lock, ?loss, ?cycle, fun n w b c r s => execBandSwitch_takes,
    fun n s => execBandSwitch_none, ?measured, ?busy, ?track⟩
  case stamp =>
    intro l n tc s hl ht x r u
    refine ⟨execSosTs_bad hl ht, fun h hg => ?good, fun h h4 => ?off, fun h hs hg ho => ?wins,
      execSosTs_invalid hl _, fun k v => execSosTs_foreign hl⟩
    case good =>
      rw [execSosTs_counts hl ht (h.trans (by norm_num)) (by rwa [goodStamps_near h]), stampCounted_near h]
      rfl
    case off =>
      rw [execSosTs_counts hl ht h4 (.inr (by rw [goodStamps_off h]; norm_num)), stampCounted_off h]
      rfl
    case wins =>
      have hopen : openOn (stampCounted n tc s) (laneHandle l) 0x0802 = false := ho
      rw [execSosTs_wins hl ht (h.trans (by norm_num)) hs (by rwa [goodStamps_near h]),
        sosWon_untested hopen, stampCounted_near h]
      rfl
  case bad =>
    intro n l s hl t u
    exact ⟨badTimestamp_few, badTimestamp_fourth⟩
  case facet =>
    intro n s
    refine ⟨execFacetPhaseFault_within, fun h hs => ⟨reacquired n s, execFacetPhaseFault_over h hs, ?_⟩⟩
    rw [reacquired_scan]
    exact ⟨rfl, rfl, rfl, rfl, reacquired_cfg n s, reacquired_faults n s⟩
  case lock =>
    intro n l s hs hl
    exact ⟨execSynthLock_again, fun h => execSynthLock_sets hs h hl, fun h => execSynthLock_retrains hs h hl⟩
  case loss =>
    intro n s
    refine ⟨execSynthLossOfLock_unlocked, fun h l hl hr => ⟨lockLost n l s, execSynthLossOfLock_lane h hl hr, ?_⟩⟩
    rw [lockLost_scan]
    exact ⟨rfl, rfl, rfl, lockLost_mode n l s, lockLost_faults n l s, fun hc => if_neg hc⟩
  case cycle =>
    intro n d s hs hl ho
    have hw := worded_wordsSent n d s (loopStepped n d s)
    obtain ⟨hacc, hphi, hdco, hlock, hfine, -⟩ := loopStepped_counts n d s
    exact ⟨_, execSynthReferenceCycle_inLock hs hl ho, (congrArg Rise.acc hw.timing).trans hacc,
      (congrArg Rise.phi hw.timing).trans hphi, (congrArg Rise.dco hw.timing).trans hdco,
      (congrArg Rise.lock hw.timing).trans (hlock.trans hl), fun hf => (congrArg Rise.fine hw.timing).trans (hfine hf),
      hw.rest, fun k hk => (hw.others k hk).trans (st_modSt_ne s _ hk)⟩
  case measured =>
    intro n table s hs h
    have hjudge := execBandTableCalibrationComplete_judges (table := table) hs fun l hl =>
      h l (mem_lanesOf.1 hl).1 (mem_lanesOf.1 hl).2
    refine ⟨fun hb => ?_, fun hb => ⟨tableKept n table s, ?_, ?_⟩⟩
    · rw [hjudge, if_neg (by simp [hb])]
    · rw [hjudge, if_pos hb]
    · rw [tableKept_scan]
      exact ⟨rfl, rfl, tableKept_cal n table s, fun ht => if_neg (by simpa using ht),
        fun l h16 hl => tableKept_trains table (mem_lanesOf.2 ⟨h16, hl⟩)⟩
  case busy =>
    intro n l table s h16 hl h
    exact execBandTableCalibrationComplete_busy (mem_lanesOf.2 ⟨h16, hl⟩) h
  case track =>
    intro n s x mean hl hn hb
    exact execBandTableTrack_within hl hn hb

end Sys2Proof.Machine
end

section
/-! SUPPORT. Lane errors, BER tests and the interlock (O43): what LANE_STAT does by the failed words and the flags, what
a lost back channel and the end of a BER test do, which lanes and outputs the gate holds after an assertion, and what
darkening, LASER_EN and the gate's opening leave (R177, R181 to R184). -/

namespace Sys2Proof.Machine

open Sys2Proof

variable {l n sw fw fl be : Nat} {s : State} {low : BitVec 8}

/-! ### The arms -/

theorem exec_laneStat : exec (.laneStat l sw fw fl be) s = execLaneStat l sw fw fl be s := rfl

theorem exec_backChannelLoss : exec (.backChannelLoss l) s = execBackChannelLoss l s := rfl

theorem exec_berTestComplete (l e : Nat) (s : State) : exec (.berTestComplete l e) s = .next (berJudge l e s) := rfl

theorem exec_berNoWordTimeout : exec (.berNoWordTimeout l) s = execBerNoWordTimeout l s := rfl

theorem exec_interlockPathMismatch (s : State) : exec .interlockPathMismatch s = .next (raise 0x0C02 0#16 0 0 s) := rfl

/-! ### LANE_STAT (R181, R182, Table 08-11) -/

/-- The LANE_STAT of the running sweep has come, with the driver's error count. -/
def statKept (l be : Nat) (s : State) : State :=
  modLane l (fun x => { x with
    statSeen := true, noStat := 0, ber := x.ber.map fun b => { b with errs := be } }) s

/-- A BER test whose bits are all compared is judged by the errors that the LANE_STAT brings. -/
def statJudged (l be : Nat) (s : State) : State :=
  if (s.lane l).ber.any fun b => decide (berBits ≤ b.bits) then berJudge l be (statKept l be s) else statKept l be s

/-- What the failed words `fw` and the flags `fl` of a sweep order at station `n` and its lane. -/
def statOrdered (l n fw fl : Nat) (s : State) : State :=
  if 8 ≤ fw then orderRetrain l 0x0901 fw s
  else if 0 < fw ∨ bitOf fl 2 then
    startBer l false (raise 0x0901 (laneHandle l) 0 fw (if bitOf fl 3 || bitOf fl 2 then failExposure n s else s))
  else if bitOf fl 3 || bitOf fl 2 then failExposure n s else s

theorem statOrdered_retrains (h : 8 ≤ fw) : statOrdered l n fw fl s = orderRetrain l 0x0901 fw s := if_pos h

/-- Fewer failed words that no flag comes with cost the bands in exposure nothing. -/
theorem statOrdered_few (h0 : 0 < fw) (h8 : fw < 8) (h2 : bitOf fl 2 = false) (h3 : bitOf fl 3 = false) :
    statOrdered l n fw fl s = startBer l false (raise 0x0901 (laneHandle l) 0 fw s) := by
  simp [statOrdered, not_le.2 h8, h0, h2, h3]

/-- The header flag alone, and the data flag with failed words, cost the bands in exposure. -/
theorem statOrdered_flagged (h8 : fw < 8) (h : bitOf fl 2 = true ∨ (0 < fw ∧ bitOf fl 3 = true)) :
    statOrdered l n fw fl s = startBer l false (raise 0x0901 (laneHandle l) 0 fw (failExposure n s)) := by
  obtain h2 | ⟨h0, h3⟩ := h
  · simp [statOrdered, not_le.2 h8, h2]
  · simp [statOrdered, not_le.2 h8, h0, h3]

theorem statOrdered_clean (h2 : bitOf fl 2 = false) (h3 : bitOf fl 3 = false) : statOrdered l n 0 fl s = s := by
  simp [statOrdered, h2, h3]

theorem statOrdered_dataFlag (h2 : bitOf fl 2 = false) (h3 : bitOf fl 3 = true) :
    statOrdered l n 0 fl s = failExposure n s := by
  simp [statOrdered, h2, h3]

section
variable (hl : laneStation s l = some n)
include hl

/-- The first LANE_STAT of the running sweep judges the lane. -/
theorem execLaneStat_taken (hs : (s.lane l).statSeen = false) :
    exec (.laneStat l ((s.st n).scan.sweeps % 65536) fw fl be) s =
      .next (statOrdered l n fw fl (statJudged l be s)) := by
  simp only [exec_laneStat, execLaneStat, hl, hs, statOrdered, statJudged, statKept, ne_eq, not_true_eq_false,
    Bool.false_eq_true, or_self, if_false]

theorem execLaneStat_foreign (h : sw ≠ (s.st n).scan.sweeps % 65536) :
    exec (.laneStat l sw fw fl be) s = .next s := by
  simp [exec_laneStat, execLaneStat, hl, h]

end

theorem execLaneStat_ignored (h : (s.lane l).statSeen = true ∨ laneStation s l = none) :
    exec (.laneStat l sw fw fl be) s = .next s := by
  cases hl : laneStation s l with
  | none => simp [exec_laneStat, execLaneStat, hl]
  | some n =>
    have hseen : (s.lane l).statSeen = true := h.resolve_right (by simp [hl])
    simp [exec_laneStat, execLaneStat, hl, hseen]

/-! ### The back channel (R177, R181) -/

theorem execBackChannelLoss_retrains (htr : (s.lane l).trained = true) (ht : (s.lane l).training = false)
    (hr : (s.lane l).retired = false) : exec (.backChannelLoss l) s =
      .next (orderRetrain l 0x0902 l (modLane l (fun x => { x with cdrLock := false }) s)) := by
  simp [exec_backChannelLoss, execBackChannelLoss, htr, ht, hr]

/-- A lane that is not trained, in training or out of service has no back channel to lose. -/
theorem execBackChannelLoss_silent
    (h : (s.lane l).trained = false ∨ (s.lane l).training = true ∨ (s.lane l).retired = true) :
    exec (.backChannelLoss l) s = .next s := by
  have hsilent : ((s.lane l).training || !(s.lane l).trained || (s.lane l).retired) = true := by
    rcases h with h | h | h <;> simp [h]
  simp only [exec_backChannelLoss, execBackChannelLoss, hsilent, if_true]

/-! ### BER tests (R182) -/

theorem berJudge_none (e : Nat) (h : (s.lane l).ber = none) : berJudge l e s = s := by simp [berJudge, h]

section
variable {b : Ber} (hb : (s.lane l).ber = some b)
include hb

/-- An extended test passes with the errors it was extended at, and with no other number. -/
theorem berJudge_extended (hx : b.extended = true) (e : Nat) : berJudge l e s = berEnded (e == b.base) l s := by
  simp [berJudge, hb, hx]

/-- One error extends a test. -/
theorem berJudge_extends (hx : b.extended = false) : berJudge l 1 s = modLane l (fun x => { x with
    ber := some { b with extended := true, errs := 1, base := 1, bits := 0 } }) s := by
  simp [berJudge, hb, hx]

/-- Any other number ends it, none as a pass. -/
theorem berJudge_ends (hx : b.extended = false) {e : Nat} (he : e ≠ 1) : berJudge l e s = berEnded (e == 0) l s := by
  simp [berJudge, hb, hx, he]

theorem execBerNoWordTimeout_swept (hm : (s.lane l).mode = .swept) :
    exec (.berNoWordTimeout l) s = .next (berEnded false l s) := by
  simp [exec_berNoWordTimeout, execBerNoWordTimeout, hb, hm]

end

theorem execBerNoWordTimeout_unswept (hm : (s.lane l).mode ≠ .swept) : exec (.berNoWordTimeout l) s = .next s := by
  simp [exec_berNoWordTimeout, execBerNoWordTimeout, hm]

/-! ### An assertion (R183, R184, Table 08-13) -/

/-- The inputs that are low now and were high before. -/
def newlyLow (low : BitVec 8) (s : State) : BitVec 8 := low &&& ~~~s.intlk.low

/-- The newly low inputs whose map word latches them. -/
def newlyLatched (low : BitVec 8) (s : State) : BitVec 8 :=
  (List.range 8).foldl (fun b i =>
    if (newlyLow low s).getLsbD i && bitOf (mapWord s i) 31 then b ||| BitVec.ofNat 8 (2 ^ i) else b) 0#8

/-- What the gate shuts once the newly low inputs have added their masks. -/
def shutBy (low : BitVec 8) (s : State) : BitVec 18 :=
  (List.range 8).foldl (fun b i => if (newlyLow low s).getLsbD i then b ||| mapMask s i else b) s.intlk.shut

/-- The interlock after the inputs `low` are reported. -/
def asserted (low : BitVec 8) (s : State) : State :=
  s.modIntlk fun x => { x with
    low := low, closedBy := x.closedBy ||| newlyLow low s, shut := shutBy low s
    latched := x.latched ||| newlyLatched low s }

theorem exec_interlockAssert (low : BitVec 8) (s : State) : exec (.interlockAssert low) s =
    .next (if newlyLow low s = 0#8 then asserted low s
      else note 0x0C01 0#16 0 (interlockFrames (darken (setLasers (asserted low s))))) := rfl

theorem execInterlockAssert_nothingNew (h : newlyLow low s = 0#8) :
    exec (.interlockAssert low) s = .next (asserted low s) := by
  rw [exec_interlockAssert, if_pos h]

theorem execInterlockAssert_closes (h : newlyLow low s ≠ 0#8) : exec (.interlockAssert low) s =
    .next (note 0x0C01 0#16 0 (interlockFrames (darken (setLasers (asserted low s))))) := by
  rw [exec_interlockAssert, if_neg h]

/-- A bit of a union over the chosen members of a list is set in the word it starts from or in a chosen member's. -/
theorem getLsbD_foldl_or {w : Nat} (p : Nat → Bool) (m : Nat → BitVec w) (xs : List Nat) (b : BitVec w) (j : Nat) :
    (xs.foldl (fun b i => if p i then b ||| m i else b) b).getLsbD j =
      (b.getLsbD j || xs.any fun i => p i && (m i).getLsbD j) := by
  induction xs generalizing b with
  | nil => simp
  | cons i xs ih =>
    rw [List.foldl_cons, ih, List.any_cons]
    cases p i <;> simp [Bool.or_assoc]

theorem getLsbD_mapMask {j : Nat} (hj : j < 18) (i : Nat) : (mapMask s i).getLsbD j = (mapWord s i).testBit j := by
  rw [mapMask, BitVec.getLsbD_ofNat, Nat.testBit_mod_two_pow]
  simp [hj]

theorem getLsbD_shutBy {j : Nat} (hj : j < 18) : (shutBy low s).getLsbD j = (s.intlk.shut.getLsbD j ||
    (List.range 8).any fun i => (newlyLow low s).getLsbD i && (mapWord s i).testBit j) := by
  simp only [shutBy, getLsbD_foldl_or, getLsbD_mapMask hj]

/-- An input is latched by its own map word only. -/
theorem getLsbD_newlyLatched {i : Nat} (hi : i < 8) : (newlyLatched low s).getLsbD i =
    ((newlyLow low s).getLsbD i && bitOf (mapWord s i) 31) := by
  rw [newlyLatched, getLsbD_foldl_or, BitVec.getLsbD_zero, Bool.false_or, Bool.eq_iff_iff]
  simp only [List.any_eq_true, List.mem_range, BitVec.getLsbD_ofNat, hi, decide_true, Bool.true_and,
    Nat.testBit_two_pow, Bool.and_eq_true, decide_eq_true_eq]
  constructor
  · rintro ⟨k, -, h, rfl⟩
    exact h
  · exact fun h => ⟨i, hi, h, rfl⟩

/-- With no newly low input none is latched. -/
theorem newlyLatched_none (h : newlyLow low s = 0#8) : newlyLatched low s = 0#8 :=
  BitVec.eq_of_getLsbD_eq fun i hi => by simp [getLsbD_newlyLatched hi, h]

/-! ### Darkening and LASER_EN (R183, R184, Table 08-12) -/

/-- A change of a table's entries that keeps the keys changes what a key finds as its entry. -/
theorem kvFind_map {α : Type} (g : Nat × α → Nat × α) (hg : ∀ p, (g p).1 = p.1) (t : KV α) (m : Nat) :
    kvFind (t.map g) m = (kvFind t m).map fun v => (g (m, v)).2 := by
  induction t with
  | nil => rfl
  | cons p t ih =>
    obtain ⟨k, v⟩ := p
    rw [List.map_cons, ← Prod.mk.eta (p := g (k, v)), kvFind, kvFind, hg, ih]
    split_ifs with h
    · rw [← h, Option.map_some]
    · rfl

/-- What darkening makes of an entry of the lane table. -/
def darkenEntry (s : State) (p : Nat × Lane) : Nat × Lane :=
  if laneDark s p.1 || gateCloses s p.1 then
    (p.1, match p.2.mode with
      | .idle | .swept | .dark => { p.2 with mode := .dark, leave := 0 }
      | _ => p.2)
  else p

theorem darken_lanes (s : State) : (darken s).lanes = s.lanes.map (darkenEntry s) := rfl

theorem darkenEntry_key (s : State) (p : Nat × Lane) : (darkenEntry s p).1 = p.1 := by
  unfold darkenEntry
  split_ifs <;> rfl

theorem darkenEntry_lane (s : State) (p : Nat × Lane) :
    (darkenEntry s p).2 = p.2 ∨ (darkenEntry s p).2.mode = .dark := by
  unfold darkenEntry
  split_ifs
  · cases p.2.mode <;> simp
  · exact .inl rfl

theorem darken_lane (s : State) (l : Nat) : (darken s).lane l = s.lane l ∨ ((darken s).lane l).mode = .dark := by
  simp only [State.lane, kvGet, darken_lanes, kvFind_map _ (darkenEntry_key s)]
  cases kvFind s.lanes l with
  | none => exact .inl rfl
  | some v => exact darkenEntry_lane s (l, v)

/-- LASER_EN is high only where firmware wants it and the gate lets it. -/
theorem unlowered_of_laserHigh (k : Nat) : (laserWanted s && !gateLowers s k) = true →
    gateLowers s k = false ∧ s.faults.lockout = false := by
  simp only [laserWanted, Bool.and_eq_true, Bool.not_eq_true']
  rintro ⟨⟨⟨⟨-, hlockout⟩, -⟩, -⟩, hgate⟩
  exact ⟨hgate, hlockout⟩

/-! ### The gate opens (R184) -/

theorem exec_interlockGateOpen (s : State) : exec .interlockGateOpen s =
    .next (if s.intlk.latched = 0#8 then gateOpens (s.modIntlk fun x => { x with low := 0#8 })
      else s.modIntlk fun x => { x with low := 0#8 }) := rfl

/-- Settles O43: LANE_STAT by what it orders, a BER test by its errors, an assertion bit by bit, the gate by what is
latched. -/
theorem laneErrorsAndInterlocks : Obligations.LaneErrorsAndInterlocks := by
  unfold Obligations.LaneErrorsAndInterlocks
  refine ⟨?stat, fun l sw fw fl be s => execLaneStat_ignored, ?loss, ?ber, ?untested, ?assertion, darken_lane,
    ?lasers, ?opening, exec_interlockPathMismatch⟩
  case stat =>
    intro l n fw fl be s hl hs k t u
    exact ⟨fun h => (execLaneStat_taken hl hs).trans (congrArg _ (statOrdered_retrains h)),
      fun h0 h8 h2 h3 => (execLaneStat_taken hl hs).trans (congrArg _ (statOrdered_few h0 h8 h2 h3)),
      fun h8 h => (execLaneStat_taken hl hs).trans (congrArg _ (statOrdered_flagged h8 h)),
      fun h2 h3 => (execLaneStat_taken hl hs).trans (congrArg _ (statOrdered_clean h2 h3)),
      fun h2 h3 => (execLaneStat_taken hl hs).trans (congrArg _ (statOrdered_dataFlag h2 h3)),
      fun j => execLaneStat_foreign hl⟩
  case loss =>
    intro l s
    exact ⟨execBackChannelLoss_retrains, execBackChannelLoss_silent⟩
  case ber =>
    intro l b s hb
    refine ⟨fun hx => ⟨?_, ?_, fun e he => ?_⟩, fun hx => ⟨?_, fun e he => ?_⟩, execBerNoWordTimeout_swept hb,
      execBerNoWordTimeout_unswept⟩
    · rw [exec_berTestComplete, berJudge_ends hb hx zero_ne_one, beq_self_eq_true]
    · rw [exec_berTestComplete, berJudge_extends hb hx]
    · rw [exec_berTestComplete, berJudge_ends hb hx (by omega), beq_eq_false_iff_ne.2 (by omega)]
    · rw [exec_berTestComplete, berJudge_extended hb hx, beq_self_eq_true]
    · rw [exec_berTestComplete, berJudge_extended hb hx, beq_eq_false_iff_ne.2 he]
  case untested =>
    intro l e s h
    rw [exec_berTestComplete, berJudge_none e h]
  case assertion =>
    intro low s
    refine ⟨asserted low s, rfl, rfl, fun j hj => getLsbD_shutBy hj, fun i hi => ?latch, rfl,
      fun h => ⟨execInterlockAssert_nothingNew h, ?none⟩, execInterlockAssert_closes⟩
    case latch => exact BitVec.getLsbD_or.trans (congrArg _ (getLsbD_newlyLatched hi))
    case none => exact (congrArg _ (newlyLatched_none h)).trans (BitVec.or_zero ..)
  case lasers =>
    intro s
    exact ⟨unlowered_of_laserHigh 0, unlowered_of_laserHigh 1⟩
  case opening =>
    intro s t
    refine ⟨fun h => ?_, fun h => ?_⟩
    · rw [exec_interlockGateOpen, if_pos h]
      rfl
    · rw [exec_interlockGateOpen, if_neg h]

end Sys2Proof.Machine
end

section
/-! SUPPORT. The CAL_ commands (O26): what the body of each answers in the state it enters, and the slot that a store
write completes (R205, R379, R412). -/

namespace Sys2Proof.Machine

open Sys2Proof

variable {m : Cmd} {s : State} {n : Nat} {p : Nat × BitVec 36}

/-! ### The arms -/

theorem exec_calWrite : exec (.calWrite m) s = .next (runCmd opCalWrite noTicket m (bodyCalWrite m) s) := rfl

theorem exec_calCommit : exec (.calCommit m) s = .next (runCmd opCalCommit (fun _ => 2) m (bodyCalCommit m) s) := rfl

theorem exec_calHeadClear :
    exec (.calHeadClear m) s = .next (runCmd opCalHeadClear (fun _ => 2) m (bodyCalHeadClear m) s) := rfl

theorem exec_calStoreWriteComplete : exec .calStoreWriteComplete s = execCalStoreWriteComplete s := rfl

theorem between_eq_true {lo hi x : Nat} : between lo hi x = true ↔ lo ≤ x ∧ x ≤ hi := by
  simp [between]

/-! ### The objects of a station (R412)

That a staged object starts as a copy of the installed one, and that a commit of nothing staged answers CONFLICT before
its digest is checked, is log entry 125. -/

/-- The staged object that a CAL_WRITE for station `n` leaves. -/
def overlaid (m : Cmd) (s : State) (n : Nat) : List Byte :=
  overlay (stagedObj s n (m.u 1 1)) (m.u 4 4) (m.bytes 16 (m.u 8 2))

/-- The bytes that a CAL_READ of station `n` reads from. -/
def readObj (m : Cmd) (s : State) (n : Nat) : List Byte :=
  if m.u 1 1 = 8 then fittedList s n else (kvGet ({} : CalSt) s.cal.inst n).obj (m.u 1 1)

section
variable (hn : calStation m s = some n)
include hn

section
variable (ho : 1 ≤ m.u 1 1 ∧ m.u 1 1 ≤ 6) (hl : 1 ≤ m.u 8 2 ∧ m.u 8 2 ≤ 176)
  (hfit : m.u 4 4 + m.u 8 2 ≤ objSize (m.u 1 1))
include ho hl hfit

/-- A CAL_WRITE within its object meets only the check of object 2's reserved bytes (R7). -/
theorem bodyCalWrite_within : bodyCalWrite m s =
    if m.u 1 1 = 2 ∧ fieldAt (overlaid m s n) 2 2 ≠ 0 then refuse .range s
    else .done .ok [] (s.modCal fun c =>
      { c with staging := kvMod [] c.staging n fun x => kvSet x (m.u 1 1) (overlaid m s n) }) := by
  simp only [bodyCalWrite, hn, between_eq_true.2 ho, between_eq_true.2 hl, hfit.not_gt, Bool.not_true, decide_false,
    Bool.or_self, Bool.false_eq_true, if_false]
  rfl

theorem bodyCalWrite_ok (hr : m.u 1 1 ≠ 2 ∨ fieldAt (overlaid m s n) 2 2 = 0) :
    bodyCalWrite m s = .done .ok [] (s.modCal fun c =>
      { c with staging := kvMod [] c.staging n fun x => kvSet x (m.u 1 1) (overlaid m s n) }) :=
  (bodyCalWrite_within hn ho hl hfit).trans (if_neg fun h => hr.elim (absurd h.1) h.2)

theorem bodyCalWrite_reserved (h2 : m.u 1 1 = 2) (hr : fieldAt (overlaid m s n) 2 2 ≠ 0) :
    bodyCalWrite m s = refuse .range s :=
  (bodyCalWrite_within hn ho hl hfit).trans (if_pos ⟨h2, hr⟩)

end

theorem bodyCalCommit_later (hs : commitObjs s n ≠ [])
    (hd : m.bytes 16 32 = digestBytes (Config.sha256 ((commitObjs s n).flatMap fun p => p.2)).toNat)
    (hc : commitOk s n (commitObjs s n) = true) :
    bodyCalCommit m s = .later (s.modCal fun c =>
      { c with staging := kvDel c.staging n, committed := kvSet c.committed n (commitObjs s n) }) := by
  simp [bodyCalCommit, hn, hs, hd, hc]

theorem bodyCalCommit_conflict (hs : commitObjs s n = []) : bodyCalCommit m s = refuse .conflict s := by
  simp [bodyCalCommit, hn, hs]

theorem bodyCalRead_ok (ho : 1 ≤ m.u 1 1 ∧ m.u 1 1 ≤ 8) (hfit : m.u 4 4 + m.u 8 2 ≤ (readObj m s n).length) :
    bodyCalRead m s = .done .ok (((readObj m s n).drop (m.u 4 4)).take (m.u 8 2)) s := by
  have hin : (!between 1 8 (m.u 1 1) || decide ((readObj m s n).length < m.u 4 4 + m.u 8 2)) = false := by
    simp [between_eq_true.2 ho, hfit]
  simp only [bodyCalRead, hn]
  exact if_neg (Bool.eq_false_iff.1 hin)

theorem bodyCalAbort_ok :
    bodyCalAbort m s = .done .ok [] (s.modCal fun c => { c with staging := kvDel c.staging n }) := by
  simp only [bodyCalAbort, hn]

end

/-! ### CAL_HEAD_CLEAR (R205)

That a returned emitter comes back UNMEASURED is log entry 126. -/

section
variable (hp : hIndex m.handle = 0)
include hp

theorem bodyCalHeadClear_ok (hl : (s.cal.lists.find? fun p => p.1 == m.u 8 8) = some p) :
    let back := p.2 &&& BitVec.ofNat 36 (m.u 16 5)
    bodyCalHeadClear m s = .done .ok [] (listRecord (m.u 8 8) back 1 (returnEmitters (m.u 8 8) back
      (requestStore (s.modCal fun c => { c with
        lists := s.cal.lists.map fun q => if q.1 = m.u 8 8 then (q.1, q.2 &&& ~~~back) else q })))) := by
  simp only [bodyCalHeadClear, hp, hl, ne_eq, not_true_eq_false, if_false]

theorem bodyCalHeadClear_range (hl : ∀ p ∈ s.cal.lists, p.1 ≠ m.u 8 8) : bodyCalHeadClear m s = refuse .range s := by
  have hnone : (s.cal.lists.find? fun p => p.1 == m.u 8 8) = none :=
    List.find?_eq_none.2 fun q hq => by simpa using hl q hq
  simp only [bodyCalHeadClear, hp, hnone, ne_eq, not_true_eq_false, if_false]

end

/-! ### The store write (R379)

That CAL_EMPTY's cause is gone once a write completes is log entry 126. -/

/-- The store once a write completes: the slot that was written holds the valid copy, one sequence on. -/
def slotTurned (s : State) : State :=
  s.modCal fun c =>
    { c with
      writing := false, again := false, seqNo := c.seqNo + 1, slotIsB := !c.slotIsB
      aValid := if c.slotIsB then true else c.aValid
      bValid := if c.slotIsB then c.bValid else true }

theorem slotTurned_valid (s : State) :
    (if s.cal.slotIsB then (slotTurned s).cal.aValid else (slotTurned s).cal.bValid) = true := by
  cases h : s.cal.slotIsB <;> simp [slotTurned, h]

/-- The slot that held the valid copy stays as it was. -/
theorem slotTurned_other (s : State) :
    if s.cal.slotIsB then (slotTurned s).cal.bValid = s.cal.bValid else (slotTurned s).cal.aValid = s.cal.aValid := by
  cases h : s.cal.slotIsB <;> simp [slotTurned, h]

theorem execCalStoreWriteComplete_ends (hw : s.cal.writing = true) (ha : s.cal.again = false) :
    execCalStoreWriteComplete s = .next (causeGone 0#16 0x1807 (slotTurned s)) := by
  simp only [execCalStoreWriteComplete, hw, ha, Bool.not_true, Bool.false_eq_true, if_false]
  rfl

/-- Settles O26: each command by its body's equation, the store write by the slot it turns to. -/
theorem calibrationCommandsComplete : Obligations.CalibrationCommandsComplete := by
  unfold Obligations.CalibrationCommandsComplete
  refine ⟨?write, ?commit, ?commitConflict, ?read, ?abort, ?clear, ?clearRange, ?store⟩
  case write =>
    intro m s n e b h hn ho₁ ho₂ hl₁ hl₂ hfit
    refine ⟨fun hr => runCmd_ok h (bodyCalWrite_ok hn ⟨ho₁, ho₂⟩ ⟨hl₁, hl₂⟩ hfit hr), fun h2 hr => ?_⟩
    rw [exec_calWrite, runCmd_done h (bodyCalWrite_reserved hn ⟨ho₁, ho₂⟩ ⟨hl₁, hl₂⟩ hfit h2 hr) (by decide)]
    rfl
  case commit =>
    intro m s n e os h hn hs hd hc
    exact congrArg _ (runCmd_later h (bodyCalCommit_later hn hs hd hc))
  case commitConflict =>
    intro m s n e h hn hs
    rw [exec_calCommit, runCmd_done h (bodyCalCommit_conflict hn hs) (by decide)]
    rfl
  case read =>
    intro m s n e b h hn ho₁ ho₂ hfit
    exact runCmd_ok h (bodyCalRead_ok hn ⟨ho₁, ho₂⟩ hfit)
  case abort =>
    intro m s n e h hn
    exact runCmd_ok h (bodyCalAbort_ok hn)
  case clear =>
    intro m s p e back ls h hp hl
    exact runCmd_ok h (bodyCalHeadClear_ok hp hl)
  case clearRange =>
    intro m s e h hp hl
    rw [exec_calHeadClear, runCmd_done h (bodyCalHeadClear_range hp hl) (by decide)]
    rfl
  case store =>
    intro s hw ha
    exact ⟨slotTurned s, exec_calStoreWriteComplete.trans (execCalStoreWriteComplete_ends hw ha), rfl, rfl, rfl,
      slotTurned_valid s, slotTurned_other s, rfl⟩

end Sys2Proof.Machine
end

section
/-! SUPPORT. The commands of electronic gearing (O19): what the body of each answers in the state it enters (R213 to
R217), their checks in the order of their statuses (R393). That a MOT_GEAR row takes its own operation's byte alone is
log entry 42; that a stepper has no acceleration limit is log entry 45. -/

namespace Sys2Proof.Machine

open Sys2Proof

variable {m : Cmd} {s : State} {f : Follower}

/-! ### Changes of ratio (R215, R216) -/

/-- The change that a MOT_RATIO asks for. -/
def ratioAsked (m : Cmd) : RatioChg := { num := m.i 4 4, den := m.u 8 4, xs := m.i 12 6, d := m.u 20 4 }

/-- The changes that wait once `r` is queued, in order of position. -/
def queuedWith (g : Gear) (r : RatioChg) : List RatioChg := sortBy (g.queue ++ [r]) fun a b => decide (a.xs ≤ b.xs)

/-- A change begins past the end of each change that waits or ends before it, and begins past the running blend. -/
def ratioClear (g : Gear) (r : RatioChg) : Prop :=
  (∀ c ∈ g.queue, c.stop ≤ r.xs ∨ r.stop < c.xs) ∧ ∀ c v, g.blend = some (c, v) → c.stop ≤ r.xs

/-- A change has a denominator, no length at rest or one that a blend may have, a position not behind the newel, and an
acceleration within the follower's limit. -/
def ratioInRange (s : State) (f : Follower) (r : RatioChg) : Prop :=
  r.den ≠ 0 ∧ ((r.d = 0 ∧ s.gov.speed = 0) ∨ (32 ≤ r.d ∧ r.d ≤ 16777215)) ∧ newelLines s ≤ (r.xs : Rat) ∧
    accelOk s f (ratioBefore (gearOf s f)) (ratioOf r.num r.den) r.d = true

section
variable {r : RatioChg}

theorem any_overlap_eq_false {q : List RatioChg} (h : ∀ c ∈ q, c.stop ≤ r.xs ∨ r.stop < c.xs) :
    (q.any fun c => decide (r.xs < c.stop) && decide (c.xs < r.stop + 1)) = false := by
  refine List.any_eq_false.2 fun c hc => ?_
  have hapart := h c hc
  simp only [Bool.and_eq_true, decide_eq_true_eq]
  omega

/-- A change in range meets none of the grounds for RANGE. -/
theorem ratioInRange.not_refused (h : ratioInRange s f r) : ¬ (r.den = 0 ∨ (r.d ≠ 0 ∧ (r.d < 32 ∨ 16777215 < r.d)) ∨
    (r.d = 0 ∧ s.gov.speed ≠ 0) ∨ (r.xs : Rat) < newelLines s ∨
    accelOk s f (ratioBefore (gearOf s f)) (ratioOf r.num r.den) r.d = false) := by
  obtain ⟨hden, hd, hx, ha⟩ := h
  rintro (h | ⟨h0, hl⟩ | ⟨h0, hs⟩ | h | h)
  · exact hden h
  · omega
  · exact hd.elim (fun hr => hs hr.2) fun hr => by omega
  · exact h.not_ge hx
  · exact Bool.eq_false_iff.1 h ha

end

/-! ### MOT_GEAR (R214) -/

section
variable (hf : followerOf s m.handle = some f)
include hf

theorem bodyMotGearHold_ok (hop : m.u 1 1 = 0) :
    bodyMotGearHold m s = .done .ok [] (modFollower f (fun g => { g with st := .held }) s) := by
  unfold bodyMotGearHold
  rw [hf]
  exact if_pos hop

theorem bodyMotGearFree_ok (hop : m.u 1 1 = 1) : bodyMotGearFree m s = .done .ok []
    (modFollower f (fun g => { g with st := .free, blend := none, queue := [], regear := none }) s) := by
  unfold bodyMotGearFree
  rw [hf]
  exact if_pos hop

/-- A HELD or FREE follower waits for the position at which it is to be geared. -/
theorem bodyMotGearRegear_later (hop : m.u 1 1 = 2) (hden : m.u 8 4 ≠ 0) (hst : (gearOf s f).st ≠ .geared) :
    bodyMotGearRegear m s =
      .later (modFollower f (fun g => { g with regear := some (m.i 4 4, m.u 8 4, m.i 12 6) }) s) := by
  unfold bodyMotGearRegear
  rw [hf]
  exact if_neg fun h => h.elim (absurd hop) fun h => h.elim hden hst

theorem bodyMotGearRegear_range (hst : (gearOf s f).st = .geared) : bodyMotGearRegear m s = refuse .range s := by
  unfold bodyMotGearRegear
  rw [hf]
  exact if_pos (.inr (.inr hst))

/-! ### MOT_RATIO (R215, R216) -/

/-- A change that is clear of the others and in range takes its place among those that wait. -/
theorem bodyMotRatio_ok (hfull : (gearOf s f).queue.length < 4) (hclear : ratioClear (gearOf s f) (ratioAsked m))
    (hrange : ratioInRange s f (ratioAsked m)) : bodyMotRatio m s =
      .done .ok (leBytes 1 (((queuedWith (gearOf s f) (ratioAsked m)).findIdx? fun x => x == ratioAsked m).getD 0))
        (modFollower f (fun g => { g with queue := queuedWith (gearOf s f) (ratioAsked m) }) s) := by
  obtain ⟨hq, hb⟩ := hclear
  unfold bodyMotRatio
  rw [hf]
  refine (if_neg hfull.not_ge).trans ((if_neg fun hclash => ?_).trans (if_neg hrange.not_refused))
  rcases Bool.or_eq_true_iff.1 hclash with hany | hrun
  · exact Bool.eq_false_iff.1 (any_overlap_eq_false hq) hany
  · split at hrun
    next c v hg => exact (hb c v hg).not_gt (of_decide_eq_true hrun)
    next => exact Bool.false_ne_true hrun

theorem bodyMotRatio_full (hfull : 4 ≤ (gearOf s f).queue.length) : bodyMotRatio m s = refuse .refusedFull s := by
  unfold bodyMotRatio
  rw [hf]
  exact if_pos hfull

/-! ### MOT_RATIO_CANCEL (R216) and MOT_PHASE (R217) -/

theorem bodyMotRatioCancel_ok (hq : ∃ r ∈ (gearOf s f).queue, r.xs = m.i 2 6) :
    bodyMotRatioCancel m s = .done .ok []
      (modFollower f (fun g => { g with queue := g.queue.filter fun r => r.xs != m.i 2 6 }) s) := by
  have hany : ((gearOf s f).queue.any fun r => r.xs == m.i 2 6) = true := by simpa using hq
  unfold bodyMotRatioCancel
  rw [hf]
  exact if_pos hany

/-- The blend that runs is not cancelled. -/
theorem bodyMotRatioCancel_conflict {r : RatioChg} {v : Int} (hq : ∀ c ∈ (gearOf s f).queue, c.xs ≠ m.i 2 6)
    (hb : (gearOf s f).blend = some (r, v)) (hr : r.xs = m.i 2 6) : bodyMotRatioCancel m s = refuse .conflict s := by
  have hany : ((gearOf s f).queue.any fun r => r.xs == m.i 2 6) = false := by simpa using hq
  unfold bodyMotRatioCancel
  rw [hf]
  simp only [hany, hb, hr, Bool.false_eq_true, if_false, if_true]

theorem bodyMotPhase_ok (hd : 32 ≤ m.u 14 2) : bodyMotPhase m s =
    .done .ok [] (modFollower f (fun g => g.setPhase (m.i 4 4) (m.i 8 6) (m.u 14 2)) s) := by
  unfold bodyMotPhase
  rw [hf]
  exact if_neg hd.not_gt

end

/-- Settles O19: each command by its body's equation. -/
theorem gearingCommandsComplete : Obligations.GearingCommandsComplete := by
  unfold Obligations.GearingCommandsComplete
  refine ⟨?hold, ?free, ?regear, ?regearGeared, ?ratio, ?ratioFull, ?cancel, ?cancelBlend, ?phase⟩
  case hold =>
    intro m s f e h hf hop
    exact runCmd_ok h (bodyMotGearHold_ok hf hop)
  case free =>
    intro m s f e h hf hop
    exact runCmd_ok h (bodyMotGearFree_ok hf hop)
  case regear =>
    intro m s f e h hf hop hden hst
    exact congrArg _ (runCmd_later h (bodyMotGearRegear_later hf hop hden hst))
  case regearGeared =>
    intro m s f e h hf hst
    exact congrArg _ (runCmd_done h (bodyMotGearRegear_range hf hst) (by decide))
  case ratio =>
    intro m s f e g r q h hf hfull hq hb hden hd hx ha
    exact runCmd_ok h (bodyMotRatio_ok hf hfull ⟨hq, hb⟩ ⟨hden, hd, hx, ha⟩)
  case ratioFull =>
    intro m s f e h hf hfull
    exact congrArg _ (runCmd_done h (bodyMotRatio_full hf hfull) (by decide))
  case cancel =>
    intro m s f e h hf hq
    exact runCmd_ok h (bodyMotRatioCancel_ok hf hq)
  case cancelBlend =>
    intro m s f r v e h hf hq hb hr
    exact congrArg _ (runCmd_done h (bodyMotRatioCancel_conflict hf hq hb hr) (by decide))
  case phase =>
    intro m s f e h hf hd
    exact runCmd_ok h (bodyMotPhase_ok hf hd)

end Sys2Proof.Machine
end

section
/-! SUPPORT. MOT_HOME, MOT_MOVE and MOT_SOL_FIRE (O20): what the body of each answers in the state it enters (R222, R262,
R263, R404). -/

namespace Sys2Proof.Machine

open Sys2Proof

variable {m : Cmd} {s : State} {a k : Nat}

/-! ### Motor axes (R222, R404) -/

/-- The target of a MOT_MOVE of axis `a`, counts. -/
def moveTarget (m : Cmd) (s : State) (a : Nat) : Int :=
  if m.u 1 1 = 1 then (s.axis a).gear.cmd / 65536 + m.i 4 4 else m.i 4 4

section
variable (hf : followerOf s m.handle = some (.axis a))
include hf

/-- Homing begins with the fast approach, or backs off when the home input is active. -/
theorem bodyMotHome_later (hst : (s.axis a).gear.st = .free) : bodyMotHome m s = .later (modAxis a (fun x => { x with
    homed := false, home := if inputLevel s (s.cfgGet 0x09 a 60 2) then .backoff else .fast, homeDiv := 1,
    homeTravel := 0, move := none }) s) := by
  unfold bodyMotHome
  rw [hf]
  exact if_neg (not_not.2 hst)

theorem bodyMotHome_conflict (hst : (s.axis a).gear.st ≠ .free) : bodyMotHome m s = refuse .conflict s := by
  unfold bodyMotHome
  rw [hf]
  exact if_pos hst

/-- A move goes to an absolute position of a homed axis only. -/
theorem bodyMotMove_later (hst : (s.axis a).gear.st = .free) (hv : m.u 8 4 ≠ 0)
    (hk : m.u 1 1 = 1 ∨ (m.u 1 1 = 0 ∧ (s.axis a).homed = true)) :
    bodyMotMove m s = .later (modAxis a (fun x => { x with move := some (moveTarget m s a, m.u 8 4) }) s) := by
  unfold bodyMotMove
  rw [hf]
  rcases hk with hrel | ⟨habs, hh⟩
  · simp [moveTarget, hst, hv, hrel, bitOf]
  · simp [moveTarget, hst, hv, habs, hh, bitOf]

theorem bodyMotMove_conflict (hst : (s.axis a).gear.st ≠ .free) (hv : m.u 8 4 ≠ 0) (hk : m.u 1 1 ≤ 1) :
    bodyMotMove m s = refuse .conflict s := by
  unfold bodyMotMove
  rw [hf]
  simp [hst, hv, hk.not_gt]

end

/-! ### Solenoids (R262, R263) -/

/-- Solenoid `k` pulsed from `t` for a hold of `hold` ms after its peak. -/
def pulsed (k t hold tag : Nat) (s : State) : State :=
  (s.modSols fun l => kvMod {} l k fun x =>
    { x with start := t, holdEnd := t + peakUs s k + 1000 * hold, tag := tag }).send
      (.solenoid k t (t + peakUs s k + 1000 * hold))

section
variable {now hold tag : Nat} (hi : (s.sol k).holdEnd ≤ now)
include hi

/-- A solenoid whose pulse is over fires anew, at the first instant that breaches no rule. -/
theorem fireSol_idle :
    fireSol k now hold tag s = (fireAt s k now (1000 * hold)).map fun t => pulsed k t hold tag s := by
  simp only [fireSol, hi.not_gt, if_false]
  cases fireAt s k now (1000 * hold) <;> rfl

/-- Without a partner it fires at once. -/
theorem fireSol_alone (hp : s.cfgGet 0x0D k 3 1 = 0xFF) : fireSol k now hold tag s = some (pulsed k now hold tag s) := by
  have hnow : fireAt s k now (1000 * hold) = some now := by simp only [fireAt, hp, if_true]
  rw [fireSol_idle hi, hnow, Option.map_some]

theorem fireSol_none (hd : fireAt s k now (1000 * hold) = none) : fireSol k now hold tag s = none := by
  rw [fireSol_idle hi, hd, Option.map_none]

end

section
variable (hr : s.cfg.cur.rank 0x0C m.handle = some k) (ht : s.cfg.cur.typeOf m.handle = 0x0C)
include hr ht

theorem bodyMotSolFire_release (hop : m.u 1 1 = 1) (hst : (liveOf s (hIndex m.handle)).st = .ready) :
    bodyMotSolFire m s = .done .ok [] (releaseSol k (nextCycle s) s) := by
  unfold bodyMotSolFire
  rw [hr]
  simp [ht, hop, hst, bitOf]

section
variable (hop : m.u 1 1 = 0) (hlo : 1 ≤ m.u 2 2) (hhi : m.u 2 2 ≤ 10000)
include hop hlo hhi

/-- A fire that some instant admits is made when the solenoid is READY. -/
theorem bodyMotSolFire_fired {t : State} (hfire : fireSol k (nextCycle s) (m.u 2 2) m.tag.toNat s = some t)
    (hst : (liveOf s (hIndex m.handle)).st = .ready) : bodyMotSolFire m s = .done .ok [] t := by
  unfold bodyMotSolFire
  rw [hr]
  simp [ht, hop, bitOf, between_eq_true.2 ⟨hlo, hhi⟩, hfire, hst]

theorem bodyMotSolFire_denied (hfire : fireSol k (nextCycle s) (m.u 2 2) m.tag.toNat s = none) :
    bodyMotSolFire m s = refuse .overlapDenied s := by
  unfold bodyMotSolFire
  rw [hr]
  simp [ht, hop, bitOf, between_eq_true.2 ⟨hlo, hhi⟩, hfire]

end
end

/-- Settles O20: each command by its body's equation, a fire by its pulse's. -/
theorem axisAndSolenoidCommandsComplete : Obligations.AxisAndSolenoidCommandsComplete := by
  unfold Obligations.AxisAndSolenoidCommandsComplete
  refine ⟨?home, ?homeConflict, ?move, ?moveConflict, ?release, ?fire, ?denied⟩
  case home =>
    intro m s a e ph h hf hst
    exact congrArg _ (runCmd_later h (bodyMotHome_later hf hst))
  case homeConflict =>
    intro m s a e h hf hst
    exact congrArg _ (runCmd_done h (bodyMotHome_conflict hf hst) (by decide))
  case move =>
    intro m s a e t h hf hst hv hk
    exact congrArg _ (runCmd_later h (bodyMotMove_later hf hst hv hk))
  case moveConflict =>
    intro m s a e h hf hst hv hk
    exact congrArg _ (runCmd_done h (bodyMotMove_conflict hf hst hv hk) (by decide))
  case release =>
    intro m s k e h hr ht hop hst
    exact runCmd_ok h (bodyMotSolFire_release hr ht hop hst)
  case fire =>
    intro m s k e t stop h hr ht hop hlo hhi hst hi hp
    exact runCmd_ok h (bodyMotSolFire_fired hr ht hop hlo hhi (fireSol_alone hi hp) hst)
  case denied =>
    intro m s k e h hr ht hop hlo hhi hi hd
    exact congrArg _ (runCmd_done h (bodyMotSolFire_denied hr ht hop hlo hhi (fireSol_none hi hd)) (by decide))

end Sys2Proof.Machine
end

section
/-! SUPPORT. What a follower's gear keeps (O46): the exact ratio with its remainder, the speed of a HELD follower, the way
back to GEARED, and what stops an axis (R213, R214, R221, R241). That a HELD follower advances by whole follower units,
rounded down each cycle, is log entry 82; that an input whose chatter was told begins its list of transitions anew is log
entry 182. -/

namespace Sys2Proof.Machine

open Sys2Proof

variable {s : State} {g : Gear} {cyc : Bool} {x v : Rat} {dn : Int}

/-! ### The exact ratio (R213) -/

/-- A follower's position in shares 1/den of a follower unit, the remainder in its accumulator counted. -/
def Gear.account (g : Gear) : Int := g.cmd * g.den + g.acc

/-- Outside a blend the advance's share goes into the accumulator, and its whole units into the command. -/
theorem follow_unblended (hb : g.blend = none) (hd : g.den ≠ 0) : g.follow cyc x dn = { g with
    acc := (g.acc + dn * g.num) % g.den, cmd := g.cmd + (g.acc + dn * g.num) / g.den } := by
  simp only [Gear.follow, hb, hd, if_false, Int.emod_def, mul_comm (g.den : Int)]

section
variable (hb : g.blend = none) (hd : g.den ≠ 0)
include hb hd

/-- The account grows by exactly the newel's advance times the numerator. -/
theorem account_follow : (g.follow cyc x dn).account = g.account + dn * g.num := by
  rw [follow_unblended hb hd]
  have hdiv := Int.ediv_mul_add_emod (g.acc + dn * g.num) g.den
  simp only [Gear.account, add_mul]
  omega

theorem follow_acc_bounds : 0 ≤ (g.follow cyc x dn).acc ∧ (g.follow cyc x dn).acc < g.den := by
  rw [follow_unblended hb hd]
  exact ⟨Int.emod_nonneg _ (by omega), Int.emod_lt_of_pos _ (by omega)⟩

theorem follow_frame : (g.follow cyc x dn).num = g.num ∧ (g.follow cyc x dn).den = g.den ∧
    (g.follow cyc x dn).blend = none := by
  rw [follow_unblended hb hd]
  exact ⟨rfl, rfl, hb⟩

end

/-- The account read as a change of the command and of the accumulator. -/
theorem moved_of_account {h : Gear} {k : Int} (hd : h.den = g.den) (e : h.account = g.account + k) :
    (h.cmd - g.cmd) * g.den + h.acc = g.acc + k := by
  rw [Gear.account, Gear.account, hd] at e
  rw [sub_mul]
  omega

/-- Over any list of advances the account grows by their sum times the numerator, the accumulator staying a remainder. -/
theorem foldl_follow (moves : List (Rat × Int)) {g : Gear} (hb : g.blend = none) (hd : g.den ≠ 0) (h0 : 0 ≤ g.acc)
    (hlt : g.acc < g.den) :
    let h := moves.foldl (fun g m => g.follow cyc m.1 m.2) g
    h.account = g.account + (moves.map (·.2)).sum * g.num ∧ h.den = g.den ∧ 0 ≤ h.acc ∧ h.acc < g.den := by
  induction moves generalizing g with
  | nil => simp [h0, hlt]
  | cons m ms ih =>
    obtain ⟨hnum, hden, hblend⟩ := follow_frame (cyc := cyc) (x := m.1) (dn := m.2) hb hd
    obtain ⟨hlo, hhi⟩ := follow_acc_bounds (cyc := cyc) (x := m.1) (dn := m.2) hb hd
    obtain ⟨hacc, hd', hrest⟩ := ih hblend (hden ▸ hd) hlo (hden.symm ▸ hhi)
    refine ⟨?_, hd'.trans hden, hden ▸ hrest⟩
    rw [List.foldl_cons, hacc, account_follow hb hd, hnum, List.map_cons, List.sum_cons, add_mul, add_assoc]

/-! ### HELD and FREE (R214) -/

theorem cycle_held (h : g.st = .held) : g.cycle cyc x dn v = { g with cmd := g.cmd + (g.ff * 16 / 1000000).floor } := by
  simp only [Gear.cycle, h]

theorem cycle_free (h : g.st = .free) : g.cycle cyc x dn v = g := by
  simp only [Gear.cycle, h]

/-! ### Regearing (R214) -/

section
variable {n p : Int} {d : Nat} (hr : g.regear = some (n, d, p))
include hr

theorem regearAt_matched (hx : (p : Rat) ≤ x) (hm : matched g.ff v (ratioOf n d) = true) : g.regearAt x v =
    ({ g with st := .geared, num := n, den := d, acc := 0, blend := none, queue := [], regear := none }, some true) := by
  simp only [Gear.regearAt, hr, hx, hm, if_true]

theorem regearAt_unmatched (hx : (p : Rat) ≤ x) (hm : matched g.ff v (ratioOf n d) = false) :
    g.regearAt x v = ({ g with regear := none }, some false) := by
  simp only [Gear.regearAt, hr, hx, hm, if_true, Bool.false_eq_true, if_false]

theorem regearAt_early (hx : x < p) : g.regearAt x v = (g, none) := by
  simp only [Gear.regearAt, hr, hx.not_ge, if_false]

end

/-! ### Following errors (R241) -/

section
variable {a : Nat}

theorem exec_axisFollowingTimeout : exec (.axisFollowingTimeout a) s = execAxisFollowingTimeout a s := rfl

/-- The distance of an axis from its command, counts. -/
def followingError (s : State) (a : Nat) : Rat := absRat (((s.axis a).gear.cmd : Rat) / 65536 - (s.axis a).pos)

/-- An error beyond the limit stops the axis, class 3 when it is GEARED. -/
theorem execAxisFollowingTimeout_beyond (he : (axF s a 108 4 : Rat) < followingError s a) (h0 : axF s a 108 4 ≠ 0)
    (hf : (s.axis a).fault = false) : execAxisFollowingTimeout a s =
      .next (raiseAs (if (s.axis a).gear.st = .geared then 3 else 2) 0 0x0E02 (axH s a) 0 a
        (modAxis a (fun x => { x with fault := true }) s)) :=
  congrArg _ (if_pos ⟨he, h0, hf⟩)

theorem execAxisFollowingTimeout_within (h : followingError s a ≤ (axF s a 108 4 : Rat) ∨ axF s a 108 4 = 0) :
    execAxisFollowingTimeout a s = .next s :=
  congrArg _ (if_neg fun ⟨he, h0, _⟩ => h.elim he.not_ge h0)

end

/-! ### Limit inputs (R221) -/

section
variable {h : Handle} {b : Bool} {c : Int}

theorem exec_limitInputAccepted : exec (.limitInputAccepted h b c) s = execLimitInputAccepted h b c s := rfl

/-- The transitions of an input in the 50 ms that end now, this one among them. -/
def freshEdges (h : Handle) (s : State) : List Nat :=
  s.ring.cyc :: (kvGet [] s.ring.edges (hIndex h)).filter fun c => decide (s.ring.cyc ≤ c + 3125)

/-- The state once an input's new level is kept. -/
def levelKept (h : Handle) (b : Bool) (s : State) : State :=
  s.modRing fun r =>
    { r with inputs := kvSet r.inputs (hIndex h) b, edges := kvSet r.edges (hIndex h) (freshEdges h s) }

variable (hq : (kvGet [] s.ring.edges (hIndex h)).length < 3)
include hq

theorem freshEdges_length : (freshEdges h s).length < 4 := by
  have hle := List.length_filter_le (fun c => decide (s.ring.cyc ≤ c + 3125)) (kvGet [] s.ring.edges (hIndex h))
  rw [freshEdges, List.length_cons]
  omega

/-- An input that does not chatter keeps its level and acts on the axes that name it alone. -/
theorem execLimitInputAccepted_quiet : execLimitInputAccepted h b c s = .next ((axesOf s h).foldl
    (fun t a => if (t.axis a).home = .none then (if b then limitTrip a h t else t) else homeInput a h b c t)
    (levelKept h b s)) := by
  have hfew : decide (4 ≤ (freshEdges h s).length) = false := decide_eq_false (freshEdges_length hq).not_ge
  rw [freshEdges] at hfew
  simp only [execLimitInputAccepted, hfew, Bool.false_and, Bool.false_eq_true, if_false]
  rfl

theorem execLimitInputAccepted_unnamed (ha : axesOf s h = []) :
    execLimitInputAccepted h b c s = .next (levelKept h b s) := by
  rw [execLimitInputAccepted_quiet hq, ha]
  rfl

/-- The limit of one axis that does not home trips it when it lies in its direction. -/
theorem execLimitInputAccepted_trips {a : Nat} (ha : axesOf s h = [a]) (hh : (s.axis a).home = .none) :
    execLimitInputAccepted h true c s = .next (limitTrip a h (levelKept h true s)) := by
  rw [execLimitInputAccepted_quiet hq, ha]
  exact congrArg _ (if_pos hh)

end

/-- Settles O46: the ratio by the account that every advance keeps, the rest by the equations of each case. -/
theorem followersNeverDeviate : Obligations.FollowersNeverDeviate := by
  unfold Obligations.FollowersNeverDeviate
  refine ⟨?follow, ?advances, fun _ _ _ _ _ => ⟨cycle_held, cycle_free⟩, ?regear, ?following, ?unnamed, ?limit⟩
  case follow =>
    intro cyc x dn g hb hd h
    obtain ⟨hnum, hden, hblend⟩ := follow_frame hb hd
    obtain ⟨hlo, hhi⟩ := follow_acc_bounds hb hd
    exact ⟨moved_of_account hden (account_follow hb hd), hlo, hhi, hnum, hden, hblend⟩
  case advances =>
    intro cyc moves g hb hd h0 hlt h
    obtain ⟨hacc, hden, hrange⟩ := foldl_follow moves hb hd h0 hlt
    exact ⟨moved_of_account hden hacc, hrange⟩
  case regear =>
    intro x v n d p g hr
    refine ⟨fun hx hm => ?_, regearAt_unmatched hr, regearAt_early hr⟩
    rw [regearAt_matched hr hx hm]
    exact ⟨rfl, rfl, rfl, rfl, rfl, rfl⟩
  case following =>
    intro a s x err t
    refine ⟨fun he h0 hf => ⟨fun hst => ?_, fun hst => ?_⟩, execAxisFollowingTimeout_within⟩
    · rw [exec_axisFollowingTimeout, execAxisFollowingTimeout_beyond he h0 hf, if_pos hst]
    · rw [exec_axisFollowingTimeout, execAxisFollowingTimeout_beyond he h0 hf, if_neg hst]
  case unnamed =>
    intro h b c s ha hq
    exact ⟨levelKept h b s, exec_limitInputAccepted.trans (execLimitInputAccepted_unnamed hq ha),
      kvGet_kvSet_self .., rfl, rfl⟩
  case limit =>
    intro h c a s ha hh hq
    exact ⟨levelKept h true s, exec_limitInputAccepted.trans (execLimitInputAccepted_trips hq ha hh), rfl⟩

end Sys2Proof.Machine
end

section
/-! SUPPORT. The node ring (O48): what a cycle does, what a missing record sets off, the ports, the enumeration of a loop
without nodes, loop tests and the replies of nodes (R213, R244, R246, R252 to R254, R257 to R260, R346). That faults of a
ring segment are told against NRE or NRW is log entry 90. -/

namespace Sys2Proof.Machine

open Sys2Proof

variable {s : State} {n : Nat} {ups : List NodeUp}

/-! ### The arms -/

theorem exec_ringCycle : exec (.ringCycle ups) s = execRingCycle ups s := rfl

theorem exec_ringPortDown (p : Nat) : exec (.ringPortDown p) s = execRingPortDown p s := rfl

theorem exec_ringEnumeration (cw ccw : Nat) (found : List RingPos) :
    exec (.ringEnumeration cw ccw found) s = execRingEnumeration cw ccw found s := rfl

theorem exec_loopTestRead (o : Option Nat) (ends : List (Nat × Nat)) :
    exec (.loopTestRead o ends) s = execLoopTestRead o ends s := rfl

theorem exec_nodeMailboxReply (tag st v : Nat) :
    exec (.nodeMailboxReply n tag st v) s = execNodeMailboxReply n tag st v s := rfl

/-! ### The cycle (R213, R246, R346) -/

/-- The state at the boundary of a cycle: counted, and the mirror judged. -/
def cycleBegun (s : State) : State := pairTick (s.modRing fun r => { r with cyc := r.cyc + 1 })

theorem execRingCycle_standby (h : standby (cycleBegun s) = true) :
    execRingCycle ups s = .next (sendMirror (cycleBegun s)) :=
  congrArg _ (if_pos h)

theorem execRingCycle_master (h : standby (cycleBegun s) = false) :
    execRingCycle ups s = .next (ringOut (ringFollow (ringWeb s (ringIn ups (cycleBegun s))))) :=
  congrArg _ (if_neg (Bool.eq_false_iff.1 h))

/-! ### Up records (R260) -/

theorem nodeRecords_down (h : s.ring.cyclic = false) : nodeRecords ups s = s := by
  simp only [nodeRecords, h, Bool.not_false, if_true]

theorem hvTick_idle (h : s.ring.hvTest = []) : hvTick s = s := by
  simp only [hvTick, h, List.filter_nil, List.foldl_nil]

/-- The nodes whose record a cycle waits for. -/
def heard (s : State) : List Nat := (s.ring.nodes.filter fun p => p.2.slot && !p.2.lost).map (·.1)

section
variable {y : Node}

theorem heard_one (hn : s.ring.nodes = [(n, y)]) (hs : y.slot = true) (hl : y.lost = false) : heard s = [n] := by
  simp [heard, hn, hs, hl]

variable (hc : s.ring.cyclic = true) (hh : heard s = [n])
include hc hh

/-- A cycle that waits for one node takes its record in, or misses it. -/
theorem nodeRecords_of_one : nodeRecords ups s =
    (ups.find? fun u => u.node == n).elim (recordMissing n s) fun u => nodeRecord u s := by
  rw [heard] at hh
  simp only [nodeRecords, hc, hh, Bool.not_true, Bool.false_eq_true, if_false, List.foldl_cons, List.foldl_nil]
  cases ups.find? fun u => u.node == n <;> rfl

theorem nodeRecords_missing (hu : ∀ u ∈ ups, u.node ≠ n) : nodeRecords ups s = recordMissing n s := by
  have hnone : (ups.find? fun u => u.node == n) = none := List.find?_eq_none.2 fun u h => by simpa using hu u h
  rw [nodeRecords_of_one hc hh, hnone, Option.elim_none]

theorem nodeRecords_present {u : NodeUp} (hu : u.node = n) : nodeRecords [u] s = nodeRecord u s := by
  have hsome : ([u].find? fun u => u.node == n) = some u := List.find?_cons_of_pos (by simpa using hu)
  rw [nodeRecords_of_one hc hh, hsome, Option.elim_some]

end

/-- The state once a missing record is counted and noted. -/
def missNoted (n : Nat) (s : State) : State :=
  note 0x1201 (nodeH s n) 0 (modNode n (fun x => { x with missing := (s.node n).missing + 1 }) s)

/-- A node without units that is not heard: the loop test from the fourth time in a row, lost at the eighth. -/
theorem recordMissing_unloaded (hu : unitsOn s.cfg.cur (nodeH s n) = []) : recordMissing n s =
    if (s.node n).missing + 1 = 4 then raise 0x1201 (nodeH s n) 0 n (missNoted n s)
    else if (s.node n).missing + 1 = 8 then retireNode (nodeH s n) (raise 0x1202 (nodeH s n) 0 n (missNoted n s))
    else missNoted n s := by
  simp only [recordMissing, note_cfg, modNode_cfg, hu, List.foldl_nil]
  rfl

/-! ### Ports (R244, R259) -/

/-- The state once a port is down: frames turn at the break. -/
def portDown (p : Nat) (s : State) : State := s.modRing fun r => { r with up := kvSet r.up p false, broken := true }

theorem execRingPortDown_eq (p : Nat) : execRingPortDown p s =
    .next (if reportable s (ringPortH p) then raise 0x1101 (ringPortH p) 0 p (portDown p s) else portDown p s) := rfl

/-! ### Enumeration (R252, R253) -/

/-- The state while a loop of length `l` is judged. -/
def loopMeasured (l : Nat) (s : State) : State :=
  s.modRing fun r => { r with loopNs := l, cyclic := false, outService := false }

/-- A ring that is out of service. -/
def ringOutOfService (s : State) : State := s.modRing fun r => { r with outService := true }

/-- A ring that runs, as a line while a port is down. -/
def ringCyclic (s : State) : State :=
  s.modRing fun r => { r with cyclic := true, broken := !(kvGet false r.up 0 && kvGet false r.up 1) }

/-- Enumeration of a loop without nodes judges its two times alone. -/
theorem execRingEnumeration_empty (cw ccw : Nat) (hn : nodesOn s = []) (hr : s.ring.nodes = []) :
    execRingEnumeration cw ccw [] s = .next (
      if 10 < (cw - ccw) + (ccw - cw) then
        raise 0x1103 (ringPortH 0) 0 (max cw ccw) (ringOutOfService (loopMeasured (max cw ccw) s))
      else if 16000 < 2 * max cw ccw + 3000 ∨ 135000 < (17 + slotArea s.cfg.cur) * 32 + 10 * max cw ccw then
        raise 0x1102 (ringPortH 0) 0 (max cw ccw) (ringOutOfService (loopMeasured (max cw ccw) s))
      else ringCyclic (loopMeasured (max cw ccw) s)) := by
  have hmeasured : (s.modRing fun r => { r with
      loopNs := max cw ccw, cyclic := false, outService := false
      nodes := r.nodes.map fun p => (p.1, { p.2 with slot := false }) }) = loopMeasured (max cw ccw) s := by
    simp only [loopMeasured, State.modRing, hr, List.map_nil]
  have hnodes : nodesOn (loopMeasured (max cw ccw) s) = [] := hn
  simp only [execRingEnumeration, List.zipIdx_nil, List.filter_nil, List.foldl_nil, List.any_nil, hmeasured, hnodes,
    Bool.false_eq_true, or_false]
  rfl

/-! ### Loop tests (R258 to R260) -/

/-- With no command waiting, the end of a self-test returns nothing to service. -/
theorem returnEnded_unasked (pass : Bool) (h : Handle) (sel : Nat) (hw : s.mbx.waiters = []) :
    returnEnded pass h sel s = s := by
  simp only [returnEnded, hw, List.any_nil, Bool.not_false, if_true]

theorem execLoopTestRead_unasked (ends : List (Nat × Nat)) (ho : ∀ h, openOn s h 0x1101 = false)
    (hw : s.mbx.waiters = []) : execLoopTestRead none ends s = .next s := by
  simp only [execLoopTestRead, List.foldl_cons, List.foldl_nil, ho, Bool.false_eq_true, if_false,
    returnEnded_unasked _ _ _ hw]

/-! ### Replies of nodes (R254, R257) -/

/-- A node whose request of operation `op` is answered with status `st`. -/
def requestAnswered (op st v : Nat) (arg : Nat × Nat × Nat) (x : Node) : Node :=
  { x with
    req := none, turns := 0
    params := if op = 3 ∧ st = 0 then (x.params.filter fun p => !(p.1 == arg.1 && p.2.1 == arg.2.1)) ++ [arg] else x.params
    read := if op = 4 ∧ st = 0 then kvSet x.read (paramKey arg.1 arg.2.1) v else x.read }

section
variable {op tag st v : Nat} (hr : (s.node n).req = some (op, tag))
include hr

theorem execNodeMailboxReply_answered : execNodeMailboxReply n tag st v s =
    .next (modNode n (requestAnswered op st v (s.node n).reqArg) s) := by
  simp only [execNodeMailboxReply, hr, ne_eq, not_true_eq_false, if_false]
  rfl

theorem execNodeMailboxReply_other {k : Nat} (hk : k ≠ tag) : execNodeMailboxReply n k st v s = .next s := by
  simp only [execNodeMailboxReply, hr, ne_eq, hk.symm, not_false_eq_true, if_true]

end

section
variable {v : Nat} {arg : Nat × Nat × Nat}

/-- A PARAM_READ that succeeds keeps the value that the node answers. -/
theorem requestAnswered_read : requestAnswered 4 0 v arg =
    fun x => { x with req := none, turns := 0, read := kvSet x.read (paramKey arg.1 arg.2.1) v } := rfl

/-- A PARAM_WRITE that succeeds keeps the parameter as written. -/
theorem mem_params_requestAnswered (x : Node) : arg ∈ (requestAnswered 3 0 v arg x).params :=
  List.mem_append_right _ (List.mem_singleton_self arg)

/-- A request that the node turns away frees the window alone. -/
theorem requestAnswered_refused {op st : Nat} (hst : st ≠ 0) : requestAnswered op st v arg =
    fun x => { x with req := none, turns := 0 } := by
  funext x
  simp only [requestAnswered, hst, and_false, if_false]

end

/-- Settles O48: the cycle by its two branches, the records, the enumeration and the replies by their equations. -/
theorem theRingCyclesAndEnumerates : Obligations.TheRingCyclesAndEnumerates := by
  unfold Obligations.TheRingCyclesAndEnumerates
  refine ⟨fun _ _ => ⟨execRingCycle_standby, execRingCycle_master⟩, ?ringIn, ?records, ?missing, ?ports, ?enumeration,
    fun _ _ _ => rfl, fun ends _ ho hw => execLoopTestRead_unasked ends ho hw, ?replies⟩
  case ringIn =>
    intro ups s hc ht
    rw [ringIn, nodeRecords_down, hvTick_idle]
    · exact ht
    · exact hc
  case records =>
    intro ups n y s hc hn hs hl
    refine ⟨nodeRecords_missing hc (heard_one hn hs hl), ?_⟩
    rintro u rfl hu
    exact nodeRecords_present hc (heard_one hn hs hl) hu
  case missing =>
    intro n s hu k t
    refine ⟨fun h4 => ?_, fun h8 => ?_, fun h4 h8 => ?_⟩
    · exact (recordMissing_unloaded hu).trans (if_pos h4)
    · exact (recordMissing_unloaded hu).trans ((if_neg (by omega)).trans (if_pos h8))
    · exact (recordMissing_unloaded hu).trans ((if_neg h4).trans (if_neg h8))
  case ports =>
    intro p s
    refine ⟨rfl, fun h => ?_, fun h => ?_⟩
    · rw [exec_ringPortDown, execRingPortDown_eq, if_pos h]
      rfl
    · rw [exec_ringPortDown, execRingPortDown_eq, if_neg (Bool.eq_false_iff.1 h)]
      rfl
  case enumeration =>
    intro cw ccw s hn hr l apart long t out
    have heq := (exec_ringEnumeration cw ccw []).trans (execRingEnumeration_empty cw ccw hn hr)
    refine ⟨fun ha => ?_, fun ha hl => ?_, fun ha hl => ?_⟩
    · exact heq.trans (congrArg _ (if_pos ha))
    · exact heq.trans (congrArg _ ((if_neg ha).trans (if_pos hl)))
    · exact heq.trans (congrArg _ ((if_neg ha).trans (if_neg hl)))
  case replies =>
    intro n tag st v op s hr arg
    have heq := (exec_nodeMailboxReply tag st v).trans (execNodeMailboxReply_answered hr)
    refine ⟨?read, ?write, fun hst => ?_, fun k hk => execNodeMailboxReply_other hr hk⟩
    case read =>
      rintro rfl rfl
      exact heq
    case write =>
      rintro rfl rfl
      refine ⟨_, heq, ?_, ?_, rfl⟩
      · rw [node_modNode_self]
        exact mem_params_requestAnswered _
      · rw [node_modNode_self]
        rfl
    · rw [heq, requestAnswered_refused hst]

end Sys2Proof.Machine
end

section
/-! SUPPORT. What a step runs (O1), and that every command answers a next state but the release into the factory test
(O59) (R436, 01_architecture.md). -/

namespace Sys2Proof.Machine

open Sys2Proof

/-- Settles O1: the queue's first command by the definition of a step. -/
theorem stepRunsFrontCommand : Obligations.StepRunsFrontCommand := fun _ _ _ => ⟨rfl, rfl⟩

/-! ### PORST_N_RELEASE (R436) -/

variable {p b : Nat} {s : State}

theorem execPorstNRelease_factoryTest (h : s.boot.porst = true) :
    exec (.porstNRelease p b true) s = .fault .factoryTest := by
  change execPorstNRelease p b true s = _
  simp only [execPorstNRelease, h, Bool.not_true, Bool.false_eq_true, if_false, if_true]

theorem execPorstNRelease_released (h : s.boot.porst = false) (e : Bool) :
    exec (.porstNRelease p b e) s = .next s := by
  change execPorstNRelease p b e s = _
  simp only [execPorstNRelease, h, Bool.not_false, if_true]

/-- The state that the release leaves: a power cycle counted, the straps sampled. -/
def released (p b : Nat) (s : State) : State :=
  (leaveReset s).modBoot fun x =>
    { x with pairSlot := p % 2, bootMode := b % 4, stage := if 2 ≤ b % 4 then .none else .rom }

theorem execPorstNRelease_releases (h : s.boot.porst = true) :
    exec (.porstNRelease p b false) s = .next (released p b s) := by
  change execPorstNRelease p b false s = _
  simp only [execPorstNRelease, h, Bool.not_true, Bool.false_eq_true, if_false, released]

/-! ### Every other command -/

/-- Every other command's meaning is a next state. -/
theorem exec_next (c : Instr) (s : State) (h : ∀ p b e, c ≠ .porstNRelease p b e) : ∃ t, exec c s = .next t := by
  cases c with
  | porstNRelease p b e => exact absurd rfl (h p b e)
  | _ => exact ⟨_, rfl⟩

/-- Settles O59: PORST_N_RELEASE by the line it releases, every other command by `exec_next`. -/
theorem noCommandIsRefused : Obligations.NoCommandIsRefused := by
  refine ⟨exec_next, fun p b e s => ⟨fun h he => ?_, fun h => ?_⟩⟩
  · subst he
    exact execPorstNRelease_factoryTest h
  · cases hp : s.boot.porst with
    | false => exact ⟨_, execPorstNRelease_released hp e⟩
    | true =>
      obtain rfl : e = false := h.resolve_left (by simp [hp])
      exact ⟨_, execPorstNRelease_releases hp⟩

end Sys2Proof.Machine
end

section
/-! SUPPORT. The mailbox: the checks of a command in the order of Table 20-4 (O5), messages arriving in host datagrams
(O6), index and slot writes on the management SPI (O7), and responses (O8) and events (O9) leaving (R387 to R396). That
the selector check stands between checks 4 and 5 is log entry 36, that responses to host commands wait in a held list
log entry 28, that a host message advances IN_PROD log entry 149, that OVERFLOW takes the first free slot and its note
follows log entry 30. -/

namespace Sys2Proof.Machine

open Sys2Proof

variable {i : CmdInfo} {need : Nat} {m : Cmd} {s : State} {st : Status}

/-! ### The checks of Table 20-4 (R393) -/

/-- The version field names neither no version nor the latest one, and the opcode's group compares versions. -/
def staleVersion (i : CmdInfo) (m : Cmd) (s : State) : Prop :=
  versionChecked i.op = true ∧ m.version ≠ 0#32 ∧ m.version.toNat ≠ s.latestVersion

/-- The handle check of a command. -/
def handleStatus (i : CmdInfo) (m : Cmd) (s : State) : Option Status :=
  if i.target = .none then none else checkHandle s (actedSet i m s) m.handle

/-- The selector names no member of the unit. -/
def selectorBad (i : CmdInfo) (m : Cmd) (s : State) : Prop :=
  i.target ≠ .none ∧ checkSelector i (actedSet i m s) m = false

/-- A ticket is needed and no grant that matches and suffices stands. -/
def ticketMissing (i : CmdInfo) (need : Nat) (m : Cmd) (s : State) : Prop :=
  need ≠ 0 ∧ (grantMatches s i.op m && grantServes s need) = false

theorem vet_form (h : checkForm i m = false) : vet i need m s = some .range := by
  simp only [vet, h, Bool.not_false, if_true]

section
variable (hf : checkForm i m = true)
include hf

theorem vet_notServed (h : served s i.op = false) : vet i need m s = some .busy := by
  simp only [vet, hf, h, Bool.not_true, Bool.false_eq_true, if_false, Bool.not_false, if_true]

section
variable (hs : served s i.op = true)
include hs

theorem vet_staleVersion (h : staleVersion i m s) : vet i need m s = some .badVersion := by
  obtain ⟨hc, h0, hl⟩ := h
  simp [vet, hf, hs, hc, h0, hl]

variable (hv : ¬ staleVersion i m s)
include hv

/-- A command of good form, served and of a good version meets the checks of its unit and its ticket. -/
theorem vet_unit : vet i need m s = match handleStatus i m s with
    | some st => some st
    | none => if i.target ≠ .none ∧ checkSelector i (actedSet i m s) m = false then some .range
      else if need ≠ 0 ∧ (grantMatches s i.op m && grantServes s need) = false then some .notAuthorised
      else none := by
  have hversion : (versionChecked i.op && m.version != 0#32 && m.version.toNat != s.latestVersion) = false := by
    refine Bool.eq_false_iff.2 fun hc => hv ?_
    simpa [staleVersion, and_assoc] using hc
  simp only [vet, hf, hs, hversion, Bool.not_true, Bool.false_eq_true, if_false]
  rfl

theorem vet_handle (h : handleStatus i m s = some st) : vet i need m s = some st := by
  rw [vet_unit hf hs hv, h]

variable (hh : handleStatus i m s = none)
include hh

theorem vet_selector (h : selectorBad i m s) : vet i need m s = some .range := by
  rw [vet_unit hf hs hv, hh]
  exact if_pos h

variable (hsel : ¬ selectorBad i m s)
include hsel

theorem vet_ticket (h : ticketMissing i need m s) : vet i need m s = some .notAuthorised := by
  rw [vet_unit hf hs hv, hh]
  exact (if_neg hsel).trans (if_pos h)

theorem vet_passes (h : ¬ ticketMissing i need m s) : vet i need m s = none := by
  rw [vet_unit hf hs hv, hh]
  exact (if_neg hsel).trans (if_neg h)

end

end

/-- Settles O5: each check by the branch of `vet` that it is. -/
theorem commandChecksInOrder : Obligations.CommandChecksInOrder := by
  refine ⟨fun _ _ _ _ _ _ => runCmd_refused, fun i need m s => ?_⟩
  exact ⟨vet_form, vet_notServed, vet_staleVersion, fun hf hs hv _ => vet_handle hf hs hv, vet_selector, vet_ticket,
    vet_passes⟩

/-! ### Messages of a datagram (R394) -/

theorem exec_mailboxDatagram (lane src : Nat) (bytes : List Byte) (s : State) :
    exec (.mailboxDatagram lane src bytes) s = execMailboxDatagram lane src bytes s := rfl

/-- A datagram carries 1 to 16 whole messages. -/
def datagramForm (bytes : List Byte) : Prop := bytes ≠ [] ∧ bytes.length ≤ 1024 ∧ bytes.length % 64 = 0

theorem execMailboxDatagram_enters {lane src : Nat} {bytes : List Byte} (hl : s.mbx.live = true)
    (h : datagramForm bytes) : exec (.mailboxDatagram lane src bytes) s =
      .next ((msgsOf 16 bytes).foldl (fun s m => arrive (.host src) m s) s) := by
  obtain ⟨hne, hle, hmod⟩ := h
  have hform : ¬ (bytes.isEmpty ∨ 1024 < bytes.length ∨ bytes.length % 64 ≠ 0) := by
    simp only [List.isEmpty_iff, hne, hmod, false_or, or_false, not_lt, ne_eq, not_true_eq_false]
    exact hle
  simp only [exec_mailboxDatagram, execMailboxDatagram, hl, hform, Bool.not_true, Bool.false_eq_true, if_false]

theorem execMailboxDatagram_badForm {lane src : Nat} {bytes : List Byte} (hl : s.mbx.live = true)
    (h : bytes = [] ∨ 1024 < bytes.length ∨ bytes.length % 64 ≠ 0) :
    exec (.mailboxDatagram lane src bytes) s = .next (note 0x0602 (BitVec.ofNat 16 (17 + lane)) 0 s) := by
  simp only [exec_mailboxDatagram, execMailboxDatagram, hl, Bool.not_true, Bool.false_eq_true, if_false,
    List.isEmpty_iff, h, if_true]

/-- Whole messages come out one by one. -/
theorem length_msgsOf : ∀ (n : Nat) (bytes : List Byte), bytes.length % 64 = 0 → bytes.length ≤ 64 * n →
    (msgsOf n bytes).length = bytes.length / 64
  | 0, bytes, _, hle => by simp [msgsOf, show bytes.length = 0 by omega]
  | n + 1, bytes, hmod, hle => by
    cases bytes with
    | nil => rfl
    | cons b r =>
      have ih := length_msgsOf n ((b :: r).drop 64) (by rw [List.length_drop]; omega) (by rw [List.length_drop]; omega)
      rw [List.length_drop] at ih
      have hpos : 0 < (b :: r).length := List.length_pos_of_ne_nil (List.cons_ne_nil b r)
      rw [msgsOf, List.isEmpty_cons, if_neg Bool.false_ne_true, List.length_cons, ih]
      omega

theorem msgsOf_single {bytes : List Byte} (h : bytes.length = 64) : msgsOf 16 bytes = [msgOf bytes] := by
  have hne : bytes.isEmpty = false := by
    cases bytes with
    | nil => cases h
    | cons => rfl
  simp [msgsOf, hne, List.take_of_length_le h.le, List.drop_of_length_le h.le]

/-- A datagram of one message is that message's arrival. -/
theorem execMailboxDatagram_single {lane src : Nat} {bytes : List Byte} (hl : s.mbx.live = true)
    (h : bytes.length = 64) :
    exec (.mailboxDatagram lane src bytes) s = .next (arrive (.host src) (msgOf bytes) s) := by
  have hne : bytes ≠ [] := fun e => by simp [e] at h
  rw [execMailboxDatagram_enters hl ⟨hne, by omega, by omega⟩, msgsOf_single h]
  rfl

/-! ### Arrival (R387, R391) -/

/-- A message is fresh: neither outstanding nor answered before, of a free tag, behind no incomplete command and next in
its sequence. -/
structure Fresh (x : Msg) (s : State) : Prop where
  outstanding : (s.mbx.outstanding.any fun o => o.parts.contains x) = false
  answered : (s.mbx.answered.any fun a => a.parts.contains x) = false
  tag : (s.mbx.outstanding.any fun o => o.tag == x.tag.toNat) = false
  complete : incompletePart s = none
  next : ∀ p, s.mbx.lastSeq = some p → (p + 1) % 2 ^ 32 = x.seq.toNat

theorem arrive_repeated {p : Path} {x : Msg} (h : (s.mbx.outstanding.any fun o => o.parts.contains x) = true) :
    arrive p x s = s := by rw [arrive, if_pos h]

theorem arrive_fresh {p : Path} {x : Msg} (h : Fresh x s) : arrive p x s = enterRing p x s := by
  have hnone : (s.mbx.answered.find? fun a => a.parts.contains x && decide (s.clk.opSec ≤ a.sec + 1)) = none := by
    refine List.find?_eq_none.2 fun a ha hp => ?_
    have hnot := List.any_eq_false.1 h.answered a ha
    exact hnot (Bool.and_eq_true_iff.1 hp).1
  simp only [arrive, h.outstanding, hnone, h.complete, h.tag, Bool.false_eq_true, if_false]

theorem seqCheck_next {q : Nat} (h : ∀ p, s.mbx.lastSeq = some p → (p + 1) % 2 ^ 32 = q) :
    seqCheck q s = s.modMbx fun b => { b with lastSeq := some q } := by
  simp only [seqCheck]
  cases hl : s.mbx.lastSeq with
  | none => rfl
  | some p => exact if_pos (h p hl)

/-- The state in which a message has come in as the next of its sequence. -/
def sequenced (x : Msg) (s : State) : State := s.modMbx fun b => { b with lastSeq := some x.seq.toNat }

theorem enterRing_enters {src : Nat} {x : Msg} (hq : ∀ p, s.mbx.lastSeq = some p → (p + 1) % 2 ^ 32 = x.seq.toNat)
    (hr : s.mbx.inRing.length < 64) (ho : opcodes.contains x.opcode.toNat = true) :
    enterRing (.host src) x s = (sequenced x s).modMbx fun b =>
      { b with
        inRing := b.inRing ++ [(.host src, x)], inProd := b.inProd + 1#16
        outstanding := b.outstanding ++ [{ tag := x.tag.toNat, parts := [x] }] } := by
  simp only [enterRing, seqCheck_next hq, State.modMbx_mbx, hr.not_ge, ho, Bool.true_or, if_true, if_false,
    reduceCtorEq, sequenced]

theorem enterRing_full {src : Nat} {x : Msg} (hq : ∀ p, s.mbx.lastSeq = some p → (p + 1) % 2 ^ 32 = x.seq.toNat)
    (hr : 64 ≤ s.mbx.inRing.length) : enterRing (.host src) x s =
      deliver (.host src) (respMsgs x.opcode.toNat (msgCmd (.host src) x) .busy [] (note 0x0622 0#16 0 (sequenced x s)))
        (note 0x0622 0#16 0 (sequenced x s)) := by
  simp only [enterRing, seqCheck_next hq, State.modMbx_mbx, hr, if_true, sequenced]

/-- The one message of a response without a payload. -/
def emptyResponse (op : Nat) (m : Cmd) (st : Status) (s : State) : Msg :=
  { opcode := BitVec.ofNat 16 op, tag := m.tag, flags := 1#8 ||| moreFlag 0 1, handle := m.handle, status := st.code
    version := BitVec.ofNat 32 s.latestVersion, seq := m.seq, payload := padTo 48 [] }

/-! A note leaves the responses held for the host. -/

@[simp] theorem post_held (code : Nat) (h : Handle) (p : List Byte) (s : State) :
    (post code h p s).mbx.held = s.mbx.held := by
  simp only [post]
  cases eventLane _ <;> (simp only; split_ifs <;> rfl)

@[simp] theorem noteBase_held (code : Nat) (h : Handle) (sel : Nat) (s : State) :
    (noteBase code h sel s).mbx.held = s.mbx.held := by
  simp only [noteBase]
  split
  · split_ifs <;> simp
  · simp

@[simp] theorem note_held (code : Nat) (h : Handle) (sel : Nat) (s : State) :
    (note code h sel s).mbx.held = s.mbx.held := by
  simp only [note, galLevel]
  split_ifs <;> simp

theorem deliver_host_held (a : Nat) (ms : List Msg) (s : State) :
    (deliver (.host a) ms s).mbx.held = s.mbx.held ++ ms.map fun m => (a, m) := rfl

/-- Settles O6: a datagram's messages by their number, one that comes alone by its arrival. -/
theorem datagramMessageEntersRing : Obligations.DatagramMessageEntersRing := by
  refine ⟨?whole, ?enters, ?busy, ?repeated, ?form⟩
  case whole =>
    intro lane src bytes s hl hne hle hmod
    exact ⟨execMailboxDatagram_enters hl ⟨hne, hle, hmod⟩, length_msgsOf 16 bytes hmod (by omega)⟩
  case enters =>
    intro lane src bytes s x hl h64 ho ha ht hi hq hop _ hr
    refine ⟨_, (execMailboxDatagram_single hl h64).trans
      (congrArg _ ((arrive_fresh ⟨ho, ha, ht, hi, hq⟩).trans (enterRing_enters hq hr hop))), rfl, rfl, rfl, rfl⟩
  case busy =>
    intro lane src bytes s x hl h64 ho ha ht hi hq hr
    refine ⟨_, emptyResponse x.opcode.toNat (msgCmd (.host src) x) .busy (note 0x0622 0#16 0 (sequenced x s)),
      (execMailboxDatagram_single hl h64).trans
        (congrArg _ ((arrive_fresh ⟨ho, ha, ht, hi, hq⟩).trans (enterRing_full hq hr))), ?ring, ?held, rfl, rfl⟩
    case ring => exact (tells_deliver ..).inRing.trans (tells_note ..).inRing
    case held =>
      rw [deliver_host_held, note_held]
      rfl
  case repeated =>
    intro lane src bytes s hl h64 ho
    rw [execMailboxDatagram_single hl h64, arrive_repeated ho]
  case form =>
    intro lane src bytes s
    exact execMailboxDatagram_badForm

/-! ### The management SPI (R395, R396) -/

theorem execInProd_accepted {v : BitVec 16} (hl : s.mbx.live = true)
    (h : indexGap s.mbx.inCons s.mbx.inProd + indexGap s.mbx.inProd v ≤ 64) :
    execInProd v s = .next (times enterSlot (indexGap s.mbx.inProd v) s) := by
  have hfits : indexGap s.mbx.inProd v ≤ 64 := by omega
  simp only [execInProd, hl, h, hfits, and_self, Bool.not_true, Bool.false_eq_true, if_false, if_true]

theorem execInProd_refused {v : BitVec 16} (hl : s.mbx.live = true)
    (h : 64 < indexGap s.mbx.inCons s.mbx.inProd + indexGap s.mbx.inProd v) :
    execInProd v s = .next (indexRefused s) := by
  simp only [execInProd, hl, h.not_ge, false_and, Bool.not_true, Bool.false_eq_true, if_false]

section
variable {v : BitVec 16} (hl : s.mbx.live = true)
include hl

theorem execOutCons_accepted (h : indexGap s.mbx.outCons v ≤ indexGap s.mbx.outCons s.mbx.outProd) :
    execOutCons v s = .next (s.modMbx fun b =>
      { b with outRing := b.outRing.drop (indexGap b.outCons v), outCons := v }) := by
  simp only [execOutCons, hl, h, Bool.not_true, Bool.false_eq_true, if_false, if_true]

theorem execOutCons_refused (h : indexGap s.mbx.outCons s.mbx.outProd < indexGap s.mbx.outCons v) :
    execOutCons v s = .next (indexRefused s) := by
  simp only [execOutCons, hl, h.not_ge, Bool.not_true, Bool.false_eq_true, if_false]

theorem execEvtCons_accepted (h : indexGap s.mbx.evtCons v ≤ indexGap s.mbx.evtCons s.mbx.evtProd) :
    execEvtCons v s = .next (s.modMbx fun b =>
      { b with evtRing := b.evtRing.drop (indexGap b.evtCons v), evtCons := v }) := by
  simp only [execEvtCons, hl, h, Bool.not_true, Bool.false_eq_true, if_false, if_true]

theorem execEvtCons_refused (h : indexGap s.mbx.evtCons s.mbx.evtProd < indexGap s.mbx.evtCons v) :
    execEvtCons v s = .next (indexRefused s) := by
  simp only [execEvtCons, hl, h.not_ge, Bool.not_true, Bool.false_eq_true, if_false]

end

theorem execSpiRegisterWrite_byte (hl : s.mbx.live = true) (a : Nat) (v : Byte) :
    execSpiRegisterWrite a [v] s = .next (spiByte a v s) := by
  simp only [execSpiRegisterWrite, hl, Bool.not_true, Bool.false_eq_true, if_false]
  rfl

section
variable {a : Nat} {v : Byte}

/-- A byte of the inbound window goes into a slot that is free, and is dropped in one that is owned. -/
theorem spiByte_window (ha : a < 0x1000) : spiByte (0x1000 + a) v s =
    if ownedSlot s.mbx (a / 64) = false then s.modMbx fun b => { b with inWin := memWrite (fun _ => 0#8) b.inWin a v }
    else s := by
  have hctrl : 0x1000 + a ≠ 0x0008 := by omega
  have hstatus : 0x1000 + a ≠ 0x000C := by omega
  have hlo : 0x1000 ≤ 0x1000 + a := by omega
  have hhi : 0x1000 + a < 0x2000 := by omega
  simp only [spiByte, hctrl, hstatus, hlo, hhi, true_and, if_false, Nat.add_sub_cancel_left]

theorem spiByte_free (ha : a < 0x1000) (ho : ownedSlot s.mbx (a / 64) = false) :
    spiByte (0x1000 + a) v s = s.modMbx fun b => { b with inWin := memWrite (fun _ => 0#8) b.inWin a v } :=
  (spiByte_window ha).trans (if_pos ho)

theorem spiByte_owned (ha : a < 0x1000) (ho : ownedSlot s.mbx (a / 64) = true) : spiByte (0x1000 + a) v s = s :=
  (spiByte_window ha).trans (if_neg (by simp [ho]))

end

/-- Settles O7: an index by its range, a byte by the slot it falls in. -/
theorem spiIndexAndSlotWrites : Obligations.SpiIndexAndSlotWrites := by
  refine ⟨fun _ _ => execInProd_accepted, fun _ _ => execInProd_refused, fun _ _ => execOutCons_accepted,
    fun _ _ => execOutCons_refused, fun _ _ => execEvtCons_accepted, fun _ _ => execEvtCons_refused, ?free, ?owned⟩
  case free =>
    intro a v s hl ha ho
    refine ⟨_, (execSpiRegisterWrite_byte hl _ v).trans (congrArg _ (spiByte_free ha ho)), ?same, fun x hx => ?other, rfl⟩
    case same => exact (memRead_memWrite ..).trans (if_pos rfl)
    case other => exact (memRead_memWrite ..).trans (if_neg hx)
  case owned =>
    intro a v s hl ha ho
    exact (execSpiRegisterWrite_byte hl _ v).trans (congrArg _ (spiByte_owned ha ho))

/-! ### Responses leave (R387, R425) -/

/-- Up to 16 messages leave in one datagram. -/
theorem sendHeld_single {d : Nat} {ms : List Msg} (hne : ms ≠ []) (hle : ms.length ≤ 16) (s : State) :
    sendHeld d ms.length ms s = s.send (.messages 47101 d ms) := by
  cases ms with
  | nil => exact absurd rfl hne
  | cons x r =>
    rw [List.length_cons, sendHeld, List.isEmpty_cons, if_neg Bool.false_ne_true, List.take_of_length_le hle,
      List.drop_of_length_le hle]
    cases r with
    | nil => rfl
    | cons y t => rw [List.length_cons, sendHeld, List.isEmpty_nil, if_pos rfl]

/-- A list of one destination alone has that destination. -/
theorem eraseDups_replicate {n d : Nat} (h : n ≠ 0) : (List.replicate n d).eraseDups = [d] := by
  obtain ⟨k, rfl⟩ := Nat.exists_eq_succ_of_ne_zero h
  rw [List.replicate_succ, List.eraseDups_cons]
  simp

theorem held_destinations {d : Nat} {ms : List Msg} (hne : ms ≠ []) :
    ((ms.map fun x => (d, x)).map (·.1)).eraseDups = [d] := by
  rw [List.map_map]
  have hconst : ms.map ((·.1) ∘ fun x => (d, x)) = List.replicate ms.length d := by simp [Function.comp_def]
  rw [hconst, eraseDups_replicate (by simpa using hne)]

theorem held_messages (d : Nat) (ms : List Msg) :
    ((ms.map fun x => (d, x)).filter fun p => p.1 == d).map (·.2) = ms := by
  rw [List.filter_eq_self.2 (by simp), List.map_map]
  simp [Function.comp_def]

/-- Settles O8: the release is `pump`, the flush a datagram for its one destination. -/
theorem responsesLeaveInCompletionOrder : Obligations.ResponsesLeaveInCompletionOrder := by
  refine ⟨fun s => rfl, fun d ms s hne hle hheld => ?_⟩
  change execResponseDatagramFlush s = _
  simp only [execResponseDatagramFlush, hheld, held_destinations hne, List.foldl_cons, List.foldl_nil,
    held_messages, sendHeld_single hne hle]
  rfl

/-! ### Events (R388, R389) -/

/-- The state in which an event is counted and has gone to the host lanes, before the event ring takes it. -/
def eventSent (code : Nat) (h : Handle) (p : List Byte) (s : State) : State :=
  match eventLane (s.modMbx fun b => { b with evtCount := b.evtCount + 1 }) with
  | some _ => (s.modMbx fun b => { b with evtCount := b.evtCount + 1 }).send (.messages 47102 0 [eventMsg s code h p])
  | none => s.modMbx fun b => { b with evtCount := b.evtCount + 1 }

section
variable (code : Nat) (h : Handle) (p : List Byte)

theorem eventSent_mbx (s : State) : (eventSent code h p s).mbx = { s.mbx with evtCount := s.mbx.evtCount + 1 } := by
  unfold eventSent
  cases eventLane _ <;> rfl

theorem eventSent_rest (s : State) : eventSent code h p s =
    { s with mbx := (eventSent code h p s).mbx, outbox := (eventSent code h p s).outbox } := by
  unfold eventSent
  cases eventLane _ <;> rfl

theorem post_eq (s : State) : post code h p s =
    if s.mbx.evtLost = 0 ∧ s.mbx.evtRing.length < 128 then evtPush (eventMsg s code h p) (eventSent code h p s)
    else (eventSent code h p s).modMbx fun b => { b with evtLost := b.evtLost + 1 } := by
  have heq : post code h p s = if (eventSent code h p s).mbx.evtLost = 0 ∧ (eventSent code h p s).mbx.evtRing.length < 128
      then evtPush (eventMsg s code h p) (eventSent code h p s)
      else (eventSent code h p s).modMbx fun b => { b with evtLost := b.evtLost + 1 } := rfl
  rw [heq, eventSent_mbx]

theorem post_enters (hl : s.mbx.evtLost = 0) (hr : s.mbx.evtRing.length < 128) :
    post code h p s = evtPush (eventMsg s code h p) (eventSent code h p s) := (post_eq ..).trans (if_pos ⟨hl, hr⟩)

theorem post_counted (hl : s.mbx.evtLost ≠ 0 ∨ 128 ≤ s.mbx.evtRing.length) :
    post code h p s = (eventSent code h p s).modMbx fun b => { b with evtLost := b.evtLost + 1 } :=
  (post_eq ..).trans (if_neg fun hroom => hl.elim (· hroom.1) hroom.2.not_ge)

end

theorem execEventOverflowPost_tells (hl : s.mbx.evtLost ≠ 0) (hr : s.mbx.evtRing.length < 128) :
    execEventOverflowPost s = .next (note 0x0623 0#16 0
      (evtPush (eventMsg s 0x8001 0xFFFF#16 (leBytes 4 s.mbx.evtLost))
        (s.modMbx fun b => { b with evtLost := 0, evtCount := b.evtCount + 1 }))) := by
  rw [execEventOverflowPost, if_neg fun h => h.elim hl hr.not_ge]

/-- Settles O9: an event by whether the ring takes it, OVERFLOW by what it pushes. -/
theorem eventsEnterRingOrAreCounted : Obligations.EventsEnterRingOrAreCounted := by
  refine ⟨?enters, ?counted, ?overflow⟩
  case enters =>
    intro code h p s hl hr
    rw [post_enters code h p hl hr]
    have hm := eventSent_mbx code h p s
    have hrest := eventSent_rest code h p s
    refine ⟨eventMsg s code h p, ?_, rfl, rfl, rfl, rfl, rfl, ?_, ?_, ?_⟩
    · simp only [evtPush, State.modMbx_mbx, hm]
    · simp only [evtPush, State.modMbx_mbx, hm]
    · simp only [evtPush, State.modMbx_mbx, hm]
    · generalize eventSent code h p s = t at hrest
      rw [hrest]
      rfl
  case counted =>
    intro code h p s hl
    rw [post_counted code h p hl]
    have hm := eventSent_mbx code h p s
    constructor <;> simp only [State.modMbx_mbx, hm]
  case overflow =>
    intro s hl hr
    exact ⟨_, _, execEventOverflowPost_tells hl hr, rfl, rfl, rfl, rfl, rfl, rfl⟩

end Sys2Proof.Machine
end

section
/-! SUPPORT. The GAL_ commands (O16), tickets and tokens (O24), and keys and digests (O25): what the body of each answers
in the state it enters (R363 to R366, R372 to R375, R378, R432). That a ticket turned away BUSY keeps its challenge is
log entry 121. -/

namespace Sys2Proof.Machine

open Sys2Proof

variable {m : Cmd} {s : State}

/-! ### The arms -/

theorem exec_galRead : exec (.galRead m) s = .next (runCmd opGalRead noTicket m (bodyGalRead m) s) := rfl

theorem exec_galClear : exec (.galClear m) s = .next (runCmd opGalClear (fun _ => 1) m (bodyGalClear m) s) := rfl

theorem exec_authTicket : exec (.authTicket m) s = .next (runCmd opAuthTicket noTicket m (bodyAuthTicket m) s) := rfl

/-- A command that is not recorded in the gallery answers OK in the state that its body leaves. -/
theorem runCmd_ok_unrecorded {i : CmdInfo} {need : State → Nat} {body : State → Reply} {p : List Byte} {t : State}
    (hr : i.recorded = false) (h : accepted i (need (startCmd i.op m s)) m s) (hb : body (entered i m s) = .done .ok p t) :
    runCmd i need m body s = respond i.op m .ok p t := by
  simp [runCmd_accepted h, hb, hr]

/-! ### GAL_READ and GAL_STATUS (R363, R364) -/

/-- A number that records bear, of 1 to 16 of them, is answered with the records from it on. -/
theorem bodyGalRead_ok {r : GalRec} {rs : List GalRec} (h1 : 1 ≤ m.u 4 1) (h16 : m.u 4 1 ≤ 16)
    (hr : ((galAll s).dropWhile fun x => x.seq != m.u 0 4) = r :: rs) :
    bodyGalRead m s = .done .ok (((r :: rs).take (m.u 4 1)).flatMap galBytes) s := by
  simp only [bodyGalRead, between_eq_true.2 ⟨h1, h16⟩, hr, List.isEmpty_cons, Bool.not_true, Bool.false_eq_true, if_false]

theorem bodyGalRead_range (hr : ∀ x ∈ galAll s, x.seq ≠ m.u 0 4) : bodyGalRead m s = refuse .range s := by
  have hnone : ((galAll s).dropWhile fun x => x.seq != m.u 0 4) = [] :=
    List.dropWhile_eq_nil_iff.2 fun x hx => bne_iff_ne.2 (hr x hx)
  simp only [bodyGalRead, hnone, List.isEmpty_nil, if_true, ite_self]

theorem bnat_decide (p : Prop) [Decidable p] : bnat (decide p) = if p then 1 else 0 := by
  by_cases h : p <;> simp [bnat, h]

theorem bnat_galNear (g : Gallery) : bnat (galNear g) = if 31744 ≤ g.recs.length + g.buf.length then 1 else 0 :=
  bnat_decide _

theorem bnat_galFull (g : Gallery) : bnat (galFull g) = if 32768 ≤ g.recs.length + g.buf.length then 1 else 0 :=
  bnat_decide _

/-- The number of the oldest record held, 0 of an empty gallery. -/
def galFirst (s : State) : Nat := match galAll s with | r :: _ => r.seq | [] => 0

/-- The levels that GAL_STATUS answers. -/
theorem bodyGalStatus_ok (s : State) : bodyGalStatus s = .done .ok
    (leBytes 4 (s.gal.recs.length + s.gal.buf.length) ++ leBytes 4 (galFirst s) ++
      leBytes 4 s.gal.nextSeq ++ leBytes 4 s.gal.lost ++
      leBytes 1 ((if 31744 ≤ s.gal.recs.length + s.gal.buf.length then 1 else 0) +
        2 * (if 32768 ≤ s.gal.recs.length + s.gal.buf.length then 1 else 0))) s := by
  simp only [bodyGalStatus, galHeld, bnat_galNear, bnat_galFull]
  rfl

/-! ### GAL_EXPORT (R366) -/

section
variable {before rs after : List GalRec} {r z : GalRec} {a b : Nat}

/-- The records from the first that bears `a`. -/
theorem dropWhile_seq (hb : ∀ x ∈ before, x.seq ≠ a) (hr : rs.head? = some r) (ha : r.seq = a) :
    ((before ++ rs ++ after).dropWhile fun x => x.seq != a) = rs ++ after := by
  obtain ⟨t, rfl⟩ : ∃ t, rs = r :: t := ⟨rs.tail, (List.cons_head?_tail hr).symm⟩
  rw [List.append_assoc, List.dropWhile_append_of_pos fun x hx => bne_iff_ne.2 (hb x hx)]
  simp [ha]

/-- The records up to the first that bears `b`. -/
theorem takeWhile_seq (hd : ∀ x ∈ rs.dropLast, x.seq ≠ b) (hz : rs.getLast? = some z) (hb : z.seq = b) :
    ((rs ++ after).takeWhile fun x => x.seq != b) = rs.dropLast := by
  have hlast : rs = rs.dropLast ++ [z] := (List.dropLast_append_getLast? z hz).symm
  calc ((rs ++ after).takeWhile fun x => x.seq != b)
      = (rs.dropLast ++ ([z] ++ after)).takeWhile fun x => x.seq != b := by rw [← List.append_assoc, ← hlast]
    _ = rs.dropLast ++ ([z] ++ after).takeWhile fun x => x.seq != b :=
        List.takeWhile_append_of_pos fun x hx => bne_iff_ne.2 (hd x hx)
    _ = rs.dropLast := by simp [hb]

/-- The records of the range that an export names. -/
theorem exported_range (hall : galAll s = before ++ rs ++ after) (hb : ∀ x ∈ before, x.seq ≠ a) (hr : rs.head? = some r)
    (ha : r.seq = a) (hz : rs.getLast? = some z) (hzb : z.seq = b) (hd : ∀ x ∈ rs.dropLast, x.seq ≠ b) :
    (((galAll s).dropWhile fun x => x.seq != a).take
      ((((galAll s).dropWhile fun x => x.seq != a).takeWhile fun x => x.seq != b).length + 1)) = rs := by
  have hpos : 0 < rs.length := by
    cases rs with
    | nil => cases hr
    | cons => exact Nat.succ_pos _
  rw [hall, dropWhile_seq hb hr ha, takeWhile_seq hd hz hzb, List.length_dropLast, Nat.sub_add_cancel hpos,
    List.take_left]

end

/-- The header of an export of `rs`. -/
def exportHead (m : Cmd) (rs : List GalRec) : List Byte :=
  leBytes 8 Config.deviceSerial.toNat ++ leBytes 4 (m.u 0 4) ++ leBytes 4 (m.u 4 4) ++ leBytes 4 rs.length ++
    leBytes 12 0 ++ m.bytes 16 32

/-- The signature of an export of `rs`. -/
def exportSig (m : Cmd) (rs : List GalRec) : Nat × Nat :=
  Config.ecdsaSign (Config.sha256 (exportHead m rs ++ rs.flatMap galBytes)).toNat

theorem bodyGalExport_ok {before rs after : List GalRec} {r z : GalRec} (hall : galAll s = before ++ rs ++ after)
    (hb : ∀ x ∈ before, x.seq ≠ m.u 0 4) (hr : rs.head? = some r) (ha : r.seq = m.u 0 4) (hz : rs.getLast? = some z)
    (hzb : z.seq = m.u 4 4) (hd : ∀ x ∈ rs.dropLast, x.seq ≠ m.u 4 4) (hle : m.u 0 4 ≤ m.u 4 4) :
    bodyGalExport m s = .done .ok
      (exportHead m rs ++ rs.flatMap galBytes ++ digestBytes (exportSig m rs).1 ++ digestBytes (exportSig m rs).2)
      (galWrite 0x42 0#16 0 rs.length (leBytes 4 (m.u 0 4) ++ leBytes 4 (m.u 4 4) ++ m.bytes 16 16) s) := by
  have hmem : ∀ x ∈ rs, x ∈ galAll s := fun x hx => by simp [hall, hx]
  have hfrom : ((galAll s).any fun x => x.seq == m.u 0 4) = true :=
    List.any_eq_true.2 ⟨r, hmem r (List.mem_of_mem_head? hr), beq_iff_eq.2 ha⟩
  have hto : ((galAll s).any fun x => x.seq == m.u 4 4) = true :=
    List.any_eq_true.2 ⟨z, hmem z (List.mem_of_getLast? hz), beq_iff_eq.2 hzb⟩
  have hin : (!((galAll s).any fun x => x.seq == m.u 0 4) || !((galAll s).any fun x => x.seq == m.u 4 4) ||
      decide (m.u 4 4 < m.u 0 4)) = false := by simp [hfrom, hto, hle]
  simp only [bodyGalExport, exported_range hall hb hr ha hz hzb hd, hin, Bool.false_eq_true, if_false]
  rfl

/-! ### GAL_CLEAR (R365) -/

/-- A record that a clear of the gallery writes. -/
def clearRec (s : State) (n t aux rep : Nat) (p : List Byte) : GalRec :=
  { seq := n, sec := s.clk.opSec, last := s.clk.opSec, cycle := s.clk.powerCycle, type := t, handle := 0#16, rep := rep
    aux := aux, payload := padTo 32 p }

/-- The LOST record after a clear, when records were lost. -/
def clearLost (s : State) : List GalRec :=
  if s.gal.lost = 0 then [] else [clearRec s (s.gal.nextSeq + 1) 0x41 s.gal.lost 0 (leBytes 4 s.gal.missedAt)]

theorem length_clearLost (s : State) : (clearLost s).length = if s.gal.lost = 0 then 0 else 1 := by
  unfold clearLost
  split_ifs <;> rfl

theorem mem_clearLost {x : GalRec} (h : x ∈ clearLost s) :
    x.type = 0x41 ∧ x.aux = s.gal.lost ∧ x.seq = s.gal.nextSeq + 1 := by
  unfold clearLost at h
  split_ifs at h
  · cases h
  · rw [List.mem_singleton.1 h]
    exact ⟨rfl, rfl, rfl⟩

/-- The gallery after a clear through the record after `before`. -/
def clearedThrough (m : Cmd) (before after : List GalRec) (z : GalRec) (s : State) : State :=
  s.modGal fun g =>
    { g with
      recs := clearRec s s.gal.nextSeq 0x40 (m.u 0 4) (before.length + 1)
        (digestBytes (Config.sha256 ((before ++ [z]).flatMap galBytes)).toNat) :: after ++ clearLost s
      buf := [], nextSeq := s.gal.nextSeq + 1 + (clearLost s).length, lost := 0 }

section
variable {before after : List GalRec} {z : GalRec}

theorem clearGallery_through (hall : galAll s = before ++ z :: after) (hb : ∀ x ∈ before, x.seq ≠ m.u 0 4)
    (hz : z.seq = m.u 0 4) : clearGallery (m.u 0 4) s = clearedThrough m before after z s := by
  have hcut : ((galAll s).takeWhile fun x => x.seq != m.u 0 4) = before := by
    rw [hall, List.takeWhile_append_of_pos fun x hx => bne_iff_ne.2 (hb x hx)]
    simp [hz]
  have hsplit : before ++ z :: after = (before ++ [z]) ++ after := by simp
  have hlen : before.length + 1 = (before ++ [z]).length := by simp
  have htake : (galAll s).take (before.length + 1) = before ++ [z] := by rw [hall, hsplit, hlen, List.take_left]
  have hdrop : (galAll s).drop (before.length + 1) = after := by rw [hall, hsplit, hlen, List.drop_left]
  simp only [clearGallery, hcut, htake, hdrop]
  rfl

theorem bodyGalClear_ok (hall : galAll s = before ++ z :: after) (hb : ∀ x ∈ before, x.seq ≠ m.u 0 4)
    (hz : z.seq = m.u 0 4) : bodyGalClear m s = .done .ok [] (post 0x8601 0xFFFF#16 [2#8]
      ((clearedThrough m before after z s).modGal fun g =>
        { g with near := g.near && galNear g, full := g.full && galFull g })) := by
  have hheld : ((galAll s).any fun r => r.seq == m.u 0 4) = true := List.any_eq_true.2 ⟨z, by simp [hall], by simp [hz]⟩
  simp only [bodyGalClear, hheld, clearGallery_through hall hb hz, Bool.not_true, Bool.false_eq_true, if_false]

end

theorem bodyGalClear_range (h : ∀ x ∈ galAll s, x.seq ≠ m.u 0 4) : bodyGalClear m s = refuse .range s := by
  have hnone : ((galAll s).any fun r => r.seq == m.u 0 4) = false := List.any_eq_false.2 fun x hx => by simpa using h x hx
  simp only [bodyGalClear, hnone, Bool.not_false, if_true]

/-! ### GALLERY_FLUSH (R363) -/

theorem galFlush_unmissed (hc : coreStalled s 3 = false) (hm : s.gal.missed = 0) :
    galFlush s = s.modGal fun g => { g with recs := g.recs ++ g.buf, buf := [] } := by
  simp only [galFlush, hc, Bool.false_eq_true, if_false, State.modGal, hm, if_true]

/-- Settles O16: each command by its body's equation. -/
theorem galleryCommandsComplete : Obligations.GalleryCommandsComplete := by
  unfold Obligations.GalleryCommandsComplete
  refine ⟨?read, ?status, ?exported, ?clear, ?readRange, ?clearRange, ?flush⟩
  case read =>
    intro m s r rs e h h1 h16 hr
    exact runCmd_ok h (bodyGalRead_ok h1 h16 hr)
  case status =>
    intro m s e first held flags h
    exact runCmd_ok h (bodyGalStatus_ok _)
  case exported =>
    intro m s before rs after r z e head body sig h hall hb hr ha hz hzb hd hle
    exact runCmd_ok h (bodyGalExport_ok hall hb hr ha hz hzb hd hle)
  case clear =>
    intro m s before after z e h hall hb hz
    exact ⟨_, _, _, runCmd_ok h (bodyGalClear_ok hall hb hz), rfl, rfl, rfl, rfl, rfl, rfl, rfl, length_clearLost _,
      fun _ => mem_clearLost, rfl, rfl⟩
  case readRange =>
    intro m s e h _ _ hr
    rw [exec_galRead, runCmd_done h (bodyGalRead_range hr) (by decide)]
    rfl
  case clearRange =>
    intro m s e h hr
    rw [exec_galClear, runCmd_done h (bodyGalClear_range hr) (by decide)]
    rfl
  case flush =>
    intro s hc hm
    exact congrArg _ (galFlush_unmissed hc hm)

/-! ### Tickets (R374, R375) -/

/-- The ticket that AUTH_TICKET carries. -/
def cmdTicket (m : Cmd) : Ticket :=
  { role := m.u 32 1, key := m.u 33 1, op := m.u 34 2, args := m.u 36 8, r := beNat (m.bytes 0 32)
    t := beNat (m.bytes 48 32) }

/-- The signature of a ticket for challenge `c` is that of key `x`. -/
def ticketVerifies (x : Key) (c : Nat) (k : Ticket) : Bool :=
  Config.ecdsaVerify x.pub (Config.sha256 (k.message c)).toNat k.r k.t

/-- The challenge is used up. -/
def challengeUsed (s : State) : State := s.modAuth fun a => { a with challenge := none }

/-- The grant of a ticket is recorded, stands, and the gallery is flushed. -/
def ticketGranted (k : Ticket) (s : State) : State :=
  galFlush ((galWrite 0x30 0#16 0 0 k.tail s).modAuth fun a =>
    { a with grant := some { role := k.role, op := k.op, args := k.args } })

section
variable {c : Nat} {x : Key} {k : Ticket} (hc : s.auth.challenge = some c) (hk : keyOf s k.role k.key = some x)
include hc hk

theorem present_verified (hg : galFull s.gal = false) (hv : ticketVerifies x c k = true) :
    present k s = (.ok, [], ticketGranted k (challengeUsed s)) := by
  have hverify : Config.ecdsaVerify x.pub (Config.sha256 (k.message c)).toNat k.r k.t = true := hv
  have hnone : denial s k = none := by simp [denial, hc, hk, hg, hverify]
  simp only [present, hnone]
  rfl

theorem present_unverified (hv : ticketVerifies x c k = false) :
    present k s = (.notAuthorised, [3#8], deny 3 k (challengeUsed s)) := by
  have hverify : Config.ecdsaVerify x.pub (Config.sha256 (k.message c)).toNat k.r k.t = false := hv
  have hthree : denial s k = some 3 := by simp [denial, hc, hk, hverify]
  simp only [present, hthree]
  rfl

end

/-- Outside the backoff AUTH_TICKET presents its ticket. -/
theorem bodyAuthTicket_presents (hb : s.auth.backoff = none) : bodyAuthTicket m s =
    .done (present (cmdTicket m) s).1 (present (cmdTicket m) s).2.1 (present (cmdTicket m) s).2.2 := by
  simp only [bodyAuthTicket, hb, Option.isSome_none, Bool.false_eq_true, if_false]
  rfl

section
variable {c : Nat} {x : Key} (hb : s.auth.backoff = none) (hc : s.auth.challenge = some c)
  (hk : keyOf s (cmdTicket m).role (cmdTicket m).key = some x)
include hb hc hk

theorem bodyAuthTicket_granted (hg : galFull s.gal = false) (hv : ticketVerifies x c (cmdTicket m) = true) :
    bodyAuthTicket m s = .done .ok [] (ticketGranted (cmdTicket m) (challengeUsed s)) := by
  rw [bodyAuthTicket_presents hb, present_verified hc hk hg hv]

theorem bodyAuthTicket_denied (hv : ticketVerifies x c (cmdTicket m) = false) :
    bodyAuthTicket m s = .done .notAuthorised [3#8] (deny 3 (cmdTicket m) (challengeUsed s)) := by
  rw [bodyAuthTicket_presents hb, present_unverified hc hk hv]

end

theorem bodyAuthTicket_busy {b : Nat} (hb : s.auth.backoff = some b) : bodyAuthTicket m s = refuse .busy s := by
  simp only [bodyAuthTicket, hb, Option.isSome_some, if_true]

/-! ### The token (R432) -/

theorem bodyAuthTokenSign_later {c : Nat} (hb : s.auth.backoff = none) (hs : s.auth.signing = none)
    (ht : s.panel.token = true) (hc : s.auth.challenge = some c) : bodyAuthTokenSign m s =
      .later ((s.modAuth fun a => { a with signing := some m }).modOutbox (· ++ [.apdu (signApdu c (tokenTicket m 0 0))])) := by
  simp only [bodyAuthTokenSign, hb, hs, ht, hc, Option.isSome_none, Bool.or_self, Bool.not_true, Bool.false_eq_true,
    if_false]
  rfl

section
variable {r t : Nat} (hs : s.auth.signing = some m) (ht : s.panel.token = true)
include hs ht

theorem execTokenSignatureResponse_presents (hb : s.auth.backoff = none) :
    execTokenSignatureResponse r t 0x9000 s =
      .next (signEnds (present (tokenTicket m r t) s).1 (present (tokenTicket m r t) s).2.1
        (present (tokenTicket m r t) s).2.2) := by
  simp only [execTokenSignatureResponse, hs, ht, hb, Option.isSome_none, Bool.not_true, Bool.false_eq_true, if_false,
    ne_eq, not_true_eq_false]

theorem execTokenSignatureResponse_refused {sw : Nat} (hw : sw ≠ 0x9000) :
    execTokenSignatureResponse r t sw s = .next (signEnds .notAuthorised [] s) := by
  simp only [execTokenSignatureResponse, hs, ht, Bool.not_true, Bool.false_eq_true, if_false, ne_eq, hw,
    not_false_eq_true, if_true]

end

/-- Settles O24: a ticket by whether it verifies, the token's answer by its status word, the rest by definition. -/
theorem ticketsCreateGrantsOrDenials : Obligations.TicketsCreateGrantsOrDenials := by
  unfold Obligations.TicketsCreateGrantsOrDenials
  refine ⟨?challenge, ?ticket, ?backoff, fun _ _ _ => rfl, ?tokenSign, ?response, ?refusal, fun _ => rfl, fun _ => rfl,
    fun _ => rfl, fun _ => rfl⟩
  case challenge =>
    intro m s e c h
    exact runCmd_ok h rfl
  case ticket =>
    intro m s c x e k ok u h hb hc hk hg
    change exec (.authTicket m) s = .next (if ticketVerifies x c (cmdTicket m) then
      respond 0x0802 m .ok [] (ticketGranted (cmdTicket m) (challengeUsed e))
      else respond 0x0802 m .notAuthorised [3#8] (deny 3 (cmdTicket m) (challengeUsed e)))
    rw [exec_authTicket]
    cases hv : ticketVerifies x c (cmdTicket m) with
    | true =>
      rw [if_pos rfl, runCmd_ok_unrecorded rfl h (bodyAuthTicket_granted hb hc hk hg hv)]
      rfl
    | false =>
      rw [if_neg Bool.false_ne_true, runCmd_done h (bodyAuthTicket_denied hb hc hk hv) (by decide)]
      rfl
  case backoff =>
    intro m s b e h hb
    rw [exec_authTicket, runCmd_done h (bodyAuthTicket_busy hb) (by decide)]
    rfl
  case tokenSign =>
    intro m s c e h hb hs ht hc
    exact congrArg _ (runCmd_later h (bodyAuthTokenSign_later hb hs ht hc))
  case response =>
    intro r t m s hs ht hb
    exact execTokenSignatureResponse_presents hs ht hb
  case refusal =>
    intro r t sw m s hs ht hw
    exact execTokenSignatureResponse_refused hs ht hw

/-! ### Keys (R372, R373) -/

section
variable (hi : m.u 1 1 < roleSize (m.u 0 1)) (hf : firstKey (m.u 0 1) s = false)
  (hn : roleKeys s (m.u 0 1) < roleSize (m.u 0 1))
include hi hf hn

/-- A key that is not the first regulator key, of an index that its role has and with a place free, is installed unless
its index is taken. -/
theorem bodyAuthKeyInstall_roomy : bodyAuthKeyInstall m s =
    if (keyOf s (m.u 0 1) (m.u 1 1)).isSome then refuse .conflict s
    else .done .ok [] (keyChange (m.u 0 1) (m.u 1 1) 0 (m.u 8 8) (s.modAuth fun a => { a with
      keys := a.keys ++ [{ role := m.u 0 1, index := m.u 1 1, ident := m.u 8 8, pub := m.u 16 64 }] })) := by
  simp only [bodyAuthKeyInstall, hi.not_ge, hf, hn.not_ge, Bool.false_and, Bool.false_eq_true, if_false]

theorem bodyAuthKeyInstall_ok (hk : keyOf s (m.u 0 1) (m.u 1 1) = none) : bodyAuthKeyInstall m s =
    .done .ok [] (keyChange (m.u 0 1) (m.u 1 1) 0 (m.u 8 8) (s.modAuth fun a => { a with
      keys := a.keys ++ [{ role := m.u 0 1, index := m.u 1 1, ident := m.u 8 8, pub := m.u 16 64 }] })) := by
  rw [bodyAuthKeyInstall_roomy hi hf hn, hk]
  rfl

theorem bodyAuthKeyInstall_conflict {k : Key} (hk : keyOf s (m.u 0 1) (m.u 1 1) = some k) :
    bodyAuthKeyInstall m s = refuse .conflict s := by
  rw [bodyAuthKeyInstall_roomy hi hf hn, hk]
  rfl

end

section
variable {k : Key} (hk : keyOf s (m.u 0 1) (m.u 1 1) = some k)
include hk

theorem bodyAuthKeyRemove_ok (hl : m.u 0 1 ≠ 1 ∨ roleKeys s 1 ≠ 1) : bodyAuthKeyRemove m s =
    .done .ok [] (keyChange (m.u 0 1) (m.u 1 1) 1 k.ident (s.modAuth fun a =>
      { a with keys := a.keys.filter fun x => !(x.role == m.u 0 1 && x.index == m.u 1 1) })) := by
  have hnotLast : ¬ (m.u 0 1 = 1 ∧ roleKeys s 1 = 1) := fun h => hl.elim (· h.1) (· h.2)
  simp only [bodyAuthKeyRemove, hk, hnotLast, if_false]

/-- The last regulator key stays. -/
theorem bodyAuthKeyRemove_conflict (hr : m.u 0 1 = 1) (hl : roleKeys s 1 = 1) :
    bodyAuthKeyRemove m s = refuse .conflict s := by
  simp only [bodyAuthKeyRemove, hk, if_pos (And.intro hr hl)]

end

/-! ### Digests (R378) -/

@[simp] theorem putDigests_digests (l : List Nat) (s : State) : (putDigests l s).auth.digests = l := by
  rw [putDigests, galWrite_auth]
  rfl

theorem bodyAuthDigestAdd_ok (hd : cmdDigest m ∉ s.auth.digests) (hn : s.auth.digests.length < 16)
    (hb : bootable s (s.auth.digests ++ [cmdDigest m]) = true) :
    bodyAuthDigestAdd m s = .done .ok [] (putDigests (s.auth.digests ++ [cmdDigest m]) s) := by
  have hnew : s.auth.digests.contains (cmdDigest m) = false := by simpa using hd
  simp only [bodyAuthDigestAdd, hnew, hn.not_ge, hb, Bool.not_true, Bool.false_eq_true, if_false]

theorem bodyAuthDigestAdd_conflict (hd : cmdDigest m ∈ s.auth.digests) :
    bodyAuthDigestAdd m s = refuse .conflict s := by
  have hlisted : s.auth.digests.contains (cmdDigest m) = true := by simpa using hd
  simp only [bodyAuthDigestAdd, hlisted, if_true]

theorem bodyAuthDigestAdd_full (hd : cmdDigest m ∉ s.auth.digests) (hn : 16 ≤ s.auth.digests.length) :
    bodyAuthDigestAdd m s = refuse .refusedFull s := by
  have hnew : s.auth.digests.contains (cmdDigest m) = false := by simpa using hd
  simp only [bodyAuthDigestAdd, hnew, hn, Bool.false_eq_true, if_false, if_true]

theorem bodyAuthDigestRemove_ok (hd : cmdDigest m ∈ s.auth.digests) (hn : s.auth.digests.length ≠ 1)
    (hb : bootable s (s.auth.digests.filter (· != cmdDigest m)) = true) :
    bodyAuthDigestRemove m s = .done .ok [] (putDigests (s.auth.digests.filter (· != cmdDigest m)) s) := by
  have hlisted : s.auth.digests.contains (cmdDigest m) = true := by simpa using hd
  simp only [bodyAuthDigestRemove, hlisted, hn, hb, Bool.not_true, Bool.false_eq_true, reduceCtorEq, or_self, if_false]

/-! ### AUTH_STATUS (R411) -/

theorem leBytes_bnat (b : Bool) : leBytes 1 (bnat b) = [if b then 1#8 else 0#8] := by cases b <;> rfl

/-- The seconds that are left of the backoff. -/
def backoffLeft (s : State) : Nat := match s.auth.backoff with | some t => 60 - (s.clk.opSec - t) | none => 0

theorem bodyAuthStatus_ok (s : State) : bodyAuthStatus s = .done .ok
    ([if s.auth.commissioning then 1#8 else 0#8] ++ leBytes 1 s.auth.digests.length ++ leBytes 1 (roleKeys s 1) ++
      leBytes 1 (roleKeys s 2) ++ leBytes 1 (roleKeys s 3) ++ [if s.auth.grant.isSome then 1#8 else 0#8] ++
      leBytes 2 (backoffLeft s)) s := by
  simp only [bodyAuthStatus, leBytes_bnat]
  rfl

/-- Settles O25: each command by its body's equation. -/
theorem keysAndDigestsComplete : Obligations.KeysAndDigestsComplete := by
  unfold Obligations.KeysAndDigestsComplete
  refine ⟨?install, ?taken, ?remove, ?lastKey, ?add, ?listed, ?full, ?digestRemove, ?clear, ?status⟩
  case install =>
    intro m s e need k h hi hf hn hk
    exact runCmd_ok h (bodyAuthKeyInstall_ok hi hf hn hk)
  case taken =>
    intro m s k e need h hi hf hn hk
    exact congrArg _ (runCmd_done h (bodyAuthKeyInstall_conflict hi hf hn hk) (by decide))
  case remove =>
    intro m s k e h hk hl
    exact runCmd_ok h (bodyAuthKeyRemove_ok hk hl)
  case lastKey =>
    intro m s k e h hr hk hl
    have hneed : accepted opAuthKeyRemove (keyNeed (m.u 0 1)) m s := by rwa [hr]
    exact congrArg _ (runCmd_done hneed (bodyAuthKeyRemove_conflict (by rwa [hr]) hr hl) (by decide))
  case add =>
    intro m s e l h hd hn hb
    exact ⟨runCmd_ok h (bodyAuthDigestAdd_ok hd hn hb), putDigests_digests ..⟩
  case listed =>
    intro m s e h hd
    exact congrArg _ (runCmd_done h (bodyAuthDigestAdd_conflict hd) (by decide))
  case full =>
    intro m s e h hd hn
    exact congrArg _ (runCmd_done h (bodyAuthDigestAdd_full hd hn) (by decide))
  case digestRemove =>
    intro m s e l h hd hn hb
    exact runCmd_ok h (bodyAuthDigestRemove_ok hd hn hb)
  case clear =>
    intro m s e h
    exact ⟨runCmd_ok h rfl, putDigests_digests ..⟩
  case status =>
    intro m s e left keys h
    exact runCmd_ok h (bodyAuthStatus_ok _)

end Sys2Proof.Machine
end

section
/-! SUPPORT. The DIAG_ commands (O28), the pair's and the panel's commands (O29) and the host lanes (O31): what the body
of each answers in the state it enters, and what a lane's events tell (R328, R330, R357, R413, R416, R417, R429 to R431).
That DIAG_NOTES answers RANGE above operation 1 is log entry 136, that RANGE of the buzzer's frequency holds with a
duration of 0 log entry 118, that a lane's return is told with the count unchanged log entry 69. -/

namespace Sys2Proof.Machine

open Sys2Proof

variable {m : Cmd} {s : State}

/-! ### DIAG_ commands (R328, R330, R413) -/

theorem exec_diagNotes : exec (.diagNotes m) s = .next (runCmd opDiagNotes noTicket m (bodyDiagNotes m) s) := rfl

theorem exec_diagMeter : exec (.diagMeter m) s = .next (runCmd opDiagMeter noTicket m (bodyDiagMeter m) s) := rfl

/-- A note counter is of the code that DIAG_NOTES names; code 0 names all. -/
def namedNote (m : Cmd) (p : Nat × Nat × Nat) : Bool := m.u 2 2 == 0 || p.2.1 == m.u 2 2

theorem bodyDiagNotes_ok (h : m.u 0 1 ≤ 1) : bodyDiagNotes m s = .done .ok
    ((s.faults.notes.filter (namedNote m)).flatMap fun p => leBytes 2 p.2.1 ++ leBytes 2 p.2.2)
    (if m.u 0 1 = 1 then s.modFaults fun f => { f with notes := f.notes.filter fun p => !namedNote m p } else s) :=
  if_neg h.not_gt

theorem bodyDiagNotes_range (h : 1 < m.u 0 1) : bodyDiagNotes m s = refuse .range s := if_pos h

theorem bodyDiagMeter_later (hb : s.clk.meterBusy = false) (ho : m.u 0 1 = 1) (hm : meterOk (m.u 4 4) = true) :
    bodyDiagMeter m s = .later (s.modClk fun c =>
      { c with meterBusy := true, meterWord := BitVec.ofNat 32 (m.u 4 4) &&& 0x1FFFFFFF#32 }) := by
  simp only [bodyDiagMeter, hb, ho, hm, Bool.false_eq_true, ne_eq, not_true_eq_false, reduceCtorEq, or_self, if_false]

theorem bodyDiagMeter_busy (hb : s.clk.meterBusy = true) : bodyDiagMeter m s = refuse .busy s := by
  simp only [bodyDiagMeter, hb, if_true]

/-- Settles O28: each command by its body's equation. -/
theorem diagnosticReadsComplete : Obligations.DiagnosticReadsComplete := by
  unfold Obligations.DiagnosticReadsComplete
  refine ⟨?state, ?records, ?notes, ?notesRange, ?meter, ?meterBusy, ?spool, ?boot⟩
  case state =>
    intro m s e h
    exact runCmd_ok h rfl
  case records =>
    intro m s e rs h
    exact runCmd_ok h rfl
  case notes =>
    intro m s e mine t h hop
    exact runCmd_ok h (bodyDiagNotes_ok hop)
  case notesRange =>
    intro m s e h hop
    rw [exec_diagNotes, runCmd_done h (bodyDiagNotes_range hop) (by decide)]
    rfl
  case meter =>
    intro m s e h hb ho hm
    exact congrArg _ (runCmd_later h (bodyDiagMeter_later hb ho hm))
  case meterBusy =>
    intro m s e h hb
    rw [exec_diagMeter, runCmd_done h (bodyDiagMeter_busy hb) (by decide)]
    rfl
  case spool =>
    intro m s e bw h
    exact runCmd_ok h rfl
  case boot =>
    intro m s e h
    exact runCmd_ok h rfl

/-! ### The pair (R357) -/

theorem bodyPairHandover_later (he : pairEn s = true) (hc : s.pair.claimOut = true) (hp : s.pair.peerSynced = true)
    (hh : s.pair.handover = false) :
    bodyPairHandover s = .later (s.modPair fun p => { p with handover := true }) := by
  simp only [bodyPairHandover, he, hc, hp, hh, Bool.not_true, Bool.or_self, Bool.false_eq_true, if_false]

theorem bodyPairHandover_conflict (h : pairEn s = false ∨ s.pair.claimOut = false ∨ s.pair.peerSynced = false ∨
    s.pair.handover = true) : bodyPairHandover s = refuse .conflict s := by
  refine if_pos ?_
  rcases h with h | h | h | h <;> simp [h]

/-- PAIR_RESYNC's own check and effect. -/
def bodyPairResync (s : State) : Reply :=
  if s.pair.claimOut || !pairEn s then refuse .conflict s else .done .ok [] (restartHello s)

theorem exec_pairResync : exec (.pairResync m) s = .next (runCmd opPairResync noTicket m bodyPairResync s) := rfl

theorem bodyPairResync_ok (he : pairEn s = true) (hc : s.pair.claimOut = false) :
    bodyPairResync s = .done .ok [] (restartHello s) := by
  simp only [bodyPairResync, he, hc, Bool.not_true, Bool.or_self, Bool.false_eq_true, if_false]

theorem bodyPairResync_conflict (h : pairEn s = false ∨ s.pair.claimOut = true) :
    bodyPairResync s = refuse .conflict s := by
  refine if_pos ?_
  rcases h with h | h <;> simp [h]

/-! ### The panel (R429 to R431) -/

theorem bodyPnlBuzzer_ok (hl : 100 ≤ m.u 0 2) (hh : m.u 0 2 ≤ 8000) : bodyPnlBuzzer m s =
    .done .ok [] (s.modPanel fun p => { p with buzz := if m.u 2 2 = 0 then 0 else m.u 0 2 }) := by
  simp only [bodyPnlBuzzer, between_eq_true.2 ⟨hl, hh⟩, Bool.not_true, Bool.false_eq_true, if_false]

theorem bodyPnlBuzzer_range (h : m.u 0 2 < 100 ∨ 8000 < m.u 0 2) : bodyPnlBuzzer m s = refuse .range s := by
  have hout : between 100 8000 (m.u 0 2) = false := Bool.eq_false_iff.2 fun hin => by
    have := between_eq_true.1 hin
    omega
  simp only [bodyPnlBuzzer, hout, Bool.not_false, if_true]

/-- PNL_STATUS's answer. -/
theorem exec_pnlStatus : exec (.pnlStatus m) s = .next (runCmd opPnlStatus noTicket m (fun s => .done .ok
    (keyBytes s.panel.keys ++ [if s.panel.token then 1#8 else 0#8] ++ [if s.panel.vbusOver then 1#8 else 0#8]) s) s) := by
  simp only [← leBytes_bnat]
  rfl

/-- Settles O29: each command by its body's equation. -/
theorem pairAndPanelCommandsComplete : Obligations.PairAndPanelCommandsComplete := by
  unfold Obligations.PairAndPanelCommandsComplete
  refine ⟨?status, ?handover, ?handoverConflict, ?resync, ?resyncConflict, ?led, ?buzzer, ?buzzerRange,
    fun _ => rfl, ?panel⟩
  case status =>
    intro m s e h
    exact runCmd_ok h rfl
  case handover =>
    intro m s e h he hc hp hh
    exact congrArg _ (runCmd_later h (bodyPairHandover_later he hc hp hh))
  case handoverConflict =>
    intro m s e h hno
    exact congrArg _ (runCmd_done h (bodyPairHandover_conflict hno) (by decide))
  case resync =>
    intro m s e h he hc
    rw [exec_pairResync]
    exact runCmd_ok h (bodyPairResync_ok he hc)
  case resyncConflict =>
    intro m s e h hno
    rw [exec_pairResync]
    exact congrArg _ (runCmd_done h (bodyPairResync_conflict hno) (by decide))
  case led =>
    intro m s e h
    exact ⟨_, runCmd_ok h rfl, rfl, rfl, rfl, rfl⟩
  case buzzer =>
    intro m s e h hl hh
    exact runCmd_ok h (bodyPnlBuzzer_ok hl hh)
  case buzzerRange =>
    intro m s e h hno
    exact congrArg _ (runCmd_done h (bodyPnlBuzzer_range hno) (by decide))
  case panel =>
    intro m s e h
    rw [exec_pnlStatus]
    exact runCmd_ok h rfl

/-! ### Host lanes (R416, R417) -/

section
variable {lane ip : Nat}

theorem execArpRequest_own (hl : lane < 4) (he : (s.cfgGet 0x15 0 (32 * lane) 1).testBit 0 = true)
    (ha : s.cfgGet 0x15 0 (32 * lane + 4) 4 = ip) : execArpRequest lane ip s = .next (s.send (.arpReply lane)) :=
  congrArg _ (if_pos ⟨hl, he, ha⟩)

theorem execArpRequest_other (ha : s.cfgGet 0x15 0 (32 * lane + 4) 4 ≠ ip) : execArpRequest lane ip s = .next s :=
  congrArg _ (if_neg fun ⟨_, _, h⟩ => ha h)

theorem execHostLinkUp_back (h : kvFind s.host.up lane = some false) : execHostLinkUp lane s =
    .next (post 0x8002 (hostH lane)
      (leBytes 2 0x0605 ++ leBytes 2 (noteVal s.faults.notes (noteKey (hostH lane) 0) 0x0605))
      (s.modHost fun x => { x with up := kvSet x.up lane true })) := by
  simp only [execHostLinkUp, h, BEq.rfl, if_true, State.modHost_faults]

theorem execHostLinkUp_first (h : kvFind s.host.up lane ≠ some false) :
    execHostLinkUp lane s = .next (s.modHost fun x => { x with up := kvSet x.up lane true }) := by
  simp only [execHostLinkUp, beq_eq_false_iff_ne.2 h, Bool.false_eq_true, if_false]

end

/-- Settles O31: each event by its cases. -/
theorem hostLanesReportTheirLinks : Obligations.HostLanesReportTheirLinks :=
  ⟨fun _ _ _ => execArpRequest_own, fun _ _ _ => execArpRequest_other, fun _ _ => rfl, fun _ _ => rfl,
    fun _ _ h => ⟨_, execHostLinkUp_back h, rfl⟩, fun _ _ => execHostLinkUp_first⟩

end Sys2Proof.Machine
end

section
/-! SUPPORT. The MOT_LOOP_ commands and the loop timeouts (O21): what the body of each answers in the state it enters,
and what each timeout raises (R274 to R281). That MODE to CASCADE asks for an outer loop is log entry 44. -/

namespace Sys2Proof.Machine

open Sys2Proof

variable {m : Cmd} {s : State} {k j : Nat}

theorem exec_motLoopTarget : exec (.motLoopTarget m) s = .next (runCmd opMotLoopTarget noTicket m (bodyMotLoopTarget m) s) :=
  rfl

theorem exec_motLoopSwitch : exec (.motLoopSwitch m) s = .next (runCmd opMotLoopSwitch noTicket m (bodyMotLoopSwitch m) s) :=
  rfl

/-! ### Commands (R274, R276, R277) -/

section
variable (hk : cmdSlot m s = some k)
include hk

theorem bodyMotLoopMode_ok {md : LoopMode} (hm : loopModeOf (m.u 1 1) = some md)
    (hv : f32Finite (BitVec.ofNat 32 (m.u 4 4)) = true)
    (hc : md = .cascade → (outerOf s.cfg.cur k).isSome = true) : bodyMotLoopMode m s =
      .done .ok [] (modLoop k (fun x => { x with
        mode := md, manual := if md = .manual then BitVec.ofNat 32 (m.u 4 4) else x.manual
        preset := x.preset || x.mode != md }) s) := by
  have hinner : (md == .cascade && (outerOf s.cfg.cur k).isNone) = false := by
    rcases eq_or_ne md .cascade with rfl | hmd
    · rw [Option.isNone_eq_false_iff.2 (hc rfl), Bool.and_false]
    · rw [beq_eq_false_iff_ne.2 hmd, Bool.false_and]
  simp only [bodyMotLoopMode, hk, hm, hv, hinner, Bool.not_true, Bool.or_self, Bool.false_eq_true, if_false]

theorem bodyMotLoopTarget_ok (hl : q16 (s.cfgGet 0x0B k 32 4) ≤ q16 (m.u 4 4))
    (hh : q16 (m.u 4 4) ≤ q16 (s.cfgGet 0x0B k 36 4)) : bodyMotLoopTarget m s =
      .done .ok [] (modLoop k (fun x => { x with target := some (m.u 4 4) }) s) := by
  simp only [bodyMotLoopTarget, hk, hl.not_gt, hh.not_gt, or_self, if_false]

theorem bodyMotLoopTarget_range (hh : q16 (s.cfgGet 0x0B k 36 4) < q16 (m.u 4 4)) :
    bodyMotLoopTarget m s = refuse .range s := by
  simp only [bodyMotLoopTarget, hk, hh, or_true, if_true]

section
variable (hu : checkHandle s s.cfg.cur (m.h 2) = none) (hj : slotAt s.cfg.cur (m.h 2) (m.u 1 1) = some j)
include hu hj

/-- A slot of the same output group whose input is valid takes the output over at once. -/
theorem bodyMotLoopSwitch_ok (hg : s.cfgGet 0x0B k 8 1 ≠ 0) (he : s.cfgGet 0x0B k 8 4 = s.cfgGet 0x0B j 8 4)
    (hv : inputValid s j = true) : bodyMotLoopSwitch m s = .done .ok [] (takeOwner j s) := by
  have hgroup : ¬ (s.cfgGet 0x0B k 8 1 = 0 ∨ s.cfgGet 0x0B k 8 4 ≠ s.cfgGet 0x0B j 8 4) := fun h => h.elim hg (· he)
  simp only [bodyMotLoopSwitch, hu, hk, hj, hgroup, hv, if_false, if_true]

theorem bodyMotLoopSwitch_conflict (hg : s.cfgGet 0x0B k 8 4 ≠ s.cfgGet 0x0B j 8 4) :
    bodyMotLoopSwitch m s = refuse .conflict s := by
  have hgroup : s.cfgGet 0x0B k 8 1 = 0 ∨ s.cfgGet 0x0B k 8 4 ≠ s.cfgGet 0x0B j 8 4 := .inr hg
  simp only [bodyMotLoopSwitch, hu, hk, hj, hgroup, if_true]

end

end

/-! ### Timeouts (R279 to R281) -/

theorem execLoopFollowingTimeout_raises (hr : (s.loop k).feRun = true) (ho : (s.loop k).on = true)
    (hs : s.cfgGet 0x0B k 0 1 ≠ 4) : execLoopFollowingTimeout k s =
      .next (raiseAs (if (s.cfgGet 0x0B k 2 1).testBit 0 then 3 else 2) 0 0x1401 (slotChannel s k).1 (slotChannel s k).2 k
        (modLoop k (fun x => { x with feRun := false }) s)) := by
  simp only [execLoopFollowingTimeout, hr, ho, bne_iff_ne.2 hs, Bool.and_self, if_true]
  rfl

/-- With no command waiting none is answered. -/
theorem finish_unasked (p : Waiter → Bool) (st : Status) (b : List Byte) (hw : s.mbx.waiters = []) :
    finish p st b s = s := by
  have hsame : ({ s.mbx with waiters := [] } : Mbx) = s.mbx := by rw [← hw]
  simp only [finish, hw, List.filter_nil, List.foldl_nil, State.modMbx, hsame]

theorem execLoopInputHoldTimeout_raises (ho : (s.loop k).on = true) (hv : inputValid s k = false)
    (hw : s.mbx.waiters = []) :
    execLoopInputHoldTimeout k s = .next (raise 0x1402 (slotChannel s k).1 (slotChannel s k).2 k s) := by
  simp only [execLoopInputHoldTimeout, hv, finish_unasked _ _ _ hw, ho, Bool.false_eq_true, if_false, Bool.not_false,
    Bool.and_self, if_true]

theorem execLoopSaturated_notes (ho : (s.loop k).on = true) (hs : (s.loop k).satHi = true ∨ (s.loop k).satLo = true)
    (hm : (s.loop k).mode = .auto ∨ (s.loop k).mode = .cascade) : execLoopSaturated k s =
      .next (note 0x1404 (slotChannel s k).1 (slotChannel s k).2
        (modLoop k (fun x => { x with satCount := min 255 (x.satCount + 1) }) s)) := by
  have hsat : ((s.loop k).satHi || (s.loop k).satLo) = true := Bool.or_eq_true_iff.2 hs
  have hmode : ((s.loop k).mode == .auto || (s.loop k).mode == .cascade) = true := by
    rcases hm with h | h <;> rw [h] <;> rfl
  simp only [execLoopSaturated, ho, hsat, hmode, Bool.and_self, if_true]

/-- Settles O21: each command by its body's equation, each timeout by what it raises. -/
theorem loopCommandsComplete : Obligations.LoopCommandsComplete := by
  unfold Obligations.LoopCommandsComplete
  refine ⟨?mode, ?target, ?targetRange, ?switch, ?switchConflict, fun k s => execLoopFollowingTimeout_raises,
    fun k s => execLoopInputHoldTimeout_raises, fun k s => execLoopSaturated_notes⟩
  case mode =>
    intro m s k md e v h hk hm hv hc
    exact runCmd_ok h (bodyMotLoopMode_ok hk hm hv hc)
  case target =>
    intro m s k e h hk hl hh
    exact runCmd_ok h (bodyMotLoopTarget_ok hk hl hh)
  case targetRange =>
    intro m s k e h hk hh
    rw [exec_motLoopTarget, runCmd_done h (bodyMotLoopTarget_range hk hh) (by decide)]
    rfl
  case switch =>
    intro m s k j e h hu hk hj hg he hv
    exact runCmd_ok h (bodyMotLoopSwitch_ok hk hu hj hg he hv)
  case switchConflict =>
    intro m s k j e h hu hk hj hg
    rw [exec_motLoopSwitch, runCmd_done h (bodyMotLoopSwitch_conflict hk hu hj hg) (by decide)]
    rfl

end Sys2Proof.Machine
end

section
/-! SUPPORT. The MNT_ commands of the activities (O22): what the body of each answers in the state it enters, and the
start, end, count tick and quiet-window timeout of an activity (R406 to R409). That MNT_START of a standing activity
answers at once is log entry 127, that MNT_STOP answers the MNT_START that waits log entry 128. -/

namespace Sys2Proof.Machine

open Sys2Proof

variable {m : Cmd} {s : State} {k : Nat} {h : Handle}

theorem exec_mntStart : exec (.mntStart m) s = .next (runCmd opMntStart noTicket m (bodyMntStart m) s) := rfl

theorem exec_mntStop : exec (.mntStop m) s = .next (runCmd opMntStop noTicket m (bodyMntStop m) s) := rfl

/-! ### MNT_START (R406, R407) -/

/-- An activity that may start on the scope of a MNT_START: the scope fits, nothing running claims what it claims, it
neither runs nor waits, and the flags are in range. -/
structure Startable (m : Cmd) (s : State) : Prop where
  scope : scopeOk s (m.u 1 1) m.handle = true
  clear : clashes s (m.u 1 1) m.handle false = false
  idle : actRuns s (m.u 1 1) m.handle = false
  unasked : (actOf s (m.u 1 1) m.handle).wanted = false
  flags : m.u 2 1 ≤ 1

/-- An activity that may start is left to the gap, its kind and its quiet condition. -/
theorem bodyMntStart_startable (h : Startable m s) : bodyMntStart m s =
    if scopeType (m.u 1 1) ≠ 3 ∧ m.u 1 1 ≠ 8 ∧ s.land.mode ≠ .thread then refuse .notInGap s
    else if m.u 1 1 = 1 ∨ m.u 1 1 = 8 then .done .ok [] (startAct (m.u 1 1) m.handle s)
    else if quiet s (m.u 1 1) m.handle then .later (startAct (m.u 1 1) m.handle s)
    else .later (if bitOf (m.u 2 1) 0
      then askGap (m.u 1 1) m.handle (modAct (m.u 1 1) m.handle (fun x => { x with wanted := true }) s)
      else modAct (m.u 1 1) m.handle (fun x => { x with wanted := true }) s) := by
  simp only [bodyMntStart, h.scope, h.clear, h.idle, h.unasked, h.flags.not_gt, decide_false, Bool.and_false,
    Bool.or_self, Bool.not_true, Bool.false_eq_true, if_false]

theorem bodyMntStart_standing (h : Startable m s) (hk : m.u 1 1 = 1 ∨ m.u 1 1 = 8) :
    bodyMntStart m s = .done .ok [] (startAct (m.u 1 1) m.handle s) := by
  have hgap : ¬ (scopeType (m.u 1 1) ≠ 3 ∧ m.u 1 1 ≠ 8 ∧ s.land.mode ≠ .thread) := by
    rintro ⟨ht, h8, -⟩
    rcases hk with hk | hk
    · exact ht (by rw [hk]; rfl)
    · exact h8 hk
  rw [bodyMntStart_startable h, if_neg hgap, if_pos hk]

section
variable (hst : Startable m s) (h1 : m.u 1 1 ≠ 1) (h8 : m.u 1 1 ≠ 8)
  (hgap : scopeType (m.u 1 1) = 3 ∨ s.land.mode = .thread)
include hst h1 h8 hgap

/-- An activity that ends by itself waits, in or outside its quiet condition. -/
theorem bodyMntStart_ending : bodyMntStart m s =
    if quiet s (m.u 1 1) m.handle then .later (startAct (m.u 1 1) m.handle s)
    else .later (if bitOf (m.u 2 1) 0
      then askGap (m.u 1 1) m.handle (modAct (m.u 1 1) m.handle (fun x => { x with wanted := true }) s)
      else modAct (m.u 1 1) m.handle (fun x => { x with wanted := true }) s) := by
  have hin : ¬ (scopeType (m.u 1 1) ≠ 3 ∧ m.u 1 1 ≠ 8 ∧ s.land.mode ≠ .thread) := fun ⟨ht, _, hm⟩ => hgap.elim ht hm
  rw [bodyMntStart_startable hst, if_neg hin, if_neg (not_or.2 ⟨h1, h8⟩)]

theorem bodyMntStart_quiet (hq : quiet s (m.u 1 1) m.handle = true) :
    bodyMntStart m s = .later (startAct (m.u 1 1) m.handle s) :=
  (bodyMntStart_ending hst h1 h8 hgap).trans (if_pos hq)

theorem bodyMntStart_wanted (hq : quiet s (m.u 1 1) m.handle = false) : bodyMntStart m s =
    .later (if m.u 2 1 = 1 then askGap (m.u 1 1) m.handle (modAct (m.u 1 1) m.handle (fun x => { x with wanted := true }) s)
      else modAct (m.u 1 1) m.handle (fun x => { x with wanted := true }) s) := by
  have hflag : bitOf (m.u 2 1) 0 = decide (m.u 2 1 = 1) := by
    have hle := hst.flags
    generalize m.u 2 1 = f at hle
    interval_cases f <;> rfl
  rw [bodyMntStart_ending hst h1 h8 hgap, if_neg (Bool.eq_false_iff.1 hq), hflag]
  simp only [decide_eq_true_eq]

end

theorem bodyMntStart_conflict (hs : scopeOk s (m.u 1 1) m.handle = true)
    (hc : clashes s (m.u 1 1) m.handle false = true) : bodyMntStart m s = refuse .conflict s := by
  simp only [bodyMntStart, hs, hc, Bool.and_self, if_true]

/-! ### MNT_STOP and MNT_STATUS (R408) -/

theorem bodyMntStop_ok (hs : scopeOk s (m.u 1 1) m.handle = true) (hr : actRuns s (m.u 1 1) m.handle = true) :
    bodyMntStop m s = .done .ok [] (finish (mntWaits (m.u 1 1) m.handle) .ok []
      (modAct (m.u 1 1) m.handle (fun x => { x with running := false, stopped := m.u 1 1 == 1 || m.u 1 1 == 8 })
        (stopEffect (m.u 1 1) m.handle s))) := by
  simp only [bodyMntStop, hs, hr, Bool.not_true, Bool.or_self, Bool.false_eq_true, if_false]

theorem bodyMntStop_conflict (hr : actRuns s (m.u 1 1) m.handle = false) : bodyMntStop m s = refuse .conflict s := by
  simp only [bodyMntStop, hr, Bool.not_false, Bool.or_true, if_true]

theorem bodyMntStatus_ok (hs : scopeOk s (m.u 1 1) m.handle = true) : bodyMntStatus m s =
    .done .ok (leBytes 1 (actState s (m.u 1 1) m.handle) ++ [0#8, 0#8, 0#8] ++
      leBytes 4 (actOf s (m.u 1 1) m.handle).count ++ leBytes 5 (actOf s (m.u 1 1) m.handle).doneSec) s := by
  simp only [bodyMntStatus, hs, Bool.not_true, Bool.false_eq_true, if_false]
  rfl

/-! ### The events of an activity (R407, R409) -/

theorem execMaintenanceStart_starts (hs : scopeOk s k h = true) (hr : actRuns s k h = false)
    (hw : (actOf s k h).wanted = true) (hq : quiet s k h = true) (hc : clashes s k h false = false) :
    execMaintenanceStart k h s = .next (startAct k h s) := by
  simp only [execMaintenanceStart, hs, hr, hw, hq, hc, Bool.true_or, Bool.not_true, Bool.or_self, Bool.false_eq_true,
    if_false]

theorem execMaintenanceComplete_ends {pass : Bool} {g : List Nat} {a : Nat} {o : Int} (hs : scopeOk s k h = true)
    (hr : actRuns s k h = true) (h1 : k ≠ 1) (h7 : k ≠ 7) (h8 : k ≠ 8) :
    execMaintenanceComplete k h pass g a o s = .next (endAct k h pass (endEffect k h pass g a o s)) := by
  simp only [execMaintenanceComplete, hs, hr, beq_eq_false_iff_ne.2 h1, beq_eq_false_iff_ne.2 h7,
    beq_eq_false_iff_ne.2 h8, h8, Bool.not_true, Bool.false_and, Bool.or_self, Bool.false_eq_true, if_false]

theorem execMaintenanceCountTick_counts (hk : k = 2 ∨ k = 8) (hs : scopeOk s k h = true) :
    execMaintenanceCountTick k h s = .next (if k = 8 then scrubNext (bumpAct k h s) else bumpAct k h s) := by
  simp only [execMaintenanceCountTick, hk, hs, and_self, if_true]

theorem execQuietWindowTimeout_forgets (hw : (actOf s k h).wanted = true) : execQuietWindowTimeout k h s =
    .next (finish (mntWaits k h) .timeout [] (modAct k h (fun x => { x with wanted := false }) s)) :=
  congrArg _ (if_pos hw)

/-- Settles O22: each command by its body's equation, each event by its case. -/
theorem maintenanceCommandsComplete : Obligations.MaintenanceCommandsComplete := by
  unfold Obligations.MaintenanceCommandsComplete
  refine ⟨?standing, ?quiet, ?wanted, ?clash, ?stop, ?stopConflict, ?status,
    fun k h s => execMaintenanceStart_starts, fun k h pass g a o s => execMaintenanceComplete_ends,
    fun k h s => execMaintenanceCountTick_counts, fun k h s => execQuietWindowTimeout_forgets⟩
  case standing =>
    intro m s e k h hs hc hr hw hf hk
    exact runCmd_ok h (bodyMntStart_standing ⟨hs, hc, hr, hw, hf⟩ hk)
  case quiet =>
    intro m s e k h hs hc hr hw hf h1 h8 hgap hq
    exact congrArg _ (runCmd_later h (bodyMntStart_quiet ⟨hs, hc, hr, hw, hf⟩ h1 h8 hgap hq))
  case wanted =>
    intro m s e k w h hs hc hr hw hf h1 h8 hgap hq
    exact congrArg _ (runCmd_later h (bodyMntStart_wanted ⟨hs, hc, hr, hw, hf⟩ h1 h8 hgap hq))
  case clash =>
    intro m s e h hs hc
    rw [exec_mntStart, runCmd_done h (bodyMntStart_conflict hs hc) (by decide)]
    rfl
  case stop =>
    intro m s e k t h hs hr
    exact runCmd_ok h (bodyMntStop_ok hs hr)
  case stopConflict =>
    intro m s e h hr
    rw [exec_mntStop, runCmd_done h (bodyMntStop_conflict hr) (by decide)]
    rfl
  case status =>
    intro m s e x h hs
    exact runCmd_ok h (bodyMntStatus_ok hs)

end Sys2Proof.Machine
end

section
/-! SUPPORT. Band datagrams (O30): their form, the band that they open to, what a fragment does to its band, and the
timeout, rejection and credit of staged bands (R420 to R422, R424, R427). That an error of offset or length is
BAD_DATAGRAM is log entry 66. -/

namespace Sys2Proof.Machine

open Sys2Proof

variable {lane : Nat} {bytes data : List Byte} {j : Job} {b : Staged} {id : BandId} {s : State}

theorem find?_eq_none_of_ne {bands : List Staged} (h : ∀ x ∈ bands, x.id ≠ id) :
    (bands.find? fun x => x.id == id) = none :=
  List.find?_eq_none.2 fun x hx => by simpa using h x hx

theorem id_of_find? {bands : List Staged} (h : (bands.find? fun x => x.id == id) = some b) : b.id = id := by
  simpa using List.find?_some h

/-! ### The form of a datagram (R420) -/

/-- A datagram has the form of R420 when it meets none of the grounds for BAD_DATAGRAM. -/
theorem bandForm_iff : bandForm bytes ↔ ¬ (bytes.length < 33 ∨ fieldAt bytes 0 4 ≠ 0x47524642 ∨ fieldAt bytes 4 1 ≠ 1 ∨
    fieldAt bytes 18 2 = 0 ∨ 8192 < fieldAt bytes 18 2 ∨
    bytes.length ≠ 32 + fieldAt bytes 18 2 + (if bitOf (fieldAt bytes 5 1) 0 then 16 else 0) ∨
    fieldAt bytes 20 4 % 16 ≠ 0 ∨ fieldAt bytes 24 4 < fieldAt bytes 20 4 + fieldAt bytes 18 2 ∨
    (fieldAt bytes 18 2 % 16 ≠ 0 ∧ fieldAt bytes 20 4 + fieldAt bytes 18 2 ≠ fieldAt bytes 24 4)) := by
  simp only [bandForm, bitOf, not_or, not_and_or, not_lt, ne_eq, not_not, Nat.one_le_iff_ne_zero]
  rfl

theorem execBandDatagram_badForm (hl : s.mbx.live = true) (h : ¬ bandForm bytes) :
    exec (.bandDatagram lane bytes) s = .next (note 0x0602 (hostH lane) 0 s) := by
  change execBandDatagram lane bytes s = _
  have hbad := not_not.1 (mt bandForm_iff.2 h)
  simp only [execBandDatagram, hl, hbad, Bool.not_true, Bool.false_eq_true, if_false, if_true]
  rfl

/-- A well-formed datagram is left to its job. -/
theorem execBandDatagram_wellFormed (hl : s.mbx.live = true) (h : bandForm bytes) :
    exec (.bandDatagram lane bytes) s = .next
      (match s.jobs.find? fun j => j.id == (bandIdOf bytes).job && j.live with
        | none => unknownJob (bandIdOf bytes) (bandSeen lane s)
        | some j =>
          if bitOf (fieldAt bytes 5 1) 0 ≠ j.encrypted then badDatagram lane (bandSeen lane s)
          else match bandBytes j bytes with
            | none => note 0x0603 (hostH lane) 0 (bandSeen lane s)
            | some data => bandFragment lane (bandIdOf bytes) (fieldAt bytes 20 4) (fieldAt bytes 24 4)
                (fieldAt bytes 28 4) data (bandSeen lane s)) := by
  change execBandDatagram lane bytes s = _
  simp only [execBandDatagram, hl, bandForm_iff.1 h, Bool.not_true, Bool.false_eq_true, if_false]
  rfl

/-! ### A band of no live job (R420) -/

/-- The identity has been told as unknown in the running second. -/
def toldUnknown (id : BandId) (s : State) : Prop := ∃ r ∈ s.ingest.rejSec, r.1 = id ∧ s.clk.opSec ≤ r.2

/-- The identities told in the running second once `id` is one of them. -/
def unknownNoted (id : BandId) (s : State) : State :=
  s.modIngest fun i => { i with
    rejSec := (i.rejSec.filter fun r => r.1 != id && decide (s.clk.opSec < r.2 + 1)) ++ [(id, s.clk.opSec)] }

theorem unknownJob_told (h : toldUnknown id s) : unknownJob id s = s := by
  obtain ⟨r, hr, he, hs⟩ := h
  refine if_pos (List.any_eq_true.2 ⟨r, hr, ?_⟩)
  simp [he, Nat.lt_succ_of_le hs]

theorem unknownJob_untold (h : ¬ toldUnknown id s) : unknownJob id s = bandEvent 0x8304 id 0x05 (unknownNoted id s) := by
  refine if_neg fun hany => h ?_
  obtain ⟨r, hr, hp⟩ := List.any_eq_true.1 hany
  rw [Bool.and_eq_true, beq_iff_eq, decide_eq_true_eq] at hp
  exact ⟨r, hr, hp.1, Nat.le_of_lt_succ hp.2⟩

theorem execBandDatagram_unknown (hl : s.mbx.live = true) (h : bandForm bytes)
    (hj : ∀ j ∈ s.jobs, j.id = (bandIdOf bytes).job → j.live = false) :
    exec (.bandDatagram lane bytes) s = .next (unknownJob (bandIdOf bytes) (bandSeen lane s)) := by
  have hnone : (s.jobs.find? fun j => j.id == (bandIdOf bytes).job && j.live) = none :=
    List.find?_eq_none.2 fun j hmem hp => by
      rw [Bool.and_eq_true, beq_iff_eq] at hp
      exact Bool.eq_false_iff.1 (hj j hmem hp.1) hp.2
  rw [execBandDatagram_wellFormed hl h, hnone]

/-! ### A band of a live job (R421, R422) -/

section
variable (hl : s.mbx.live = true) (h : bandForm bytes)
  (hj : (s.jobs.find? fun j => j.id == (bandIdOf bytes).job && j.live) = some j)
include hl h hj

theorem execBandDatagram_clash (he : (fieldAt bytes 5 1).testBit 0 ≠ j.encrypted) :
    exec (.bandDatagram lane bytes) s = .next (note 0x0602 (hostH lane) 0 (bandSeen lane s)) := by
  rw [execBandDatagram_wellFormed hl h, hj]
  exact congrArg _ (if_pos he)

theorem execBandDatagram_live (he : (fieldAt bytes 5 1).testBit 0 = j.encrypted) :
    exec (.bandDatagram lane bytes) s = .next (match bandBytes j bytes with
      | none => note 0x0603 (hostH lane) 0 (bandSeen lane s)
      | some data => bandFragment lane (bandIdOf bytes) (fieldAt bytes 20 4) (fieldAt bytes 24 4) (fieldAt bytes 28 4) data
          (bandSeen lane s)) := by
  rw [execBandDatagram_wellFormed hl h, hj]
  exact congrArg _ (if_neg (not_not.2 he))

end

theorem execBandDatagram_opens (h : bandOpens bytes data s) : exec (.bandDatagram lane bytes) s =
    .next (bandFragment lane (bandIdOf bytes) (fieldAt bytes 20 4) (fieldAt bytes 24 4) (fieldAt bytes 28 4) data
      (bandSeen lane s)) := by
  obtain ⟨hl, hf, j, hj, he, hd⟩ := h
  rw [execBandDatagram_live hl hf hj he, hd]

/-! ### Fragments (R421, R424) -/

variable {off len seq : Nat}

section
variable (hn : ∀ x ∈ s.ingest.bands, x.id ≠ id)
include hn

/-- The first datagram of a band meets the length limit and the credit limit, and opens the band. -/
theorem bandFragment_first : bandFragment lane id off len seq data s =
    if 1044480 < len then bandEvent 0x8304 id 0x0A s
    else if 4194304 + s.ingest.returned < s.ingest.used + reserveOf len then note 0x0604 (hostH lane) 0 s
    else addFragment lane { id := id, length := len, seq := seq } off len data (s.modIngest fun i =>
      { i with bands := i.bands ++ [{ id := id, length := len, seq := seq }], used := i.used + reserveOf len }) := by
  simp only [bandFragment, find?_eq_none_of_ne hn]

theorem bandFragment_tooLong (hlen : 1044480 < len) :
    bandFragment lane id off len seq data s = bandEvent 0x8304 id 0x0A s :=
  (bandFragment_first hn).trans (if_pos hlen)

theorem bandFragment_overCredit (hlen : len ≤ 1044480)
    (hc : 4194304 + s.ingest.returned < s.ingest.used + reserveOf len) :
    bandFragment lane id off len seq data s = note 0x0604 (hostH lane) 0 s :=
  (bandFragment_first hn).trans ((if_neg hlen.not_gt).trans (if_pos hc))

/-- Adding a fragment to the band that stands last changes that band alone. -/
theorem map_addFrag_last (hb : b.id = id) (f : Nat × List Byte) :
    ((s.ingest.bands ++ [b]).map fun x => if x.id = id then { x with frags := x.frags ++ [f] } else x) =
      s.ingest.bands ++ [{ b with frags := b.frags ++ [f] }] := by
  have hrest : (s.ingest.bands.map fun x => if x.id = id then { x with frags := x.frags ++ [f] } else x) =
      s.ingest.bands := (List.map_congr_left fun x hx => if_neg (hn x hx)).trans (List.map_id _)
  rw [List.map_append, hrest, List.map_cons, List.map_nil, if_pos hb]

/-- The first datagram of a band opens it with its fragment and reserves its pages, and completes it no sooner than the
fragment is the whole band. -/
theorem bandFragment_opens (hlen : len ≤ 1044480) (hc : s.ingest.used + reserveOf len ≤ 4194304 + s.ingest.returned)
    (hd : data.length ≠ len) : bandFragment lane id off len seq data s = s.modIngest fun i =>
      { i with
        bands := i.bands ++ [{ id := id, length := len, seq := seq, frags := [(off, data)] }]
        used := i.used + reserveOf len } := by
  rw [bandFragment_first hn, if_neg hlen.not_gt, if_neg hc.not_gt]
  have hpart : ¬ (([] : List (Nat × List Byte)).map fun f => f.2.length).sum + data.length = len := by simpa using hd
  simp only [addFragment, List.any_nil, Bool.or_self, Bool.false_eq_true, ne_eq, not_true_eq_false, if_false, hpart,
    State.modIngest, map_addFrag_last hn]
  rfl

end

/-- A fragment equal in place and length to one that the band has. -/
def repeatedFrag (b : Staged) (off : Nat) (data : List Byte) : Prop := ∃ f ∈ b.frags, f.1 = off ∧ f.2.length = data.length

/-- A fragment over bytes that the band has. -/
def overlapsFrag (b : Staged) (off : Nat) (data : List Byte) : Prop :=
  ∃ f ∈ b.frags, f.1 < off + data.length ∧ off < f.1 + f.2.length

theorem any_repeatedFrag : (b.frags.any fun f => f.1 == off && f.2.length == data.length) = true ↔
    repeatedFrag b off data := by
  simp only [List.any_eq_true, Bool.and_eq_true, beq_iff_eq]
  rfl

theorem any_overlapsFrag : (b.frags.any fun f => decide (f.1 < off + data.length) && decide (off < f.1 + f.2.length)) = true ↔
    overlapsFrag b off data := by
  simp only [List.any_eq_true, Bool.and_eq_true, decide_eq_true_eq]
  rfl

theorem addFragment_known (h : b.checked = true ∨ repeatedFrag b off data) : addFragment lane b off len data s = s :=
  if_pos (Bool.or_eq_true_iff.2 (h.imp_right any_repeatedFrag.2))

section
variable (hc : b.checked = false) (hr : ¬ repeatedFrag b off data)
include hc hr

theorem not_known : ¬ (b.checked || b.frags.any fun f => f.1 == off && f.2.length == data.length) = true := fun h =>
  (Bool.or_eq_true_iff.1 h).elim (Bool.eq_false_iff.1 hc) fun h => hr (any_repeatedFrag.1 h)

theorem addFragment_length (hl : len ≠ b.length) : addFragment lane b off len data s = rejectBand b.id 0x0A s :=
  (if_neg (not_known hc hr)).trans (if_pos hl)

theorem addFragment_overlap (hl : len = b.length) (ho : overlapsFrag b off data) :
    addFragment lane b off len data s = rejectBand b.id 0x20 s :=
  (if_neg (not_known hc hr)).trans ((if_neg (not_not.2 hl)).trans (if_pos (any_overlapsFrag.2 ho)))

/-- The state in which the fragment has joined its band. -/
def fragJoined (id : BandId) (off : Nat) (data : List Byte) (s : State) : State :=
  s.modIngest fun i => { i with bands := i.bands.map fun x =>
    if x.id = id then { x with frags := x.frags ++ [(off, data)] } else x }

theorem addFragment_joins (hl : len = b.length) (ho : ¬ overlapsFrag b off data) :
    addFragment lane b off len data s =
      if (b.frags.map fun f => f.2.length).sum + data.length = b.length then ingestBand lane b.id (fragJoined b.id off data s)
      else fragJoined b.id off data s :=
  (if_neg (not_known hc hr)).trans ((if_neg (not_not.2 hl)).trans (if_neg fun h => ho (any_overlapsFrag.1 h)))

end

/-- A further datagram of a staged band adds its fragment to it. -/
theorem execBandDatagram_fragment (h : bandOpens bytes data s)
    (hb : (s.ingest.bands.find? fun x => x.id == bandIdOf bytes) = some b) : exec (.bandDatagram lane bytes) s =
      .next (addFragment lane b (fieldAt bytes 20 4) (fieldAt bytes 24 4) data (bandSeen lane s)) := by
  have hseen : ((bandSeen lane s).ingest.bands.find? fun x => x.id == bandIdOf bytes) = some b := hb
  rw [execBandDatagram_opens h, bandFragment, hseen]

theorem not_repeatedFrag (h : ∀ f ∈ b.frags, f.1 = off → f.2.length ≠ data.length) : ¬ repeatedFrag b off data :=
  fun ⟨f, hf, he, hl⟩ => h f hf he hl

theorem not_overlapsFrag (h : ∀ f ∈ b.frags, off + data.length ≤ f.1 ∨ f.1 + f.2.length ≤ off) :
    ¬ overlapsFrag b off data := fun ⟨f, hf, hlo, hhi⟩ => (h f hf).elim hlo.not_ge hhi.not_ge

/-! ### Timeout, rejection and credit (R421, R424) -/

theorem execBandReassemblyTimeout_rejects {job layer frame band : Nat}
    (hb : (s.ingest.bands.find? fun b => b.id == ({ job := job, layer := layer, frame := frame, band := band } : BandId)) =
      some b) (hc : b.checked = false) : execBandReassemblyTimeout job layer frame band s =
        .next (rejectBand { job := job, layer := layer, frame := frame, band := band } 0x21 s) := by
  simp only [execBandReassemblyTimeout, hb, hc, Bool.false_eq_true, if_false]

theorem rejectBand_eq (k : Nat) (hb : (s.ingest.bands.find? fun b => b.id == id) = some b) :
    rejectBand id k s = post 0x8304 0xFFFF#16
      (leBytes 4 id.job ++ leBytes 1 id.layer ++ leBytes 1 k ++ leBytes 2 id.band ++ leBytes 4 id.frame)
      (returnCredit (reserveOf b.length)
        (s.modIngest fun i => { i with bands := i.bands.filter fun b => b.id != id })) := by
  simp only [rejectBand, bandEvent, unstage, hb]

/-- Credit goes out lane by lane. -/
theorem foldl_sendCredit (ls : List (Nat × Nat)) (s : State) :
    ls.foldl (fun s p => s.send (.credit p.1 s.ingest.returned)) s =
      s.modOutbox fun o => o ++ ls.map fun p => .credit p.1 s.ingest.returned := by
  induction ls generalizing s with
  | nil => simp [State.modOutbox]
  | cons p ls ih =>
    rw [List.foldl_cons, ih]
    simp [State.send, State.modOutbox]

/-- Settles O30: a datagram by its form, its job and its fragment. -/
theorem bandDatagramsFillStaging : Obligations.BandDatagramsFillStaging := by
  unfold Obligations.BandDatagramsFillStaging
  refine ⟨fun _ _ _ => execBandDatagram_badForm, ?unknown, ?told, fun _ _ _ _ => execBandDatagram_clash,
    fun _ _ _ _ => execBandDatagram_live, ?tooLong, ?overCredit, ?first, ?known, ?length, ?overlap, ?joins,
    fun job layer frame band b s hb hc => execBandReassemblyTimeout_rejects hb hc, fun id k b s => rejectBand_eq k,
    fun s => congrArg Host.Outcome.next (foldl_sendCredit _ s)⟩
  case unknown =>
    intro lane bytes s id e hl h hj hr
    have huntold : ¬ toldUnknown id e := fun ⟨r, hmem, he, hs⟩ => (hr r hmem he).not_ge hs
    refine ⟨unknownNoted id e, ?_, List.mem_append_right _ List.mem_cons_self, rfl⟩
    exact (execBandDatagram_unknown hl h hj).trans (congrArg _ (unknownJob_untold huntold))
  case told =>
    intro lane bytes s id hl h hj hr
    have htold : toldUnknown id (bandSeen lane s) := hr
    exact (execBandDatagram_unknown hl h hj).trans (congrArg _ (unknownJob_told htold))
  case tooLong =>
    intro lane bytes data s id h hn hlen
    exact (execBandDatagram_opens h).trans (congrArg _ (bandFragment_tooLong hn hlen))
  case overCredit =>
    intro lane bytes data s len h hn hlen hc
    exact (execBandDatagram_opens h).trans (congrArg _ (bandFragment_overCredit hn hlen hc))
  case first =>
    intro lane bytes data s f len id e h hn hlen hc hd
    exact (execBandDatagram_opens h).trans (congrArg _ (bandFragment_opens hn hlen hc hd))
  case known =>
    intro lane bytes data b s off h hb hk
    exact (execBandDatagram_fragment h hb).trans (congrArg _ (addFragment_known hk))
  case length =>
    intro lane bytes data b s off h hb hc hr hl
    rw [execBandDatagram_fragment h hb, addFragment_length hc (not_repeatedFrag hr) hl, id_of_find? hb]
  case overlap =>
    intro lane bytes data b s off h hb hc hr hl ho
    rw [execBandDatagram_fragment h hb, addFragment_overlap hc (not_repeatedFrag hr) hl ho, id_of_find? hb]
  case joins =>
    intro lane bytes data b s off id t h hb hc hr hl ho
    rw [execBandDatagram_fragment h hb, addFragment_joins hc (not_repeatedFrag hr) hl (not_overlapsFrag ho),
      id_of_find? hb]
    rfl

end Sys2Proof.Machine
end

section
/-! SUPPORT. The panel's events (O55): what a scan does to a key, the LED step, the touch line and the token port
(R428 to R431). That the fourth corner is counted is log entry 116, that restores are counted within 60 s log entry 119,
that an over-current ends a signature with NOT_AUTHORISED log entry 120. -/

namespace Sys2Proof.Machine

open Sys2Proof

variable {d : BitVec 64} {i : Nat} {s : State}

/-! ### Keys (R428) -/

theorem scanKey_same (h : d.getLsbD i = s.panel.keys.getLsbD i) :
    scanKey d s i = s.modPanel fun p => { p with scan := kvDel p.scan i } := if_pos h

section
variable (h : d.getLsbD i ≠ s.panel.keys.getLsbD i)
include h

/-- A key at a new level is counted before it changes, and a fourth corner always. -/
theorem scanKey_counted (hn : kvGet 0 s.panel.scan i < 19 ∨ (d.getLsbD i && fourthCorner s.panel.keys (i / 8) (i % 8)) = true) :
    scanKey d s i = s.modPanel fun p => { p with scan := kvSet p.scan i (min 20 (kvGet 0 s.panel.scan i + 1)) } := by
  have hcounted : min 20 (kvGet 0 s.panel.scan i + 1) < 20 ∨
      (d.getLsbD i && fourthCorner s.panel.keys (i / 8) (i % 8)) = true := hn.imp_left fun h => by omega
  exact (if_neg h).trans (if_pos hcounted)

theorem scanKey_changes (hn : 19 ≤ kvGet 0 s.panel.scan i)
    (hc : (d.getLsbD i && fourthCorner s.panel.keys (i / 8) (i % 8)) = false) :
    scanKey d s i = post 0x8D01 0xFFFF#16 (leBytes 1 (i / 8) ++ leBytes 1 (i % 8) ++ leBytes 1 (bnat (d.getLsbD i)))
      (s.modPanel fun p => { p with keys := p.keys ^^^ BitVec.ofNat 64 (2 ^ i), scan := kvDel p.scan i }) := by
  have hdone : ¬ (min 20 (kvGet 0 s.panel.scan i + 1) < 20 ∨
      (d.getLsbD i && fourthCorner s.panel.keys (i / 8) (i % 8)) = true) := by
    rw [hc]
    rintro (hlt | hf)
    · omega
    · exact Bool.false_ne_true hf
  exact (if_neg h).trans (if_neg hdone)

end

/-- Changing key `i` turns that key's bit alone. -/
theorem getLsbD_xor_key (k : BitVec 64) {j : Nat} (hj : j < 64) :
    (k ^^^ BitVec.ofNat 64 (2 ^ i)).getLsbD j = (k.getLsbD j ^^ decide (i = j)) := by
  rw [BitVec.getLsbD_xor, BitVec.getLsbD_ofNat, Nat.testBit_two_pow]
  simp [hj]

/-- With no key counted, keys read as they are change nothing. -/
theorem foldl_scanKey_still (h : s.panel.scan = []) (is : List Nat) : is.foldl (scanKey s.panel.keys) s = s := by
  induction is with
  | nil => rfl
  | cons i is ih =>
    have hsame : ({ s.panel with scan := [] } : Panel) = s.panel := by rw [← h]
    have hstill : scanKey s.panel.keys s i = s := by
      rw [scanKey_same rfl, State.modPanel, h, kvDel, List.filter_nil, hsame]
    rw [List.foldl_cons, hstill, ih]

theorem execKeyScan_running (h : running s = true) :
    execKeyScan d s = .next ((List.range 64).foldl (scanKey d) s) := congrArg _ (if_pos h)

theorem execKeyScan_stopped (h : running s = false) : execKeyScan d s = .next s :=
  congrArg _ (if_neg (Bool.eq_false_iff.1 h))

/-! ### LED chain (R429) -/

theorem execLedPwmStep_running (h : running s = true) : execLedPwmStep s = .next ((s.modPanel fun p => { p with
    chain := ledBits s, step := (p.step + 1) % 256, tick := p.tick + 1 }).send (.leds (ledBits s))) := by
  simp only [execLedPwmStep, h, Bool.not_true, Bool.false_eq_true, if_false]

/-! ### The touch panel (R430) -/

/-- The touch line is watched. -/
theorem touch_watched (h : running s = true) (he : touchEn s = true) (hs : s.panel.stuck = false) :
    ¬ (!running s || !touchEn s || s.panel.stuck) = true := by simp [h, he, hs]

section
variable (h : running s = true) (he : touchEn s = true) (hs : s.panel.stuck = false)
include h he hs

theorem execTouchInterrupt_none : execTouchInterrupt none s = .next (s.send .touchRead) :=
  congrArg _ (if_neg (touch_watched h he hs))

theorem execTouchInterrupt_some (bs : List Byte) :
    execTouchInterrupt (some bs) s = .next (touchReport bs (s.send .touchRead)) :=
  congrArg _ (if_neg (touch_watched h he hs))

theorem execTouchStuck_notes :
    execTouchStuck s = .next (note 0x0608 0#16 0 (s.modPanel fun p => { p with stuck := true })) := by
  rw [execTouchStuck, if_neg (touch_watched h he hs)]

end

theorem execTouchInterrupt_ignored (hs : s.panel.stuck = true) (r : Option (List Byte)) :
    execTouchInterrupt r s = .next s := by
  simp only [execTouchInterrupt, hs, Bool.or_true, if_true]

theorem execTouchStuck_ignored (hs : s.panel.stuck = true) : execTouchStuck s = .next s := by
  simp only [execTouchStuck, hs, Bool.or_true, if_true]

/-! ### The token port (R431) -/

/-- A device is kept as the plugged one, as the token when it is a CCID one. -/
def attached (v p : Nat) (c : Bool) (s : State) : State :=
  usbRecord 0 v p (s.modPanel fun x => { x with plugged := some (v % 65536, p % 65536), token := c })

section
variable (h : running s = true) (hv : s.panel.vbus = true) (hp : s.panel.plugged = none) (v p : Nat)
include h hv hp

theorem execUsbAttach_keeps (c : Bool) : execUsbAttach v p c s =
      .next (if c then attached v p c s else note 0x0607 0#16 0 (attached v p c s)) := by
  simp only [execUsbAttach, h, hv, hp, Option.isSome_none, Bool.not_true, Bool.or_self, Bool.false_eq_true, if_false]
  rfl

theorem execUsbAttach_token : execUsbAttach v p true s = .next (attached v p true s) := by
  rw [execUsbAttach_keeps h hv hp, if_pos rfl]

theorem execUsbAttach_other :
    execUsbAttach v p false s = .next (note 0x0607 0#16 0 (attached v p false s)) := by
  rw [execUsbAttach_keeps h hv hp, if_neg Bool.false_ne_true]

end

theorem execUsbDetach_none (h : s.panel.plugged = none) : execUsbDetach s = .next s := by
  simp only [execUsbDetach, h]

theorem execUsbDetach_some {v p : Nat} (h : s.panel.plugged = some (v, p)) : execUsbDetach s =
    .next (usbRecord 1 v p (s.modPanel fun x => { x with plugged := none, token := false })) := by
  simp only [execUsbDetach, h]

theorem execUsbOverCurrent_unplugged (h : running s = true) (hv : s.panel.vbus = true) (hp : s.panel.plugged = none) :
    execUsbOverCurrent s = .next (finish (waitingOp 0x0809) .notAuthorised []
      ((usbRecord 2 0 0 (s.modPanel fun p => { p with
        vbus := false, vbusOver := true, token := false, plugged := none })).modAuth fun a => { a with signing := none })) := by
  simp only [execUsbOverCurrent, h, hv, hp, Bool.not_true, Bool.or_self, Bool.false_eq_true, if_false,
    Option.getD_none]

/-- The restores of the last 60 s. -/
def recentRestores (s : State) : List Nat := s.panel.restores.filter fun t => decide (s.clk.opSec < t + 60)

section
variable (h : running s = true) (ho : s.panel.vbusOver = true) (hd : s.panel.vbusDead = false) (he : usbEn s = true)
include h ho hd he

/-- VBUS that an over-current took off comes back, or stays off after three restores. -/
theorem execVbusRestore_off : execVbusRestore s = .next (if 3 ≤ (recentRestores s).length
    then s.modPanel fun p => { p with vbusDead := true, restores := recentRestores s }
    else s.modPanel fun p =>
      { p with vbus := true, vbusOver := false, restores := recentRestores s ++ [s.clk.opSec] }) := by
  simp only [execVbusRestore, h, ho, hd, he, Bool.not_true, Bool.or_self, Bool.false_eq_true, if_false]
  rfl

theorem execVbusRestore_restores (hr : (recentRestores s).length < 3) : execVbusRestore s =
    .next (s.modPanel fun p =>
      { p with vbus := true, vbusOver := false, restores := recentRestores s ++ [s.clk.opSec] }) :=
  (execVbusRestore_off h ho hd he).trans (congrArg _ (if_neg hr.not_ge))

theorem execVbusRestore_gives_up (hr : 3 ≤ (recentRestores s).length) : execVbusRestore s =
    .next (s.modPanel fun p => { p with vbusDead := true, restores := recentRestores s }) :=
  (execVbusRestore_off h ho hd he).trans (congrArg _ (if_pos hr))

end

theorem execVbusRestore_dead (hd : s.panel.vbusDead = true) : execVbusRestore s = .next s := by
  simp only [execVbusRestore, hd, Bool.or_true, Bool.true_or, if_true]

/-- Settles O55: a key by its count, every event by its cases. -/
theorem panelAndTokenPort : Obligations.PanelAndTokenPort := by
  unfold Obligations.PanelAndTokenPort
  refine ⟨?keys, ?scan, fun _ => execLedPwmStep_running, ?touch,
    fun r s hs => ⟨execTouchInterrupt_ignored hs r, execTouchStuck_ignored hs⟩, fun _ => rfl, ?attach, ?detach,
    fun _ => execUsbOverCurrent_unplugged, ?restore, fun _ => execVbusRestore_dead⟩
  case keys =>
    intro d i s
    refine ⟨scanKey_same, fun h hn => ?counting, fun hd hk hc => ?corner, fun hi hd hk hn => ?release⟩
    case counting =>
      rw [scanKey_counted h (.inl hn), Nat.min_eq_right (by omega)]
    case corner =>
      rw [scanKey_counted (by simp [hd, hk]) (.inr (by simp [hd, hc]))]
      rfl
    case release =>
      refine ⟨_, (scanKey_changes (by simp [hd, hk]) hn (by simp [hd])).trans (by rw [hd]; rfl), ?_, fun j hj hne => ?_,
        rfl⟩
      · exact (getLsbD_xor_key _ hi).trans (by simp [hk])
      · exact (getLsbD_xor_key _ hj).trans (by simp [hne.symm])
  case scan =>
    intro d s
    refine ⟨execKeyScan_stopped, execKeyScan_running, fun h hd hs => ?_⟩
    subst hd
    exact (execKeyScan_running h).trans (congrArg _ (foldl_scanKey_still hs _))
  case touch =>
    intro s h he hs
    exact ⟨execTouchInterrupt_none h he hs, execTouchInterrupt_some h he hs, execTouchStuck_notes h he hs⟩
  case attach =>
    intro v p s h hv hp t
    exact ⟨execUsbAttach_token h hv hp v p, execUsbAttach_other h hv hp v p⟩
  case detach =>
    intro s
    exact ⟨execUsbDetach_none, fun v p => execUsbDetach_some⟩
  case restore =>
    intro s h ho hd he recent
    exact ⟨execVbusRestore_restores h ho hd he, execVbusRestore_gives_up h ho hd he⟩

end Sys2Proof.Machine
end

section
/-! SUPPORT. The clocks (O49): what a reset keeps and its release samples, the checks of FOSC and XTAL0, the root's
attempts, the divider staircase, failures in service, the second counted and clock meter 1 (R285 to R295, R310, R436,
R438). What a reset keeps is log entry 95. -/

namespace Sys2Proof.Machine

open Sys2Proof

variable {k : Nat} {s : State}

/-! ### FOSC (R289) -/

theorem exec_foscCheck : exec (.foscCheck k) s = execFoscCheck k s := rfl

section
variable (hp : s.boot.porst = false)
include hp

section
variable (hk : 160000 ≤ k ∧ k ≤ 240000)
include hk

/-- The first good check puts the domains on Table 14-4 and enables XTAL0. -/
theorem execFoscCheck_first (hg : s.clk.foscGood = false) : exec (.foscCheck k) s = .next (s.modClk fun c =>
    { c with
      foscFails := 0, foscGood := true, xtalOn := true
      domains := (List.range 7).map fun d => (d, { div := foscDiv d, target := foscDiv d }) }) := by
  simp only [exec_foscCheck, execFoscCheck, hp, hk, hg, and_self, if_true, Bool.false_eq_true, if_false]

theorem execFoscCheck_good (hg : s.clk.foscGood = true) :
    exec (.foscCheck k) s = .next (s.modClk fun c => { c with foscFails := 0 }) := by
  simp only [exec_foscCheck, execFoscCheck, hp, hk, hg, and_self, if_true, Bool.false_eq_true, if_false]

end

section
variable (hk : k < 160000 ∨ 240000 < k)
include hk

theorem execFoscCheck_bad : exec (.foscCheck k) s = .next (if 3 ≤ s.clk.foscFails then resetDevice s
    else s.modClk fun c => { c with foscFails := c.foscFails + 1 }) := by
  have hout : ¬ (160000 ≤ k ∧ k ≤ 240000) := by omega
  simp only [exec_foscCheck, execFoscCheck, hp, hout, Bool.false_eq_true, if_false]

theorem execFoscCheck_counts (hf : s.clk.foscFails < 3) :
    exec (.foscCheck k) s = .next (s.modClk fun c => { c with foscFails := c.foscFails + 1 }) :=
  (execFoscCheck_bad hp hk).trans (congrArg _ (if_neg hf.not_ge))

theorem execFoscCheck_resets (hf : 3 ≤ s.clk.foscFails) : exec (.foscCheck k) s = .next (resetDevice s) :=
  (execFoscCheck_bad hp hk).trans (congrArg _ (if_pos hf))

end

end

/-! ### XTAL0 (R290) -/

/-- The gates of meter 0 with which XTAL0 has counted, a good one continuing the run and a bad one ending it. -/
def gatesAfter (k : Nat) (c : Clk) : Nat := if 115 ≤ k ∧ k ≤ 141 then min 16 (c.xtalGates + 1) else 0

/-- A gate while the clocks wake up counts in the run. -/
theorem execXtal0Gate_waking (hp : s.boot.porst = false) (hx : s.clk.xtalOn = true) (hs : s.clk.stairDone = false)
    (hc : s.boot.cause = 0#4) : exec (.xtal0Gate k) s = .next (s.modClk fun c =>
      { c with xtalGates := gatesAfter k c, xtalGood := c.xtalGood || decide (16 ≤ gatesAfter k c) }) := by
  change execXtal0Gate k s = _
  have hcause : (s.boot.cause != 0#4) = false := by rw [hc]; rfl
  simp only [execXtal0Gate, hp, hx, hs, hcause, Bool.not_true, Bool.or_self, Bool.false_eq_true, if_false,
    decide_eq_true_eq]
  rfl

/-- A run of fewer than 16 gates, or a bad gate, declares nothing. -/
theorem gates_short {n : Nat} {c : Clk} (h : gatesAfter k c = n) (hn : n < 16) :
    ({ c with xtalGates := gatesAfter k c, xtalGood := c.xtalGood || decide (16 ≤ gatesAfter k c) } : Clk) =
      { c with xtalGates := n } := by
  simp only [h, hn.not_ge, decide_false, Bool.or_false]

theorem gates_good (hk : 115 ≤ k ∧ k ≤ 141) {c : Clk} (hn : 15 ≤ c.xtalGates) :
    ({ c with xtalGates := gatesAfter k c, xtalGood := c.xtalGood || decide (16 ≤ gatesAfter k c) } : Clk) =
      { c with xtalGates := 16, xtalGood := true } := by
  have h16 : gatesAfter k c = 16 := (if_pos hk).trans (by omega)
  simp only [h16, le_refl, decide_true, Bool.or_true]

theorem gatesAfter_good (hk : 115 ≤ k ∧ k ≤ 141) {c : Clk} (hn : c.xtalGates < 15) : gatesAfter k c = c.xtalGates + 1 :=
  (if_pos hk).trans (by omega)

theorem gatesAfter_bad (hk : k < 115 ∨ 141 < k) (c : Clk) : gatesAfter k c = 0 := if_neg (by omega)

/-! ### Wake-up and the root (R290, R291) -/

/-- Every domain of an aimed clock has its target moved and nothing else. -/
theorem domain_aimDomains (f : Nat → Nat) (c : Clk) {d : Nat} (h : d < 7) :
    domain (aimDomains f c) d = { domain c d with target := f d } := by
  interval_cases d <;> rfl

theorem div_aimDomains (f : Nat → Nat) (c : Clk) {d : Nat} (h : d < 7) :
    (domain (aimDomains f c) d).div = (domain c d).div := by rw [domain_aimDomains f c h]

/-- The domains of Table 14-4. -/
theorem div_foscDomains {d : Nat} (h : d < 7) : (kvGet ({} : Domain) ((List.range 7).map fun d =>
    (d, ({ div := foscDiv d, target := foscDiv d } : Domain))) d).div = foscDiv d := by
  interval_cases d <;> rfl

section
variable (hw : waking s = true)
include hw

theorem execXtal0StartTimeout_limp (hx : s.clk.xtalOn = true) (hg : s.clk.xtalGood = false) :
    execXtal0StartTimeout s = .next (s.modBoot fun b => { b with cause := 1#4 }) := by
  simp only [execXtal0StartTimeout, hw, hx, hg, Bool.not_false, Bool.and_self, if_true]
  rfl

theorem execRootLock_locks (hg : s.clk.xtalGood = true) (hr : s.clk.rootLocked = false) :
    execRootLock s = .next (s.modClk fun c => aimDomains rootDiv { c with rootLocked := true }) := by
  simp only [execRootLock, hw, hg, hr, Bool.not_false, Bool.and_self, if_true]

theorem execRootAttemptTimeout_fails (hg : s.clk.xtalGood = true) (hr : s.clk.rootLocked = false) :
    execRootAttemptTimeout s = .next (rootFails s) := by
  simp only [execRootAttemptTimeout, hw, hg, hr, Bool.not_false, Bool.and_self, if_true]

end

theorem execXtal0StartTimeout_good (hg : s.clk.xtalGood = true) : execXtal0StartTimeout s = .next s := by
  simp only [execXtal0StartTimeout, hg, Bool.not_true, Bool.and_false, Bool.false_eq_true, if_false]

/-- A failed attempt counts, and the fourth is limp cause 2. -/
theorem rootFails_eq (s : State) :
    let t := s.modClk fun c => aimDomains foscDiv { c with rootLocked := false, rootTries := c.rootTries + 1 }
    rootFails s = if 3 ≤ s.clk.rootTries then clocksFail 2#4 t else t :=
  if_congr Nat.succ_le_succ_iff rfl rfl

theorem rootFails_tries (s : State) : (rootFails s).clk.rootTries = s.clk.rootTries + 1 := by
  rw [rootFails_eq]
  split_ifs <;> rfl

theorem rootFails_boot (h : s.clk.rootTries < 3) : (rootFails s).boot = s.boot := by
  rw [rootFails_eq, if_neg h.not_ge]
  rfl

theorem rootFails_cause (h : 3 ≤ s.clk.rootTries) : (rootFails s).boot.cause = 2#4 := by
  rw [rootFails_eq, if_pos h]
  rfl

/-! ### Failures in service (R293) -/

theorem rootLost_inService (hp : s.boot.porst = false) (hc : s.boot.cause = 0#4) (hs : s.clk.stairDone = true)
    (hh : s.clk.holdOver = false) (hl : s.mbx.live = true) (code : Nat) : rootLost code s = raise code 0#16 0 0
      (s.modClk fun c => { c with holdOver := true, rootLocked := false, xtalGood := code != 0x0103 }) := by
  have hcause : (s.boot.cause != 0#4) = false := by rw [hc]; rfl
  simp only [rootLost, hp, hcause, hs, hh, Bool.or_self, Bool.false_eq_true, if_false, if_true, rootLockout,
    State.modClk_mbx, hl]

/-! ### The staircase (R288) -/

theorem find?_domainThere_none (h : ∀ d < 7, domainThere s.clk d = true) :
    ((List.range 7).find? fun d => !domainThere s.clk d) = none :=
  List.find?_eq_none.2 fun d hd => by simp [h d (List.mem_range.1 hd)]

theorem execDividerStep_there (hp : s.boot.porst = false) (h : ∀ d < 7, domainThere s.clk d = true) :
    execDividerStep s = .next s := by
  simp only [execDividerStep, hp, Bool.false_eq_true, if_false, State.modClk, find?_domainThere_none h]

/-- The clocks after a step of domain `d`. -/
def domainStepped (d : Nat) (c : Clk) : Clk :=
  { c with
    domains := kvMod {} c.domains d (domainStep (wantsRoot c))
    stairDone := c.stairDone || (c.rootLocked && (List.range 7).all fun e => domainThere
      { c with domains := kvMod {} c.domains d (domainStep (wantsRoot c)) } e) }

theorem execDividerStep_steps (hp : s.boot.porst = false) {d : Nat}
    (h : ((List.range 7).find? fun d => !domainThere s.clk d) = some d) :
    execDividerStep s = .next (s.modClk (domainStepped d)) := by
  simp only [execDividerStep, hp, Bool.false_eq_true, if_false, State.modClk, h]
  rfl

theorem domain_domainStepped_self (d : Nat) (c : Clk) :
    domain (domainStepped d c) d = domainStep (wantsRoot c) (domain c d) := kvGet_kvMod_self ..

theorem domain_domainStepped_other {d e : Nat} (h : e ≠ d) (c : Clk) : domain (domainStepped d c) e = domain c e :=
  kvGet_kvMod_ne _ _ _ h

/-- A rung toward a target is a rung. -/
theorem rungToward_mem (d t : Nat) : rungToward d t ∈ ladder := by
  unfold rungToward
  split_ifs
  · cases h : (ladder.filter fun r => decide (d < r)).getLast? with
    | none => decide
    | some r => exact List.mem_of_mem_filter (List.mem_of_getLast? h)
  · cases h : (ladder.filter fun r => decide (r < d)).head? with
    | none => decide
    | some r => exact List.mem_of_mem_filter (List.mem_of_mem_head? h)

theorem restartRung_mem (b : Bool) (d : Nat) : restartRung b d ∈ ladder := by
  unfold restartRung
  cases h : (ladder.filter fun r => if b then decide (12 * d ≤ r) else decide (d ≤ 12 * r)).getLast? with
  | none => decide
  | some r => exact List.mem_of_mem_filter (List.mem_of_getLast? h)

theorem domainStep_div (r : Bool) (x : Domain) : (domainStep r x).div =
    if x.div = 0 then 96
    else if x.target = 0 then (if x.div = 96 then 0 else rungToward x.div 0)
    else if x.onRoot ≠ r then restartRung r x.div
    else rungToward x.div x.target := by
  unfold domainStep
  split_ifs <;> rfl

/-- A step leaves the ladder only to stop a domain that is to stand still. -/
theorem domainStep_ladder (r : Bool) (x : Domain) :
    (domainStep r x).div = 0 ∧ x.target = 0 ∨ (domainStep r x).div ∈ ladder := by
  rw [domainStep_div]
  split_ifs with _ ht
  · exact .inr (by decide)
  · exact .inl ⟨rfl, ht⟩
  · exact .inr (rungToward_mem ..)
  · exact .inr (restartRung_mem ..)
  · exact .inr (rungToward_mem ..)

/-! ### A second of operation (R294) -/

/-- The state in which one more second is counted. -/
def secondCounted (s : State) : State := s.modClk fun c => { c with opSec := (c.opSec + 1) % 2 ^ 40 }

section
variable (hp : s.boot.porst = false)
include hp

theorem execXtal1Check_counts {ok : Bool} (h : ok = true ∨ s.clk.xtal1Fail = true) :
    execXtal1Check ok s = .next (secondCounted s) := by
  have hquiet : (ok || s.clk.xtal1Fail) = true := Bool.or_eq_true_iff.2 h
  simp only [execXtal1Check, hp, Bool.false_eq_true, if_false, State.modClk_clk, hquiet, if_true]
  rfl

theorem execXtal1Check_fails (hf : s.clk.xtal1Fail = false) (hl : s.mbx.live = true) : execXtal1Check false s =
    .next (raise 0x0105 0#16 0 0 ((secondCounted s).modClk fun c => { c with xtal1Fail := true })) := by
  simp only [execXtal1Check, hp, hf, Bool.or_self, Bool.false_eq_true, if_false, State.modClk_clk, State.modClk_mbx, hl,
    if_true]
  rfl

end

/-! ### Clock meter 1 (R295) -/

/-- The clocks once the meter's gate completes with count `k`. -/
def metered (k : Nat) (c : Clk) : Clk :=
  { c with
    meterBusy := false, meterCount := BitVec.ofNat 32 (min 0xFFFFFFFF k)
    meterWord := (c.meterWord &&& 0x1FFFFFFF#32) ||| 0x40000000#32 |||
      (if decide (0xFFFFFFFF < k) then 0x20000000#32 else 0#32) }

theorem execClockMeterDone_idle (h : s.clk.meterBusy = false) : execClockMeterDone k s = .next s := by
  simp only [execClockMeterDone, h, Bool.not_false, if_true]

theorem execClockMeterDone_answers (h : s.clk.meterBusy = true) : execClockMeterDone k s =
    .next (finish (waitingOp 0x0B04) .ok
      (leBytes 4 (metered k s.clk).meterCount.toNat ++ leBytes 1 (bnat (decide (0xFFFFFFFF < k))))
      (s.modClk (metered k))) := by
  simp only [execClockMeterDone, h, Bool.not_true, Bool.false_eq_true, if_false]
  rfl

theorem metered_count (c : Clk) : (metered k c).meterCount.toNat = min 0xFFFFFFFF k :=
  (BitVec.toNat_ofNat ..).trans (Nat.mod_eq_of_lt (by omega))

/-- DONE stands, BUSY does not, and OVF tells a count past 32 bits. -/
theorem metered_word (c : Clk) : (metered k c).meterWord.getLsbD 30 = true ∧ (metered k c).meterWord.getLsbD 31 = false ∧
    (metered k c).meterWord.getLsbD 29 = decide (0xFFFFFFFF < k) := by
  have hmask : ∀ i, 29 ≤ i → (c.meterWord &&& 0x1FFFFFFF#32).getLsbD i = false := fun i hi => by
    have hlow : (0x1FFFFFFF#32).getLsbD i = false := by
      rw [BitVec.getLsbD_ofNat]
      exact Bool.and_eq_false_iff.2 (.inr (Nat.testBit_lt_two_pow (lt_of_lt_of_le (by decide) (Nat.pow_le_pow_right (by decide) hi))))
    rw [BitVec.getLsbD_and, hlow, Bool.and_false]
  simp only [metered, BitVec.getLsbD_or, hmask 30 (by decide), hmask 31 (by decide), hmask 29 (by decide)]
  cases decide (0xFFFFFFFF < k) <;> decide

/-- Settles O49: each event by its cases, a divider step by the ladder. -/
theorem clocksWakeInOrder : Obligations.ClocksWakeInOrder := by
  unfold Obligations.ClocksWakeInOrder
  refine ⟨fun _ => ⟨rfl, rfl, rfl, rfl, rfl, rfl, rfl⟩, ?release, ?fosc, ?gate, ?wake, ?lost, ?stair,
    fun r x _ _ _ => domainStep_ladder r x, ?second, ?meter⟩
  case release =>
    intro p b s
    refine ⟨execPorstNRelease_released, fun h => ⟨execPorstNRelease_factoryTest h, _, execPorstNRelease_releases h, rfl,
      rfl, rfl, rfl, ?_, rfl⟩⟩
    change (if 2 ≤ b % 4 then Stage.none else Stage.rom) = Stage.rom ↔ b % 4 < 2
    split_ifs with hb
    · exact ⟨nofun, fun h => absurd hb h.not_ge⟩
    · exact ⟨fun _ => not_le.1 hb, fun _ => rfl⟩
  case fosc =>
    intro k s hp
    refine ⟨fun hl hh hg => ?_, fun hl hh => execFoscCheck_good hp ⟨hl, hh⟩, execFoscCheck_counts hp,
      execFoscCheck_resets hp⟩
    exact ⟨_, execFoscCheck_first hp ⟨hl, hh⟩ hg, rfl, rfl, rfl,
      fun d => div_foscDomains, rfl⟩
  case gate =>
    intro k s hp hx hs hc
    have hrun := execXtal0Gate_waking (k := k) hp hx hs hc
    refine ⟨fun hl hh hn => hrun.trans ?_, fun hl hh hn => hrun.trans ?_, fun hk => hrun.trans ?_⟩
    · rw [State.modClk, gates_short (gatesAfter_good ⟨hl, hh⟩ hn) (by omega)]
      rfl
    · rw [State.modClk, gates_good ⟨hl, hh⟩ hn]
      rfl
    · rw [State.modClk, gates_short (gatesAfter_bad hk _) (by decide)]
      rfl
  case wake =>
    intro s hw
    refine ⟨execXtal0StartTimeout_limp hw, execXtal0StartTimeout_good, fun hg hr => ⟨?_, ?_⟩⟩
    · refine ⟨_, execRootLock_locks hw hg hr, rfl, fun d hd => ?_, fun d hd => ?_⟩
      · exact congrArg Domain.target (domain_aimDomains _ _ hd)
      · exact div_aimDomains rootDiv _ hd
    · exact ⟨_, execRootAttemptTimeout_fails hw hg hr, rootFails_tries s, rootFails_boot, rootFails_cause⟩
  case lost =>
    intro s hp hc hs hh hl
    exact ⟨congrArg _ (rootLost_inService hp hc hs hh hl 0x0103), congrArg _ (rootLost_inService hp hc hs hh hl 0x0104)⟩
  case stair =>
    intro s hp
    refine ⟨execDividerStep_there hp, fun d h => ⟨_, execDividerStep_steps hp h, domain_domainStepped_self d _,
      fun e he => domain_domainStepped_other he _, rfl⟩⟩
  case second =>
    intro ok s hp t
    refine ⟨execXtal1Check_counts hp, fun hok hf hl => ?_⟩
    subst hok
    exact execXtal1Check_fails hp hf hl
  case meter =>
    intro k s
    refine ⟨execClockMeterDone_idle, fun h => ?_⟩
    obtain ⟨hdone, hbusy, hovf⟩ := metered_word (k := k) s.clk
    exact ⟨s.modClk (metered k), rfl, metered_count s.clk, hdone, hbusy, hovf, rfl, execClockMeterDone_answers h⟩

end Sys2Proof.Machine
end

section
/-! SUPPORT. The thermal stages (O51): what a level enters, what spoiling marks, the grid of slow requests, and what the
exits, the slow step, the die's comparator and a stuck sensor do (R184, R314 to R320). -/

namespace Sys2Proof.Machine

open Sys2Proof

variable {k : Nat} {s : State}

theorem source_modSource_self (k : Nat) (f : TSrc → TSrc) (s : State) :
    source (modSource k f s) k = f (source s k) := kvGet_kvMod_self ..

/-! ### Entering a stage (R315, R317 to R319) -/

/-- A level below every threshold enters no stage. -/
theorem judgeLevel_cool {v : Int} (hk : k ≠ 140) (hv : levelOf s k = some v) (hr : v < resumeAt s k)
    (hrs : resumeAt s k ≤ slowAt s k) (hss : slowAt s k ≤ stopAt s k) (hst : stopAt s k ≤ tripAt s k) :
    judgeLevel k s = s := by
  have hslow : ¬ slowAt s k ≤ v := by omega
  have hstop : ¬ stopAt s k ≤ v := by omega
  have htrip : ¬ tripAt s k ≤ v := by omega
  simp only [judgeLevel, hv, hslow, hstop, htrip, hk, hr.not_ge, false_and, or_self, if_false]

theorem enterSlow_enters (h : (source s k).slow = false) : enterSlow k s = raise 0x0302 (sourceH s.cfg.cur k) 0 k
    (addReq k (slowGrid (s.gov.speed * 4 / 5)) (modSource k (fun x => { x with slow := true }) s)) :=
  if_neg (Bool.eq_false_iff.1 h)

theorem enterStop_enters (h : (source s k).hot < 4) : enterStop k s = raise 0x0303 (sourceH s.cfg.cur k) 0 k
    (modSource k (fun x => { x with hot := 4, cool := false }) s) := if_neg h.not_ge

/-- Every station of a flight is a failed one once all are folded in. -/
theorem getLsbD_foldl_setBit (ns : List Nat) (b : BitVec 16) {n : Nat} (hn : n < 16)
    (h : b.getLsbD n = true ∨ n ∈ ns) : (ns.foldl setBit b).getLsbD n = true := by
  induction ns generalizing b with
  | nil => exact h.resolve_right List.not_mem_nil
  | cons m ns ih =>
    refine ih _ ?_
    rcases h with h | h
    · exact .inl (by simp [setBit, h])
    · rcases List.mem_cons.1 h with rfl | h
      · exact .inl (getLsbD_setBit_self b hn)
      · exact .inr h

theorem mem_flights_spoilAll {cause : Nat} {f : Flight} (h : f ∈ (spoilAll cause s).land.flights) :
    f.spoiled = true ∧ ∀ n ∈ f.stations, n < 16 → f.failed.getLsbD n = true := by
  obtain ⟨g, -, rfl⟩ := List.mem_map.1 h
  exact ⟨rfl, fun n hn h16 => getLsbD_foldl_setBit _ _ h16 (.inr hn)⟩

/-! ### Values (R316, R317) -/

theorem valueOf_broken (h : (source s k).broken = true) : valueOf s k = some (stopAt s k + 16) := if_pos h

/-- A request lies on the 0.5 in/s grid, at most half a step below what is asked and not below 25 in/s. -/
theorem slowGrid_bounds (v : Rat) : 25 ≤ slowGrid v ∧ (25 ≤ v → slowGrid v ≤ v ∧ v - 1 / 2 < slowGrid v) := by
  have hlo : ((2 * v).floor : Rat) ≤ 2 * v := Int.floor_le (2 * v)
  have hhi : 2 * v < ((2 * v).floor : Rat) + 1 := Int.lt_floor_add_one (2 * v)
  refine ⟨le_max_left .., fun h => ⟨max_le h (by linarith), lt_max_of_lt_right (by linarith)⟩⟩

/-! ### Leaving a stage (R315, R320) -/

section
variable {j : Nat}

theorem execThermalStageExit_second (ht : (source s 140).thr = 2) (hl : levelBelow s 140 1520 = true) :
    execThermalStageExit 140 2 s = .next (setThrottle 1 s) := congrArg _ (if_pos ⟨rfl, ht, hl⟩)

theorem execThermalStageExit_first (ht : (source s 140).thr = 1) (hl : levelBelow s 140 1472 = true) :
    execThermalStageExit 140 1 s = .next (setThrottle 0 s) := congrArg _ (if_pos ⟨rfl, ht, hl⟩)

theorem execThermalStageExit_first_hot (hl : levelBelow s 140 1472 = false) : execThermalStageExit 140 1 s = .next s :=
  congrArg _ (if_neg fun ⟨_, _, h⟩ => Bool.eq_false_iff.1 hl h)

theorem execThermalStageExit_slow (hs : (source s k).slow = true) (hl : levelBelow s k (slowExit s k) = true) :
    execThermalStageExit k 3 s = .next (dropReq k (modSource k (fun x => { x with slow := false }) s)) :=
  congrArg _ (if_pos ⟨hs, hl⟩)

theorem execThermalStageExit_hot (hh : (source s k).hot ≠ 0) (hl : levelBelow s k (resumeAt s k) = true) :
    execThermalStageExit k 4 s = .next (leaveHot k (modSource k (fun x => { x with cool := true }) s)) :=
  congrArg _ (if_pos ⟨hh, hl⟩)

theorem execThermalStageExit_notSlow (hl : levelBelow s k (slowExit s k) = false) :
    execThermalStageExit k 3 s = .next s := congrArg _ (if_neg fun ⟨_, h⟩ => Bool.eq_false_iff.1 hl h)

theorem execThermalStageExit_notCool (hl : levelBelow s k (resumeAt s k) = false) :
    execThermalStageExit k 4 s = .next s := congrArg _ (if_neg fun ⟨_, h⟩ => Bool.eq_false_iff.1 hl h)

end

theorem leaveHot_stays (h : (source s k).hot = 0 ∨ (source s k).cool = false) : leaveHot k s = s := if_pos h

/-- A source in its stop stage that is cool, with no record on its unit, is hot no more. -/
theorem leaveHot_leaves (hh : (source s k).hot = 4) (hc : (source s k).cool = true) (hk : k ≠ 140)
    (hr : recordOf s (sourceH s.cfg.cur k) 0 = none) :
    leaveHot k s = modSource k (fun x => { x with hot := 0, cool := false }) s := by
  have hacked : awaitsAck s k = false := by simp only [awaitsAck, hr]
  simp only [leaveHot, hh, hc, hk, hr, hacked, Bool.not_false, Bool.not_true, OfNat.ofNat_ne_zero,
    Bool.true_eq_false, Bool.false_eq_true, or_self, if_false, Nat.reduceEqDiff]

/-! ### Slow steps, the comparator and stuck sensors (R316, R317, R319) -/

theorem execSlowStep_steps {v : Rat} (hs : (source s k).slow = true) (hl : levelBelow s k (slowAt s k) = false)
    (hr : (s.gov.reqs.find? fun r => r.1 == k) = some (k, v)) :
    execSlowStep k s = .next (addReq k (slowGrid (v * 4 / 5)) s) := by
  simp only [execSlowStep, hs, hl, and_self, if_true, hr]

theorem execSlowStep_notSlow (hs : (source s k).slow = false) : execSlowStep k s = .next s :=
  congrArg _ (if_neg fun ⟨h, _⟩ => Bool.eq_false_iff.1 hs h)

/-- The die's comparator has tripped at a sensor's reading. -/
def comparatorTripped (k : Nat) (r : Int) (s : State) : State :=
  (modSource k (fun x => { x with raw := some r }) s).modTherm fun t => { t with dieTrip := true }

theorem execDieTripComparator_trips {r : Int} (hk : k < 8) (hr : 1728 ≤ r) :
    execDieTripComparator k r s = .next (setLasers (darken (comparatorTripped k r s))) :=
  congrArg _ (if_neg (not_or.2 ⟨hk.not_ge, hr.not_gt⟩))

theorem raw_comparatorTripped (r : Int) : (source (comparatorTripped k r s) k).raw = some r :=
  congrArg TSrc.raw (source_modSource_self k (fun x => { x with raw := some r }) s)

theorem execSensorStuck_live (h : s.mbx.live = true) : execSensorStuck k s = .next (breakSource k s) :=
  congrArg _ (if_pos h)

theorem breakSource_broken (h : (source s k).broken = true) : breakSource k s = s := if_pos (.inl h)

theorem breakSource_breaks (hb : (source s k).broken = false) (hu : sourceUsed s k = true) (hk : k ≠ 140) :
    breakSource k s = raise 0x0305 (sourceH s.cfg.cur k) 0 k (modSource k (fun x => { x with broken := true, okN := 0 }) s) :=
  if_neg (by simp [hb, hu, hk])

/-- Settles O51: each stage by its entry and its exit. -/
theorem thermalStagesAreEnteredAndLeft : Obligations.ThermalStagesAreEnteredAndLeft := by
  unfold Obligations.ThermalStagesAreEnteredAndLeft
  refine ⟨fun die td s => ⟨fun h => congrArg _ (if_pos (by simp [h])), fun h => congrArg _ (if_neg (by simp [h]))⟩,
    fun k v s => judgeLevel_cool, ?enter, fun cause s f => mem_flights_spoilAll, fun k s => valueOf_broken, slowGrid_bounds,
    fun s => ⟨execThermalStageExit_first, execThermalStageExit_second, execThermalStageExit_first_hot⟩,
    fun k s => ⟨execThermalStageExit_slow, execThermalStageExit_hot, execThermalStageExit_notSlow,
      execThermalStageExit_notCool⟩, fun k v s => execSlowStep_steps, fun k s => execSlowStep_notSlow, ?comparator, ?stuck,
    fun k s => ⟨leaveHot_stays, leaveHot_leaves⟩⟩
  case enter =>
    intro k s
    refine ⟨fun h => if_pos h, fun h => ⟨_, enterSlow_enters h, rfl⟩, fun h => if_pos h,
      fun h => ⟨_, enterStop_enters h, congrArg TSrc.hot (source_modSource_self k _ s), rfl⟩, fun h => if_pos h, fun h => ?_⟩
    exact ⟨_, _, congrArg TSrc.hot (source_modSource_self k _ s), rfl, rfl, if_neg h⟩
  case comparator =>
    intro k r s
    exact ⟨fun h => congrArg _ (if_pos h), fun hk hr => ⟨_, execDieTripComparator_trips hk hr, rfl, raw_comparatorTripped r,
      rfl⟩⟩
  case stuck =>
    intro k s hl
    exact ⟨fun hb => (execSensorStuck_live hl).trans (congrArg _ (breakSource_broken hb)),
      fun hb hu hk => (execSensorStuck_live hl).trans (congrArg _ (breakSource_breaks hb hu hk))⟩

end Sys2Proof.Machine
end

section
/-! SUPPORT. The rails (O50): what a judgement, a poll, a timer and the sequencer do to a rail, the reset outputs, the ADC
reference and the power-fail warning (R299 to R312). That no local rail is judged with the ADC's reference bad is log
entry 100, the status bits that fail a rising rail entry 99, that RAIL_ENABLE carries the rails whose parents' on_delay
has run entry 101. -/

namespace Sys2Proof.Machine

open Sys2Proof

variable {r mv limit : Nat} {clean : Bool} {s : State}

/-! ### Judgements (R299, R303, R305) -/

theorem execRailJudgement_still {pins : List (Nat × Rat)}
    (h : s.power.adcBad = true ∨ s.mbx.live = false ∨ s.boot.stage ≠ .running) : execRailJudgement pins s = .next s := by
  refine congrArg _ (if_pos ?_)
  rcases h with h | h | h
  · simp [h]
  · simp [h]
  · simp [bne_iff_ne.2 h]

theorem execRailJudgement_single {v : Rat} (ha : s.power.adcBad = false) (hl : s.mbx.live = true)
    (hs : s.boot.stage = .running) (hu : usedRails s = [r]) (hp : railPm s r = false) (ht : railTimed s r = false) :
    execRailJudgement [(railF s r 0 1 % 16, v)] s =
      .next (judgeRail r (v * (railF s r 24 2 : Nat) / 256).floor.toNat 4 true s) := by
  have hserved : (s.power.adcBad || !s.mbx.live || s.boot.stage != .running) = false := by rw [ha, hl, hs]; rfl
  simp only [execRailJudgement, hserved, hu, hp, ht, List.foldl_cons, List.foldl_nil, Bool.or_self, Bool.false_eq_true,
    if_false, List.find?_cons, BEq.rfl]

/-- Rail `r` has the voltage `mv`. -/
def railRead (r mv : Nat) (s : State) : State := modRail r (fun x => { x with mv := mv }) s

theorem st_railRead (r mv : Nat) (s : State) : ((railRead r mv s).rail r).st = (s.rail r).st := by
  rw [railRead, rail_modRail_self]

theorem badJudge_railRead (r mv : Nat) (s : State) : ((railRead r mv s).rail r).badJudge = (s.rail r).badJudge := by
  rw [railRead, rail_modRail_self]

/-- A judgement by the state that the rail was in. -/
theorem judgeRail_eq : judgeRail r mv limit clean s = match (s.rail r).st with
    | .rising => if railWindow s r mv && clean then upDone (setRail r .good (railRead r mv s)) else railRead r mv s
    | .good =>
      if railWindow s r mv then modRail r (fun x => { x with badJudge := 0 }) (railRead r mv s)
      else if limit ≤ (s.rail r).badJudge + 1 then railFails r 2 (railRead r mv s)
      else modRail r (fun x => { x with badJudge := (s.rail r).badJudge + 1 }) (railRead r mv s)
    | .falling => if mv < railF s r 14 2 ∧ railBlind (railRead r mv s) r = false then fallen r (railRead r mv s)
      else railRead r mv s
    | _ => railRead r mv s := by
  rw [← st_railRead r mv s, ← badJudge_railRead r mv s]
  rfl

section
variable (hg : (s.rail r).st = .good)
include hg

theorem judgeRail_good_in (hw : railWindow s r mv = true) :
    judgeRail r mv limit clean s = modRail r (fun x => { x with badJudge := 0 }) (railRead r mv s) := by
  simp only [judgeRail_eq, hg, hw, if_true]

theorem judgeRail_good_counted (hw : railWindow s r mv = false) (hn : (s.rail r).badJudge + 1 < limit) :
    judgeRail r mv limit clean s =
      modRail r (fun x => { x with badJudge := (s.rail r).badJudge + 1 }) (railRead r mv s) := by
  simp only [judgeRail_eq, hg, hw, hn.not_ge, Bool.false_eq_true, if_false]

theorem judgeRail_good_fails (hw : railWindow s r mv = false) (hn : limit ≤ (s.rail r).badJudge + 1) :
    judgeRail r mv limit clean s = railFails r 2 (railRead r mv s) := by
  simp only [judgeRail_eq, hg, hw, hn, Bool.false_eq_true, if_false, if_true]

end

theorem judgeRail_rising_in (hr : (s.rail r).st = .rising) (hw : railWindow s r mv = true) :
    judgeRail r mv limit true s = upDone (setRail r .good (railRead r mv s)) := by
  simp only [judgeRail_eq, hr, hw, Bool.and_self, if_true]

theorem judgeRail_rising_out (hr : (s.rail r).st = .rising) (hw : railWindow s r mv = false) :
    judgeRail r mv limit clean s = railRead r mv s := by
  simp only [judgeRail_eq, hr, hw, Bool.false_and, Bool.false_eq_true, if_false]

theorem judgeRail_down (h : [RailState.off, .failed, .held].contains (s.rail r).st = true) :
    judgeRail r mv limit clean s = railRead r mv s := by
  rw [judgeRail_eq]
  generalize (s.rail r).st = st at h
  cases st with
  | off | failed | held => rfl
  | rising | good | falling => exact absurd h (by decide)

/-! ### PMBus (R300, R305) -/

/-- The page's status word is kept. -/
def wordRead (r w : Nat) (s : State) : State := modRail r (fun x => { x with word := w, noAns := false }) s

theorem st_wordRead (r w : Nat) (s : State) : ((wordRead r w s).rail r).st = (s.rail r).st := by
  rw [wordRead, rail_modRail_self]

section
variable {w : Nat} (hg : (s.rail r).st = .good)
include hg

theorem judgeStatus_good : judgeStatus r w s =
    if statusFault w true then railFails r 4 (wordRead r w s) else wordRead r w s := by
  have hst : ((wordRead r w s).rail r).st = .good := (st_wordRead ..).trans hg
  unfold wordRead at *
  simp only [judgeStatus, hst]

theorem judgeStatus_clean (hf : statusFault w true = false) : judgeStatus r w s = wordRead r w s :=
  (judgeStatus_good hg).trans (if_neg (Bool.eq_false_iff.1 hf))

theorem judgeStatus_fails (hf : statusFault w true = true) : judgeStatus r w s = railFails r 4 (wordRead r w s) :=
  (judgeStatus_good hg).trans (if_pos hf)

end

theorem noAnswer_fails (h : (s.rail r).st = .good ∨ (s.rail r).st = .rising) :
    noAnswer r s = railFails r 3 (modRail r (fun x => { x with noAns := true }) s) := by
  have hst : ((modRail r (fun x => { x with noAns := true }) s).rail r).st = (s.rail r).st := by
    rw [rail_modRail_self]
  rw [← hst] at h
  exact if_pos h

section
variable {d p : Nat} (hl : s.mbx.live = true) (hs : s.boot.stage = .running)
include hl hs

/-- Running firmware reads the pages. -/
theorem pmbus_served : (!s.mbx.live || s.boot.stage != .running) = false := by
  rw [hl, hs]
  rfl

theorem execPmbusPoll_noRail (a : Option (Nat × Nat)) (hp : pageRail s d p = none) : execPmbusPoll d p a s = .next s := by
  simp only [execPmbusPoll, pmbus_served hl hs, hp, Bool.false_eq_true, if_false]

theorem execPmbusPoll_noAnswer (hp : pageRail s d p = some r) :
    execPmbusPoll d p none s = .next (noAnswer r s) := by
  simp only [execPmbusPoll, pmbus_served hl hs, hp, Bool.false_eq_true, if_false]

theorem execPmbusPoll_good {m w : Nat} (hp : pageRail s d p = some r) (hg : (s.rail r).st = .good)
    (hf : statusFault w true = false) (hw : railWindow s r (linear16 s d p m) = true) :
    execPmbusPoll d p (some (m, w)) s = .next (modRail r (fun x => { x with badJudge := 0 })
      (railRead r (linear16 s d p m) (wordRead r w s))) := by
  have hst : ((wordRead r w s).rail r).st = .good := (st_wordRead ..).trans hg
  have hin : railWindow (wordRead r w s) r (linear16 (wordRead r w s) d p m) = true := hw
  simp only [execPmbusPoll, pmbus_served hl hs, hp, Bool.false_eq_true, if_false, judgeStatus_clean hg hf,
    judgeRail_good_in hst hin]
  rfl

theorem execPmbAlert_none : execPmbAlert [] s = .next s := by
  simp only [execPmbAlert, pmbus_served hl hs, Bool.false_eq_true, if_false, List.foldl_nil]

theorem execPmbAlert_single {w : Nat} (hp : pageRail s d p = some r) :
    execPmbAlert [(d, p, some w)] s = .next (judgeStatus r w (s.send (.rail r 3))) := by
  simp only [execPmbAlert, pmbus_served hl hs, Bool.false_eq_true, if_false, List.foldl_cons, List.foldl_nil, hp]

end

/-! ### Enables (R304) -/

section
variable {α : Type} {le : α → α → Bool}

theorem mem_insertBy {x y : α} {l : List α} : y ∈ insertBy le x l ↔ y = x ∨ y ∈ l := by
  induction l with
  | nil => simp [insertBy]
  | cons z l ih =>
    unfold insertBy
    split_ifs
    · exact List.mem_cons
    · rw [List.mem_cons, ih, List.mem_cons]
      tauto

theorem mem_sortBy {y : α} {l : List α} : y ∈ sortBy l le ↔ y ∈ l := by
  induction l with
  | nil => simp [sortBy]
  | cons x l ih => rw [show sortBy (x :: l) le = insertBy le x (sortBy l le) from rfl, mem_insertBy, ih, List.mem_cons]

/-- The head of a sorted list precedes every element. -/
theorem le_of_head?_sortBy (total : ∀ a b, le a b = true ∨ le b a = true)
    (trans : ∀ a b c, le a b = true → le b c = true → le a c = true) {l : List α} {x y : α}
    (hx : (sortBy l le).head? = some x) (hy : y ∈ l) : le x y = true := by
  induction l generalizing x y with
  | nil => cases hy
  | cons z l ih =>
    change (insertBy le z (sortBy l le)).head? = some x at hx
    have hrefl : ∀ a, le a a = true := fun a => (total a a).elim id id
    cases hl : sortBy l le with
    | nil =>
      have hnil : l = [] := List.eq_nil_iff_forall_not_mem.2 fun q hq => by
        have hmem := (mem_sortBy (le := le)).2 hq
        rw [hl] at hmem
        cases hmem
      subst hnil
      rw [hl] at hx
      obtain rfl : z = x := by simpa [insertBy] using hx
      rw [List.mem_singleton.1 hy]
      exact hrefl z
    | cons w t =>
      have hw : ∀ q ∈ l, le w q = true := fun q => ih (by rw [hl]; rfl)
      rw [hl, insertBy] at hx
      split_ifs at hx with hle
      · obtain rfl : z = x := by simpa using hx
        rcases List.mem_cons.1 hy with rfl | hy
        · exact hrefl y
        · exact trans z w y hle (hw y hy)
      · obtain rfl : w = x := by simpa using hx
        rcases List.mem_cons.1 hy with rfl | hy
        · exact (total w y).resolve_right hle
        · exact hw y hy

end

/-- Rail `a` comes before rail `b` in the up order: by its order, then its index. -/
def railBefore (s : State) (a b : Nat) : Bool :=
  decide (railF s a 6 1 < railF s b 6 1) || (railF s a 6 1 == railF s b 6 1 && decide (a ≤ b))

theorem railBefore_iff {a b : Nat} : railBefore s a b = true ↔
    railF s a 6 1 < railF s b 6 1 ∨ (railF s a 6 1 = railF s b 6 1 ∧ a ≤ b) := by
  simp [railBefore]

theorem order_le_of_head?_upOrder {rs : List Nat} {q : Nat} (h : (upOrder s rs).head? = some r) (hq : q ∈ rs) :
    railF s r 6 1 ≤ railF s q 6 1 := by
  have hbefore : railBefore s r q = true := by
    refine le_of_head?_sortBy (le := railBefore s) (fun a b => ?_) (fun a b c hab hbc => ?_) h hq
    · rw [railBefore_iff, railBefore_iff]
      omega
    · rw [railBefore_iff] at hab hbc ⊢
      omega
  rw [railBefore_iff] at hbefore
  omega

/-- The rails of `ready` that may start. -/
def readyRails (ready : List Nat) (s : State) : List Nat :=
  (usedRails s).filter fun r => ready.contains r && startable s r

theorem mem_readyRails {ready : List Nat} {q : Nat} :
    q ∈ readyRails ready s ↔ q ∈ usedRails s ∧ q ∈ ready ∧ startable s q = true := by
  simp [readyRails]

theorem usedRail_of_mem {q : Nat} (h : q ∈ usedRails s) : usedRail s q = true := (List.mem_filter.1 h).2

theorem execRailEnable_none {ready : List Nat} (h : ∀ r, r ∈ ready → usedRail s r = true → startable s r = false) :
    execRailEnable ready s = .next s := by
  have hnone : readyRails ready s = [] := List.eq_nil_iff_forall_not_mem.2 fun q hq => by
    obtain ⟨hu, hr, hs⟩ := mem_readyRails.1 hq
    exact Bool.eq_false_iff.1 (h q hr (usedRail_of_mem hu)) hs
  unfold readyRails at hnone
  simp only [execRailEnable, hnone]
  rfl

theorem execRailEnable_first {ready : List Nat} (h : (upOrder s (readyRails ready s)).head? = some r) :
    execRailEnable ready s = .next ((setRail r .rising s).send (.rail r 1)) := by
  unfold readyRails at h
  simp only [execRailEnable, h]

theorem mem_of_head?_upOrder {rs : List Nat} (h : (upOrder s rs).head? = some r) : r ∈ rs :=
  mem_sortBy.1 (List.mem_of_mem_head? h)

/-! ### Timers (R303, R305 to R307) -/

theorem execRiseTimeout_rising (hr : (s.rail r).st = .rising) (hu : usedRail s r = true) : execRiseTimeout r s =
    .next (if railTimed s r then upDone (setRail r .good s) else railFails r 1 s) := by
  simp only [execRiseTimeout, hr, hu, ne_eq, not_true_eq_false, Bool.true_eq_false, or_self, if_false]

theorem execFallTimeout_falling (hf : (s.rail r).st = .falling) (hb : railBlind s r = false) : execFallTimeout r s =
    .next (fallen r (raise 0x0205 (railH s r) 0 r (logFailure r 5 s))) :=
  congrArg _ (if_neg (by simp [hf, hb]))

theorem execFallTimeout_still (h : (s.rail r).st ≠ .falling ∨ railBlind s r = true) : execFallTimeout r s = .next s :=
  congrArg _ (if_pos h)

theorem execOffDelayExpiry_still (h : (s.rail r).st ≠ .falling ∨ railBlind s r = false) :
    execOffDelayExpiry r s = .next s :=
  congrArg _ (if_neg fun ⟨hf, hb⟩ => h.elim (· hf) fun h => Bool.eq_false_iff.1 h hb)

/-! ### Reset outputs (R308) -/

theorem execResetOutputRelease_still {o : Nat} (h : 4 ≤ o ∨ resetReady s o = false) :
    execResetOutputRelease o s = .next s := congrArg _ (if_pos (h.imp_right .inl))

theorem execResetOutputRelease_releases {o : Nat} (ho : o < 4) (hr : resetReady s o = true)
    (hk : kvGet false s.power.rst o = false) (hn : s.cfg.cur.stationList = []) :
    execResetOutputRelease o s = .next (s.modPower fun p => { p with rst := kvSet p.rst o true }) := by
  simp only [execResetOutputRelease, ho.not_ge, hr, hk, hn, State.modPower_cfg, List.foldl_nil, Bool.true_eq_false,
    Bool.false_eq_true, or_self, if_false]

/-! ### The ADC's reference (R307, R312) -/

theorem execAdcReferenceCheck_told (h : s.power.adcBad = true) : execAdcReferenceCheck s = .next s := by
  simp only [execAdcReferenceCheck, h, Bool.true_or, if_true]

theorem execAdcReferenceCheck_raises (h : s.power.adcBad = false) (hl : s.mbx.live = true) : execAdcReferenceCheck s =
    .next (raise 0x0206 0#16 0 0 (s.modPower fun p => { p with adcBad := true })) := by
  simp only [execAdcReferenceCheck, h, hl, Bool.not_true, Bool.or_self, Bool.false_eq_true, if_false]

/-! ### Power failure (R309, R310, R371) -/

/-- The state once the warning is recognised: writes under way are abandoned, lasers dark, the ring told. -/
def pfailDark (s : State) : State :=
  (setLasers (darken (((s.modBoot fun b => { b with pfail := true }).modCfg fun c => { c with writing := false }).modCal
    fun c => { c with writing := false, again := false }))).modRing fun r => { r with safe := true }

/-- The state once the records are saved: the gallery's, the ledger's tail and the note. -/
def pfailSaved (s : State) : State :=
  let t := pfailDark s
  ((galFlush (galWrite 0x03 0#16 0 0 (leBytes 4 t.gal.buf.length ++ leBytes 4 (tailOf t).length) t)).modLedger
    fun l => { l with tail := tailOf t, tailCycle := s.clk.powerCycle, tailValid := true }).modFaults fun f =>
      { f with notes := noteCount f.notes (noteKey 0#16 0) 0x0207 }

/-- The state in which the rails are to go down. -/
def pfailDown (s : State) : State := (logPowerFail (pfailSaved s)).modPower fun p => { p with seq := .down }

theorem execPfwN_still (h : s.mbx.live = false ∨ s.boot.pfail = true) : execPfwN s = .next s :=
  congrArg _ (if_pos (by rcases h with h | h <;> simp [h]))

theorem execPfwN_goesDown (hl : s.mbx.live = true) (hp : s.boot.pfail = false) :
    execPfwN s = .next (goDown (pfailDown s)) := by
  have hserved : ¬ (!s.mbx.live || s.boot.pfail) = true := by simp [hl, hp]
  refine (congrArg _ (if_neg hserved)).trans ?_
  simp only [galFlush_clk, galWrite_clk]
  rfl

theorem pfailDown_boot (s : State) : (pfailDown s).boot = (pfailDark s).boot := by
  simp only [pfailDown, logPowerFail, pfailSaved, State.modPower_boot, State.modFaults_boot, State.modLedger_boot,
    galFlush_boot, galWrite_boot]

/-- A power failure holds LASER_EN low. -/
theorem pfailDark_lasers (s : State) : (pfailDark s).boot.laserEn0 = false ∧ (pfailDark s).boot.laserEn1 = false := by
  have hunwanted : ∀ t : State, t.boot.pfail = true → laserWanted t = false := fun t ht => by simp [laserWanted, ht]
  constructor <;> exact Bool.and_eq_false_iff.2 (.inl (hunwanted _ rfl))

theorem pfailDown_ring (s : State) : (pfailDown s).ring.safe = true := by
  simp only [pfailDown, logPowerFail, pfailSaved, State.modPower_ring, State.modFaults_ring, State.modLedger_ring,
    galFlush_ring, galWrite_ring]
  rfl

theorem pfailDown_cal (s : State) : (pfailDown s).cal.writing = false := by
  simp only [pfailDown, logPowerFail, pfailSaved, State.modPower_cal, State.modFaults_cal, State.modLedger_cal,
    galFlush_cal, galWrite_cal]
  rfl

theorem pfailDown_cfg (s : State) : (pfailDown s).cfg.writing = false := by
  simp only [pfailDown, logPowerFail, pfailSaved, State.modPower_cfg, State.modFaults_cfg, State.modLedger_cfg,
    galFlush_cfg, galWrite_cfg]
  rfl

theorem length_tailOf (s : State) : (tailOf s).length ≤ 4096 := List.length_take_le ..

/-- Settles O50: a rail by the state it is in, the enables by the head of the up order, a power failure by what the state
in which the rails go down holds. -/
theorem railsAreJudgedAndSequenced : Obligations.RailsAreJudgedAndSequenced := by
  unfold Obligations.RailsAreJudgedAndSequenced
  refine ⟨?judgement, ?judged, ?pmbus, fun r w s => judgeStatus_fails, ?enable, ?timers,
    fun o s => ⟨execResetOutputRelease_still, execResetOutputRelease_releases⟩,
    fun s => ⟨execAdcReferenceCheck_told, execAdcReferenceCheck_raises⟩, ?pfail⟩
  case judgement =>
    intro pins s
    refine ⟨execRailJudgement_still, fun r v ha hl hs hu hp ht hpins => ?_⟩
    subst hpins
    exact execRailJudgement_single ha hl hs hu hp ht
  case judged =>
    intro r mv limit clean s t
    exact ⟨judgeRail_good_in, judgeRail_good_counted, judgeRail_good_fails, judgeRail_rising_in, judgeRail_rising_out,
      judgeRail_down⟩
  case pmbus =>
    intro d p s hl hs
    refine ⟨fun a => execPmbusPoll_noRail hl hs a, fun r hp hst => ?_, fun r m w => execPmbusPoll_good hl hs,
      execPmbAlert_none hl hs, fun r w => execPmbAlert_single hl hs⟩
    exact (execPmbusPoll_noAnswer hl hs hp).trans (congrArg _ (noAnswer_fails hst))
  case enable =>
    intro ready s
    refine ⟨execRailEnable_none, fun r h => ?_⟩
    obtain ⟨-, -, hstart⟩ := mem_readyRails.1 (mem_of_head?_upOrder h)
    exact ⟨hstart, fun q hu hr hs => order_le_of_head?_upOrder h (mem_readyRails.2 ⟨hu, hr, hs⟩), execRailEnable_first h⟩
  case timers =>
    intro r s
    refine ⟨fun h => congrArg _ (if_pos (.inl h)), fun h hu ht => ?_, fun h hu ht => ?_, fun h => ?_, fun h hb => ?_,
      fun h hb => ?_⟩
    · exact (execRiseTimeout_rising h hu).trans (congrArg _ (if_pos ht))
    · exact (execRiseTimeout_rising h hu).trans (congrArg _ (if_neg (Bool.eq_false_iff.1 ht)))
    · exact ⟨execFallTimeout_still (.inl h), execOffDelayExpiry_still (.inl h)⟩
    · exact ⟨execOffDelayExpiry_still (.inr hb), execFallTimeout_falling h hb⟩
    · exact ⟨execFallTimeout_still (.inr hb), congrArg _ (if_pos ⟨h, hb⟩)⟩
  case pfail =>
    intro s
    refine ⟨execPfwN_still, fun hl hp => ?_, fun h => congrArg _ (if_pos h),
      fun h => congrArg _ (if_neg (Bool.eq_false_iff.1 h))⟩
    obtain ⟨hlaser0, hlaser1⟩ := pfailDark_lasers s
    refine ⟨pfailDown s, execPfwN_goesDown hl hp, ?_, ?_, ?_, rfl, pfailDown_ring s, pfailDown_cal s, pfailDown_cfg s,
      rfl, length_tailOf _, rfl⟩
    · rw [pfailDown_boot]
      rfl
    · rw [pfailDown_boot, hlaser0]
    · rw [pfailDown_boot, hlaser1]

end Sys2Proof.Machine
end

section
/-! SUPPORT. The redundant pair (O53): claims, HELLO and mirror frames by the checks that each passes (R338, R342 to R348,
R350, R355). That BOOT_CLAIM waits for a cyclic ring and an idle sequencer is log entry 112, that MIRROR_LOST comes with
the third missing frame, at CLAIM, entry 111, and that a frame's ACTIVE flag is the sender's CLAIM_OUT entry 113. -/

namespace Sys2Proof.Machine

open Sys2Proof

variable {s : State}

/-! ### Claims (R338, R342, R347, R348) -/

theorem setPair_pair (st : PairSt) (s : State) : (setPair st s).pair = { s.pair with st := st } := by
  unfold setPair
  split_ifs with h
  · rw [← h]
  · rw [post_pair]
    rfl

theorem assertClaim_pair (st : PairSt) (s : State) : (assertClaim st s).pair =
    { s.pair with claimOut := true, noMaster := 0, missRun := 0, handover := false, st := st } := setPair_pair ..

theorem setLasers_dark (h : s.pair.claimOut = false) :
    (setLasers s).boot.laserEn0 = false ∧ (setLasers s).boot.laserEn1 = false := by
  have hunwanted : laserWanted s = false := by simp [laserWanted, h]
  constructor <;> exact Bool.and_eq_false_iff.2 (.inl hunwanted)

theorem execBootClaim_still {c : Bool} (h : running s = false ∨ s.pair.claimOut = true) : execBootClaim c s = .next s := by
  refine congrArg _ (if_pos ?_)
  rcases h with h | h <;> simp [h]

section
variable (hr : running s = true) (hc : s.pair.claimOut = false) (hd : s.pair.dropped = false) (hq : s.power.seq = .none)
  (hy : s.ring.cyclic = true)
include hr hc hd hq hy

/-- BOOT_CLAIM goes on to the pair's own checks. -/
theorem bootClaim_ready :
    (!running s || s.pair.claimOut || s.pair.dropped || s.power.seq != .none || !s.ring.cyclic) = false := by
  rw [hr, hc, hd, hq, hy]
  rfl

theorem execBootClaim_unpaired {c : Bool} (hp : pairEn s = false) :
    execBootClaim c s = .next (assertClaim .alone (recordCands s)) := by
  simp only [execBootClaim, bootClaim_ready hr hc hd hq hy, hp, Bool.not_false, Bool.false_eq_true, if_false, if_true]

theorem execBootClaim_taken (hp : pairEn s = true) (ha : s.pair.st ≠ .alone) :
    execBootClaim true s = .next (s.modPair fun p => { p with claimIn := true }) := by
  simp only [execBootClaim, bootClaim_ready hr hc hd hq hy, hp, Bool.not_true, Bool.false_eq_true, if_false, if_true]
  exact congrArg _ (if_neg ha)

theorem execBootClaim_first (hp : pairEn s = true) (hclash : s.pair.clash = false) (hslot : s.boot.pairSlot = 0) :
    execBootClaim false s = .next (assertClaim (if s.pair.seenPeer then .active else .alone)
      (recordCands (s.modPair fun p => { p with claimIn := false }))) := by
  simp only [execBootClaim, bootClaim_ready hr hc hd hq hy, hp, Bool.not_true, Bool.false_eq_true, if_false]
  refine congrArg _ (if_neg ?_)
  rintro (h | ⟨h, -⟩)
  · exact Bool.eq_false_iff.1 hclash h
  · exact Nat.zero_ne_one (hslot.symm.trans h)

end

theorem execClaim_still {c a : Bool} (h : s.pair.claimOut = true ∨ s.pair.missRun < 3) : execClaim c a s = .next s := by
  refine congrArg _ (if_pos ?_)
  rcases h with h | h <;> simp [h]

/-- The peer's claim is found deasserted. -/
def peerGone (a : Bool) (s : State) : State :=
  s.modPair fun p =>
    { p with claimIn := false, peerAlive := a, peerSynced := false, helloDone := false, snapDone := false }

section
variable {a : Bool} (hr : running s = true) (hp : pairEn s = true) (hc : s.pair.claimOut = false)
  (hd : s.pair.dropped = false) (hclash : s.pair.clash = false) (hlock : s.faults.lockout = false)
  (ha : s.pair.st ≠ .alone) (hm : 3 ≤ s.pair.missRun)
include hr hp hc hd hclash hlock ha hm

/-- CLAIM finds a standby that lacks the peer's frames. -/
theorem claim_ready : (!running s || !pairEn s || s.pair.claimOut || s.pair.dropped || s.pair.clash || s.faults.lockout ||
    s.pair.st == .alone || decide (s.pair.missRun < 3)) = false := by
  rw [hr, hp, hc, hd, hclash, hlock, beq_eq_false_iff_ne.2 ha, decide_eq_false hm.not_gt]
  rfl

theorem execClaim_released : execClaim false a s =
    .next (if s.pair.st == .synced then takeover a (peerGone a s) else coldTakeover (peerGone a s)) := by
  simp only [execClaim, claim_ready hr hp hc hd hclash hlock ha hm, Bool.false_eq_true, if_false]
  rfl

theorem execClaim_held : execClaim true a s =
    .next (if s.pair.st = .syncing ∨ s.pair.st = .synced
      then mirrorLost (s.modPair fun p => { p with claimIn := true, peerAlive := a, peerSynced := false })
      else s.modPair fun p => { p with claimIn := true, peerAlive := a, peerSynced := false }) := by
  simp only [execClaim, claim_ready hr hp hc hd hclash hlock ha hm, Bool.false_eq_true, if_false, if_true]
  rfl

end

theorem execClaimConflict_still (h : pairEn s = false ∨ s.pair.claimOut = false) : execClaimConflict s = .next s := by
  refine congrArg _ (if_pos ?_)
  rcases h with h | h <;> simp [h]

section
variable (hp : pairEn s = true) (hc : s.pair.claimOut = true)
include hp hc

theorem execClaimConflict_keeps (hslot : s.boot.pairSlot = 0) :
    execClaimConflict s = .next (s.modPair fun p => { p with claimIn := true }) := by
  simp only [execClaimConflict, hp, hc, Bool.not_true, Bool.or_self, Bool.false_eq_true, if_false]
  exact congrArg _ (if_pos hslot)

theorem execClaimConflict_drops (hslot : s.boot.pairSlot ≠ 0) : execClaimConflict s =
    .next (setPair .unsynced (setLasers (darken (s.modPair fun p =>
      { p with claimIn := true, claimOut := false, helloDone := false, snapDone := false, handover := false })))) := by
  simp only [execClaimConflict, hp, hc, Bool.not_true, Bool.or_self, Bool.false_eq_true, if_false]
  exact congrArg _ (if_neg hslot)

end

/-! ### HELLO (R343) -/

/-- The peer's HELLO is noted. -/
def helloHeard (k v : Nat) (c : Bool) (s : State) : State :=
  s.modPair fun p => { p with seenPeer := true, got := true, claimIn := c, peerVer := v, peerSlot := some k }

section
variable {k d v : Nat} {c : Bool} (hr : running s = true) (hp : pairEn s = true)
include hr hp

/-- Running firmware of a pair hears its peer. -/
theorem pair_serves : (!running s || !pairEn s) = false := by
  rw [hr, hp]
  rfl

theorem execHello_ownSlot (hk : k = s.boot.pairSlot) : execHello k d v c s =
    let u := raise 0x1604 mlH 0 k ((helloHeard k v c s).modPair fun p => { p with clash := true })
    .next (if u.pair.claimOut || u.pair.st == .alone || u.pair.st == .locked then u else setPair .unsynced u) := by
  simp only [execHello, pair_serves hr hp, Bool.false_eq_true, if_false]
  exact congrArg _ (if_pos hk)

theorem execHello_standby (hk : k ≠ s.boot.pairSlot) (hc : s.pair.claimOut = false) (hl : s.pair.st ≠ .locked) :
    execHello k d v c s =
      let t := (helloHeard k v c s).modPair fun p => { p with helloDone := true }
      .next (if d ≠ s.boot.imageDigest then setPair .unsynced (raise 0x1605 mlH 0 k t)
        else if c then setPair .syncing (t.modPair fun p => { p with snapDone := false }) else t) := by
  simp only [execHello, pair_serves hr hp, Bool.false_eq_true, if_false]
  refine congrArg _ ((if_neg hk).trans ((if_neg ?_).trans (if_neg hl)))
  exact Bool.eq_false_iff.1 hc

end

theorem execSyncTimeout_still (h : s.pair.st ≠ .syncing) : execSyncTimeout s = .next s := congrArg _ (if_neg h)

theorem execSyncTimeout_restarts (h : s.pair.st = .syncing) :
    execSyncTimeout s = .next (restartHello (note 0x1608 mlH 0 s)) := by
  simp only [execSyncTimeout, h, if_true]

/-! ### Mirror frames (R346, R350, R355) -/

/-- A mirror frame is noted. -/
def frameHeard (f : BitVec 8) (cyc seq : Nat) (c a : Bool) (s : State) : State :=
  s.modPair fun p => { p with
    seenPeer := true, got := true, rxSeq := seq, claimIn := c, peerAlive := a, peerActive := f.getLsbD 1
    peerSynced := f.getLsbD 2, peerSlot := some (bnat (f.getLsbD 5)), lastCyc := cyc }

/-- A frame without a lock whose ACTIVE flag agrees with CLAIM_IN ends a run of disagreements. -/
theorem checkClaims_agreed {act : Bool} (h : act = s.pair.claimIn) :
    checkClaims act false s = s.modPair fun p => { p with disagree := 0 } := by
  have hn : (if act == s.pair.claimIn then 0 else s.pair.disagree + 1) = 0 := if_pos (beq_iff_eq.2 h)
  simp only [checkClaims, hn, Bool.false_eq_true, false_and, or_false, Bool.false_and, if_false, ite_self,
    show ¬ 4 ≤ 0 by omega]

theorem checkClaims_fourth {act : Bool} (hl : s.faults.lockout = false) (h : act ≠ s.pair.claimIn)
    (hd : 3 ≤ s.pair.disagree) : checkClaims act false s =
      raise 0x1603 mlH 0 (s.pair.disagree + 1) (s.modPair fun p => { p with disagree := s.pair.disagree + 1 }) := by
  have hn : (if act == s.pair.claimIn then 0 else s.pair.disagree + 1) = s.pair.disagree + 1 :=
    if_neg (by simpa using h)
  simp only [checkClaims, hn]
  exact (if_neg (Bool.eq_false_iff.1 hl)).trans (if_pos (.inl (by omega)))

theorem trySync_other (h : s.pair.st ≠ .syncing) : trySync s = s := if_neg (by simp [h])

theorem execMirrorFrame_still {f : BitVec 8} {cyc seq : Nat} {c a : Bool} {l : List MirrorSec}
    (h : running s = false ∨ pairEn s = false) : execMirrorFrame f cyc seq c a l s = .next s := by
  refine congrArg _ (if_pos ?_)
  rcases h with h | h <;> simp [h]

theorem execMirrorFrame_active {f : BitVec 8} {cyc seq : Nat} {a : Bool} (hr : running s = true) (hp : pairEn s = true)
    (hc : s.pair.claimOut = true) (hst : s.pair.st = .active) (hf : f.getLsbD 1 = false) (hl : f.getLsbD 3 = false) :
    execMirrorFrame f cyc seq false a [] s =
      .next ((frameHeard f cyc seq false a s).modPair fun p => { p with disagree := 0 }) := by
  set t := (frameHeard f cyc seq false a s).modPair fun p => { p with disagree := 0 }
  have hchecked : checkClaims (f.getLsbD 1) (f.getLsbD 3) (frameHeard f cyc seq false a s) = t := by
    rw [hl]
    exact checkClaims_agreed hf
  have hactive : t.pair.st = .active := hst
  have hclaimed : t.pair.claimOut = true := hc
  have hstands : standby t = false := by simp [standby, hclaimed]
  have halone : ¬ ((frameHeard f cyc seq false a s).pair.st = .alone ∧
      (frameHeard f cyc seq false a s).pair.claimOut = true) := fun h => by
    exact absurd (hst.symm.trans h.1) (by decide)
  have hsync : trySync t = t := trySync_other (by rw [hactive]; decide)
  simp only [execMirrorFrame, pair_serves hr hp, Bool.false_eq_true, if_false, List.foldl_nil]
  unfold frameHeard at hchecked halone
  simp only [if_neg halone, hchecked, hstands, hsync, hclaimed, Bool.not_true, Bool.and_false, Bool.false_eq_true, if_false]

section
variable {k : Nat} {x : MirrorSec} (hx : ∀ r, x ≠ .gallery r)
include hx

/-- A section that is no gallery section is a standby's only. -/
theorem applySection_eq : applySection k s x =
    if !s.pair.claimOut && (s.pair.st == .syncing || s.pair.st == .synced) then standbySection s x else s := by
  cases x with
  | gallery r => exact absurd rfl (hx r)
  | _ => rfl

theorem applySection_still (h : s.pair.claimOut = true ∨ (s.pair.st ≠ .syncing ∧ s.pair.st ≠ .synced)) :
    applySection k s x = s := by
  refine (applySection_eq hx).trans (if_neg ?_)
  rcases h with h | ⟨hsyncing, hsynced⟩
  · simp [h]
  · simp [hsyncing, hsynced]

theorem applySection_standby (hc : s.pair.claimOut = false) (h : s.pair.st = .syncing ∨ s.pair.st = .synced) :
    applySection k s x = standbySection s x := by
  refine (applySection_eq hx).trans (if_pos ?_)
  rcases h with h | h <;> simp [hc, h]

end

/-- Settles O53: each command by the checks that its state passes, with the state that the noted frame leaves as the
witness. -/
theorem thePairClaimsAndSynchronises : Obligations.ThePairClaimsAndSynchronises := by
  unfold Obligations.ThePairClaimsAndSynchronises
  refine ⟨?bootClaim, fun c s => execBootClaim_still, ?asserted, fun c a s => execClaim_still, ?claim, ?conflict,
    fun s => setLasers_dark, ?hello, ?syncing, fun s => ⟨execSyncTimeout_still, execSyncTimeout_restarts⟩,
    fun f cyc seq c a l s => execMirrorFrame_still, ?frame, ?sections, ?disagreement⟩
  case bootClaim =>
    intro c s hr hc hd hq hy
    exact ⟨execBootClaim_unpaired hr hc hd hq hy, execBootClaim_taken hr hc hd hq hy, fun hp hclash hslot =>
      ⟨_, rfl, rfl, execBootClaim_first hr hc hd hq hy hp hclash hslot⟩⟩
  case asserted =>
    intro st s
    rw [assertClaim_pair]
    exact ⟨rfl, rfl, rfl⟩
  case claim =>
    intro a s hr hp hc hd hclash hlock ha hm
    have hfree := execClaim_released (a := a) hr hp hc hd hclash hlock ha hm
    have hheld := execClaim_held (a := a) hr hp hc hd hclash hlock ha hm
    refine ⟨fun h => hfree.trans (congrArg _ (if_pos (beq_iff_eq.2 h))),
      fun h => hfree.trans (congrArg _ (if_neg fun he => h (beq_iff_eq.1 he))),
      fun h => hheld.trans (congrArg _ (if_pos h)), fun hsyncing hsynced => hheld.trans (congrArg _ (if_neg ?_))⟩
    exact fun h => h.elim hsyncing hsynced
  case conflict =>
    intro s
    exact ⟨execClaimConflict_still, execClaimConflict_keeps, fun hp hc hslot =>
      ⟨_, rfl, rfl, rfl, execClaimConflict_drops hp hc hslot⟩⟩
  case hello =>
    intro k d v c s hr hp
    by_cases hk : k = s.boot.pairSlot
    · exact ⟨(helloHeard k v c s).modPair fun p => { p with clash := true }, rfl, rfl, rfl, rfl, rfl,
        fun _ => ⟨rfl, execHello_ownSlot hr hp hk⟩, fun h => absurd hk h, fun h => absurd hk h⟩
    · refine ⟨(helloHeard k v c s).modPair fun p => { p with helloDone := true }, rfl, rfl, rfl, rfl, rfl,
        fun h => absurd h hk, fun _ hc hl hd => ?_, fun _ hc hl hd hclaim => ?_⟩
      · exact (execHello_standby hr hp hk hc hl).trans (congrArg _ (if_pos hd))
      · refine (execHello_standby hr hp hk hc hl).trans (congrArg _ ((if_neg (not_not.2 hd)).trans (if_neg ?_)))
        exact Bool.eq_false_iff.1 hclaim
  case syncing =>
    intro k v s hr hp hk hc hl
    refine ⟨_, (execHello_standby hr hp hk hc hl).trans (congrArg _ ((if_neg (not_not.2 rfl)).trans (if_pos rfl))), ?_⟩
    rw [setPair_pair]
    exact ⟨rfl, rfl, rfl⟩
  case frame =>
    intro f cyc seq a s hr hp hc hst hf hl
    exact ⟨_, execMirrorFrame_active hr hp hc hst hf hl, rfl, rfl, rfl, rfl, rfl, rfl, hst⟩
  case sections =>
    intro k x s hx
    exact ⟨applySection_still hx, applySection_standby hx⟩
  case disagreement =>
    intro act s hl h hd
    exact ⟨_, checkClaims_fourth hl h hd, rfl⟩

end Sys2Proof.Machine
end

section
/-! SUPPORT. The motors (O47): what ends each phase of a six-step start, a catch, a miss and the learned offsets, the
estimators' checks and the stage's disable (R227 to R231, R237 to R241). That a cross-check corrects kappa over one window
is log entry 86, the operand of OFFSET_LEARN_UPDATE entry 87. -/

namespace Sys2Proof.Machine

open Sys2Proof

variable {a : Nat} {s : State}

/-! ### Starts (R227, R228) -/

section
variable {b : Bool} (hm : axMode s a = 0) (hf : (s.axis a).fault = false)
include hm hf

/-- A six-step axis without a fault goes on with its start. -/
theorem sixStep_serves : ¬ (axMode s a ≠ 0 ∨ (s.axis a).fault = true) := by simp [hm, hf]

theorem execSixStepStart_align (hp : (s.axis a).phase = .align) : execSixStepStart a b s =
    .next ((modAxis a (fun x => { x with phase := .ramp }) s).send (.axis a 4 [(axF s a 10 2 : Nat)])) := by
  simp only [execSixStepStart, if_neg (sixStep_serves hm hf), hp]

theorem execSixStepStart_ramp (hp : (s.axis a).phase = .ramp) : execSixStepStart a b s =
    .next (if b then modAxis a (fun x => { x with phase := .handover }) s else startFailed a s) := by
  simp only [execSixStepStart, if_neg (sixStep_serves hm hf), hp]

theorem execSixStepStart_handover (hp : (s.axis a).phase = .handover) : execSixStepStart a b s =
    .next (if b then modAxis a (fun x => { x with phase := .running, starts := 0, catches := 0, misses := 0, zcs := [] }) s
      else startFailed a s) := by
  simp only [execSixStepStart, if_neg (sixStep_serves hm hf), hp]

theorem execSixStepStart_coast (hp : (s.axis a).phase = .coast) : execSixStepStart a b s = .next (beginStart a s) := by
  simp only [execSixStepStart, if_neg (sixStep_serves hm hf), hp]

theorem execSixStepStart_failed (hp : (s.axis a).phase = .ramp ∨ (s.axis a).phase = .handover) :
    execSixStepStart a false s = .next (startFailed a s) := by
  rcases hp with hp | hp
  · exact execSixStepStart_ramp hm hf hp
  · exact execSixStepStart_handover hm hf hp

end

/-- A failed start coasts and is counted. -/
def startCoasts (a : Nat) (s : State) : State :=
  (modAxis a (fun x => { x with phase := .coast, starts := (s.axis a).starts + 1, duty := 0 }) s).send (.axis a 0 [])

theorem startFailed_eq : startFailed a s =
    if 3 ≤ (s.axis a).starts + 1 then raise 0x0E04 (axH s a) 0 ((s.axis a).starts + 1) (startCoasts a s)
    else startCoasts a s := rfl

theorem startFailed_counted (h : (s.axis a).starts < 2) : startFailed a s = startCoasts a s :=
  startFailed_eq.trans (if_neg (by omega))

theorem startFailed_third (h : 2 ≤ (s.axis a).starts) :
    startFailed a s = raise 0x0E04 (axH s a) 0 ((s.axis a).starts + 1) (startCoasts a s) :=
  startFailed_eq.trans (if_pos (by omega))

/-! ### Catches (R229) -/

/-- Without an open record the end of a self-test changes nothing. -/
theorem codeTestEnded_none {pass : Bool} {h : Handle} {code : Nat} (ho : openOn s h code = false) :
    codeTestEnded pass h code s = s := by
  have hnone : codeRecord s h code = none := Option.isSome_eq_false_iff.1 ho |> Option.isNone_iff_eq_none.1
  simp only [codeTestEnded, hnone]

section
variable (hp : (s.axis a).phase = .catching) (ho : openOn s (axH s a) 0x0E03 = false)
include hp ho

theorem execCatchWindow_rest : execCatchWindow a .rest s =
    .next ((modAxis a (fun x => { x with phase := .align, catches := 0 }) s).send (.axis a 6 [(axF s a 4 2 : Nat)])) := by
  simp only [execCatchWindow, hp, ne_eq, not_true_eq_false, if_false]
  exact congrArg _ (codeTestEnded_none ho)

theorem execCatchWindow_reverse : execCatchWindow a .reverse s =
    .next ((modAxis a (fun x => { x with phase := .coast }) s).send (.axis a 0 [])) := by
  simp only [execCatchWindow, hp, ne_eq, not_true_eq_false, if_false]
  exact congrArg _ (codeTestEnded_none ho)

theorem execCatchWindow_thirdUnclear (hc : 2 ≤ (s.axis a).catches) : execCatchWindow a .unclear s =
    .next (raise 0x0E05 (axH s a) 0 ((s.axis a).catches + 1)
      ((modAxis a (fun x => { x with phase := .coast, catches := (s.axis a).catches + 1 }) s).send (.axis a 0 []))) := by
  simp only [execCatchWindow, hp, ne_eq, not_true_eq_false, if_false]
  refine congrArg _ ((if_pos (by omega)).trans (congrArg _ ?_))
  exact codeTestEnded_none ho

end

/-! ### Misses (R227) -/

/-- The commutation that a miss makes as predicted. -/
def missCommuted (a : Nat) (s : State) : State :=
  let x := s.axis a
  sendComm a (x.comm + 2 * x.theta) ((x.sector + 1) % sectors s a) x.duty (modAxis a (fun y => { y with
    comm := x.comm + 2 * x.theta, sector := (x.sector + 1) % sectors s a, misses := y.misses + 1, zcs := [] }) s)

theorem loseFacet_none (hn : polygonStation s a = none) : loseFacet a s = s := by simp only [loseFacet, hn]

theorem execCommutationMiss_still (h : axMode s a ≠ 0 ∨ (s.axis a).phase ≠ .running) : execCommutationMiss a s = .next s :=
  congrArg _ (if_pos h)

theorem execCommutationMiss_running (hm : axMode s a = 0) (hp : (s.axis a).phase = .running)
    (hn : polygonStation s a = none) : execCommutationMiss a s =
      .next (if 2 ≤ (s.axis a).misses + 1
        then (modAxis a (fun x => { x with phase := .catching, catches := 0, misses := 0 })
          (raise 0x0E03 (axH s a) 0 a (missCommuted a s))).send (.axis a 5 [])
        else missCommuted a s) := by
  have hlose : loseFacet a (missCommuted a s) = missCommuted a s := loseFacet_none hn
  have hserves : ¬ (axMode s a ≠ 0 ∨ (s.axis a).phase ≠ .running) := by simp [hm, hp]
  unfold missCommuted at hlose
  simp only [execCommutationMiss, if_neg hserves, hlose]
  rfl

/-! ### Offsets (R230) -/

section
variable {α : Type}

/-- A list written into a map from its key `n` on. -/
theorem kvGet_foldl_kvSet (d : α) (l : List α) (t : KV α) (n k : Nat) :
    kvGet d ((l.zipIdx n).foldl (fun t p => kvSet t p.2 p.1) t) k =
      if n ≤ k then l.getD (k - n) (kvGet d t k) else kvGet d t k := by
  induction l generalizing t n with
  | nil => simp
  | cons x l ih =>
    rw [List.zipIdx_cons, List.foldl_cons, ih]
    rcases lt_trichotomy k n with h | rfl | h
    · rw [if_neg (by omega), if_neg (by omega), kvGet_kvSet_ne _ _ _ h.ne]
    · simp
    · obtain ⟨i, rfl⟩ := Nat.exists_eq_add_of_lt h
      rw [if_pos (by omega), if_pos h.le, kvGet_kvSet_ne _ _ _ h.ne', show n + i + 1 - n = i + 1 by omega,
        show n + i + 1 - (n + 1) = i by omega, List.getD_cons_succ]

end

/-- The list `l` as a map from its indices. -/
def kvOfList (l : List Rat) : KV Rat := l.zipIdx.foldl (fun t p => kvSet t p.2 p.1) []

theorem kvGet_kvOfList (l : List Rat) (k : Nat) : kvGet 0 (kvOfList l) k = l.getD k 0 :=
  kvGet_foldl_kvSet 0 l [] 0 k

theorem map_kvGet_kvOfList (l : List Rat) : ((List.range l.length).map fun k => kvGet 0 (kvOfList l) k) = l := by
  refine List.ext_getElem (by simp) fun i _ hi => ?_
  simp [kvGet_kvOfList, hi]

/-- A list less its mean has the sum 0. -/
theorem sum_sub_mean (l : List Rat) : (l.map fun x => x - l.sum / (l.length : Nat)).sum = 0 := by
  have hsub : ∀ (c : Rat) (l : List Rat), (l.map fun x => x - c).sum = l.sum - l.length * c := fun c l => by
    induction l with
    | nil => simp
    | cons x l ih =>
      rw [List.map_cons, List.sum_cons, ih, List.sum_cons, List.length_cons]
      push_cast
      ring
  rcases eq_or_ne l [] with rfl | hl
  · rfl
  · have hlen : ((l.length : Nat) : Rat) ≠ 0 := by simpa using hl
    rw [hsub, mul_div_cancel₀ _ hlen, sub_self]

/-- The offsets of a polygon's sectors, each moved by its residual. -/
def offsetsMoved (a : Nat) (r : List Int) (s : State) : List Rat :=
  r.zipIdx.map fun p => kvGet 0 (s.axis a).off p.2 + (p.1 : Rat) / 64

/-- The moved offsets less their mean. -/
def offsetsLearnt (a : Nat) (r : List Int) (s : State) : List Rat :=
  (offsetsMoved a r s).map fun x => x - (offsetsMoved a r s).sum / ((offsetsMoved a r s).length : Nat)

theorem length_offsetsLearnt {r : List Int} : (offsetsLearnt a r s).length = r.length := by
  simp [offsetsLearnt, offsetsMoved]

section
variable {r : List Int}

theorem execOffsetLearnUpdate_none (h : polygonStation s a = none) : execOffsetLearnUpdate a r s = .next s := by
  simp only [execOffsetLearnUpdate, h]

theorem execOffsetLearnUpdate_polygon {n : Nat} (h : polygonStation s a = some n) (hs : (s.st n).scan.sosOk = true)
    (hl : stationLane s n = none) (hr : r.length = sectors s a) : execOffsetLearnUpdate a r s =
      .next (modAxis a (fun x => { x with off := kvOfList (offsetsLearnt a r s) }) s) := by
  have hserves : (!(s.st n).scan.sosOk || false || r.length != sectors s a) = false := by simp [hs, hr]
  simp only [execOffsetLearnUpdate, h, hl, hserves, Bool.false_eq_true, if_false, kvOfList, offsetsLearnt, offsetsMoved,
    List.zipIdx_map, List.foldl_map]
  rfl

end

/-! ### Estimators (R231, R237 to R239) -/

theorem execVoltageLimit_saturated (h : (s.axis a).sat = true) :
    execVoltageLimit a s = .next (note 0x0E08 (axH s a) 0 s) := by
  rw [execVoltageLimit, if_pos h]

theorem execEstimatorStale_notes (hm : axMode s a = 2) (hc : (s.axis a).lastCross + 259200 ≤ s.clk.opSec) :
    execEstimatorStale a s = .next (note 0x0E0A (axH s a) 0 s) := by
  rw [execEstimatorStale, if_pos ⟨hm, hc⟩]

theorem execWindingModelUpdate_none (h : ∀ a ∈ axesOn s, axF s a 54 2 = 0) : execWindingModelUpdate s = .next s := by
  have hnone : ((axesOn s).filter fun a => axF s a 54 2 != 0) = [] :=
    List.filter_eq_nil_iff.2 fun a ha => by simp [h a ha]
  simp only [execWindingModelUpdate, hnone, List.foldl_nil]

theorem execWindingModelUpdate_single (h : axesOn s = [a]) (ht : axF s a 54 2 ≠ 0) :
    execWindingModelUpdate s = .next (windingStep a s) := by
  simp only [execWindingModelUpdate, h, List.filter_cons, bne_iff_ne.2 ht, if_true, List.filter_nil, List.foldl_cons,
    List.foldl_nil]

theorem windingStep_noSensor (h : windingSensor s a = none) (ht : (axF s a 48 2 : Rat) / 10 ≠ 0) :
    windingStep a s = modAxis a (fun y => { y with
      rise := (s.axis a).rise + ((axF s a 46 2 : Rat) / 100 * (3 / 2 * resist s a * (s.axis a).iSq) - (s.axis a).rise) /
        ((axF s a 48 2 : Rat) / 10) / 1000 }) s := by
  simp only [windingStep, h, if_neg ht]

theorem execKappaSave_none (h : ∀ a ∈ axesOn s, axMode s a ≠ 2) : execKappaSave s = .next (requestStore s) := by
  have hnone : ((axesOn s).filter fun a => axMode s a == 2) = [] := List.filter_eq_nil_iff.2 fun a ha => by simp [h a ha]
  simp only [execKappaSave, hnone, List.foldl_nil]

theorem execKappaSave_single (h : axesOn s = [a]) (hm : axMode s a = 2) :
    execKappaSave s = .next (requestStore (modAxis a (fun x => { x with kappaSaved := x.kappa }) s)) := by
  simp only [execKappaSave, h, List.filter_cons, beq_iff_eq.2 hm, if_true, List.filter_nil, List.foldl_cons, List.foldl_nil]

section
variable {lo hi x : Rat}

theorem clampRat_mem (h : lo ≤ hi) : lo ≤ clampRat lo hi x ∧ clampRat lo hi x ≤ hi := by
  unfold clampRat
  split_ifs with hlo hhi
  · exact ⟨le_rfl, h⟩
  · exact ⟨h, le_rfl⟩
  · exact ⟨not_lt.1 hlo, not_lt.1 hhi⟩

theorem clampRat_cases : clampRat lo hi x = x ∨ clampRat lo hi x = lo ∨ clampRat lo hi x = hi := by
  unfold clampRat
  split_ifs
  · exact .inr (.inl rfl)
  · exact .inr (.inr rfl)
  · exact .inl rfl

end

/-- The factor by which a cross-check corrects kappa. -/
def kappaFactor (a : Nat) (s : State) : Rat :=
  let x := s.axis a
  clampRat (49 / 50) (51 / 50) (1 - x.drSum / ((x.winN - 62500 : Nat) : Rat) / (resist s a * x.kappa) / 2)

/-- kappa as a cross-check leaves it. -/
def kappaChecked (a : Nat) (s : State) : Rat := clampRat (4 / 5) (5 / 4) ((s.axis a).kappa * kappaFactor a s)

/-- The state that a cross-check leaves. -/
def crossChecked (a : Nat) (s : State) : State :=
  modAxis a (fun x => { x with kappa := kappaChecked a s, lastCross := s.clk.opSec, winN := 0, winSum := 0, drSum := 0 }) s

theorem execEstimatorCrossCheck_checks (hm : axMode s a = 2) (hw : 125000 ≤ (s.axis a).winN)
    (hr : resist s a * (s.axis a).kappa ≠ 0) : execEstimatorCrossCheck a s =
      .next (if kappaChecked a s = (s.axis a).kappa * kappaFactor a s then crossChecked a s
        else note 0x0E0B (axH (crossChecked a s) a) 0 (crossChecked a s)) := by
  have hserves : ¬ (axMode s a ≠ 2 ∨ (s.axis a).winN < 125000 ∨ resist s a * (s.axis a).kappa = 0) := by
    simp [hm, hw, hr]
  exact congrArg _ (if_neg hserves)

/-- A cross-check moves kappa by at most 2% or to an end of its range. -/
theorem kappaChecked_near (hk : 0 < (s.axis a).kappa) :
    (s.axis a).kappa * (49 / 50) ≤ kappaChecked a s ∧ kappaChecked a s ≤ (s.axis a).kappa * (51 / 50) ∨
      kappaChecked a s = 4 / 5 ∨ kappaChecked a s = 5 / 4 := by
  obtain ⟨hlo, hhi⟩ : 49 / 50 ≤ kappaFactor a s ∧ kappaFactor a s ≤ 51 / 50 := clampRat_mem (by norm_num)
  refine clampRat_cases.imp_left fun h => ?_
  rw [kappaChecked, h]
  exact ⟨mul_le_mul_of_nonneg_left hlo hk.le, mul_le_mul_of_nonneg_left hhi hk.le⟩

/-- Settles O47: a start, a catch and a miss by the axis's phase, the learned offsets as a list less its mean, kappa by
its clamps. -/
theorem motorsAreCommutatedAndEstimated : Obligations.MotorsAreCommutatedAndEstimated := by
  unfold Obligations.MotorsAreCommutatedAndEstimated
  refine ⟨?start, ?catching, ?miss, ?offset, fun s => rfl, fun s => execWindingModelUpdate_none,
    fun a s => execWindingModelUpdate_single, fun a s => windingStep_noSensor, ?notes, fun s => execKappaSave_none,
    fun a s => execKappaSave_single, ?cross, ?stage⟩
  case start =>
    intro a s hm hf
    refine ⟨fun hp b => execSixStepStart_align hm hf hp, execSixStepStart_ramp hm hf, execSixStepStart_handover hm hf,
      fun hp => ⟨fun hn => ?_, fun hn => ?_⟩, fun hp b => execSixStepStart_coast hm hf hp⟩
    · exact (execSixStepStart_failed hm hf hp).trans (congrArg _ (startFailed_counted hn))
    · exact (execSixStepStart_failed hm hf hp).trans (congrArg _ (startFailed_third hn))
  case catching =>
    intro a s
    exact ⟨fun hp c => congrArg _ (if_pos hp), fun hp ho => ⟨execCatchWindow_rest hp ho, execCatchWindow_reverse hp ho,
      execCatchWindow_thirdUnclear hp ho⟩⟩
  case miss =>
    intro a s
    refine ⟨execCommutationMiss_still, fun hm hp hn => ⟨fun hx => ?_, fun hx => ?_⟩⟩
    · exact (execCommutationMiss_running hm hp hn).trans (congrArg _ (if_neg (by omega)))
    · exact (execCommutationMiss_running hm hp hn).trans (congrArg _ (if_pos (by omega)))
  case offset =>
    intro a r s
    refine ⟨execOffsetLearnUpdate_none, fun n hn hs hl hr =>
      ⟨_, execOffsetLearnUpdate_polygon hn hs hl hr, rfl, ?_⟩⟩
    rw [axis_modAxis_self, ← length_offsetsLearnt (a := a) (s := s), map_kvGet_kvOfList]
    exact sum_sub_mean _
  case notes =>
    intro a s
    refine ⟨execVoltageLimit_saturated, fun h => congrArg _ (if_neg (Bool.eq_false_iff.1 h)), execEstimatorStale_notes,
      fun h => congrArg _ (if_neg ?_)⟩
    rintro ⟨hm, hc⟩
    exact h.elim (· hm) fun h => absurd hc (by omega)
  case cross =>
    intro a s hm hw hr hk
    obtain ⟨hlo, hhi⟩ : 4 / 5 ≤ kappaChecked a s ∧ kappaChecked a s ≤ 5 / 4 := clampRat_mem (by norm_num)
    have hexec := execEstimatorCrossCheck_checks hm hw hr
    have haxis := axis_modAxis_self (s := s) a fun x =>
      { x with kappa := kappaChecked a s, lastCross := s.clk.opSec, winN := 0, winSum := 0, drSum := 0 }
    refine ⟨crossChecked a s, kappaChecked a s, ?_, congrArg Axis.kappa haxis, hlo, hhi, congrArg Axis.lastCross haxis,
      congrArg Axis.winN haxis, fun _ _ => kappaChecked_near hk⟩
    by_cases h : kappaChecked a s = (s.axis a).kappa * kappaFactor a s
    · exact .inl (hexec.trans (congrArg _ (if_pos h)))
    · exact .inr (hexec.trans (congrArg _ (if_neg h)))
  case stage =>
    intro a s
    refine ⟨fun hg hr hv => congrArg _ (if_pos ⟨hg, hr, hv⟩), fun hg => congrArg _ (if_neg ?_)⟩
    rintro ⟨h, -⟩
    exact Bool.eq_false_iff.1 hg h

end Sys2Proof.Machine
end
